-- ==== Sys2Proof/Word.lean ====
section
/-! DEFINITION. Word types: bytes, IEEE 754 single-precision words, voted tokens, times. -/

namespace Sys2Proof

/-- One byte. -/
abbrev Byte := BitVec 8

/-- An IEEE 754 binary32 word (R13, R391). -/
abbrev F32 := BitVec 32

/-- A voted token (R19). -/
abbrev Token := BitVec 128

/-- A time in picoseconds of timebase time (log entry 2): the timebase counts nanoseconds (R53), edges fall on multiples of
625 ps (R53) and the arming time is 7,500 ps (R62). -/
abbrev Time := Nat

/-- The big-endian bytes of the low `n` bytes of a number (R6). -/
def beBytes : Nat → Nat → List Byte
  | 0, _ => []
  | n + 1, v => BitVec.ofNat 8 (v >>> (8 * n)) :: beBytes n v

/-- The number that big-endian bytes spell (R6). -/
def beNat (b : List Byte) : Nat := b.foldl (fun a x => a * 256 + x.toNat) 0

/-- Two's complement reading of a `w`-bit number. -/
def toSigned (w n : Nat) : Int := if n < 2 ^ (w - 1) then (n : Int) else (n : Int) - 2 ^ w

/-- Two's complement word of an integer. -/
def ofSigned (w : Nat) (i : Int) : Nat := (i % (2 ^ w : Int)).toNat

/-- Bit `k` of a number. -/
def bit (n k : Nat) : Bool := n.testBit k

/-- A number with bit `k` set to `b`. -/
def setBit (n k : Nat) (b : Bool) : Nat :=
  if b then n ||| (1 <<< k) else if n.testBit k then n - (1 <<< k) else n

/-- A dictionary value (R391): the raw bits of a fixed-width type, or the bytes of a string, octet string or domain. -/
inductive Val where
  | num (n : Nat)
  | bytes (b : List Byte)
  deriving DecidableEq, Repr

/-- Sparse data by number: pairs in one canonical form, keys strictly rising. -/
abbrev Sparse (α : Type) := List (Nat × α)

/-- One as a number for true, zero for false. -/
def b2n (b : Bool) : Nat := if b then 1 else 0

end Sys2Proof
end

