-- ==== Sys2Proof/Syntax.lean ====
section
/-! DEFINITION. The commands: one constructor per row of spec/opcode_table.json. The first operand `t` of every command is the
timebase instant at which it occurs, in picoseconds. -/

namespace Sys2Proof

/-- The three compute lanes (R13). -/
inductive Lane where
  | a | b | c
  deriving DecidableEq, Repr

/-- The two voters of the Clearing (R37). -/
inductive Voter where
  | primary | reflection
  deriving DecidableEq, Repr

/-- What names one vote (R21). -/
structure VoteId where
  ty   : BitVec 4
  dest : BitVec 16
  sq   : BitVec 32
  deriving DecidableEq, Repr

/-- Whether the reflection's verdict on a vote agrees with the primary voter's (R37): in every item; in all but whether an arrival
was in time (R38); or not. -/
inductive ReflVerdict where
  | agrees | timing | differs
  deriving DecidableEq, Repr

/-- The seven swap-domain instances (R66). -/
inductive Dom where
  | set (s : Fin 2) | ctl (s : Fin 2) | device | network | grove
  deriving DecidableEq, Repr

/-- The source a request came from (R361). -/
inductive Source where
  | eth (port : Fin 2) (mac : BitVec 48)
  /-- the partner's address and port; `via` is the Ethernet port it is reached on -/
  | udp (ip : BitVec 32) (port : BitVec 16) (via : Fin 2 := 0)
  | usb
  /-- another member of the grove, for a request it has forwarded (R366); no partner has this source -/
  | canopy (pos : Fin 8)
  deriving DecidableEq, Repr

/-- A request: the connection handle and request identifier of its PDU header (R358) and its source. -/
structure Req where
  handle : BitVec 16
  rid    : BitVec 16
  src    : Source
  deriving DecidableEq, Repr

/-- The causes a channel die or the edge logic latches (R221, R222, R231, R233, R235 to R238; codes of FaultCause, R258). -/
inductive TripCause where
  | didt | integrator | desaturation | vposUvlo | vnegUvlo | legInterlock | linkLossChannel | linkLossMain
  | logicSupply | invalidCommand
  deriving DecidableEq, Repr

/-- The rails a channel die supervises (R233). -/
inductive GateRail where
  | vpos | vneg | logic
  deriving DecidableEq, Repr

/-- An uplink status frame of a channel die (R221). -/
structure UplinkFrame where
  gateOn  : Bool
  latches : List TripCause
  vsen    : F32
  didt    : F32
  temp    : F32
  dieTemp : F32
  deriving DecidableEq, Repr

/-- The readings at the end of a Dusk test step, means over its last 1 ms (R252): the injected channel's sense-node voltage
and rail, the line voltages, the DC link, and the largest span of a line voltage over the step. -/
structure DuskReading where
  vsen : F32
  rail : F32
  uUV  : F32
  uVW  : F32
  span : F32
  alive : Bool
  deriving DecidableEq, Repr

/-- What one safe-input channel read at a dark pulse (R267): its last reading before the pulse ends is low; it read high in
the 1 ms before and after the pulse. -/
structure DarkReading where
  si         : Fin 6
  ch         : Fin 2
  lowAtEnd   : Bool
  highAround : Bool
  deriving DecidableEq, Repr

/-- What the front end latches with a sample (R77, R83, R94 to R96, R119): the bits that the modulators of the set's six inputs have
clocked since its sample instant before, oldest first (and those of the other set's six in topologies 1 and 2, of its input 3, MDAT9,
in topology 3), the sine and cosine of each position interface (the converter sample in mode 2, the demodulated pair in mode 3, V),
and the time counter reading the fan-out takes as the latency stamp. -/
structure Sample where
  bits   : Vector (List Bool) 6
  bits1  : Vector (List Bool) 6
  pair   : Vector (F32 × F32) 2
  stamp  : Time
  deriving DecidableEq, Repr

/-- Pins, self-test results and NV findings of a start (R442): GPOS pins, DIP rows as strobed, lanes that pass their self-test,
both voters pass their exercise, validity of the boot firmware, RSTBTN at the end of the power-up reset, and the time of step 10. -/
structure BootInputs where
  gpos      : Fin 8
  dipA      : BitVec 4
  dipB      : BitVec 4
  lanes     : Vector Bool 3
  votersOk  : Bool
  bootFwOk  : Bool
  buttonClosed : Bool
  readyUs   : Nat
  /-- how long every main rail has been in range (R414) -/
  railsFor  : Time := 2000000000
  deriving DecidableEq, Repr

/-- Supplies of the main domain other than the lane rails (R416). -/
inductive MainRail where
  | vddCl | vio
  deriving DecidableEq, Repr

/-- Why "power fail" begins (R417): PWRFAIL_N low, or the reading of VIO. -/
inductive PowerFailCause where
  | pin | vioWarning (volts : F32)
  deriving DecidableEq, Repr

/-- A Canopy packet header (R315). -/
structure PacketHeader where
  vc      : Fin 8
  ty      : BitVec 5
  dest    : BitVec 4
  src     : BitVec 4
  sq      : BitVec 12
  hops    : BitVec 4
  ack     : BitVec 12
  nak     : Bool
  crVc    : Fin 8
  credits : BitVec 16
  len     : Nat
  deriving DecidableEq, Repr

/-- Why a port replays (R316): a NAK of the peer, or a bad link CRC or sequence gap of its own, answered with a NAK. -/
inductive NakKind where
  | nak (ack : BitVec 12) | badCrc | gap
  deriving DecidableEq, Repr

/-- The fields of HELLO and JOIN_REQ (R321). -/
structure Hello where
  id        : BitVec 32
  size      : BitVec 8
  selfCheck : Bool
  period    : BitVec 16
  fw        : BitVec 32
  deriving DecidableEq, Repr

/-- The fields of STATUS (R321): per set the motoring limit, regeneration limit and torque estimate. -/
structure StatusMsg where
  inService : BitVec 2
  holding   : BitVec 16
  n         : Nat
  lastSeq   : Nat
  limits    : Vector F32 6
  speed     : F32
  deriving DecidableEq, Repr

/-- MRP frames (R352): a test frame, the device's own or another manager's; a manager's topology change; a client's link change. -/
inductive MrpKind where
  | test (own : Bool) | topologyChange | linkDown | linkUp
  deriving DecidableEq, Repr

/-- The data of a session OPEN (R375). -/
structure OpenArgs where
  ty     : BitVec 8
  target : BitVec 8
  window : BitVec 8
  total  : BitVec 32
  crc    : BitVec 32
  token  : BitVec 16
  index  : BitVec 16
  sub    : BitVec 8
  deriving DecidableEq, Repr

/-- What the Lantern samples (R421 to R425): its tick counter, PI0's levels, AIN0 to AIN3, its die temperature, any safe-input
channel low, RSTBTN closed, VBUS present, energy on P1 or P2. -/
structure LanternInputs where
  tick   : Nat
  a      : Bool
  b      : Bool
  ain    : Vector F32 4
  temp   : F32
  demand : Bool
  button : Bool
  vbus   : Bool
  energy : Bool
  deriving DecidableEq, Repr

/-- A temperature sensor of a die (R429). -/
inductive TempSensor where
  | main (k : Fin 16) | channel (c : Fin 12)
  deriving DecidableEq, Repr

/-- The commands of the block (spec/opcode_table.json), each with the instant `t` at which it occurs. -/
inductive Instr where
  /-- INPUT_FANOUT_DELIVERY: the words of one input; bits flipped on the way to a lane (lane, word, bits with the parity on top) -/
  | inputFanoutDelivery (t : Time) (words : List (BitVec 32)) (upsets : List (Lane × Nat × BitVec 33))
  /-- LANE_SELF_DISSENT -/
  | laneSelfDissent (t : Time) (lane : Lane)
  /-- TOKEN_ARRIVAL: the 128-bit token; what the reflection made of it -/
  | tokenArrival (t : Time) (lane : Lane) (tok : BitVec 128) (refl : ReflVerdict)
  /-- AGREEMENT_WINDOW_CLOSE: the vote whose window closes -/
  | agreementWindowClose (t : Time) (v : VoteId) (refl : ReflVerdict)
  /-- CONTENT_COPY_COMPLETE: the bytes copied out of the source lane's output queue -/
  | contentCopyComplete (t : Time) (v : VoteId) (content : List Byte)
  /-- CONTROL_CYCLE_BOUNDARY: the reflection's count of the window (ns), both voters reported the four test mismatches, blocks still dirty in a
  running resync -/
  | controlCycleBoundary (t : Time) (calib : Nat) (exercised : Bool) (dirty : List (Fin 4096))
  /-- RESYNC_FAILED -/
  | resyncFailed (t : Time) (lane : Lane)
  /-- SIGNATURE_COMPLETE -/
  | signatureComplete (t : Time) (lane : Lane) (refl : ReflVerdict)
  /-- DISSENT_ENTRY_EXPIRY -/
  | dissentEntryExpiry (t : Time) (lane : Lane)
  /-- DEAD_STATE_SCRUB -/
  | deadStateScrub (t : Time)
  /-- SAFE_OUTPUT_WATCHDOG -/
  | safeOutputWatchdog (t : Time) (voter : Voter)
  /-- SAFE_STATE_BRAKE_DELAY -/
  | safeStateBrakeDelay (t : Time) (brake : Fin 2) (voter : Voter)
  /-- DUTY_TOKEN: slot false = rising half-period, true = falling -/
  | dutyToken (t : Time) (set : Fin 2) (leg : Fin 3) (slot : Bool) (compare : BitVec 32) (duty : F32)
  /-- SAFE_OUTPUT_TOKEN -/
  | safeOutputToken (t : Time) (payload : BitVec 64)
  /-- SWITCH_RELEASE -/
  | switchRelease (t : Time) (ch : Fin 12)
  /-- OFF_WITH_OFF_PROFILE -/
  | offWithOffProfile (t : Time) (ch : Fin 12)
  /-- SOFT_OFF -/
  | softOff (t : Time) (ch : Fin 12)
  /-- STATIC_ON -/
  | staticOn (t : Time) (ch : Fin 12)
  /-- DUSK_INJECTION_0_5_MA -/
  | duskInjection05Ma (t : Time) (ch : Fin 12)
  /-- DUSK_INJECTION_2_MA -/
  | duskInjection2Ma (t : Time) (ch : Fin 12)
  /-- DUSK_INJECTION_STOP -/
  | duskInjectionStop (t : Time) (ch : Fin 12)
  /-- CLEAR_FAULT_LATCHES: the causes still present at the die -/
  | clearFaultLatches (t : Time) (ch : Fin 12) (persists : List TripCause)
  /-- RESET_ADAPTED_PROFILE -/
  | resetAdaptedProfile (t : Time) (ch : Fin 12)
  /-- INVALID_COMMAND -/
  | invalidCommand (t : Time) (ch : Fin 12) (code : BitVec 8)
  /-- SAFE_STATE_COMMAND -/
  | safeStateCommand (t : Time) (ch : Fin 12)
  /-- POWER_UP_RESET_END: the pins, self-test results and NV findings of this start -/
  | powerUpResetEnd (t : Time) (b : BootInputs)
  /-- PLL_LOCK_LOSS -/
  | pllLockLoss (t : Time)
  /-- LANTERN_RATE_CHECK: timebase time of the 32 ticks, in 1/10000 ns -/
  | lanternRateCheck (t : Time) (ticksNs : Nat)
  /-- LANTERN_TICK_MISSING -/
  | lanternTickMissing (t : Time)
  /-- CARRIER_VALLEY -/
  | carrierValley (t : Time) (set : Fin 2)
  /-- CARRIER_PEAK -/
  | carrierPeak (t : Time) (set : Fin 2)
  /-- SAMPLE_ARRIVAL -/
  | sampleArrival (t : Time) (set : Fin 2) (smp : Sample)
  /-- COMPUTATION_COMPLETE -/
  | computationComplete (t : Time) (set : Fin 2) (lane : Lane)
  /-- OUTER_COMPUTATION_COMPLETE -/
  | outerComputationComplete (t : Time) (lane : Lane)
  /-- LEG_EDGE -/
  | legEdge (t : Time) (set : Fin 2) (leg : Fin 3)
  /-- DEAD_TIME_ELAPSED -/
  | deadTimeElapsed (t : Time) (set : Fin 2) (leg : Fin 3)
  /-- PULSE_ENABLE -/
  | pulseEnable (t : Time) (set : Fin 2)
  /-- COMMIT_NEXT_BOUNDARY -/
  | commitNextBoundary (t : Time) (rq : Req)
  /-- COMMIT_AT_BOUNDARY -/
  | commitAtBoundary (t : Time) (rq : Req)
  /-- DISCARD_SHADOW_BANK -/
  | discardShadowBank (t : Time) (rq : Req)
  /-- HISTOGRAM_CLEAR -/
  | histogramClear (t : Time) (rq : Req) (set : Fin 2)
  /-- GROVE_COMMIT_PREPARE -/
  | groveCommitPrepare (t : Time) (dom : Dom)
  /-- PREPARE_ANSWER -/
  | prepareAnswer (t : Time) (pos : Fin 8) (dom : Dom) (ok : Bool)
  /-- PREPARE_TIMEOUT -/
  | prepareTimeout (t : Time) (pos : Fin 8) (dom : Dom)
  /-- GROVE_COMMIT -/
  | groveCommit (t : Time) (dom : Dom) (n : Nat)
  /-- PREPARE_LAPSE -/
  | prepareLapse (t : Time) (dom : Dom)
  /-- FAST_COMPARATOR_TRIP (R79): the comparator's latest bits, oldest first, OvcOSR + TripConfirm − 1 of them. -/
  | fastComparatorTrip (t : Time) (set : Fin 2) (input : Fin 6) (high : Bool) (bits : List Bool)
  /-- MODULATOR_STREAM_DEAD (R89): the time of the stream's last transition. -/
  | modulatorStreamDead (t : Time) (set : Fin 2) (input : Fin 6) (last : Time)
  /-- MODULATOR_STREAM_RESTORED (R90): the stream's latest bits, oldest first, 3 × ControlOSR of them. -/
  | modulatorStreamRestored (t : Time) (set : Fin 2) (input : Fin 6) (bits : List Bool)
  /-- TERMINAL_MEASUREMENT_DONE (R91): the control streams of the two line-to-line inputs over the measurement, x values, oldest first. -/
  | terminalMeasurementDone (t : Time) (set : Fin 2) (stream : List (F32 × F32))
  /-- INDEX_PULSE -/
  | indexPulse (t : Time) (pi : Fin 2)
  /-- POSITION_WIRE_BREAK (R97): mode 1: a pair (A, B, Z), its differential voltage (V) and how long it has stood (ns); modes 2 and 3: three
  consecutive sine and cosine pairs. -/
  | positionWireBreak (t : Time) (pi : Fin 2) (pair : Fin 3) (volts : F32) (dur : Nat) (samples : Vector (F32 × F32) 3)
  /-- POSITION_COUNT_ERROR (R97): in mode 1 the time between a change of A and one of B, ns. -/
  | positionCountError (t : Time) (pi : Fin 2) (gap : Nat)
  /-- RESOLVER_EXCITATION_OPEN (R97): the excitation current, mA rms, and how long it has stood (ns). -/
  | resolverExcitationOpen (t : Time) (pi : Fin 2) (rms : F32) (dur : Nat)
  /-- RESOLVER_TRACKING_LOSS (R97): the demodulated sine and cosine. -/
  | resolverTrackingLoss (t : Time) (pi : Fin 2) (pair : F32 × F32)
  /-- EXCITATION_SETTLE_END -/
  | excitationSettleEnd (t : Time) (pi : Fin 2)
  /-- AIN_CONVERSION: raw voltage at the ball -/
  | ainConversion (t : Time) (ain : Fin 8) (raw : F32)
  /-- LEVER_TRACK_DISCREPANCY -/
  | leverTrackDiscrepancy (t : Time) (pair : Fin 4)
  /-- LEVER_PAIR_AGREED -/
  | leverPairAgreed (t : Time) (pair : Fin 4)
  /-- DUTY_STALL -/
  | dutyStall (t : Time) (set : Fin 2)
  /-- SWAP_FORCED -/
  | swapForced (t : Time) (dom : Dom) (group : Nat)
  /-- HISTORY_RESET -/
  | historyReset (t : Time) (rq : Req) (slot : Fin 32)
  /-- ECHO_START -/
  | echoStart (t : Time) (rq : Req)
  /-- ECHO_ABORT -/
  | echoAbort (t : Time) (rq : Req)
  /-- ECHO_SETTLE_END -/
  | echoSettleEnd (t : Time)
  /-- ECHO_POINT_COMPLETE: 20 log10 -/
  | echoPointComplete (t : Time)
  /-- ECHO_STEP -/
  | echoStep (t : Time)
  /-- ECHO_DURATION_END -/
  | echoDurationEnd (t : Time)
  /-- CAPTURE_ARM -/
  | captureArm (t : Time) (rq : Req)
  /-- REACQUIRE_TIMEOUT -/
  | reacquireTimeout (t : Time) (set : Fin 2)
  /-- SPEED_MEASUREMENT_DONE -/
  | speedMeasurementDone (t : Time) (set : Fin 2)
  /-- PROBE_SCAN_DONE (R177): the active-power component of the probe current, equally spaced over each sweep, and the largest back-EMF (V) -/
  | probeScanDone (t : Time) (set : Fin 2) (first : List F32) (second : List F32) (emf : F32)
  /-- REMEASURE -/
  | remeasure (t : Time) (set : Fin 2)
  /-- START_WAIT_EXPIRED -/
  | startWaitExpired (t : Time) (set : Fin 2)
  /-- POLARITY_PULSE_END -/
  | polarityPulseEnd (t : Time) (set : Fin 2)
  /-- NEUTRAL_POINT_DEVIATION -/
  | neutralPointDeviation (t : Time) (set : Fin 2)
  /-- COMMAND_RUN -/
  | commandRun (t : Time) (rq : Req) (drv : Fin 2)
  /-- COMMAND_STOP -/
  | commandStop (t : Time) (rq : Req) (drv : Fin 2)
  /-- PRE_TORQUE_HELD -/
  | preTorqueHeld (t : Time) (drv : Fin 2)
  /-- LEVER_NEUTRAL_ACCEPTED -/
  | leverNeutralAccepted (t : Time) (drv : Fin 2)
  /-- REFERENCE_TIMEOUT -/
  | referenceTimeout (t : Time) (drv : Fin 2)
  /-- PHASE_BACK_SLOW -/
  | phaseBackSlow (t : Time) (drv : Fin 2)
  /-- WRAPS_SET -/
  | wrapsSet (t : Time) (rq : Req) (drv : Fin 2) (wraps : F32)
  /-- SHOCK_HOLD_END -/
  | shockHoldEnd (t : Time) (drv : Fin 2)
  /-- SHOCK_RECOVERY_END -/
  | shockRecoveryEnd (t : Time) (drv : Fin 2)
  /-- MOTION_RECORD: IEEE 802.1AS time in ns, position, velocity, acceleration, sequence -/
  | motionRecord (t : Time) (drv : Fin 2) (time : Nat) (pos vel acc : F32) (seq : BitVec 16)
  /-- MOTION_REFERENCE_LOST -/
  | motionReferenceLost (t : Time) (drv : Fin 2)
  /-- HEAVE_FADE_END -/
  | heaveFadeEnd (t : Time) (drv : Fin 2)
  /-- QUICK_RELEASE_DEMAND -/
  | quickReleaseDemand (t : Time) (drv : Fin 2)
  /-- QUICK_RELEASE_END -/
  | quickReleaseEnd (t : Time) (drv : Fin 2)
  /-- REGENERATION_SHORTFALL -/
  | regenerationShortfall (t : Time) (drv : Fin 2)
  /-- UPLINK_STATUS_FRAME -/
  | uplinkStatusFrame (t : Time) (ch : Fin 12) (fr : UplinkFrame)
  /-- DOWNLINK_LOSS -/
  | downlinkLoss (t : Time) (ch : Fin 12)
  /-- UPLINK_LOSS -/
  | uplinkLoss (t : Time) (ch : Fin 12)
  /-- CHANNEL_UPLINK_TIMEOUT -/
  | channelUplinkTimeout (t : Time) (ch : Fin 12)
  /-- CHANNEL_CONFIGURATION -/
  | channelConfiguration (t : Time) (ch : Fin 12) (cfg : List Byte) (crc : BitVec 32)
  /-- PROFILE_PHASE1_END -/
  | profilePhase1End (t : Time) (ch : Fin 12)
  /-- EDGE_MEASUREMENT: switching time in ns, DIDT peak magnitude in V -/
  | edgeMeasurement (t : Time) (ch : Fin 12) (on : Bool) (time peak : F32)
  /-- RAIL_VALID -/
  | railValid (t : Time) (ch : Fin 12) (rail : GateRail) (volts : F32)
  /-- RAIL_INVALID -/
  | railInvalid (t : Time) (ch : Fin 12) (rail : GateRail) (volts : F32)
  /-- DIDT_TRIP: the DIDT voltage held for 40 ns -/
  | didtTrip (t : Time) (ch : Fin 12) (volts : F32)
  /-- RAMP_WINDOW_END -/
  | rampWindowEnd (t : Time) (ch : Fin 12)
  /-- INTEGRATOR_TRIP: i_int -/
  | integratorTrip (t : Time) (ch : Fin 12) (course : List (F32 × Nat))
  /-- DESATURATION_TRIP: the corrected sense-node voltage held for 200 ns -/
  | desaturationTrip (t : Time) (ch : Fin 12) (volts : F32)
  /-- TURN_OFF_SEQUENCE_STEP -/
  | turnOffSequenceStep (t : Time) (set : Fin 2)
  /-- GATE_OFF_CONFIRMED -/
  | gateOffConfirmed (t : Time) (ch : Fin 12)
  /-- LEG_INTERLOCK_FAULT -/
  | legInterlockFault (t : Time) (set : Fin 2) (leg : Fin 3)
  /-- SWCMD_TRANSITION -/
  | swcmdTransition (t : Time) (ch : Fin 12) (high : Bool)
  /-- DIRECT_ENABLE -/
  | directEnable (t : Time) (rq : Req) (set : Fin 2) (on : Bool)
  /-- SET_CONFIRMED_OFF -/
  | setConfirmedOff (t : Time) (set : Fin 2) (persists : List (Fin 12 × TripCause))
  /-- RETRY_WAIT_END -/
  | retryWaitEnd (t : Time) (set : Fin 2)
  /-- TRIP_HISTORY_EXPIRY -/
  | tripHistoryExpiry (t : Time) (set : Fin 2)
  /-- NTC_CONVERSION: the TEMP voltage; the temperature the die's Beta formula gives -/
  | ntcConversion (t : Time) (ch : Fin 12) (volts : F32)
  /-- DUSK_RUN -/
  | duskRun (t : Time) (rq : Req) (set : Fin 2)
  /-- DUSK_STEP_END -/
  | duskStepEnd (t : Time) (set : Fin 2) (rd : DuskReading)
  /-- DARK_PULSE_START -/
  | darkPulseStart (t : Time) (tp : Fin 2)
  /-- DARK_PULSE_END -/
  | darkPulseEnd (t : Time) (tp : Fin 2) (rd : List DarkReading)
  /-- SAFE_INPUT_CHANNEL_DEMAND -/
  | safeInputChannelDemand (t : Time) (si : Fin 6) (ch : Fin 2) (since : Time)
  /-- SAFE_INPUT_CHANNEL_CLEAR -/
  | safeInputChannelClear (t : Time) (si : Fin 6) (ch : Fin 2) (since : Time)
  /-- SAFE_INPUT_DISCREPANCY -/
  | safeInputDiscrepancy (t : Time) (si : Fin 6)
  /-- SAFE_INPUT_STATE_KNOWN -/
  | safeInputStateKnown (t : Time) (si : Fin 6)
  /-- STO_FEED_DISCHARGED -/
  | stoFeedDischarged (t : Time) (fbn : Bool)
  /-- STO_RELEASE_STEP -/
  | stoReleaseStep (t : Time) (fbp fbn : Bool)
  /-- STO_DISCHARGE_TIMEOUT -/
  | stoDischargeTimeout (t : Time)
  /-- STO_FEEDBACK_DEVIATION -/
  | stoFeedbackDeviation (t : Time) (fbp fbn : Bool) (since : Time)
  /-- SS1_STANDSTILL -/
  | ss1Standstill (t : Time) (drv : Fin 2)
  /-- SS1_TIME_ELAPSED -/
  | ss1TimeElapsed (t : Time) (drv : Fin 2)
  /-- BRAKE_APPLY_TIME_END -/
  | brakeApplyTimeEnd (t : Time) (drv : Fin 2)
  /-- BRAKE_RELEASE_CHECK -/
  | brakeReleaseCheck (t : Time) (brake : Fin 2) (isns : F32) (fbp fbn : Bool)
  /-- BRAKE_HOLD_FAULT -/
  | brakeHoldFault (t : Time) (brake : Fin 2) (isns : F32) (since : Time)
  /-- BRAKE_OVERCURRENT -/
  | brakeOvercurrent (t : Time) (brake : Fin 2) (isns : F32)
  /-- BRAKE_APPLY_CHECK -/
  | brakeApplyCheck (t : Time) (brake : Fin 2) (isns : F32) (fbp : Bool)
  /-- BRAKE_SWITCH_TEST -/
  | brakeSwitchTest (t : Time) (brake : Fin 2)
  /-- BRAKE_TEST_PULSE_END -/
  | brakeTestPulseEnd (t : Time) (brake : Fin 2) (fbp fbn : Bool)
  /-- SBT_RUN -/
  | sbtRun (t : Time) (rq : Req) (brake : Fin 2)
  /-- SBT_PHASE_END -/
  | sbtPhaseEnd (t : Time) (brake : Fin 2)
  /-- SBT_DUE -/
  | sbtDue (t : Time) (brake : Fin 2)
  /-- BRAKE_TEST_OVERDUE -/
  | brakeTestOverdue (t : Time) (brake : Fin 2)
  /-- RSTBTN_DEBOUNCED -/
  | rstbtnDebounced (t : Time) (closed : Bool)
  /-- RESET_HELD -/
  | resetHeld (t : Time)
  /-- SEAL_CONFIRM -/
  | sealConfirm (t : Time) (rq : Req) (value : BitVec 32)
  /-- SEAL_CONFIRMATION_EXPIRED -/
  | sealConfirmationExpired (t : Time)
  /-- ISF_FRAME -/
  | isfFrame (t : Time) (conn : Fin 4) (frame : List Byte)
  /-- ISF_TIMEOUT -/
  | isfTimeout (t : Time) (conn : Fin 4)
  /-- ISF_PRODUCER_CYCLE -/
  | isfProducerCycle (t : Time) (conn : Fin 4)
  /-- GROVE_STOP_DEMAND -/
  | groveStopDemand (t : Time) (aLow bLow : Bool) (since : Time)
  /-- GROVE_STOP_LINE_FAULT -/
  | groveStopLineFault (t : Time) (line : Fin 2)
  /-- GROVE_STOP_LINE_TEST_STEP: what every member read, GSTOP_A low and GSTOP_B low -/
  | groveStopLineTestStep (t : Time) (reads : List (Bool × Bool))
  /-- EMPTY_PACKET -/
  | emptyPacket (t : Time) (port : Fin 2) (h : PacketHeader)
  /-- EMPTY_PACKET_TIMER -/
  | emptyPacketTimer (t : Time) (port : Fin 2)
  /-- LINK_NAK -/
  | linkNak (t : Time) (port : Fin 2) (k : NakKind)
  /-- REPLAY_TIMEOUT -/
  | replayTimeout (t : Time) (port : Fin 2)
  /-- FORWARDED_PACKET -/
  | forwardedPacket (t : Time) (port : Fin 2) (h : PacketHeader) (payload : List Byte) (crc : BitVec 32)
  /-- CANOPY_LANE_DOWN -/
  | canopyLaneDown (t : Time) (port : Fin 2) (lane : Fin 2)
  /-- CANOPY_PORT_DOWN -/
  | canopyPortDown (t : Time) (port : Fin 2) (since : Time)
  /-- CANOPY_PORT_UP -/
  | canopyPortUp (t : Time) (port : Fin 2) (neighbour : Fin 8) (idleSince : Time)
  /-- PORT_SELF_CHECK -/
  | portSelfCheck (t : Time) (port : Fin 2) (ok : Bool)
  /-- HELLO -/
  | hello (t : Time) (src : Fin 8) (h : Hello)
  /-- HELLO_TIMER -/
  | helloTimer (t : Time)
  /-- FORM_TIME_EXPIRY -/
  | formTimeExpiry (t : Time)
  /-- JOIN_REQ -/
  | joinReq (t : Time) (src : Fin 8) (h : Hello)
  /-- JOIN_ANSWER: refusal code, member map, BoundaryPeriod, N, t_N, the leader's grove-domain live bank -/
  | joinAnswer (t : Time) (code : BitVec 8) (map : BitVec 8) (period : Nat) (n tN : Nat) (bank : List (Nat × List Byte))
  /-- JOIN_RETRY -/
  | joinRetry (t : Time)
  /-- GROVE_BOUNDARY -/
  | groveBoundary (t : Time)
  /-- BOUNDARY -/
  | boundary (t : Time) (src : Fin 8) (n tN : Nat) (map : BitVec 8) (mode : BitVec 8)
  /-- LINK_STATE -/
  | linkState (t : Time) (src : Fin 8) (east west : BitVec 8)
  /-- SYNC -/
  | sync (t : Time) (src : Fin 8) (port : Fin 2) (tN corr : Nat)
  /-- LINK_DELAY_TIMER -/
  | linkDelayTimer (t : Time)
  /-- DELAY_REQUEST -/
  | delayRequest (t : Time) (port : Fin 2) (t1 : Nat)
  /-- DELAY_RESPONSE -/
  | delayResponse (t : Time) (port : Fin 2) (t1 t2 t3 : Nat)
  /-- STATUS -/
  | status (t : Time) (src : Fin 8) (st : StatusMsg)
  /-- MEMBER_LOST -/
  | memberLost (t : Time) (pos : Fin 8)
  /-- LEADER_LOST -/
  | leaderLost (t : Time)
  /-- CLAIM -/
  | claim (t : Time) (src : Fin 8) (selfCheck : Bool) (reach : BitVec 8) (holding : Nat) (relSeq relAmt : Nat)
  /-- CLAIM_WINDOW_END -/
  | claimWindowEnd (t : Time)
  /-- TAKEOVER -/
  | takeover (t : Time) (src : Fin 8) (n tN : Nat) (map : BitVec 8) (mode : BitVec 8) (nextSeq : Nat)
  /-- SHARE -/
  | share (t : Time) (src : Fin 8) (applyTime : Nat) (total : F32) (refs : List F32)
  /-- GRANT -/
  | grant (t : Time) (src : Fin 8) (sq amt : Nat)
  /-- GRANT_ACK -/
  | grantAck (t : Time) (src : Fin 8) (sq : Nat)
  /-- RELEASE_REQ -/
  | releaseReq (t : Time) (src : Fin 8) (sq amt : Nat)
  /-- RELEASE -/
  | release (t : Time) (src : Fin 8) (sq amt : Nat)
  /-- RELEASE_ACK -/
  | releaseAck (t : Time) (src : Fin 8) (sq : Nat)
  /-- TRANSFER_RESEND -/
  | transferResend (t : Time) (sq : Nat)
  /-- AUDIT_REPORT -/
  | auditReport (t : Time) (src : Fin 8) (n holding lastSeq : Nat)
  /-- AUDIT_DEADLINE -/
  | auditDeadline (t : Time)
  /-- LEASE_EXPIRY -/
  | leaseExpiry (t : Time)
  /-- EXPIRING_TOKENS_RETURN -/
  | expiringTokensReturn (t : Time) (pos : Fin 8)
  /-- TOKENS_TOTAL_WRITE -/
  | tokensTotalWrite (t : Time) (rq : Req) (total : Nat)
  /-- STAND_LEASE_EXPIRY -/
  | standLeaseExpiry (t : Time)
  /-- FORWARDED_REQUEST: a request of another member to serve, with the role it was checked for, or the answer to one sent on -/
  | forwardedRequest (t : Time) (src : Fin 8) (answer : Bool) (role : Fin 5) (pdu : List Byte)
  /-- FORWARD_TIMEOUT -/
  | forwardTimeout (t : Time) (rq : Req)
  /-- ETHERNET_PORT_DOWN -/
  | ethernetPortDown (t : Time) (port : Fin 2)
  /-- ETHERNET_PORT_UP -/
  | ethernetPortUp (t : Time) (port : Fin 2) (speed : Fin 3) (full : Bool)
  /-- FRAME_FORWARD -/
  | frameForward (t : Time) (port : Fin 2) (frame : List Byte)
  /-- MRP_FRAME -/
  | mrpFrame (t : Time) (port : Fin 2) (k : MrpKind)
  /-- GPTP_SYNC: grandmaster identity, the grandmaster's time at its reception, ns -/
  | gptpSync (t : Time) (gm : BitVec 64) (time : Nat)
  /-- GPTP_SYNC_TIMEOUT -/
  | gptpSyncTimeout (t : Time)
  /-- GATE_CONTROL_CHANGE -/
  | gateControlChange (t : Time) (port : Fin 2)
  /-- PROCESS_DATA -/
  | processData (t : Time) (src : Source) (counter : BitVec 16) (body : List Byte)
  /-- NETWORK_BOUNDARY -/
  | networkBoundary (t : Time)
  /-- PD_TRANSMIT -/
  | pdTransmit (t : Time)
  /-- PROCESS_DATA_TIMEOUT -/
  | processDataTimeout (t : Time)
  /-- PD_CONTROL -/
  | pdControl (t : Time) (rq : Req) (run : Bool)
  /-- READ -/
  | read (t : Time) (rq : Req) (unit : BitVec 48) (index : BitVec 16) (sub : BitVec 8) (shadow : Bool)
  /-- WRITE -/
  | write (t : Time) (rq : Req) (unit : BitVec 48) (index : BitVec 16) (sub : BitVec 8) (value : List Byte)
  /-- CONNECT -/
  | connect (t : Time) (rq : Req) (sub : BitVec 8) (name : List Byte)
  /-- LOGIN_STEP_1 -/
  | loginStep1 (t : Time) (rq : Req) (role : BitVec 8)
  /-- LOGIN_STEP_2 -/
  | loginStep2 (t : Time) (rq : Req) (proof : List Byte)
  /-- LOGIN_BLOCK_END -/
  | loginBlockEnd (t : Time) (src : Source)
  /-- LOGOUT -/
  | logout (t : Time) (rq : Req)
  /-- MALFORMED_PDU -/
  | malformedPdu (t : Time) (pdu : List Byte)
  /-- ARP_REQUEST -/
  | arpRequest (t : Time) (ip : BitVec 32) (mac : BitVec 48) (asker : BitVec 32)
  /-- ICMP_ECHO -/
  | icmpEcho (t : Time) (src : BitVec 32) (data : List Byte)
  /-- CONNECTION_TIMEOUT -/
  | connectionTimeout (t : Time) (handle : BitVec 16)
  /-- SESSION_OPEN -/
  | sessionOpen (t : Time) (rq : Req) (o : OpenArgs)
  /-- SESSION_DATA -/
  | sessionData (t : Time) (rq : Req) (sid : BitVec 32) (sq : BitVec 16) (offset : Nat) (data : List Byte)
  /-- SESSION_ACK -/
  | sessionAck (t : Time) (rq : Req) (sid : BitVec 32) (next : BitVec 16)
  /-- SESSION_NAK -/
  | sessionNak (t : Time) (rq : Req) (sid : BitVec 32) (next : BitVec 16)
  /-- SESSION_FINISH -/
  | sessionFinish (t : Time) (rq : Req) (sid : BitVec 32)
  /-- SESSION_ABORT -/
  | sessionAbort (t : Time) (rq : Req) (sid : BitVec 32) (code : BitVec 8)
  /-- SESSION_RETRY_TIMEOUT -/
  | sessionRetryTimeout (t : Time) (sid : BitVec 32)
  /-- SESSION_IDLE_TIMEOUT -/
  | sessionIdleTimeout (t : Time) (sid : BitVec 32)
  /-- FW_ACTIVATE -/
  | fwActivate (t : Time) (rq : Req) (slot : Fin 2)
  /-- FW_CONFIRM -/
  | fwConfirm (t : Time) (rq : Req)
  /-- USB_ATTACH -/
  | usbAttach (t : Time)
  /-- USB_DETACH -/
  | usbDetach (t : Time)
  /-- BANK_STORE -/
  | bankStore (t : Time) (rq : Req) (n : Fin 4)
  /-- BANK_ACTIVATE -/
  | bankActivate (t : Time) (rq : Req) (n : Fin 4)
  /-- BANK_RESTORE_DEFAULTS -/
  | bankRestoreDefaults (t : Time) (rq : Req)
  /-- BANK_ERASE -/
  | bankErase (t : Time) (rq : Req) (n : Fin 4)
  /-- ENTRY_WRITE -/
  | entryWrite (t : Time) (rq : Req) (index : BitVec 16) (sub : BitVec 8) (value : List Byte)
  /-- LANE_SUPPLY_FAULT -/
  | laneSupplyFault (t : Time) (lane : Lane) (volts : F32) (since : Time)
  /-- LANE_RAIL_RESTORED -/
  | laneRailRestored (t : Time) (lane : Lane) (volts : F32) (since : Time)
  /-- LANE_RAIL_MISMATCH: the three rail voltages -/
  | laneRailMismatch (t : Time) (a b c : F32) (since : Time)
  /-- MAIN_RAIL_FAULT -/
  | mainRailFault (t : Time) (rail : MainRail) (volts : F32) (since : Time)
  /-- ANALOG_SUPPLY_FAULT -/
  | analogSupplyFault (t : Time) (volts : F32) (since : Time)
  /-- ANALOG_SUPPLY_RESTORED -/
  | analogSupplyRestored (t : Time) (volts : F32) (since : Time)
  /-- PHY_SUPPLY_FAULT -/
  | phySupplyFault (t : Time) (rail : Fin 2) (volts : F32) (since : Time)
  /-- MAIN_RAILS_FAILED_TO_START -/
  | mainRailsFailedToStart (t : Time)
  /-- MAIN_RAILS_RETRY -/
  | mainRailsRetry (t : Time)
  /-- POWER_FAIL -/
  | powerFail (t : Time) (cause : PowerFailCause) (since : Time)
  /-- SLEEP_REQUEST -/
  | sleepRequest (t : Time) (rq : Req)
  /-- IDLE_SLEEP_TIMEOUT -/
  | idleSleepTimeout (t : Time)
  /-- LANTERN_POWER_ON_RESET -/
  | lanternPowerOnReset (t : Time)
  /-- LANTERN_SAMPLE -/
  | lanternSample (t : Time) (ls : LanternInputs)
  /-- LANTERN_ACKNOWLEDGE -/
  | lanternAcknowledge (t : Time) (rq : Req)
  /-- TEMPERATURE_READING: the reading; the thermal model's offsets to its neighbours, in neighbour order -/
  | temperatureReading (t : Time) (sensor : TempSensor) (temp : F32)
  /-- NV_RECORD_COMPLETE -/
  | nvRecordComplete (t : Time)
  /-- NV_SCRUB: single-bit corrections; addresses of words with double-bit errors -/
  | nvScrub (t : Time) (corrected : Nat) (bad : List Nat)
  /-- FAULT_RESET -/
  | faultReset (t : Time) (rq : Req)
  /-- GROVE_STOP_LINES_RELEASED -/
  | groveStopLinesReleased (t : Time)
  /-- ENCODER_EDGE (R93, R94): an edge of A or B, or in mode 2 a zero crossing of sine or cosine; how long the new level has stood at the
  glitch filter, ns. -/
  | encoderEdge (t : Time) (pi : Fin 2) (forward : Bool) (lantern : Bool) (stable : Nat)
  /-- GPTP_ANNOUNCE -/
  | gptpAnnounce (t : Time) (gm : BitVec 64) (better : Bool)
  /-- PHY_SUPPLY_RESTORED -/
  | phySupplyRestored (t : Time) (rail : Fin 2) (volts : F32)
  /-- POWER_FAIL_RELEASED -/
  | powerFailReleased (t : Time)
  /-- FALLBACK_SWITCHES_CHANGED -/
  | fallbackSwitchesChanged (t : Time)
  /-- STAND_SILENT_GROVE_REASSIGN -/
  | standSilentGroveReassign (t : Time) (grove : BitVec 8) (heard : Nat)
  /-- GROVE_SLEEP_ORDER -/
  | groveSleepOrder (t : Time) (src : Fin 8) (n : Nat)
  /-- GROVE_SLEEP_REFUSAL -/
  | groveSleepRefusal (t : Time) (src : Fin 8)
  /-- GROVE_FIRMWARE_SLOT_VALID -/
  | groveFirmwareSlotValid (t : Time) (src : Fin 8)
  deriving DecidableEq, Repr

end Sys2Proof
end

