-- ==== Sys2Proof/Config.lean ====
section
/-! DEFINITION. What an implementation fixes and what the spec leaves open: uninterpreted constants. Nothing in Lean can
evaluate one, so a statement about a value drawn from here holds for every value (log entries 3 to 6). -/

namespace Sys2Proof.Config

/-- A value the spec leaves open at one instant; the argument is the state's counter of such values (log entry 3). -/
opaque freeValue : Nat → BitVec 64

/-- The sine the lanes compute, of an angle in degrees (log entry 4). -/
opaque sinDeg : F32 → F32
/-- The cosine the lanes compute, of an angle in degrees (log entry 4). -/
opaque cosDeg : F32 → F32
/-- The angle in degrees of the vector (x, y), argument order y then x (log entry 4). -/
opaque atan2Deg : F32 → F32 → F32
/-- The exponential function (log entry 4). -/
opaque exp : F32 → F32
/-- The natural logarithm (log entry 4). -/
opaque ln : F32 → F32

/-- The liveness mask the firmware generates from the configuration (R44): one bit per block, from the live values of the
dictionary (log entry 5). -/
opaque livenessMask : List (Nat × Val) → BitVec 4096

/-- The 64 bytes a lane's SRAM block holds as its initial value when it becomes live, the first lowest (R45; log entry 5). -/
opaque initialBlock : Nat → BitVec 512

/-- The angle-tracking observer of a resolver (R95): sine, cosine, tracking bandwidth (Hz), the tracked electrical angle (degrees) and
mechanical speed (rpm) before, and the time since (ps) give the angle and speed at the sample instant (log entry 23). -/
opaque trackResolver : F32 → F32 → Nat → F32 → F32 → Nat → F32 × F32
/-- The radius of a resolver's demodulated pair at commissioning, V, of a configuration and interface; no entry of the spec holds it
(R97; log entry 23). -/
opaque resolverRadius : List (Nat × Val) → Nat → F32
/-- The slip of an induction machine at no rotor flux, of L_m i_q and τ_r: the quotient of R147 has no value there (log entry 121). -/
opaque slipNoFlux : F32 → F32 → F32
/-- The pre-clip gain of the firmware's table at a modulation index (R155; log entry 23). -/
opaque preClipGain : F32 → F32
/-- The logarithmic chirp of Echo: amplitude, start and stop frequency, duration (ms), computations since the start, and the
injection rate (R134; log entry 23). -/
opaque chirp : F32 → F32 → F32 → Nat → Nat → F32 → F32
/-- The pseudo-random binary sequence of an Echo run: order and place within its 2ⁿ − 1 bits; the spec names no polynomial (R134; log
entry 23). -/
opaque prbsBit : Nat → Nat → Bool
/-- The motoring torque limit configured for a set; no entry of the spec holds it (R193, R195; log entry 24). -/
opaque motoringLimit : List (Nat × Val) → Nat → F32
/-- The regeneration torque limit configured for a set; no entry of the spec holds it (R193, R215; log entry 24). -/
opaque regenerationLimit : List (Nat × Val) → Nat → F32
/-- The electrical torque estimate of a set from its live values, i_d, i_q and flux estimate; the spec gives no formula (R188,
R198; log entry 24). -/
opaque torqueEstimate : List (Nat × Val) → Nat → F32 → F32 → F32 → F32

/-- The offset (K) that the firmware's thermal model predicts between a sensor and a neighbour at the present power map, by their bit
numbers and the time of the reading; the spec does not give the model (R430; log entry 23). -/
opaque thermalOffset : Nat → Nat → Nat → F32
/-- The set, leg and edge slot that a duty token's DEST names; the spec does not say how its bits are laid out (R20; log entry 104). -/
opaque dutyDest : BitVec 16 → Option (Fin 2 × Fin 3 × Bool)
/-- The Canopy port and virtual channel that a link message's DEST names; the spec does not say how its bits are laid out (R20; log
entry 104). -/
opaque linkDest : BitVec 16 → Option (Fin 2 × Fin 8)
/-- The type of a message of a virtual channel whose messages the spec does not list (R321; log entry 28). -/
opaque openType : Nat → BitVec 5
/-- The types of the messages of virtual channel 1, SYNC, delay request and delay response; the spec names none (R317, R321; log
entry 28). -/
opaque timeType : Fin 3 → BitVec 5
/-- A SYNC's payload of its grove time t_N and its correction field (ns), and what a forwarder reads from such a payload; the spec gives
no layout (R325; log entry 28). -/
opaque syncPayload : Nat → Nat → List Byte
opaque syncFields : List Byte → Option (Nat × Nat)
/-- The payload of a delay request, of its time of sending, and of a delay response, of the stamps t1, t2 and t3 (R325; log entry 28). -/
opaque delayRequest : Nat → List Byte
opaque delayResponse : Nat → Nat → List Byte
/-- ActualFrequency and SampleMode of the set 0 of the leader at a position, at a grove boundary; no message of the spec tells a member
(R326, R328; log entry 25). -/
opaque leaderGrid : Nat → Nat → F32 × Nat
/-- What a stand leader knows of another grove of its stand or shaft group: its numbers, its leader's MAC address, its sum of weights in
service and the sum of bookings of its last audit; they reach it by no message the spec gives (R344, R345; log entry 31). -/
structure GroveSeen where
  shaft   : Nat
  stand   : Nat
  grove   : Nat
  mac     : BitVec 48
  weight  : Nat
  audited : Nat
  deriving DecidableEq, Repr
/-- The other groves present on the YFP network, at a count of free values (R344; log entry 31). -/
opaque standSeen : Nat → List GroveSeen
/-- The mapped values of the process-data frame to the leader at a MAC address that carry a total, or a stand's budget, and a share of
the shaft torque: which map they follow is the receiver's (R344, R367; log entry 31). -/
opaque standValues : BitVec 48 → Nat → F32 → List Byte
/-- An MRP frame up to its payload's end, by kind (0 test, 1 link down, 2 link up, 3 topology change) and sender's address, and the
interval (ns) of a manager's test frames by Ring.Profile: IEC 62439-2, which the manual does not quote (R352; log entry 42). -/
opaque mrpFrame : Fin 4 → List Byte → List Byte
opaque mrpInterval : Nat → Nat
/-- A gPTP Sync with its Follow_Up, of a grandmaster's identity, its time (ns) and the sender's address: IEEE 802.1AS, which the
manual does not quote (R353; log entry 42). -/
opaque gptpFrame : BitVec 64 → Nat → List Byte → List Byte
/-- The Moluz public key of a key index, a point of P-256, stored at manufacture (R385; log entry 6). -/
opaque moluzKey : Nat → Nat × Nat

end Sys2Proof.Config
end

