-- ==== Sys2Proof/Machine/Crc.lean ====
section
/-! DEFINITION. The check sums the spec names: CRC-32C over frames, records and images (R20, R22), CRC-64/ECMA-182 over the
live state (R46). -/

namespace Sys2Proof.Machine

/-- `n` steps of the reflected CRC-32C register (polynomial 0x1EDC6F41, reflected 0x82F63B78). -/
def crc32cBits : Nat → BitVec 32 → BitVec 32
  | 0, c => c
  | n + 1, c => crc32cBits n (if c.getLsbD 0 then (c >>> 1) ^^^ 0x82F63B78 else c >>> 1)

/-- One byte into the CRC-32C register. -/
def crc32cByte (c : BitVec 32) (b : Byte) : BitVec 32 := crc32cBits 8 (c ^^^ b.setWidth 32)

/-- CRC-32C of a byte string: initial value and final inversion all ones, reflected (Castagnoli). -/
def crc32c (bs : List Byte) : BitVec 32 := (bs.foldl crc32cByte 0xFFFFFFFF) ^^^ 0xFFFFFFFF

/-- `n` steps of the reflected register of an Ethernet frame check sequence (IEEE 802.3, which R349 names). -/
def fcsBits : Nat → BitVec 32 → BitVec 32
  | 0, c => c
  | n + 1, c => fcsBits n (if c.getLsbD 0 then (c >>> 1) ^^^ 0xEDB88320 else c >>> 1)
/-- The frame check sequence of a frame's bytes. -/
def fcs (bs : List Byte) : BitVec 32 :=
  (bs.foldl (fun (c : BitVec 32) (b : Byte) => fcsBits 8 (c ^^^ b.setWidth 32)) (0xFFFFFFFF : BitVec 32)) ^^^ 0xFFFFFFFF

/-- `n` steps of the CRC-64 register, polynomial 0x42F0E1EBA9EA3693, most significant bit first (R46). -/
def crc64Bits : Nat → BitVec 64 → BitVec 64
  | 0, c => c
  | n + 1, c => crc64Bits n (if c.getLsbD 63 then (c <<< 1) ^^^ 0x42F0E1EBA9EA3693 else c <<< 1)

/-- One byte into the CRC-64 register. -/
def crc64Byte (c : BitVec 64) (b : Byte) : BitVec 64 := crc64Bits 8 (c ^^^ (b.setWidth 64 <<< 56))

/-- CRC-64 of a byte string with initial value all ones (R46). -/
def crc64 (bs : List Byte) : BitVec 64 := bs.foldl crc64Byte 0xFFFFFFFFFFFFFFFF

/-- `n` steps of the safe-frame register: the Koopman polynomial 0x741B8CD7, most significant bit first (R302). -/
def crcIsfBits : Nat → BitVec 32 → BitVec 32
  | 0, c => c
  | n + 1, c => crcIsfBits n (if c.getLsbD 31 then (c <<< 1) ^^^ 0x741B8CD7 else c <<< 1)

/-- Check value of an ISF frame: initial value all ones, no final XOR (R302). -/
def crcIsf (bs : List Byte) : BitVec 32 := bs.foldl (fun (c : BitVec 32) (b : Byte) => crcIsfBits 8 (c ^^^ (b.setWidth 32 <<< (24 : Nat)))) (0xFFFFFFFF : BitVec 32)

end Sys2Proof.Machine
end

