-- ==== Sys2Proof/Machine/Dict.lean ====
section
/-! DEFINITION. The object dictionary's entry tables (R390 to R399 and the entry tables of every chapter), one row per
line of an entry table: sub-index range, type, access, swap domain, persistence, safety, default, range. Indices of a
repeated group (second set, drive, slot, channel, input) stand once, at the group's first index. -/

namespace Sys2Proof.Machine

/-- Entry types (R391); a string, octet string or domain carries its (maximum) length in bytes. -/
inductive Ty where
  | bool | i8 | i16 | i32 | i64 | u8 | u16 | u32 | u64 | real
  | str (max : Nat) | oct (len : Nat) | dom (max : Nat)
  deriving DecidableEq, Repr

/-- Access of an entry (R393). -/
inductive Acc where
  | ro | rw | wo | const
  deriving DecidableEq, Repr

/-- The swap-domain column of an entry table (R392); `control` is the control domain of the entry's owner (R66). -/
inductive DomRule where
  | none | set | control | device | network | grove
  deriving DecidableEq, Repr

/-- The persistence column (R392). -/
inductive Pers where
  | none | bank | device
  deriving DecidableEq, Repr

/-- The range column (R392). Bounds of integers are two's complement values, bounds of REAL32 entries are bit patterns. -/
inductive Rng where
  /-- every value of the type -/
  | any
  | nat (lo hi : Nat)
  | natOr (lo hi : Nat) (extra : List Nat)
  | natStep (lo hi step : Nat)
  | int (lo hi : Int)
  | oneOf (vs : List Nat)
  | real (lo hi : F32)
  | realOrZero (lo hi : F32)
  /-- codes of R109 -/
  | signal
  /-- codes of R109 and 0xFFFF -/
  | signalOrNeg
  /-- 0 to 31, or a code of R109 -/
  | echoTarget
  /-- the permitted classes of the event (R453) -/
  | eventClass
  /-- layout of R424 -/
  | lanternRule
  /-- layout of R367 -/
  | pdMap
  /-- codes of R268 -/
  | siFunction
  /-- 0 to 2 at an even input, 0 at an odd one (R101) -/
  | pairMode
  deriving DecidableEq, Repr

/-- One row of an entry table. -/
structure Row where
  lo   : Nat
  hi   : Nat
  ty   : Ty
  acc  : Acc
  dom  : DomRule
  pers : Pers
  safe : Bool
  dflt : Option Val
  rng  : Rng
  deriving DecidableEq, Repr


/-- Index 0x1000 (R411, 11_object_dictionary). -/
def rows1000 : List Row := [
  ⟨0x01, 0x01, .str 16, .const, .none, .none, false, some (.bytes [77, 111, 108, 117, 122]), .any⟩,
  ⟨0x02, 0x02, .str 16, .const, .none, .none, false, some (.bytes [89, 86, 50, 50, 49, 50]), .any⟩,
  ⟨0x03, 0x03, .str 10, .ro, .none, .device, false, none, .any⟩,
  ⟨0x04, 0x04, .str 16, .ro, .none, .device, false, none, .any⟩,
  ⟨0x05, 0x05, .u32, .const, .none, .none, false, some (.num 0x2212a101), .any⟩,
  ⟨0x06, 0x06, .u8, .ro, .none, .none, false, none, .any⟩,
  ⟨0x07, 0x07, .u8, .ro, .none, .none, false, none, .any⟩,
  ⟨0x08, 0x08, .u8, .ro, .none, .device, false, none, .any⟩,
  ⟨0x09, 0x09, .u32, .ro, .none, .none, false, none, .any⟩,
  ⟨0x0A, 0x0A, .u32, .ro, .none, .device, false, none, .any⟩,
  ⟨0x0B, 0x0B, .u32, .ro, .none, .none, false, none, .any⟩,
  ⟨0x0C, 0x0C, .oct 6, .ro, .none, .none, false, none, .any⟩,
  ⟨0x0D, 0x0D, .str 32, .rw, .none, .bank, false, some (.bytes []), .any⟩]

/-- Index 0x1010 (R411, 11_object_dictionary). -/
def rows1010 : List Row := [
  ⟨0x01, 0x01, .u16, .ro, .none, .none, false, none, .any⟩,
  ⟨0x02, 0x02, .dom 65536, .ro, .none, .none, false, none, .any⟩]

/-- Index 0x1800 (R389, 10_field_network). -/
def rows1800 : List Row := [
  ⟨0x01, 0x01, .u16, .rw, .network, .bank, false, some (.num 0x88b5), .nat 1536 65535⟩,
  ⟨0x02, 0x02, .u16, .rw, .network, .bank, false, some (.num 0xcb84), .nat 1024 65535⟩,
  ⟨0x03, 0x03, .u32, .rw, .network, .bank, false, some (.num 0), .any⟩,
  ⟨0x04, 0x04, .u32, .rw, .network, .bank, false, some (.num 0xffffff00), .any⟩,
  ⟨0x05, 0x05, .u32, .rw, .network, .bank, false, some (.num 0), .any⟩,
  ⟨0x06, 0x06, .oct 6, .ro, .none, .device, false, none, .any⟩,
  ⟨0x07, 0x07, .u16, .rw, .network, .bank, false, some (.num 0), .nat 0 4094⟩,
  ⟨0x08, 0x08, .u8, .rw, .network, .bank, false, some (.num 6), .nat 0 7⟩,
  ⟨0x09, 0x09, .u16, .rw, .none, .bank, false, some (.num 60), .nat 5 3600⟩,
  ⟨0x0A, 0x0A, .bool, .rw, .none, .bank, false, some (.num 1), .nat 0 1⟩,
  ⟨0x0B, 0x0B, .u32, .ro, .none, .none, false, none, .any⟩,
  ⟨0x0C, 0x0C, .u8, .ro, .none, .none, false, none, .any⟩]

/-- Index 0x1810 (R389, 10_field_network). -/
def rows1810 : List Row := [
  ⟨0x01, 0x01, .u8, .rw, .network, .bank, false, some (.num 0), .nat 0 4⟩,
  ⟨0x02, 0x02, .u8, .ro, .none, .none, false, none, .any⟩,
  ⟨0x03, 0x03, .u32, .ro, .none, .none, false, none, .any⟩,
  ⟨0x04, 0x04, .u32, .ro, .none, .none, false, none, .any⟩,
  ⟨0x05, 0x05, .u32, .ro, .none, .none, false, none, .any⟩]

/-- Index 0x1812 (R389, 10_field_network). -/
def rows1812 : List Row := [
  ⟨0x01, 0x01, .u8, .rw, .network, .bank, false, some (.num 0), .nat 0 2⟩,
  ⟨0x02, 0x02, .u8, .rw, .network, .bank, false, some (.num 0), .nat 0 1⟩,
  ⟨0x03, 0x03, .u8, .ro, .none, .none, false, none, .any⟩,
  ⟨0x04, 0x04, .u32, .ro, .none, .none, false, none, .any⟩,
  ⟨0x05, 0x05, .bool, .rw, .network, .bank, false, some (.num 1), .nat 0 1⟩]

/-- Index 0x1820 (R389, 10_field_network). -/
def rows1820 : List Row := [
  ⟨0x01, 0x01, .bool, .rw, .network, .bank, false, some (.num 1), .nat 0 1⟩,
  ⟨0x02, 0x02, .u8, .rw, .network, .bank, false, some (.num 255), .nat 0 255⟩,
  ⟨0x03, 0x03, .i8, .rw, .network, .bank, false, some (.num 253), .int (-5) (0)⟩,
  ⟨0x04, 0x04, .u8, .ro, .none, .none, false, none, .any⟩,
  ⟨0x05, 0x05, .i64, .ro, .none, .none, false, none, .any⟩,
  ⟨0x06, 0x06, .oct 8, .ro, .none, .none, false, none, .any⟩]

/-- Index 0x1830 (R389, 10_field_network). -/
def rows1830 : List Row := [
  ⟨0x01, 0x01, .bool, .rw, .network, .bank, false, some (.num 0), .nat 0 1⟩,
  ⟨0x02, 0x02, .u32, .rw, .network, .bank, false, some (.num 0), .nat 0 99999000⟩,
  ⟨0x03, 0x03, .u32, .rw, .network, .bank, false, some (.num 0xc350), .nat 5000 10000000⟩,
  ⟨0x04, 0x04, .u8, .rw, .network, .bank, false, some (.num 6), .nat 1 7⟩]

/-- Index 0x1840 (R389, 10_field_network). -/
def rows1840 : List Row := [
  ⟨0x01, 0x01, .u32, .rw, .network, .bank, false, some (.num 1000), .natStep 250 100000 125⟩,
  ⟨0x02, 0x02, .u32, .rw, .network, .bank, false, some (.num 0), .nat 0 99875⟩,
  ⟨0x03, 0x03, .u8, .rw, .network, .bank, false, some (.num 3), .nat 1 100⟩,
  ⟨0x04, 0x04, .u8, .rw, .none, .none, false, some (.num 0), .nat 0 1⟩,
  ⟨0x05, 0x05, .u16, .ro, .none, .none, false, none, .any⟩,
  ⟨0x06, 0x06, .u8, .ro, .none, .none, false, none, .any⟩,
  ⟨0x07, 0x07, .bool, .rw, .network, .bank, false, some (.num 0), .nat 0 1⟩,
  ⟨0x08, 0x08, .u32, .ro, .none, .none, false, none, .any⟩]

/-- Index 0x1841 (R389, 10_field_network). -/
def rows1841 : List Row := [
  ⟨0x01, 0x01, .u8, .rw, .network, .bank, false, some (.num 0), .nat 0 32⟩,
  ⟨0x02, 0x21, .u32, .rw, .network, .bank, false, some (.num 0), .pdMap⟩]

/-- Index 0x1842 (R389, 10_field_network). -/
def rows1842 : List Row := [
  ⟨0x01, 0x01, .u8, .rw, .network, .bank, false, some (.num 0), .nat 0 32⟩,
  ⟨0x02, 0x21, .u32, .rw, .network, .bank, false, some (.num 0), .pdMap⟩]

/-- Index 0x1851 (R389, 10_field_network). -/
def rows1851 : List Row := [
  ⟨0x01, 0x04, .oct 16, .wo, .none, .device, false, none, .any⟩]

/-- Index 0x1860 (R389, 10_field_network). -/
def rows1860 : List Row := [
  ⟨0x01, 0x01, .u32, .rw, .none, .bank, false, some (.num 0x1388), .nat 100 600000⟩,
  ⟨0x02, 0x02, .u8, .rw, .none, .bank, false, some (.num 8), .nat 1 8⟩,
  ⟨0x03, 0x03, .u16, .rw, .none, .bank, false, some (.num 1400), .nat 256 1400⟩,
  ⟨0x04, 0x04, .u16, .rw, .none, .bank, false, some (.num 200), .nat 20 5000⟩,
  ⟨0x05, 0x05, .u8, .ro, .none, .none, false, none, .any⟩,
  ⟨0x06, 0x06, .u32, .ro, .none, .none, false, none, .any⟩,
  ⟨0x07, 0x07, .u8, .ro, .none, .none, false, none, .any⟩]

/-- Index 0x1870 (R389, 10_field_network). -/
def rows1870 : List Row := [
  ⟨0x01, 0x01, .u8, .ro, .none, .none, false, none, .any⟩,
  ⟨0x02, 0x03, .u32, .ro, .none, .device, false, none, .any⟩,
  ⟨0x04, 0x04, .u8, .wo, .none, .none, false, none, .nat 0 1⟩,
  ⟨0x05, 0x05, .u8, .wo, .none, .none, false, none, .nat 1 1⟩,
  ⟨0x06, 0x06, .u32, .ro, .none, .device, false, none, .any⟩,
  ⟨0x07, 0x07, .u8, .ro, .none, .none, false, none, .any⟩]

/-- Index 0x1880 (R389, 10_field_network). -/
def rows1880 : List Row := [
  ⟨0x01, 0x01, .bool, .rw, .none, .bank, false, some (.num 1), .nat 0 1⟩,
  ⟨0x02, 0x02, .u8, .ro, .none, .none, false, none, .any⟩,
  ⟨0x03, 0x03, .u32, .ro, .none, .none, false, none, .any⟩]

/-- Index 0x1890 (R389, 10_field_network). -/
def rows1890 : List Row := [
  ⟨0x01, 0x04, .oct 6, .rw, .device, .bank, false, some (.bytes (List.replicate 6 0)), .any⟩]

/-- Index 0x1C00 (R348, 09_grove). -/
def rows1C00 : List Row := [
  ⟨0x01, 0x01, .u8, .ro, .none, .none, false, none, .any⟩,
  ⟨0x02, 0x02, .u8, .ro, .none, .none, false, none, .any⟩,
  ⟨0x03, 0x03, .u8, .ro, .none, .none, false, none, .any⟩,
  ⟨0x04, 0x04, .u8, .ro, .none, .none, false, none, .any⟩,
  ⟨0x05, 0x05, .u8, .ro, .none, .none, false, none, .any⟩,
  ⟨0x06, 0x06, .u32, .ro, .none, .none, false, none, .any⟩,
  ⟨0x07, 0x07, .u32, .ro, .none, .none, false, none, .any⟩,
  ⟨0x08, 0x08, .u32, .ro, .none, .none, false, none, .any⟩,
  ⟨0x09, 0x09, .u32, .ro, .none, .none, false, none, .any⟩,
  ⟨0x0A, 0x0A, .u32, .ro, .none, .none, false, none, .any⟩,
  ⟨0x0B, 0x0B, .u8, .ro, .none, .none, false, none, .any⟩]

/-- Index 0x1E00 (R411, 11_object_dictionary). -/
def rows1E00 : List Row := [
  ⟨0x01, 0x01, .u8, .ro, .none, .device, false, some (.num 0), .any⟩,
  ⟨0x02, 0x02, .u8, .wo, .none, .none, false, none, .nat 0 3⟩,
  ⟨0x03, 0x03, .u8, .wo, .none, .none, false, none, .nat 0 3⟩,
  ⟨0x04, 0x04, .u8, .wo, .none, .none, false, none, .nat 1 1⟩,
  ⟨0x05, 0x05, .u8, .wo, .none, .none, false, none, .nat 0 3⟩,
  ⟨0x06, 0x06, .u8, .ro, .none, .none, false, none, .any⟩,
  ⟨0x07, 0x07, .u8, .ro, .none, .none, false, none, .any⟩,
  ⟨0x08, 0x0B, .u32, .ro, .none, .none, false, none, .any⟩,
  ⟨0x0C, 0x0F, .u32, .ro, .none, .none, false, none, .any⟩,
  ⟨0x10, 0x10, .u8, .ro, .none, .none, false, none, .any⟩,
  ⟨0x11, 0x11, .u16, .ro, .none, .none, false, none, .any⟩,
  ⟨0x12, 0x12, .u32, .ro, .none, .device, false, none, .any⟩]

/-- Index 0x1F00 (R74, 02_timebase_and_boundaries). -/
def rows1F00 : List Row := [
  ⟨0x01, 0x01, .u8, .wo, .none, .none, false, none, .nat 1 3⟩,
  ⟨0x02, 0x02, .u8, .rw, .none, .none, false, some (.num 16), .oneOf [0x00, 0x01, 0x10, 0x11, 0x12, 0x20, 0x30]⟩,
  ⟨0x03, 0x03, .u64, .rw, .none, .none, false, some (.num 0), .any⟩,
  ⟨0x04, 0x04, .u8, .ro, .none, .none, false, none, .any⟩,
  ⟨0x05, 0x05, .u64, .ro, .none, .none, false, none, .any⟩,
  ⟨0x06, 0x06, .u8, .rw, .grove, .bank, false, some (.num 4), .nat 2 64⟩]

/-- Index 0x1F01 (R74, 02_timebase_and_boundaries). -/
def rows1F01 : List Row := [
  ⟨0x01, 0x07, .u64, .ro, .none, .none, false, none, .any⟩]

/-- Index 0x1F02 (R74, 02_timebase_and_boundaries). -/
def rows1F02 : List Row := [
  ⟨0x01, 0x07, .u8, .ro, .none, .none, false, none, .any⟩]

/-- Index 0x1F03 (R74, 02_timebase_and_boundaries). -/
def rows1F03 : List Row := [
  ⟨0x01, 0x07, .u64, .ro, .none, .none, false, none, .any⟩]

/-- Index 0x2000 (R440, 12_power_thermal_lantern). -/
def rows2000 : List Row := [
  ⟨0x01, 0x09, .real, .ro, .none, .none, false, none, .any⟩,
  ⟨0x0A, 0x0A, .u16, .ro, .none, .none, false, none, .any⟩,
  ⟨0x0B, 0x0B, .real, .ro, .none, .none, false, none, .any⟩,
  ⟨0x0C, 0x0C, .u32, .ro, .none, .device, false, none, .any⟩]

/-- Index 0x2010 (R440, 12_power_thermal_lantern). -/
def rows2010 : List Row := [
  ⟨0x01, 0x01, .u8, .wo, .none, .none, false, none, .nat 1 1⟩,
  ⟨0x02, 0x02, .u16, .rw, .none, .bank, false, some (.num 0), .natOr 1 1440 [0]⟩,
  ⟨0x03, 0x03, .u8, .ro, .none, .none, false, none, .any⟩,
  ⟨0x04, 0x04, .u16, .ro, .none, .none, false, none, .any⟩,
  ⟨0x05, 0x05, .u32, .ro, .none, .none, false, none, .any⟩,
  ⟨0x06, 0x06, .u32, .ro, .none, .device, false, none, .any⟩]

/-- Index 0x2020 (R440, 12_power_thermal_lantern). -/
def rows2020 : List Row := [
  ⟨0x01, 0x01, .u16, .rw, .none, .bank, false, some (.num 10), .nat 1 1000⟩,
  ⟨0x02, 0x02, .u16, .rw, .none, .bank, false, some (.num 100), .nat 0 10000⟩,
  ⟨0x03, 0x03, .u8, .rw, .none, .bank, false, some (.num 0), .nat 0 2⟩,
  ⟨0x04, 0x04, .u16, .rw, .none, .bank, false, some (.num 200), .nat 20 10000⟩,
  ⟨0x05, 0x05, .u8, .ro, .none, .none, false, none, .any⟩,
  ⟨0x06, 0x06, .u8, .wo, .none, .none, false, none, .nat 1 1⟩,
  ⟨0x07, 0x07, .u64, .ro, .none, .none, false, none, .any⟩,
  ⟨0x08, 0x08, .i32, .ro, .none, .none, false, none, .any⟩,
  ⟨0x09, 0x09, .real, .ro, .none, .none, false, none, .any⟩]

/-- Index 0x2030 (R440, 12_power_thermal_lantern). -/
def rows2030 : List Row := [
  ⟨0x01, 0x01, .u64, .rw, .none, .bank, false, some (.num 0x8c0110003f800000), .lanternRule⟩,
  ⟨0x02, 0x02, .u64, .rw, .none, .bank, false, some (.num 0x8b0110003f800000), .lanternRule⟩,
  ⟨0x03, 0x03, .u64, .rw, .none, .bank, false, some (.num 0x8a0110003f800000), .lanternRule⟩,
  ⟨0x04, 0x10, .u64, .rw, .none, .bank, false, some (.num 0), .lanternRule⟩,
  ⟨0x11, 0x11, .u16, .ro, .none, .none, false, none, .any⟩,
  ⟨0x12, 0x12, .dom 256, .ro, .none, .none, false, none, .any⟩]

/-- Index 0x2040 (R440, 12_power_thermal_lantern). -/
def rows2040 : List Row := [
  ⟨0x01, 0x01, .real, .ro, .none, .none, false, none, .any⟩,
  ⟨0x02, 0x02, .u32, .ro, .none, .none, false, none, .any⟩,
  ⟨0x03, 0x03, .u8, .ro, .none, .none, false, none, .any⟩,
  ⟨0x04, 0x04, .real, .ro, .none, .none, false, none, .any⟩,
  ⟨0x05, 0x05, .u32, .ro, .none, .none, false, none, .any⟩,
  ⟨0x06, 0x06, .u8, .ro, .none, .none, false, none, .any⟩]

/-- Index 0x2050 (R441, 12_power_thermal_lantern). -/
def rows2050 : List Row := [
  ⟨0x01, 0x10, .real, .ro, .none, .none, false, none, .any⟩,
  ⟨0x11, 0x11, .real, .ro, .none, .none, false, none, .any⟩,
  ⟨0x12, 0x12, .u64, .ro, .none, .none, false, none, .any⟩,
  ⟨0x13, 0x13, .u8, .ro, .none, .none, false, none, .any⟩]

/-- Index 0x2060 (R441, 12_power_thermal_lantern). -/
def rows2060 : List Row := [
  ⟨0x01, 0x01, .bool, .rw, .device, .bank, false, some (.num 1), .nat 0 1⟩,
  ⟨0x02, 0x02, .u8, .rw, .device, .bank, false, some (.num 0), .any⟩,
  ⟨0x03, 0x03, .bool, .rw, .device, .bank, false, some (.num 1), .nat 0 1⟩,
  ⟨0x04, 0x04, .u32, .ro, .none, .device, false, none, .any⟩]

/-- Index 0x2070 (R441, 12_power_thermal_lantern). -/
def rows2070 : List Row := [
  ⟨0x01, 0x01, .u32, .ro, .none, .none, false, none, .any⟩,
  ⟨0x02, 0x02, .real, .ro, .none, .none, false, none, .any⟩,
  ⟨0x03, 0x03, .u32, .ro, .none, .device, false, none, .any⟩,
  ⟨0x04, 0x04, .u32, .ro, .none, .device, false, none, .any⟩,
  ⟨0x05, 0x05, .u16, .ro, .none, .none, false, none, .any⟩,
  ⟨0x06, 0x06, .real, .ro, .none, .device, false, none, .any⟩]

/-- Index 0x2100 (R50, 01_lanes_and_clearing). -/
def rows2100 : List Row := [
  ⟨0x01, 0x01, .u32, .rw, .control, .bank, true, some (.num 0x1388), .nat 1000 50000⟩,
  ⟨0x02, 0x02, .u8, .rw, .control, .bank, true, some (.num 0), .nat 0 1⟩,
  ⟨0x03, 0x03, .u8, .ro, .none, .none, false, none, .any⟩,
  ⟨0x04, 0x04, .u8, .ro, .none, .none, false, none, .any⟩,
  ⟨0x05, 0x07, .u32, .ro, .none, .none, false, none, .any⟩,
  ⟨0x08, 0x0A, .u16, .ro, .none, .device, false, none, .any⟩,
  ⟨0x0B, 0x0B, .u32, .ro, .none, .none, false, none, .any⟩,
  ⟨0x0C, 0x0C, .u8, .rw, .control, .bank, false, some (.num 50), .nat 10 90⟩,
  ⟨0x0D, 0x0D, .u32, .ro, .none, .none, false, none, .any⟩,
  ⟨0x0E, 0x0E, .u32, .ro, .none, .none, false, none, .any⟩,
  ⟨0x0F, 0x0F, .u32, .ro, .none, .none, false, none, .any⟩,
  ⟨0x10, 0x10, .u8, .ro, .none, .device, false, none, .any⟩,
  ⟨0x11, 0x11, .dom 64, .ro, .none, .device, false, none, .any⟩]

/-- Index 0x2110 (R74, 02_timebase_and_boundaries). -/
def rows2110 : List Row := [
  ⟨0x01, 0x01, .u64, .ro, .none, .none, false, none, .any⟩,
  ⟨0x02, 0x02, .i32, .ro, .none, .none, false, none, .any⟩,
  ⟨0x03, 0x03, .i32, .ro, .none, .none, false, none, .any⟩,
  ⟨0x04, 0x04, .u8, .ro, .none, .none, false, none, .any⟩]

/-- Index 0x2120 (R141, 04_control_engine). -/
def rows2120 : List Row := [
  ⟨0x01, 0x01, .u16, .rw, .device, .bank, false, some (.num 50), .nat 1 1000⟩,
  ⟨0x02, 0x02, .u8, .rw, .device, .bank, false, some (.num 2), .nat 1 8⟩,
  ⟨0x03, 0x03, .u32, .ro, .none, .none, false, none, .any⟩,
  ⟨0x04, 0x04, .u32, .ro, .none, .none, false, none, .any⟩,
  ⟨0x05, 0x05, .u32, .ro, .none, .none, false, none, .any⟩]

/-- Index 0x2121 (R141, 04_control_engine). -/
def rows2121 : List Row := [
  ⟨0x01, 0x01, .real, .rw, .device, .bank, false, some (.num 0), .real 0x00000000 0x49742400⟩,
  ⟨0x02, 0x02, .real, .rw, .device, .bank, false, some (.num 0), .real 0x00000000 0x4B189680⟩,
  ⟨0x03, 0x03, .real, .rw, .device, .bank, false, some (.num 0), .real 0x00000000 0x47C35000⟩,
  ⟨0x04, 0x04, .real, .rw, .device, .bank, false, some (.num 0x40a00000), .real 0x3DCCCCCD 0x447A0000⟩,
  ⟨0x05, 0x05, .real, .ro, .none, .none, false, none, .any⟩]

/-- Index 0x2130 (R182, 05_machine_control). -/
def rows2130 : List Row := [
  ⟨0x01, 0x01, .u8, .rw, .device, .bank, false, some (.num 0), .nat 0 3⟩,
  ⟨0x02, 0x02, .real, .rw, .device, .bank, false, some (.num 0x41200000), .real 0x40000000 0x41F00000⟩]

/-- Index 0x2200 (R103, 03_sensing). -/
def rows2200 : List Row := [
  ⟨0x01, 0x01, .u8, .rw, .control, .bank, false, some (.num 0), .nat 0 3⟩,
  ⟨0x02, 0x02, .u8, .rw, .control, .bank, false, some (.num 0), .nat 0 1⟩,
  ⟨0x03, 0x03, .u32, .rw, .control, .bank, false, some (.num 1024), .nat 1 65535⟩,
  ⟨0x04, 0x04, .bool, .rw, .control, .bank, false, some (.num 0), .nat 0 1⟩,
  ⟨0x05, 0x05, .u8, .rw, .control, .bank, false, some (.num 40), .nat 0 90⟩,
  ⟨0x06, 0x06, .u32, .rw, .control, .bank, false, some (.num 0x2710), .nat 4000 20000⟩,
  ⟨0x07, 0x07, .u16, .rw, .control, .bank, false, some (.num 800), .nat 100 2000⟩,
  ⟨0x08, 0x08, .u16, .rw, .control, .bank, false, some (.num 4), .nat 0 1000⟩,
  ⟨0x09, 0x09, .real, .rw, .control, .bank, false, some (.num 0x3f000000), .real 0x3E4CCCCD 0x3F666666⟩,
  ⟨0x0A, 0x0A, .real, .rw, .control, .bank, false, some (.num 0x3fc00000), .real 0x3F8CCCCD 0x40000000⟩,
  ⟨0x0B, 0x0B, .bool, .rw, .control, .bank, false, some (.num 0), .nat 0 1⟩,
  ⟨0x0C, 0x0C, .real, .ro, .none, .none, false, none, .any⟩,
  ⟨0x0D, 0x0D, .real, .ro, .none, .none, false, none, .any⟩,
  ⟨0x0E, 0x0E, .i32, .ro, .none, .none, false, none, .any⟩,
  ⟨0x0F, 0x0F, .u8, .ro, .none, .none, false, none, .any⟩,
  ⟨0x10, 0x10, .u32, .ro, .none, .none, false, none, .any⟩]

/-- Index 0x2220 (R103, 03_sensing). -/
def rows2220 : List Row := [
  ⟨0x01, 0x01, .real, .rw, .control, .bank, false, some (.num 0x3f800000), .real 0xC9742400 0x49742400⟩,
  ⟨0x02, 0x02, .real, .rw, .control, .bank, false, some (.num 0), .real 0xC9742400 0x49742400⟩,
  ⟨0x03, 0x03, .u16, .rw, .control, .bank, false, some (.num 10), .nat 0 1000⟩,
  ⟨0x04, 0x04, .real, .rw, .control, .bank, false, some (.num 0), .real 0x00000000 0x40400000⟩,
  ⟨0x05, 0x05, .real, .rw, .control, .bank, false, some (.num 0x40400000), .real 0x00000000 0x40400000⟩,
  ⟨0x06, 0x06, .u8, .rw, .control, .bank, false, some (.num 0), .pairMode⟩,
  ⟨0x07, 0x07, .real, .rw, .control, .bank, false, some (.num 0x40400000), .real 0x3F000000 0x41A00000⟩,
  ⟨0x08, 0x08, .u16, .rw, .control, .bank, false, some (.num 100), .nat 10 2000⟩,
  ⟨0x09, 0x09, .real, .ro, .none, .none, false, none, .any⟩,
  ⟨0x0A, 0x0A, .real, .ro, .none, .none, false, none, .any⟩,
  ⟨0x0B, 0x0B, .bool, .rw, .control, .bank, false, some (.num 0), .nat 0 1⟩]

/-- Index 0x2800 (R348, 09_grove). -/
def rows2800 : List Row := [
  ⟨0x01, 0x01, .u32, .rw, .device, .bank, false, some (.num 1), .nat 1 4294967295⟩,
  ⟨0x02, 0x02, .u8, .rw, .device, .bank, false, some (.num 1), .nat 1 8⟩,
  ⟨0x03, 0x03, .u16, .rw, .grove, .bank, false, some (.num 500), .nat 125 500⟩,
  ⟨0x04, 0x04, .u16, .rw, .device, .bank, false, some (.num 200), .nat 50 5000⟩,
  ⟨0x05, 0x05, .u8, .ro, .none, .none, false, none, .any⟩,
  ⟨0x06, 0x06, .u8, .ro, .none, .none, false, none, .any⟩,
  ⟨0x07, 0x07, .u8, .ro, .none, .none, false, none, .any⟩,
  ⟨0x08, 0x08, .u8, .ro, .none, .none, false, none, .any⟩,
  ⟨0x09, 0x09, .u64, .ro, .none, .none, false, none, .any⟩,
  ⟨0x0A, 0x0A, .i64, .ro, .none, .none, false, none, .any⟩,
  ⟨0x0B, 0x0B, .u8, .ro, .none, .none, false, none, .any⟩,
  ⟨0x0C, 0x0C, .u32, .ro, .none, .none, false, none, .any⟩]

/-- Index 0x2810 (R348, 09_grove). -/
def rows2810 : List Row := [
  ⟨0x01, 0x01, .u16, .rw, .none, .none, false, some (.num 0), .nat 0 65535⟩,
  ⟨0x02, 0x02, .u16, .ro, .none, .none, false, none, .any⟩,
  ⟨0x03, 0x03, .u16, .ro, .none, .none, false, none, .any⟩,
  ⟨0x04, 0x04, .u16, .ro, .none, .none, false, none, .any⟩,
  ⟨0x05, 0x05, .u16, .ro, .none, .none, false, none, .any⟩,
  ⟨0x06, 0x06, .dom 84, .ro, .none, .none, false, none, .any⟩,
  ⟨0x07, 0x07, .u32, .ro, .none, .none, false, none, .any⟩,
  ⟨0x08, 0x08, .u32, .ro, .none, .none, false, none, .any⟩]

/-- Index 0x2820 (R348, 09_grove). -/
def rows2820 : List Row := [
  ⟨0x01, 0x10, .real, .rw, .grove, .bank, false, some (.num 0x3f800000), .real 0x00000000 0x42C80000⟩,
  ⟨0x11, 0x11, .u16, .ro, .none, .none, false, none, .any⟩,
  ⟨0x12, 0x12, .u32, .ro, .none, .none, false, none, .any⟩,
  ⟨0x13, 0x13, .u32, .ro, .none, .none, false, none, .any⟩,
  ⟨0x14, 0x14, .real, .ro, .none, .none, false, none, .any⟩]

/-- Index 0x2830 (R348, 09_grove). -/
def rows2830 : List Row := [
  ⟨0x01, 0x01, .u8, .rw, .device, .bank, false, some (.num 255), .natOr 0 254 [0xFF]⟩,
  ⟨0x02, 0x02, .u8, .rw, .device, .bank, false, some (.num 0), .nat 0 254⟩,
  ⟨0x03, 0x03, .u8, .rw, .device, .bank, false, some (.num 255), .natOr 0 254 [0xFF]⟩,
  ⟨0x04, 0x04, .u8, .ro, .none, .none, false, none, .any⟩,
  ⟨0x05, 0x05, .u16, .rw, .device, .bank, false, some (.num 100), .nat 20 1000⟩]

/-- Index 0x2840 (R402, 11_object_dictionary). -/
def rows2840 : List Row := [
  ⟨0x01, 0x01, .u8, .ro, .none, .none, false, none, .any⟩,
  ⟨0x02, 0x02, .oct 6, .ro, .none, .none, false, none, .any⟩,
  ⟨0x03, 0x03, .u8, .rw, .none, .none, false, some (.num 0), .nat 0 1⟩,
  ⟨0x04, 0x04, .real, .rw, .none, .none, false, some (.num 0), .any⟩,
  ⟨0x05, 0x05, .u8, .ro, .none, .none, false, none, .any⟩,
  ⟨0x06, 0x06, .real, .ro, .none, .none, false, none, .any⟩,
  ⟨0x07, 0x07, .real, .ro, .none, .none, false, none, .any⟩,
  ⟨0x08, 0x08, .real, .ro, .none, .none, false, none, .any⟩,
  ⟨0x09, 0x09, .u32, .ro, .none, .none, false, none, .any⟩,
  ⟨0x0A, 0x0A, .u32, .rw, .none, .none, false, some (.num 0), .nat 0 65535⟩,
  ⟨0x0B, 0x0B, .real, .ro, .none, .none, false, none, .any⟩,
  ⟨0x0C, 0x0C, .u8, .ro, .none, .none, false, none, .any⟩,
  ⟨0x0D, 0x0D, .real, .ro, .none, .none, false, none, .any⟩,
  ⟨0x0E, 0x0E, .u16, .ro, .none, .none, false, none, .any⟩,
  ⟨0x0F, 0x0F, .u8, .ro, .none, .none, false, none, .any⟩]

/-- Index 0x3010 (R74, 02_timebase_and_boundaries). -/
def rows3010 : List Row := [
  ⟨0x01, 0x01, .u32, .ro, .none, .none, false, none, .any⟩,
  ⟨0x02, 0x02, .u32, .ro, .none, .none, false, none, .any⟩,
  ⟨0x03, 0x03, .dom 128, .ro, .none, .none, false, none, .any⟩,
  ⟨0x04, 0x04, .u32, .ro, .none, .none, false, none, .any⟩,
  ⟨0x05, 0x05, .u32, .ro, .none, .none, false, none, .any⟩,
  ⟨0x06, 0x06, .u8, .wo, .none, .none, false, none, .nat 1 1⟩]

/-- Index 0x3020 (R74, 02_timebase_and_boundaries). -/
def rows3020 : List Row := [
  ⟨0x01, 0x01, .u32, .rw, .set, .bank, false, some (.num 4000), .nat 500 20000⟩,
  ⟨0x02, 0x02, .real, .rw, .set, .bank, false, some (.num 0), .real 0x00000000 0x43B3F333⟩,
  ⟨0x03, 0x03, .u8, .rw, .set, .bank, false, some (.num 2), .nat 0 2⟩,
  ⟨0x04, 0x04, .u32, .rw, .set, .bank, false, some (.num 500), .nat 200 10000⟩,
  ⟨0x05, 0x05, .real, .ro, .none, .none, false, none, .any⟩]

/-- Index 0x3021 (R74, 02_timebase_and_boundaries). -/
def rows3021 : List Row := [
  ⟨0x01, 0x03, .u32, .rw, .set, .bank, false, some (.num 300), .nat 100 5000⟩]

/-- Index 0x3030 (R103, 03_sensing). -/
def rows3030 : List Row := [
  ⟨0x01, 0x01, .u32, .rw, .set, .bank, false, some (.num 0x1312d00), .nat 5000000 25000000⟩,
  ⟨0x02, 0x02, .real, .ro, .none, .none, false, none, .any⟩,
  ⟨0x03, 0x03, .u8, .rw, .set, .bank, false, some (.num 12), .nat 0 79⟩,
  ⟨0x04, 0x04, .u32, .rw, .set, .bank, false, some (.num 3200), .nat 800 12800⟩,
  ⟨0x05, 0x05, .u32, .rw, .set, .bank, false, some (.num 1600), .nat 400 12800⟩,
  ⟨0x06, 0x06, .u16, .rw, .set, .bank, false, some (.num 64), .nat 32 256⟩,
  ⟨0x07, 0x07, .u8, .rw, .set, .bank, false, some (.num 16), .nat 8 32⟩,
  ⟨0x08, 0x08, .u16, .rw, .set, .bank, false, some (.num 1024), .nat 256 4096⟩,
  ⟨0x09, 0x09, .u8, .rw, .control, .bank, false, some (.num 4), .nat 1 16⟩,
  ⟨0x0A, 0x0A, .bool, .rw, .control, .bank, false, some (.num 1), .nat 0 1⟩,
  ⟨0x0B, 0x0B, .bool, .rw, .control, .bank, false, some (.num 1), .nat 0 1⟩]

/-- Index 0x3040 (R103, 03_sensing). -/
def rows3040 : List Row := [
  ⟨0x01, 0x01, .real, .rw, .control, .bank, false, some (.num 0x3f800000), .real 0xC9742400 0x49742400⟩,
  ⟨0x02, 0x02, .real, .rw, .control, .bank, false, some (.num 0), .real 0xC9742400 0x49742400⟩,
  ⟨0x03, 0x03, .u32, .rw, .set, .bank, false, some (.num 800), .nat 0 5000⟩,
  ⟨0x04, 0x04, .u8, .rw, .set, .bank, false, some (.num 7), .nat 0 15⟩,
  ⟨0x05, 0x05, .real, .rw, .control, .bank, false, some (.num 0x3f400000), .real 0xBF800000 0x3F800000⟩,
  ⟨0x06, 0x06, .real, .rw, .control, .bank, false, some (.num 0xbf400000), .real 0xBF800000 0x3F800000⟩,
  ⟨0x07, 0x07, .u8, .rw, .control, .bank, false, some (.num 8), .nat 1 32⟩,
  ⟨0x08, 0x08, .real, .ro, .none, .none, false, none, .any⟩,
  ⟨0x09, 0x09, .u8, .ro, .none, .none, false, none, .any⟩,
  ⟨0x0A, 0x0A, .u8, .ro, .none, .none, false, none, .any⟩,
  ⟨0x0B, 0x0B, .u32, .ro, .none, .none, false, none, .any⟩,
  ⟨0x0C, 0x0C, .u32, .ro, .none, .none, false, none, .any⟩,
  ⟨0x0D, 0x0D, .u32, .ro, .none, .none, false, none, .any⟩,
  ⟨0x0E, 0x0E, .real, .ro, .none, .none, false, none, .any⟩]

/-- Index 0x3050 (R141, 04_control_engine). -/
def rows3050 : List Row := [
  ⟨0x01, 0x01, .u8, .rw, .control, .bank, false, some (.num 1), .nat 0 2⟩,
  ⟨0x02, 0x02, .real, .rw, .control, .bank, false, some (.num 0x42480000), .real 0x3F800000 0x44960000⟩,
  ⟨0x03, 0x03, .u8, .rw, .control, .bank, false, some (.num 2), .nat 1 8⟩,
  ⟨0x04, 0x04, .u32, .ro, .none, .none, false, none, .any⟩,
  ⟨0x05, 0x05, .u32, .ro, .none, .none, false, none, .any⟩,
  ⟨0x06, 0x06, .u8, .ro, .none, .none, false, none, .any⟩,
  ⟨0x07, 0x07, .bool, .rw, .control, .bank, false, some (.num 1), .nat 0 1⟩,
  ⟨0x08, 0x08, .i32, .rw, .control, .bank, false, some (.num 0), .int (-100000) (100000)⟩,
  ⟨0x09, 0x09, .real, .ro, .none, .none, false, none, .any⟩,
  ⟨0x0A, 0x0A, .i32, .ro, .none, .none, false, none, .any⟩,
  ⟨0x0B, 0x0B, .u32, .ro, .none, .none, false, none, .any⟩,
  ⟨0x0C, 0x0C, .u8, .ro, .none, .none, false, none, .any⟩,
  ⟨0x0D, 0x0D, .u32, .ro, .none, .none, false, none, .any⟩]

/-- Index 0x3060 (R182, 05_machine_control). -/
def rows3060 : List Row := [
  ⟨0x01, 0x01, .u8, .rw, .control, .bank, false, some (.num 0), .nat 0 2⟩,
  ⟨0x02, 0x02, .u8, .rw, .control, .bank, false, some (.num 4), .nat 1 64⟩,
  ⟨0x03, 0x03, .real, .rw, .control, .bank, false, some (.num 0x44bb8000), .real 0x3F800000 0x469C4000⟩,
  ⟨0x04, 0x04, .real, .rw, .control, .bank, false, some (.num 0x447a0000), .real 0x3F800000 0x4B189680⟩,
  ⟨0x05, 0x05, .real, .rw, .control, .bank, false, some (.num 0x42c80000), .real 0x3F800000 0x469C4000⟩,
  ⟨0x06, 0x06, .real, .rw, .control, .bank, false, some (.num 0x43160000), .real 0x3F800000 0x46EA6000⟩,
  ⟨0x07, 0x07, .real, .rw, .control, .bank, false, some (.num 0x3c23d70a), .real 0x3727C5AC 0x42C80000⟩,
  ⟨0x08, 0x08, .real, .rw, .control, .bank, false, some (.num 0x3a83126f), .real 0x358637BD 0x41200000⟩,
  ⟨0x09, 0x09, .real, .rw, .control, .bank, false, some (.num 0x3a83126f), .real 0x358637BD 0x41200000⟩,
  ⟨0x0A, 0x0A, .real, .rw, .control, .bank, false, some (.num 0x3f800000), .real 0x00000000 0x42C80000⟩,
  ⟨0x0B, 0x0B, .real, .rw, .control, .bank, false, some (.num 0x3c23d70a), .real 0x358637BD 0x41200000⟩,
  ⟨0x0C, 0x0C, .real, .rw, .control, .bank, false, some (.num 0x3c1ba5e3), .real 0x358637BD 0x41200000⟩,
  ⟨0x0D, 0x0D, .real, .rw, .control, .bank, false, some (.num 0x3c23d70a), .real 0x358637BD 0x41200000⟩,
  ⟨0x0E, 0x0E, .real, .rw, .control, .bank, false, some (.num 0x3c23d70a), .real 0x3727C5AC 0x42C80000⟩,
  ⟨0x0F, 0x0F, .real, .rw, .control, .bank, false, some (.num 0x3f800000), .real 0x3C23D70A 0x42C80000⟩,
  ⟨0x10, 0x10, .real, .rw, .control, .bank, false, some (.num 0), .real 0x00000000 0x49742400⟩]

/-- Index 0x3061 (R182, 05_machine_control). -/
def rows3061 : List Row := [
  ⟨0x01, 0x01, .u8, .rw, .control, .bank, false, some (.num 2), .nat 2 16⟩,
  ⟨0x02, 0x02, .dom 192, .rw, .control, .bank, false, some (.bytes (List.replicate 192 0)), .any⟩]

/-- Index 0x3062 (R182, 05_machine_control). -/
def rows3062 : List Row := [
  ⟨0x01, 0x01, .u8, .rw, .control, .bank, false, some (.num 255), .natOr 0 31 [0xFF]⟩,
  ⟨0x02, 0x02, .u8, .rw, .control, .bank, false, some (.num 255), .natOr 0 31 [0xFF]⟩,
  ⟨0x03, 0x03, .u8, .rw, .control, .bank, false, some (.num 255), .natOr 0 31 [0xFF]⟩,
  ⟨0x04, 0x04, .u8, .rw, .control, .bank, false, some (.num 255), .natOr 0 31 [0xFF]⟩,
  ⟨0x05, 0x05, .u8, .rw, .control, .bank, false, some (.num 255), .natOr 0 31 [0xFF]⟩,
  ⟨0x06, 0x06, .u8, .rw, .control, .bank, false, some (.num 255), .natOr 0 31 [0xFF]⟩]

/-- Index 0x3063 (R182, 05_machine_control). -/
def rows3063 : List Row := [
  ⟨0x01, 0x01, .real, .rw, .control, .bank, false, some (.num 0x3f733333), .real 0x3F4CCCCD 0x3F800000⟩,
  ⟨0x02, 0x02, .real, .rw, .control, .bank, false, some (.num 0x3e4ccccd), .real 0x3DCCCCCD 0x3F800000⟩]

/-- Index 0x3070 (R182, 05_machine_control). -/
def rows3070 : List Row := [
  ⟨0x01, 0x01, .u8, .rw, .set, .bank, false, some (.num 0), .nat 0 1⟩,
  ⟨0x02, 0x02, .real, .rw, .control, .bank, false, some (.num 0x3f800000), .real 0x3F800000 0x3F8CCCCD⟩,
  ⟨0x03, 0x03, .real, .rw, .set, .bank, false, some (.num 0x3f19999a), .real 0x3E4CCCCD 0x3F800000⟩,
  ⟨0x04, 0x04, .real, .ro, .none, .none, false, none, .any⟩,
  ⟨0x05, 0x05, .u32, .ro, .none, .none, false, none, .any⟩,
  ⟨0x06, 0x06, .real, .rw, .control, .bank, false, some (.num 0x40800000), .real 0x00000000 0x42480000⟩,
  ⟨0x07, 0x07, .real, .rw, .control, .bank, false, some (.num 0x40a00000), .real 0x3F800000 0x41A00000⟩,
  ⟨0x08, 0x08, .real, .ro, .none, .none, false, none, .any⟩,
  ⟨0x09, 0x09, .real, .ro, .none, .none, false, none, .any⟩]

/-- Index 0x3080 (R182, 05_machine_control). -/
def rows3080 : List Row := [
  ⟨0x01, 0x01, .u8, .rw, .control, .bank, false, some (.num 0), .nat 0 2⟩,
  ⟨0x02, 0x02, .real, .rw, .control, .bank, false, some (.num 0), .real 0x00000000 0x43B3FEB8⟩,
  ⟨0x03, 0x03, .real, .rw, .control, .bank, false, some (.num 0x42480000), .real 0x40A00000 0x43FA0000⟩,
  ⟨0x04, 0x04, .real, .rw, .control, .bank, false, some (.num 0x40a00000), .real 0x40000000 0x41A00000⟩,
  ⟨0x05, 0x05, .bool, .rw, .control, .bank, false, some (.num 0), .nat 0 1⟩,
  ⟨0x06, 0x06, .real, .rw, .control, .bank, false, some (.num 0x40a00000), .real 0x3F800000 0x41A00000⟩,
  ⟨0x07, 0x07, .real, .rw, .control, .bank, false, some (.num 0x40e00000), .real 0x40400000 0x41C80000⟩,
  ⟨0x08, 0x08, .real, .rw, .control, .bank, false, some (.num 0x42480000), .real 0x41200000 0x43160000⟩,
  ⟨0x09, 0x09, .real, .rw, .control, .bank, false, some (.num 0x41200000), .real 0x40000000 0x42480000⟩,
  ⟨0x0A, 0x0A, .real, .rw, .control, .bank, false, some (.num 0x40a00000), .real 0x3F800000 0x41A00000⟩,
  ⟨0x0B, 0x0B, .u8, .ro, .none, .none, false, none, .any⟩,
  ⟨0x0C, 0x0C, .real, .ro, .none, .none, false, none, .any⟩,
  ⟨0x0D, 0x0D, .real, .ro, .none, .none, false, none, .any⟩,
  ⟨0x0E, 0x0E, .real, .ro, .none, .none, false, none, .any⟩]

/-- Index 0x3090 (R182, 05_machine_control). -/
def rows3090 : List Row := [
  ⟨0x01, 0x01, .real, .rw, .control, .bank, false, some (.num 0x40000000), .real 0x3F99999A 0x41200000⟩,
  ⟨0x02, 0x02, .real, .rw, .control, .bank, false, some (.num 0x3f19999a), .real 0x3E99999A 0x3F666666⟩,
  ⟨0x03, 0x03, .real, .rw, .control, .bank, false, some (.num 0x3fb33333), .real 0x3F8CCCCD 0x40000000⟩,
  ⟨0x04, 0x04, .real, .rw, .control, .bank, false, some (.num 0x40000000), .real 0x3F800000 0x41A00000⟩,
  ⟨0x05, 0x05, .real, .rw, .control, .bank, false, some (.num 0x41a00000), .real 0x40A00000 0x42C80000⟩,
  ⟨0x06, 0x06, .u8, .rw, .control, .bank, false, some (.num 4), .nat 1 16⟩,
  ⟨0x07, 0x07, .real, .rw, .control, .bank, false, some (.num 0x41f00000), .real 0x41200000 0x42B40000⟩,
  ⟨0x08, 0x08, .u16, .rw, .control, .bank, false, some (.num 200), .nat 20 200⟩,
  ⟨0x09, 0x09, .u16, .rw, .control, .bank, false, some (.num 100), .nat 0 2000⟩,
  ⟨0x0A, 0x0A, .real, .rw, .control, .bank, false, some (.num 0x3f4ccccd), .real 0x3F000000 0x3F733333⟩,
  ⟨0x0B, 0x0B, .u32, .ro, .none, .none, false, none, .any⟩,
  ⟨0x0C, 0x0C, .u8, .ro, .none, .none, false, none, .any⟩,
  ⟨0x0D, 0x0D, .u8, .ro, .none, .none, false, none, .any⟩]

/-- Index 0x30A0 (R182, 05_machine_control). -/
def rows30A0 : List Row := [
  ⟨0x01, 0x01, .real, .rw, .control, .bank, false, some (.num 0x3f800000), .real 0x3F000000 0x40A00000⟩,
  ⟨0x02, 0x02, .real, .rw, .control, .bank, false, some (.num 0x42dc0000), .real 0x41200000 0x43160000⟩,
  ⟨0x03, 0x03, .real, .rw, .control, .bank, false, some (.num 0x41f00000), .real 0x00000000 0x42C80000⟩,
  ⟨0x04, 0x04, .u8, .rw, .control, .bank, false, some (.num 0), .nat 0 1⟩,
  ⟨0x05, 0x05, .u16, .rw, .control, .bank, false, some (.num 1000), .nat 100 10000⟩,
  ⟨0x06, 0x06, .u16, .rw, .control, .bank, false, some (.num 60), .nat 1 3600⟩,
  ⟨0x07, 0x07, .real, .rw, .control, .bank, false, some (.num 0x41200000), .real 0x40000000 0x42480000⟩,
  ⟨0x08, 0x08, .u16, .rw, .control, .bank, false, some (.num 300), .nat 50 2000⟩,
  ⟨0x09, 0x09, .real, .rw, .control, .bank, false, some (.num 0x41200000), .real 0x40000000 0x42480000⟩,
  ⟨0x0A, 0x0A, .u16, .rw, .control, .bank, false, some (.num 50), .nat 0 2000⟩,
  ⟨0x0B, 0x0B, .u16, .rw, .control, .bank, false, some (.num 0), .natOr 1 10000 [0]⟩,
  ⟨0x0C, 0x0C, .u8, .ro, .none, .none, false, none, .any⟩,
  ⟨0x0D, 0x0D, .real, .ro, .none, .none, false, none, .any⟩]

/-- Index 0x3100 (R258, 07_gate_channels). -/
def rows3100 : List Row := [
  ⟨0x01, 0x01, .u8, .rw, .set, .bank, false, some (.num 8), .nat 1 16⟩,
  ⟨0x02, 0x02, .u16, .rw, .set, .bank, false, some (.num 200), .natStep 0 1000 5⟩,
  ⟨0x03, 0x03, .u8, .rw, .set, .bank, false, some (.num 16), .nat 1 16⟩,
  ⟨0x04, 0x04, .u8, .rw, .set, .bank, false, some (.num 8), .nat 1 16⟩,
  ⟨0x05, 0x05, .u16, .rw, .set, .bank, false, some (.num 200), .natStep 0 1000 5⟩,
  ⟨0x06, 0x06, .u8, .rw, .set, .bank, false, some (.num 16), .nat 1 16⟩,
  ⟨0x07, 0x07, .u8, .rw, .set, .bank, false, some (.num 0), .nat 0 2⟩,
  ⟨0x08, 0x08, .u16, .rw, .set, .bank, false, some (.num 400), .nat 50 5000⟩,
  ⟨0x09, 0x09, .u16, .rw, .set, .bank, false, some (.num 600), .nat 50 5000⟩,
  ⟨0x0A, 0x0A, .u8, .rw, .set, .bank, false, some (.num 20), .nat 5 200⟩,
  ⟨0x0B, 0x0B, .u8, .rw, .set, .bank, false, some (.num 2), .nat 1 16⟩,
  ⟨0x0C, 0x0C, .u8, .rw, .set, .bank, false, some (.num 16), .nat 1 16⟩,
  ⟨0x0D, 0x0D, .u16, .rw, .set, .bank, false, some (.num 50), .nat 0 1000⟩,
  ⟨0x0E, 0x0E, .u16, .rw, .set, .bank, false, some (.num 800), .nat 0 1000⟩,
  ⟨0x0F, 0x0F, .real, .rw, .set, .bank, false, some (.num 0x40000000), .real 0x3F000000 0x41A00000⟩,
  ⟨0x10, 0x10, .real, .rw, .set, .bank, false, some (.num 0x40a00000), .real 0x3F000000 0x42480000⟩,
  ⟨0x11, 0x11, .real, .rw, .set, .bank, false, some (.num 0x44fa0000), .real 0x42C80000 0x469C4000⟩,
  ⟨0x12, 0x12, .real, .rw, .set, .bank, false, some (.num 0x45bb8000), .real 0x42C80000 0x469C4000⟩,
  ⟨0x13, 0x13, .u16, .rw, .set, .bank, false, some (.num 1000), .nat 100 5000⟩,
  ⟨0x14, 0x14, .real, .rw, .set, .bank, false, some (.num 0x453b8000), .real 0x41200000 0x469C4000⟩,
  ⟨0x15, 0x15, .u8, .rw, .set, .bank, false, some (.num 50), .nat 10 200⟩,
  ⟨0x16, 0x16, .real, .rw, .set, .bank, false, some (.num 0x40000000), .real 0x00000000 0x40A00000⟩,
  ⟨0x17, 0x17, .real, .rw, .set, .bank, false, some (.num 0x447a0000), .real 0x00000000 0x461C4000⟩,
  ⟨0x18, 0x18, .u8, .rw, .set, .bank, false, some (.num 1), .nat 0 3⟩,
  ⟨0x19, 0x19, .bool, .rw, .set, .bank, false, some (.num 1), .nat 0 1⟩,
  ⟨0x1A, 0x1A, .u16, .ro, .none, .none, false, none, .any⟩,
  ⟨0x1B, 0x1B, .u8, .ro, .none, .none, false, none, .any⟩,
  ⟨0x1C, 0x1C, .u16, .ro, .none, .none, false, none, .any⟩,
  ⟨0x1D, 0x1D, .u8, .ro, .none, .none, false, none, .any⟩,
  ⟨0x1E, 0x1E, .u16, .ro, .none, .none, false, none, .any⟩,
  ⟨0x1F, 0x1F, .real, .ro, .none, .none, false, none, .any⟩,
  ⟨0x20, 0x20, .real, .ro, .none, .none, false, none, .any⟩,
  ⟨0x21, 0x21, .u32, .ro, .none, .none, false, none, .any⟩,
  ⟨0x22, 0x22, .u32, .ro, .none, .none, false, none, .any⟩,
  ⟨0x23, 0x23, .u32, .ro, .none, .device, false, none, .any⟩,
  ⟨0x24, 0x24, .real, .ro, .none, .none, false, none, .any⟩,
  ⟨0x25, 0x25, .real, .ro, .none, .none, false, none, .any⟩,
  ⟨0x26, 0x26, .u8, .ro, .none, .none, false, none, .any⟩]

/-- Index 0x3110 (R259, 07_gate_channels). -/
def rows3110 : List Row := [
  ⟨0x01, 0x01, .u8, .rw, .set, .bank, true, some (.num 0), .nat 0 2⟩,
  ⟨0x02, 0x02, .bool, .rw, .none, .none, false, some (.num 0), .nat 0 1⟩,
  ⟨0x03, 0x03, .u32, .rw, .control, .bank, false, some (.num 500), .nat 10 60000⟩,
  ⟨0x04, 0x04, .u8, .rw, .control, .bank, false, some (.num 3), .nat 0 7⟩,
  ⟨0x05, 0x05, .u8, .rw, .control, .bank, false, some (.num 1), .nat 0 7⟩,
  ⟨0x06, 0x06, .u16, .rw, .control, .bank, false, some (.num 60), .nat 1 3600⟩,
  ⟨0x07, 0x07, .bool, .rw, .control, .bank, false, some (.num 1), .nat 0 1⟩,
  ⟨0x08, 0x08, .u8, .rw, .control, .bank, false, some (.num 0), .nat 0 1⟩,
  ⟨0x09, 0x09, .u8, .ro, .none, .none, false, none, .any⟩,
  ⟨0x0A, 0x0A, .u8, .ro, .none, .none, false, none, .any⟩,
  ⟨0x0B, 0x0B, .u8, .ro, .none, .none, false, none, .any⟩,
  ⟨0x0C, 0x0C, .real, .rw, .control, .bank, false, some (.num 0x42dc0000), .real 0x42200000 0x43480000⟩,
  ⟨0x0D, 0x0D, .real, .rw, .control, .bank, false, some (.num 0x42fa0000), .real 0x42200000 0x43480000⟩,
  ⟨0x0E, 0x0E, .real, .rw, .control, .bank, false, some (.num 0x459c4000), .real 0x42C80000 0x47C35000⟩,
  ⟨0x0F, 0x0F, .real, .rw, .control, .bank, false, some (.num 0x4552f000), .real 0x447A0000 0x461C4000⟩]

/-- Index 0x3120 (R259, 07_gate_channels). -/
def rows3120 : List Row := [
  ⟨0x01, 0x01, .real, .rw, .control, .bank, false, some (.num 0x42480000), .real 0x41200000 0x43FA0000⟩,
  ⟨0x02, 0x02, .real, .rw, .control, .bank, false, some (.num 0x3e19999a), .real 0x3CA3D70A 0x3F800000⟩,
  ⟨0x03, 0x03, .real, .rw, .control, .bank, false, some (.num 0x3e99999a), .real 0x3DCCCCCD 0x40A00000⟩,
  ⟨0x04, 0x04, .real, .rw, .control, .bank, false, some (.num 0x3f99999a), .real 0x3E4CCCCD 0x40C00000⟩,
  ⟨0x05, 0x05, .real, .rw, .control, .bank, false, some (.num 0x3e4ccccd), .real 0x3D4CCCCD 0x40000000⟩,
  ⟨0x06, 0x06, .real, .rw, .control, .bank, false, some (.num 0x41a00000), .real 0x40A00000 0x43FA0000⟩,
  ⟨0x07, 0x07, .u8, .wo, .none, .none, false, none, .nat 1 1⟩,
  ⟨0x08, 0x08, .dom 144, .ro, .none, .none, false, none, .any⟩,
  ⟨0x09, 0x09, .u8, .ro, .none, .none, false, none, .any⟩,
  ⟨0x0A, 0x0A, .u64, .ro, .none, .none, false, none, .any⟩,
  ⟨0x0B, 0x0B, .real, .rw, .control, .bank, false, some (.num 0x40a00000), .real 0x3F000000 0x43FA0000⟩]

/-- Index 0x4000 (R140, 04_control_engine). -/
def rows4000 : List Row := [
  ⟨0x01, 0x01, .u8, .rw, .control, .bank, false, some (.num 0), .nat 0 3⟩,
  ⟨0x02, 0x02, .u8, .rw, .device, .bank, false, some (.num 0), .nat 0 2⟩,
  ⟨0x03, 0x06, .real, .rw, .control, .bank, false, some (.num 0), .any⟩,
  ⟨0x07, 0x09, .real, .rw, .control, .bank, false, some (.num 0), .any⟩,
  ⟨0x0A, 0x0A, .i8, .rw, .control, .bank, false, some (.num 1), .oneOf [255, 1]⟩,
  ⟨0x0B, 0x0B, .u16, .rw, .control, .bank, false, some (.num 0), .signal⟩,
  ⟨0x0C, 0x0C, .u16, .rw, .control, .bank, false, some (.num 0), .signal⟩,
  ⟨0x0D, 0x0D, .u16, .rw, .control, .bank, false, some (.num 0), .signal⟩,
  ⟨0x0E, 0x0E, .real, .rw, .control, .bank, false, some (.num 0x3f800000), .any⟩,
  ⟨0x0F, 0x0F, .u16, .rw, .control, .bank, false, some (.num 0), .signal⟩,
  ⟨0x10, 0x10, .u16, .rw, .control, .bank, false, some (.num 0), .signalOrNeg⟩,
  ⟨0x11, 0x11, .real, .rw, .control, .bank, false, some (.num 0), .any⟩,
  ⟨0x12, 0x12, .real, .rw, .control, .bank, false, some (.num 0), .any⟩,
  ⟨0x13, 0x13, .u8, .rw, .control, .bank, false, some (.num 0), .nat 0 15⟩,
  ⟨0x14, 0x14, .u8, .rw, .control, .bank, false, some (.num 1), .nat 1 16⟩,
  ⟨0x15, 0x15, .real, .ro, .none, .none, false, none, .any⟩,
  ⟨0x16, 0x16, .real, .ro, .none, .none, false, none, .any⟩,
  ⟨0x17, 0x17, .u8, .ro, .none, .none, false, none, .any⟩,
  ⟨0x18, 0x18, .u8, .wo, .none, .none, false, none, .nat 1 1⟩]

/-- Index 0x4800 (R218, 06_drive_modes). -/
def rows4800 : List Row := [
  ⟨0x01, 0x01, .u8, .rw, .device, .bank, false, some (.num 1), .nat 0 4⟩,
  ⟨0x02, 0x02, .u8, .rw, .device, .bank, false, some (.num 0), .nat 0 1⟩,
  ⟨0x03, 0x03, .u8, .rw, .none, .none, false, some (.num 0), .nat 0 1⟩,
  ⟨0x04, 0x04, .u8, .ro, .none, .none, false, none, .any⟩]

/-- Index 0x4801 (R218, 06_drive_modes). -/
def rows4801 : List Row := [
  ⟨0x01, 0x01, .u8, .rw, .device, .bank, false, some (.num 0), .nat 0 1⟩,
  ⟨0x02, 0x02, .real, .rw, .none, .none, false, some (.num 0), .any⟩,
  ⟨0x03, 0x03, .u8, .rw, .device, .bank, false, some (.num 0), .oneOf [0, 2, 4, 6]⟩,
  ⟨0x04, 0x04, .real, .rw, .device, .bank, false, some (.num 0x42c80000), .real 0x00000000 0x47C35000⟩,
  ⟨0x05, 0x05, .real, .rw, .device, .bank, false, some (.num 0x40400000), .real 0x3F000000 0x41200000⟩,
  ⟨0x06, 0x06, .u16, .rw, .device, .bank, false, some (.num 200), .nat 50 2000⟩,
  ⟨0x07, 0x07, .u16, .rw, .device, .bank, false, some (.num 100), .natOr 10 10000 [0]⟩,
  ⟨0x08, 0x08, .real, .rw, .device, .bank, false, some (.num 0x42c80000), .real 0x3DCCCCCD 0x47C35000⟩,
  ⟨0x09, 0x09, .real, .rw, .device, .bank, false, some (.num 0x42c80000), .real 0x3DCCCCCD 0x47C35000⟩,
  ⟨0x0A, 0x0A, .real, .rw, .device, .bank, false, some (.num 0x42dc0000), .real 0x41200000 0x43160000⟩,
  ⟨0x0B, 0x0B, .u8, .ro, .none, .none, false, none, .any⟩,
  ⟨0x0C, 0x0C, .real, .rw, .device, .bank, false, some (.num 0x42480000), .real 0x3DCCCCCD 0x47C35000⟩]

/-- Index 0x4802 (R218, 06_drive_modes). -/
def rows4802 : List Row := [
  ⟨0x01, 0x01, .u8, .rw, .device, .bank, false, some (.num 255), .natOr 0 31 [0xFF]⟩,
  ⟨0x02, 0x02, .u8, .rw, .device, .bank, false, some (.num 255), .natOr 0 31 [0xFF]⟩,
  ⟨0x03, 0x03, .u8, .rw, .device, .bank, false, some (.num 255), .natOr 0 31 [0xFF]⟩,
  ⟨0x04, 0x04, .u8, .rw, .device, .bank, false, some (.num 255), .natOr 0 31 [0xFF]⟩]

/-- Index 0x4810 (R218, 06_drive_modes). -/
def rows4810 : List Row := [
  ⟨0x01, 0x01, .u16, .ro, .none, .none, false, none, .any⟩,
  ⟨0x02, 0x02, .real, .ro, .none, .none, false, none, .any⟩,
  ⟨0x03, 0x03, .real, .ro, .none, .none, false, none, .any⟩,
  ⟨0x04, 0x04, .u32, .ro, .none, .none, false, none, .any⟩,
  ⟨0x05, 0x05, .u8, .rw, .device, .bank, false, some (.num 5), .nat 1 50⟩]

/-- Index 0x4820 (R218, 06_drive_modes). -/
def rows4820 : List Row := [
  ⟨0x01, 0x01, .real, .rw, .device, .bank, false, some (.num 0x42c80000), .real 0x3F800000 0x461C4000⟩,
  ⟨0x02, 0x02, .real, .rw, .device, .bank, false, some (.num 0x3f800000), .real 0x3DCCCCCD 0x41200000⟩,
  ⟨0x03, 0x03, .real, .rw, .device, .bank, false, some (.num 0x3d4ccccd), .real 0x3B03126F 0x3E99999A⟩,
  ⟨0x04, 0x04, .u16, .rw, .device, .bank, false, some (.num 30), .nat 1 1000⟩,
  ⟨0x05, 0x05, .real, .rw, .device, .bank, false, some (.num 0x43960000), .real 0x3F800000 0x47C35000⟩,
  ⟨0x06, 0x06, .real, .wo, .none, .none, false, none, .real 0x00000000 0x47C35000⟩,
  ⟨0x07, 0x07, .real, .ro, .none, .none, false, none, .any⟩,
  ⟨0x08, 0x08, .u16, .ro, .none, .none, false, none, .any⟩,
  ⟨0x09, 0x09, .real, .ro, .none, .none, false, none, .any⟩,
  ⟨0x0A, 0x0A, .bool, .ro, .none, .none, false, none, .any⟩,
  ⟨0x0B, 0x0B, .dom 8, .ro, .none, .device, false, none, .any⟩]

/-- Index 0x4821 (R218, 06_drive_modes). -/
def rows4821 : List Row := [
  ⟨0x01, 0x01, .u8, .rw, .device, .bank, false, some (.num 0), .nat 0 1⟩,
  ⟨0x02, 0x02, .u8, .rw, .device, .bank, false, some (.num 0), .nat 0 7⟩,
  ⟨0x03, 0x03, .real, .rw, .device, .bank, false, some (.num 0x42c80000), .real 0x3F800000 0x47C35000⟩,
  ⟨0x04, 0x04, .real, .rw, .device, .bank, false, some (.num 0x3f800000), .real 0x3C23D70A 0x41200000⟩,
  ⟨0x05, 0x05, .real, .rw, .device, .bank, false, some (.num 0), .real 0x00000000 0x49742400⟩,
  ⟨0x06, 0x06, .real, .rw, .device, .bank, false, some (.num 0x43fa0000), .realOrZero 0x3F800000 0x47C35000⟩,
  ⟨0x07, 0x07, .u8, .rw, .device, .bank, false, some (.num 5), .nat 1 50⟩,
  ⟨0x08, 0x08, .real, .rw, .device, .bank, false, some (.num 0x42480000), .real 0x41200000 0x42C80000⟩,
  ⟨0x09, 0x09, .real, .rw, .device, .bank, false, some (.num 0x3f4ccccd), .real 0x3E99999A 0x3F800000⟩,
  ⟨0x0A, 0x0A, .u16, .rw, .device, .bank, false, some (.num 300), .nat 10 5000⟩,
  ⟨0x0B, 0x0B, .u16, .rw, .device, .bank, false, some (.num 500), .nat 0 10000⟩,
  ⟨0x0C, 0x0C, .real, .rw, .device, .bank, false, some (.num 0x42a00000), .real 0x00000000 0x47C35000⟩,
  ⟨0x0D, 0x0D, .real, .ro, .none, .none, false, none, .any⟩,
  ⟨0x0E, 0x0E, .bool, .ro, .none, .none, false, none, .any⟩]

/-- Index 0x4822 (R218, 06_drive_modes). -/
def rows4822 : List Row := [
  ⟨0x01, 0x01, .real, .rw, .device, .bank, false, some (.num 0), .real 0xC7C35000 0x47C35000⟩,
  ⟨0x02, 0x02, .real, .rw, .device, .bank, false, some (.num 0x447a0000), .real 0xC7C35000 0x47C35000⟩,
  ⟨0x03, 0x03, .real, .rw, .device, .bank, false, some (.num 0x3f000000), .real 0x3C23D70A 0x41200000⟩]

/-- Index 0x4830 (R218, 06_drive_modes). -/
def rows4830 : List Row := [
  ⟨0x01, 0x01, .u64, .rw, .none, .none, false, some (.num 0), .any⟩,
  ⟨0x02, 0x02, .real, .rw, .none, .none, false, some (.num 0), .any⟩,
  ⟨0x03, 0x03, .real, .rw, .none, .none, false, some (.num 0), .any⟩,
  ⟨0x04, 0x04, .real, .rw, .none, .none, false, some (.num 0), .any⟩,
  ⟨0x05, 0x05, .u16, .rw, .none, .none, false, some (.num 0), .nat 0 65535⟩,
  ⟨0x06, 0x06, .u16, .rw, .device, .bank, false, some (.num 20), .nat 0 200⟩,
  ⟨0x07, 0x07, .u16, .rw, .device, .bank, false, some (.num 50), .nat 10 500⟩,
  ⟨0x08, 0x08, .u16, .rw, .device, .bank, false, some (.num 2000), .nat 100 20000⟩,
  ⟨0x09, 0x09, .real, .rw, .device, .bank, false, some (.num 0x3f800000), .real 0x00000000 0x3F99999A⟩,
  ⟨0x0A, 0x0A, .u8, .ro, .none, .none, false, none, .any⟩]

/-- Index 0x4840 (R218, 06_drive_modes). -/
def rows4840 : List Row := [
  ⟨0x01, 0x01, .u8, .rw, .device, .bank, false, some (.num 0), .nat 0 1⟩,
  ⟨0x02, 0x02, .real, .rw, .device, .bank, false, some (.num 0x42480000), .real 0x00000000 0x42C80000⟩,
  ⟨0x03, 0x03, .bool, .rw, .device, .bank, false, some (.num 1), .nat 0 1⟩,
  ⟨0x04, 0x04, .real, .rw, .device, .bank, false, some (.num 0x42480000), .real 0x41200000 0x42C80000⟩]

/-- Index 0x4850 (R218, 06_drive_modes). -/
def rows4850 : List Row := [
  ⟨0x01, 0x01, .u8, .rw, .device, .bank, true, some (.num 255), .natOr 0 5 [0xFF]⟩,
  ⟨0x02, 0x02, .real, .rw, .device, .bank, true, some (.num 0x3f000000), .real 0x3D4CCCCD 0x40A00000⟩,
  ⟨0x03, 0x03, .real, .rw, .device, .bank, true, some (.num 0x3e4ccccd), .real 0x3C23D70A 0x40A00000⟩,
  ⟨0x04, 0x04, .real, .rw, .device, .bank, true, some (.num 0x42c80000), .real 0x3F800000 0x47C35000⟩,
  ⟨0x05, 0x05, .real, .rw, .device, .bank, true, some (.num 0x41200000), .real 0x00000000 0x42480000⟩,
  ⟨0x06, 0x06, .u8, .rw, .device, .bank, true, some (.num 0), .nat 0 1⟩,
  ⟨0x07, 0x07, .u8, .ro, .none, .none, false, none, .any⟩]

/-- Index 0x4860 (R218, 06_drive_modes). -/
def rows4860 : List Row := [
  ⟨0x01, 0x01, .real, .rw, .device, .bank, false, some (.num 0x44870000), .real 0x42C80000 0x449C4000⟩,
  ⟨0x02, 0x02, .u16, .rw, .device, .bank, false, some (.num 200), .nat 10 5000⟩,
  ⟨0x03, 0x03, .real, .rw, .device, .bank, false, some (.num 0x44834000), .real 0x42C80000 0x449C4000⟩,
  ⟨0x04, 0x04, .real, .rw, .device, .bank, false, some (.num 0x447f0000), .real 0x42C80000 0x449C4000⟩,
  ⟨0x05, 0x05, .u8, .rw, .device, .bank, false, some (.num 2), .nat 0 2⟩,
  ⟨0x06, 0x06, .real, .rw, .device, .bank, false, some (.num 0x40800000), .real 0x3DCCCCCD 0x447A0000⟩,
  ⟨0x07, 0x07, .real, .rw, .device, .bank, false, some (.num 0x43fa0000), .real 0x3F800000 0x49742400⟩,
  ⟨0x08, 0x08, .real, .rw, .device, .bank, false, some (.num 0x42700000), .real 0x3F800000 0x461C4000⟩,
  ⟨0x09, 0x09, .real, .ro, .none, .none, false, none, .any⟩,
  ⟨0x0A, 0x0A, .u8, .ro, .none, .none, false, none, .any⟩]

/-- Index 0x5000 (R311, 08_safety). -/
def rows5000 : List Row := [
  ⟨0x01, 0x01, .u8, .ro, .none, .none, false, none, .any⟩,
  ⟨0x02, 0x02, .u32, .ro, .none, .none, false, none, .any⟩,
  ⟨0x03, 0x03, .u32, .wo, .none, .none, false, none, .any⟩,
  ⟨0x04, 0x04, .u32, .ro, .none, .device, false, none, .any⟩,
  ⟨0x05, 0x05, .u32, .ro, .none, .none, false, none, .any⟩,
  ⟨0x06, 0x06, .u8, .ro, .none, .none, false, none, .any⟩,
  ⟨0x07, 0x07, .u8, .ro, .none, .none, false, none, .any⟩,
  ⟨0x08, 0x08, .bool, .rw, .device, .bank, true, some (.num 0), .nat 0 1⟩,
  ⟨0x09, 0x09, .u16, .ro, .none, .none, false, none, .any⟩,
  ⟨0x0A, 0x0A, .u8, .ro, .none, .none, false, none, .any⟩,
  ⟨0x0B, 0x0B, .dom 4096, .ro, .none, .device, false, none, .any⟩]

/-- Index 0x5010 (R311, 08_safety). -/
def rows5010 : List Row := [
  ⟨0x01, 0x01, .u8, .rw, .device, .bank, true, some (.num 0), .siFunction⟩,
  ⟨0x02, 0x02, .u8, .rw, .device, .bank, true, some (.num 3), .nat 0 3⟩,
  ⟨0x03, 0x03, .bool, .rw, .device, .bank, true, some (.num 1), .nat 0 1⟩,
  ⟨0x04, 0x04, .u8, .rw, .device, .bank, true, some (.num 0), .nat 0 1⟩,
  ⟨0x05, 0x05, .u16, .rw, .device, .bank, true, some (.num 1000), .nat 200 20000⟩,
  ⟨0x06, 0x06, .u16, .rw, .device, .bank, true, some (.num 100), .nat 10 2000⟩,
  ⟨0x07, 0x07, .u8, .rw, .device, .bank, true, some (.num 0), .nat 0 1⟩,
  ⟨0x08, 0x08, .u8, .ro, .none, .none, false, none, .any⟩,
  ⟨0x09, 0x09, .u32, .ro, .none, .none, false, none, .any⟩]

/-- Index 0x5020 (R311, 08_safety). -/
def rows5020 : List Row := [
  ⟨0x01, 0x01, .u16, .rw, .device, .bank, true, some (.num 100), .nat 10 1000⟩,
  ⟨0x02, 0x02, .u8, .ro, .none, .none, false, none, .any⟩]

/-- Index 0x5030 (R311, 08_safety). -/
def rows5030 : List Row := [
  ⟨0x01, 0x01, .u8, .rw, .device, .bank, true, some (.num 0), .nat 0 1⟩,
  ⟨0x02, 0x02, .u32, .rw, .device, .bank, true, some (.num 0x1388), .nat 100 600000⟩,
  ⟨0x03, 0x03, .real, .rw, .device, .bank, true, some (.num 0x42c80000), .real 0x3DCCCCCD 0x47C35000⟩,
  ⟨0x04, 0x04, .u16, .rw, .device, .bank, true, some (.num 500), .nat 0 10000⟩,
  ⟨0x05, 0x05, .real, .rw, .device, .bank, true, some (.num 0x42480000), .real 0x3F800000 0x461C4000⟩,
  ⟨0x06, 0x06, .real, .rw, .device, .bank, true, some (.num 0x3f800000), .real 0x3F000000 0x40A00000⟩,
  ⟨0x07, 0x07, .u16, .rw, .device, .bank, true, some (.num 50), .nat 10 1000⟩]

/-- Index 0x5040 (R311, 08_safety). -/
def rows5040 : List Row := [
  ⟨0x01, 0x01, .u8, .rw, .device, .bank, true, some (.num 255), .natOr 0 1 [0xFF]⟩,
  ⟨0x02, 0x02, .u16, .rw, .device, .bank, true, some (.num 200), .nat 10 5000⟩,
  ⟨0x03, 0x03, .u16, .rw, .device, .bank, true, some (.num 300), .nat 10 5000⟩,
  ⟨0x04, 0x04, .real, .rw, .device, .bank, true, some (.num 0x3e99999a), .real 0x3C23D70A 0x40800000⟩,
  ⟨0x05, 0x05, .real, .rw, .device, .bank, true, some (.num 0x40000000), .real 0x3D4CCCCD 0x40800000⟩,
  ⟨0x06, 0x06, .real, .rw, .device, .bank, true, some (.num 0x3d4ccccd), .real 0x3C23D70A 0x3F800000⟩,
  ⟨0x07, 0x07, .u16, .rw, .device, .bank, true, some (.num 200), .nat 50 1000⟩,
  ⟨0x08, 0x08, .u16, .rw, .device, .bank, true, some (.num 10), .nat 1 600⟩,
  ⟨0x09, 0x09, .u16, .rw, .device, .bank, true, some (.num 0), .nat 0 60000⟩,
  ⟨0x0A, 0x0A, .u8, .ro, .none, .none, false, none, .any⟩,
  ⟨0x0B, 0x0B, .real, .ro, .none, .none, false, none, .any⟩]

/-- Index 0x5050 (R311, 08_safety). -/
def rows5050 : List Row := [
  ⟨0x01, 0x01, .real, .rw, .device, .bank, true, some (.num 0), .real 0x00000000 0x4B189680⟩,
  ⟨0x02, 0x02, .real, .rw, .device, .bank, true, some (.num 0x3fa66666), .real 0x3F800000 0x40000000⟩,
  ⟨0x03, 0x03, .real, .rw, .device, .bank, true, some (.num 0x40000000), .real 0x3DCCCCCD 0x42B40000⟩,
  ⟨0x04, 0x04, .u16, .rw, .device, .bank, true, some (.num 8), .nat 1 168⟩,
  ⟨0x05, 0x05, .bool, .rw, .device, .bank, true, some (.num 1), .nat 0 1⟩,
  ⟨0x06, 0x06, .u8, .wo, .none, .none, false, none, .nat 1 1⟩,
  ⟨0x07, 0x07, .u8, .ro, .none, .device, false, none, .any⟩,
  ⟨0x08, 0x08, .u32, .ro, .none, .device, false, none, .any⟩,
  ⟨0x09, 0x09, .real, .ro, .none, .none, false, none, .any⟩]

/-- Index 0x5060 (R311, 08_safety). -/
def rows5060 : List Row := [
  ⟨0x01, 0x01, .u8, .rw, .device, .bank, true, some (.num 0), .nat 0 2⟩,
  ⟨0x02, 0x02, .u8, .rw, .device, .bank, true, some (.num 0), .nat 0 1⟩,
  ⟨0x03, 0x03, .u32, .rw, .device, .bank, true, some (.num 0), .nat 1 4294967295⟩,
  ⟨0x04, 0x04, .u16, .rw, .device, .bank, true, some (.num 100), .nat 4 1000⟩,
  ⟨0x05, 0x05, .u16, .rw, .device, .bank, true, some (.num 20), .nat 2 500⟩,
  ⟨0x06, 0x06, .u8, .rw, .device, .bank, true, some (.num 2), .nat 2 32⟩,
  ⟨0x07, 0x07, .u8, .rw, .device, .bank, true, some (.num 4), .nat 1 16⟩,
  ⟨0x08, 0x08, .u8, .ro, .none, .none, false, none, .any⟩,
  ⟨0x09, 0x09, .u32, .ro, .none, .none, false, none, .any⟩]

/-- Index 0x5070 (R311, 08_safety). -/
def rows5070 : List Row := [
  ⟨0x01, 0x01, .u8, .rw, .device, .bank, true, some (.num 0), .nat 0 2⟩,
  ⟨0x02, 0x02, .u8, .rw, .device, .bank, true, some (.num 3), .nat 0 3⟩,
  ⟨0x03, 0x03, .bool, .rw, .device, .bank, true, some (.num 1), .nat 0 1⟩,
  ⟨0x04, 0x04, .u8, .rw, .device, .bank, true, some (.num 0), .nat 0 1⟩,
  ⟨0x05, 0x05, .u8, .rw, .device, .bank, true, some (.num 0), .nat 0 3⟩]

/-- Index 0x5080 (R311, 08_safety). -/
def rows5080 : List Row := [
  ⟨0x01, 0x01, .u8, .rw, .device, .bank, true, some (.num 1), .nat 0 1⟩,
  ⟨0x02, 0x02, .bool, .rw, .device, .bank, true, some (.num 1), .nat 0 1⟩,
  ⟨0x03, 0x03, .u8, .ro, .none, .none, false, none, .any⟩]

/-- Index 0x5800 (R459, 13_start_faults_events). -/
def rows5800 : List Row := [
  ⟨0x01, 0x80, .u8, .rw, .device, .bank, false, none, .eventClass⟩]

/-- Index 0x5810 (R459, 13_start_faults_events). -/
def rows5810 : List Row := [
  ⟨0x01, 0x01, .u8, .wo, .none, .none, false, none, .nat 1 1⟩,
  ⟨0x02, 0x02, .u64, .ro, .none, .none, false, none, .any⟩,
  ⟨0x03, 0x03, .u64, .ro, .none, .none, false, none, .any⟩,
  ⟨0x04, 0x04, .u8, .ro, .none, .none, false, none, .any⟩]

/-- Index 0x5820 (R459, 13_start_faults_events). -/
def rows5820 : List Row := [
  ⟨0x01, 0x01, .u32, .ro, .none, .none, false, none, .any⟩,
  ⟨0x02, 0x02, .u16, .ro, .none, .none, false, none, .any⟩,
  ⟨0x03, 0x03, .u32, .rw, .none, .none, false, some (.num 0), .nat 0 4294967295⟩,
  ⟨0x04, 0x04, .dom 64, .ro, .none, .none, false, none, .any⟩,
  ⟨0x05, 0x05, .dom 65536, .ro, .none, .none, false, none, .any⟩,
  ⟨0x06, 0x06, .u32, .ro, .none, .device, false, none, .any⟩]

/-- Index 0x5830 (R459, 13_start_faults_events). -/
def rows5830 : List Row := [
  ⟨0x01, 0x01, .u8, .ro, .none, .none, false, none, .any⟩,
  ⟨0x02, 0x02, .u8, .ro, .none, .none, false, none, .any⟩,
  ⟨0x03, 0x03, .u32, .ro, .none, .none, false, none, .any⟩,
  ⟨0x04, 0x04, .u8, .ro, .none, .none, false, none, .any⟩]

/-- Index 0x5900 (R459, 13_start_faults_events). -/
def rows5900 : List Row := [
  ⟨0x01, 0x80, .u32, .ro, .none, .none, false, none, .any⟩]

/-- Index 0x5910 (R459, 13_start_faults_events). -/
def rows5910 : List Row := [
  ⟨0x01, 0x80, .u16, .ro, .none, .none, false, none, .any⟩]

/-- Index 0x6000 (R142, 04_control_engine). -/
def rows6000 : List Row := [
  ⟨0x01, 0x01, .u8, .rw, .none, .none, false, some (.num 0), .nat 0 4⟩,
  ⟨0x02, 0x02, .u8, .rw, .none, .none, false, some (.num 0), .nat 0 2⟩,
  ⟨0x03, 0x03, .u16, .rw, .none, .none, false, some (.num 0), .echoTarget⟩,
  ⟨0x04, 0x04, .real, .rw, .none, .none, false, some (.num 0), .real 0x00000000 0x49742400⟩,
  ⟨0x05, 0x05, .real, .rw, .none, .none, false, some (.num 0x41200000), .real 0x3C23D70A 0x461C4000⟩,
  ⟨0x06, 0x06, .real, .rw, .none, .none, false, some (.num 0x447a0000), .real 0x3C23D70A 0x461C4000⟩,
  ⟨0x07, 0x07, .u16, .rw, .none, .none, false, some (.num 21), .nat 2 256⟩,
  ⟨0x08, 0x08, .u16, .rw, .none, .none, false, some (.num 4), .nat 1 100⟩,
  ⟨0x09, 0x09, .u16, .rw, .none, .none, false, some (.num 8), .nat 1 1000⟩,
  ⟨0x0A, 0x0A, .u16, .rw, .none, .none, false, some (.num 0), .signal⟩,
  ⟨0x0B, 0x0B, .u16, .rw, .none, .none, false, some (.num 0), .signal⟩,
  ⟨0x0C, 0x0C, .u8, .rw, .none, .none, false, some (.num 11), .nat 7 15⟩,
  ⟨0x0D, 0x0D, .u8, .rw, .none, .none, false, some (.num 1), .nat 1 16⟩,
  ⟨0x0E, 0x0E, .u32, .rw, .none, .none, false, some (.num 2000), .nat 10 600000⟩,
  ⟨0x0F, 0x0F, .u8, .wo, .none, .none, false, none, .nat 1 1⟩,
  ⟨0x10, 0x10, .u8, .wo, .none, .none, false, none, .nat 1 1⟩,
  ⟨0x11, 0x11, .u8, .ro, .none, .none, false, none, .any⟩,
  ⟨0x12, 0x12, .u8, .ro, .none, .none, false, none, .any⟩,
  ⟨0x13, 0x13, .u16, .ro, .none, .none, false, none, .any⟩]

/-- Index 0x6010 (R142, 04_control_engine). -/
def rows6010 : List Row := [
  ⟨0x01, 0x01, .u8, .rw, .none, .none, false, some (.num 1), .nat 1 8⟩,
  ⟨0x02, 0x09, .u16, .rw, .none, .none, false, some (.num 0), .signal⟩,
  ⟨0x0A, 0x0A, .u8, .rw, .none, .none, false, some (.num 16), .oneOf [0x10, 0x11, 0x12]⟩,
  ⟨0x0B, 0x0B, .u16, .rw, .none, .none, false, some (.num 1), .nat 1 1000⟩,
  ⟨0x0C, 0x0C, .u8, .rw, .none, .none, false, some (.num 0), .nat 0 4⟩,
  ⟨0x0D, 0x0D, .real, .rw, .none, .none, false, some (.num 0), .any⟩,
  ⟨0x0E, 0x0E, .u8, .rw, .none, .none, false, some (.num 0), .nat 0 127⟩,
  ⟨0x0F, 0x0F, .u8, .rw, .none, .none, false, some (.num 10), .nat 0 100⟩,
  ⟨0x10, 0x10, .u8, .wo, .none, .none, false, none, .nat 1 1⟩,
  ⟨0x11, 0x11, .u8, .ro, .none, .none, false, none, .any⟩,
  ⟨0x12, 0x12, .u32, .ro, .none, .none, false, none, .any⟩,
  ⟨0x13, 0x13, .u32, .ro, .none, .none, false, none, .any⟩,
  ⟨0x14, 0x14, .u64, .ro, .none, .none, false, none, .any⟩,
  ⟨0x15, 0x15, .dom 262144, .ro, .none, .none, false, none, .any⟩]

/-- Index 0x6020 (R142, 04_control_engine). -/
def rows6020 : List Row := [
  ⟨0x01, 0x01, .dom 8192, .ro, .none, .none, false, none, .any⟩,
  ⟨0x02, 0x02, .u16, .ro, .none, .none, false, none, .any⟩]

/-- The tables, part 1. -/
def dictPart1 : List (Nat × List Row) := [
  (0x1000, rows1000), (0x1010, rows1010), (0x1800, rows1800), (0x1810, rows1810),
  (0x1812, rows1812), (0x1820, rows1820), (0x1830, rows1830), (0x1840, rows1840),
  (0x1841, rows1841), (0x1842, rows1842), (0x1851, rows1851), (0x1860, rows1860),
  (0x1870, rows1870), (0x1880, rows1880), (0x1890, rows1890), (0x1C00, rows1C00),
  (0x1E00, rows1E00), (0x1F00, rows1F00), (0x1F01, rows1F01), (0x1F02, rows1F02),
  (0x1F03, rows1F03), (0x2000, rows2000), (0x2010, rows2010), (0x2020, rows2020),
  (0x2030, rows2030), (0x2040, rows2040), (0x2050, rows2050), (0x2060, rows2060),
  (0x2070, rows2070), (0x2100, rows2100)]

/-- The tables, part 2. -/
def dictPart2 : List (Nat × List Row) := [
  (0x2110, rows2110), (0x2120, rows2120), (0x2121, rows2121), (0x2130, rows2130),
  (0x2200, rows2200), (0x2220, rows2220), (0x2800, rows2800), (0x2810, rows2810),
  (0x2820, rows2820), (0x2830, rows2830), (0x2840, rows2840), (0x3010, rows3010),
  (0x3020, rows3020), (0x3021, rows3021), (0x3030, rows3030), (0x3040, rows3040),
  (0x3050, rows3050), (0x3060, rows3060), (0x3061, rows3061), (0x3062, rows3062),
  (0x3063, rows3063), (0x3070, rows3070), (0x3080, rows3080), (0x3090, rows3090),
  (0x30A0, rows30A0), (0x3100, rows3100), (0x3110, rows3110), (0x3120, rows3120),
  (0x4000, rows4000), (0x4800, rows4800)]

/-- The tables, part 3. -/
def dictPart3 : List (Nat × List Row) := [
  (0x4801, rows4801), (0x4802, rows4802), (0x4810, rows4810), (0x4820, rows4820),
  (0x4821, rows4821), (0x4822, rows4822), (0x4830, rows4830), (0x4840, rows4840),
  (0x4850, rows4850), (0x4860, rows4860), (0x5000, rows5000), (0x5010, rows5010),
  (0x5020, rows5020), (0x5030, rows5030), (0x5040, rows5040), (0x5050, rows5050),
  (0x5060, rows5060), (0x5070, rows5070), (0x5080, rows5080), (0x5800, rows5800),
  (0x5810, rows5810), (0x5820, rows5820), (0x5830, rows5830), (0x5900, rows5900),
  (0x5910, rows5910), (0x6000, rows6000), (0x6010, rows6010), (0x6020, rows6020)]

/-- Every entry table, by index (R398). -/
def dictTable : List (Nat × List Row) := dictPart1 ++ dictPart2 ++ dictPart3

/-- Default, lowest and highest permitted class of each event (R452 and the event tables of every chapter), by EV. -/
def eventClasses1 : List (Nat × Nat × Nat) := [
  (0, 0, 0), (1, 0, 2), (1, 1, 3), (1, 1, 3), (1, 0, 2), (3, 3, 4), (1, 1, 4), (0, 0, 0),
  (2, 2, 4), (3, 3, 5), (3, 3, 5), (2, 1, 4), (1, 0, 3), (1, 1, 4), (0, 0, 0), (2, 2, 4),
  (2, 1, 4), (1, 0, 3), (2, 1, 4), (2, 1, 4), (2, 1, 4), (1, 0, 4), (2, 1, 4), (2, 2, 4),
  (1, 0, 2), (2, 2, 4), (0, 0, 0), (3, 3, 4), (0, 0, 1), (0, 0, 0), (0, 0, 1), (0, 0, 0),
  (3, 3, 4), (5, 5, 5), (3, 3, 4), (2, 2, 4), (1, 0, 2), (1, 0, 2), (1, 1, 2), (1, 0, 2),
  (2, 2, 3), (0, 0, 1), (0, 0, 1), (1, 1, 2), (1, 0, 2), (1, 1, 2), (1, 1, 2), (1, 1, 1),
  (1, 1, 1), (3, 3, 4), (2, 2, 3), (2, 2, 4), (3, 3, 4), (3, 3, 4), (3, 3, 4), (3, 3, 4),
  (3, 3, 4), (3, 3, 4), (3, 3, 4), (3, 3, 4), (0, 0, 0), (0, 0, 1), (1, 1, 3), (1, 0, 2)]

/-- The second half, EV 0x40 to 0x7F. -/
def eventClasses2 : List (Nat × Nat × Nat) := [
  (2, 2, 3), (4, 4, 4), (3, 3, 4), (0, 0, 0), (3, 3, 4), (3, 3, 4), (4, 4, 4), (1, 1, 1),
  (3, 3, 4), (3, 3, 4), (4, 4, 4), (4, 4, 4), (4, 4, 4), (1, 1, 2), (0, 0, 0), (0, 0, 0),
  (0, 0, 1), (1, 1, 1), (1, 1, 1), (1, 1, 1), (1, 1, 2), (1, 1, 4), (3, 3, 4), (0, 0, 0),
  (3, 3, 4), (1, 0, 2), (1, 0, 3), (2, 1, 3), (1, 1, 3), (1, 0, 2), (2, 2, 4), (0, 0, 1),
  (2, 1, 3), (0, 0, 0), (2, 1, 3), (1, 0, 3), (0, 0, 0), (1, 0, 2), (1, 0, 2), (1, 0, 2),
  (1, 0, 2), (1, 1, 3), (0, 0, 1), (1, 1, 2), (1, 1, 2), (0, 0, 0), (1, 1, 3), (0, 0, 1),
  (1, 1, 2), (1, 1, 2), (3, 3, 4), (1, 1, 3), (0, 0, 0), (2, 2, 3), (1, 1, 2), (1, 1, 4),
  (1, 1, 2), (3, 3, 4), (1, 0, 2), (3, 3, 4), (0, 0, 1), (4, 4, 4), (2, 1, 3), (1, 1, 2)]

/-- The class row of event `e` (R451 to R453). -/
def eventClassRow (e : Nat) : Nat × Nat × Nat :=
  (eventClasses1 ++ eventClasses2).getD e (0, 0, 0)

/-- The width in bytes of a fixed-width type (R391); the maximum length of the others. -/
def Ty.width : Ty → Nat
  | .bool => 1 | .i8 => 1 | .u8 => 1 | .i16 => 2 | .u16 => 2 | .i32 => 4 | .u32 => 4 | .real => 4
  | .i64 => 8 | .u64 => 8 | .str n => n | .oct n => n | .dom n => n

/-- The type code of R391. -/
def Ty.code : Ty → Nat
  | .bool => 0x01 | .i8 => 0x10 | .i16 => 0x11 | .i32 => 0x12 | .i64 => 0x13
  | .u8 => 0x20 | .u16 => 0x21 | .u32 => 0x22 | .u64 => 0x23 | .real => 0x30
  | .str _ => 0x40 | .oct _ => 0x41 | .dom _ => 0x42

/-- Whether values of the type are carried as raw bits of one fixed width. -/
def Ty.fixed : Ty → Bool
  | .str _ | .oct _ | .dom _ => false
  | _ => true

/-- The index at which the tables give the group that `idx` belongs to (R398): set 1 repeats set 0 at 0x38xx and 0x39xx,
drive 1 repeats drive 0 at 0x49xx, and law slots, inputs, channels, AIN, PI, safety units and ports repeat index by index.
An index that stands for itself, or that no group holds, is its own. -/
def baseIndex (idx : Nat) : Nat :=
  let idx := if 0x3810 ≤ idx ∧ idx ≤ 0x38A0 then idx - 0x800
             else if 0x3900 ≤ idx ∧ idx ≤ 0x3920 then idx - 0x800
             else if 0x4900 ≤ idx ∧ idx ≤ 0x4960 then idx - 0x100
             else idx
  if 0x4000 ≤ idx ∧ idx ≤ 0x401F then 0x4000
  else if 0x3040 ≤ idx ∧ idx ≤ 0x3045 then 0x3040
  else if 0x3100 ≤ idx ∧ idx ≤ 0x3105 then 0x3100
  else if 0x2200 ≤ idx ∧ idx ≤ 0x2201 then 0x2200
  else if 0x2220 ≤ idx ∧ idx ≤ 0x2227 then 0x2220
  else if 0x5010 ≤ idx ∧ idx ≤ 0x5015 then 0x5010
  else if 0x5030 ≤ idx ∧ idx ≤ 0x5031 then 0x5030
  else if 0x5040 ≤ idx ∧ idx ≤ 0x5041 then 0x5040
  else if 0x5050 ≤ idx ∧ idx ≤ 0x5051 then 0x5050
  else if 0x5060 ≤ idx ∧ idx ≤ 0x5063 then 0x5060
  else if 0x5070 ≤ idx ∧ idx ≤ 0x507F then 0x5070
  else if 0x1810 ≤ idx ∧ idx ≤ 0x1811 then 0x1810
  else idx

/-- The rows of an index, if the index exists (R390). -/
def rowsAt (idx : Nat) : Option (List Row) :=
  (dictTable.find? (fun p => p.1 = baseIndex idx)).map (·.2)

/-- The row of an entry, if it exists (R390); sub-index 0x00 is answered by `highestSub`. -/
def rowOf (key : Nat) : Option Row :=
  match rowsAt (key / 256) with
  | none => none
  | some rs => rs.find? (fun r => r.lo ≤ key % 256 ∧ key % 256 ≤ r.hi)

/-- The highest sub-index in use at an index: the value of its sub-index 0x00 (R390). -/
def highestSub (idx : Nat) : Nat :=
  match rowsAt idx with
  | none => 0
  | some rs => rs.foldl (fun a r => max a r.hi) 0

/-- The value an entry has when nothing has been stored for it: its default (R392), the default class for an event class
(R453), and zero (no bytes) where its table gives none. DESIGN CHOICE 1. -/
def dfltOf (key : Nat) : Val :=
  if key / 256 = 0x5800 then .num (eventClassRow (key % 256 - 1)).1
  else match rowOf key with
    | none => .num 0
    | some r => match r.dflt with
      | some v => v
      | none => if r.ty.fixed then .num 0 else
          match r.ty with
          | .oct n => .bytes (List.replicate n 0)
          | _ => .bytes []

/-- Whether the entry carries the safety flag (R293, R453). -/
def safetyFlag (key : Nat) : Bool :=
  if key / 256 = 0x5800 then 0x44 ≤ key % 256 ∧ key % 256 ≤ 0x59
  else match rowOf key with
    | none => false
    | some r => r.safe


end Sys2Proof.Machine
end

