-- ==== Sys2Proof/Machine/F32.lean ====
section
/-! DEFINITION. IEEE 754 single-precision arithmetic as the lanes compute it (R13, R21, R106): round to nearest, ties to
even, no fused multiply-add, subnormal results taken as zero. Subnormal operands count with their value. -/

namespace Sys2Proof.Machine

/-- Sign bit. -/
def fSign (x : F32) : Bool := x.getLsbD 31
/-- Biased exponent. -/
def fExp (x : F32) : Nat := (x.toNat >>> 23) % 256
/-- Fraction field. -/
def fFrac (x : F32) : Nat := x.toNat % 2 ^ 23
/-- Not a number. -/
def fIsNan (x : F32) : Bool := fExp x == 255 && fFrac x != 0
/-- An infinity. -/
def fIsInf (x : F32) : Bool := fExp x == 255 && fFrac x == 0
/-- Neither a NaN nor an infinity (R107, R391). -/
def fFinite (x : F32) : Bool := fExp x != 255
/-- Zero. -/
def fIsZero (x : F32) : Bool := fExp x == 0 && fFrac x == 0
/-- Significand, with the hidden bit of a normal number. -/
def fMan (x : F32) : Nat := if fExp x = 0 then fFrac x else fFrac x + 2 ^ 23
/-- Exponent of the significand's lowest bit. -/
def fScale (x : F32) : Int := (max 1 (fExp x) : Nat) - 150

/-- The zero of a sign. -/
def fZero (s : Bool) : F32 := if s then 0x80000000 else 0
/-- The infinity of a sign. -/
def fInf (s : Bool) : F32 := if s then 0xFF800000 else 0x7F800000
/-- The quiet NaN an invalid operation gives. -/
def fNan : F32 := 0x7FC00000

/-- The word nearest to `± m · 2^e`, ties to even; results below the smallest normal number are zero (R106). -/
def fRound (s : Bool) (m : Nat) (e : Int) : F32 :=
  if m = 0 then fZero s else
  let l := Nat.log2 m
  let sh := l - 23
  let q := if l ≤ 23 then m <<< (23 - l) else m >>> sh
  let r := if l ≤ 23 then 0 else m % 2 ^ sh
  let up := decide (l > 23) && (decide (2 * r > 2 ^ sh) || (decide (2 * r = 2 ^ sh) && q % 2 == 1))
  let q := if up then q + 1 else q
  let ex : Int := e + l + 127 + (if q = 2 ^ 24 then 1 else 0)
  let fr := if q = 2 ^ 24 then 0 else q - 2 ^ 23
  if ex ≥ 255 then fInf s
  else if ex ≤ 0 then fZero s
  else BitVec.ofNat 32 ((if s then 2 ^ 31 else 0) + ex.toNat * 2 ^ 23 + fr)

/-- Negation: the sign bit flips. -/
def fneg (x : F32) : F32 := x ^^^ 0x80000000
/-- Magnitude. -/
def fabs (x : F32) : F32 := x &&& 0x7FFFFFFF

/-- Sum. -/
def fadd (x y : F32) : F32 :=
  if fIsNan x || fIsNan y then fNan
  else if fIsInf x then (if fIsInf y && fSign x != fSign y then fNan else x)
  else if fIsInf y then y
  else if fIsZero x && fIsZero y then fZero (fSign x && fSign y)
  else
    let e := min (fScale x) (fScale y)
    let a : Int := (fMan x <<< (fScale x - e).toNat : Nat)
    let b : Int := (fMan y <<< (fScale y - e).toNat : Nat)
    let t : Int := (if fSign x then -a else a) + (if fSign y then -b else b)
    if t = 0 then fZero false else fRound (decide (t < 0)) t.natAbs e

/-- Difference. -/
def fsub (x y : F32) : F32 := fadd x (fneg y)

/-- Product. -/
def fmul (x y : F32) : F32 :=
  let s := fSign x != fSign y
  if fIsNan x || fIsNan y then fNan
  else if fIsInf x || fIsInf y then (if fIsZero x || fIsZero y then fNan else fInf s)
  else if fIsZero x || fIsZero y then fZero s
  else fRound s (fMan x * fMan y) (fScale x + fScale y)

/-- Quotient; a division of a finite number by zero gives the infinity of its sign. -/
def fdiv (x y : F32) : F32 :=
  let s := fSign x != fSign y
  if fIsNan x || fIsNan y then fNan
  else if fIsInf x then (if fIsInf y then fNan else fInf s)
  else if fIsInf y then fZero s
  else if fIsZero y then (if fIsZero x then fNan else fInf s)
  else if fIsZero x then fZero s
  else
    let q := (fMan x <<< 64) / fMan y
    let r := (fMan x <<< 64) % fMan y
    fRound s (2 * q + (if r = 0 then 0 else 1)) (fScale x - fScale y - 65)

/-- Integer square root of a number below `4^k`, bit by bit from bit `k - 1`. -/
def isqrt : Nat → Nat → Nat → Nat
  | 0, _, acc => acc
  | k + 1, n, acc => let t := acc + 2 ^ k; isqrt k n (if t * t ≤ n then t else acc)

/-- Square root; of a negative number a NaN. -/
def fsqrt (x : F32) : F32 :=
  if fIsNan x then fNan
  else if fIsZero x then fZero (fSign x)
  else if fSign x then fNan
  else if fIsInf x then x
  else
    let odd := (fScale x % 2 == 1)
    let m := (if odd then fMan x * 2 else fMan x) <<< 64
    let e := (if odd then fScale x - 1 else fScale x) - 64
    let r := isqrt 48 m 0
    fRound false (2 * r + (if r * r = m then 0 else 1)) (e / 2 - 1)

/-- The nearest word to the rational `n / d`. -/
def fRat (n : Int) (d : Nat) : F32 :=
  if n = 0 then 0 else
  let q := (n.natAbs <<< 64) / d
  let r := (n.natAbs <<< 64) % d
  fRound (decide (n < 0)) (2 * q + (if r = 0 then 0 else 1)) (-65)

/-- The nearest word to an integer. -/
def fInt (n : Int) : F32 := if n = 0 then 0 else fRound (decide (n < 0)) n.natAbs 0
/-- The nearest word to a natural number. -/
def fNat (n : Nat) : F32 := fInt n
/-- One. -/
def fOne : F32 := 0x3F800000

/-- An exact order key of a word that is no NaN: the value of its sign and magnitude, zeros equal. -/
def fKey (x : F32) : Int :=
  if fIsZero x then 0 else if fSign x then -(fabs x).toNat else (fabs x).toNat

/-- Less than; false where an operand is a NaN. -/
def flt (x y : F32) : Bool := !fIsNan x && !fIsNan y && decide (fKey x < fKey y)
/-- Less than or equal. -/
def fle (x y : F32) : Bool := !fIsNan x && !fIsNan y && decide (fKey x ≤ fKey y)
/-- Greater than. -/
def fgt (x y : F32) : Bool := flt y x
/-- Greater than or equal. -/
def fge (x y : F32) : Bool := fle y x
/-- Equal as numbers. -/
def feq (x y : F32) : Bool := fle x y && fle y x

/-- The smaller operand. -/
def fmin (x y : F32) : F32 := if flt y x then y else x
/-- The larger operand. -/
def fmax (x y : F32) : F32 := if flt x y then y else x
/-- `x` limited to `lo` to `hi`. -/
def fclamp (lo hi x : F32) : F32 := fmax lo (fmin hi x)

/-- The integer part towards minus infinity of a finite number; zero of the others. -/
def fFloor (x : F32) : Int :=
  if !fFinite x then 0 else
  let m : Int := if fSign x then -(fMan x : Int) else fMan x
  if fScale x ≥ 0 then m * 2 ^ (fScale x).toNat else m / 2 ^ (-fScale x).toNat

/-- The nearest integer of a finite number, halves away from zero. -/
def fNearest (x : F32) : Int :=
  if fSign x then -(fFloor (fadd (fabs x) (fRat 1 2))) else fFloor (fadd x (fRat 1 2))

/-- The integer part towards zero. -/
def fTrunc (x : F32) : Int := if fSign x then -(fFloor (fabs x)) else fFloor x

/-- `floor (x · n)` computed exactly, for turning seconds or microseconds into picoseconds. -/
def fScaleNat (x : F32) (n : Nat) : Nat :=
  if !fFinite x || fSign x then 0 else
  if fScale x ≥ 0 then fMan x * n * 2 ^ (fScale x).toNat else fMan x * n / 2 ^ (-fScale x).toNat

/-- Sum of a list, from the left. -/
def fsum (xs : List F32) : F32 := xs.foldl fadd 0

/-- Largest of a list, the first argument where it is empty. -/
def fmaxl (d : F32) (xs : List F32) : F32 := xs.foldl fmax d

end Sys2Proof.Machine
end

