-- ==== Sys2Proof/Machine/Keys.lean ====
section
/-! DEFINITION. The dictionary keys: one name per entry of the entry tables of spec/ (R5, R390).
A key is index * 256 + sub-index; s is a set, d a drive, c a channel or connection, k an element of an array. -/

namespace Sys2Proof.Machine.Key

/-! Entries of R50 (01_lanes_and_clearing). -/
/-- 0x2100.01 Clearing.AgreementWindow -/
def clearingAgreementWindow : Nat := 0x2100 * 256 + 0x01
/-- 0x2100.02 Clearing.SyncSet -/
def clearingSyncSet : Nat := 0x2100 * 256 + 0x02
/-- 0x2100.03 Clearing.State -/
def clearingState : Nat := 0x2100 * 256 + 0x03
/-- 0x2100.04 Clearing.LaneStatus -/
def clearingLaneStatus : Nat := 0x2100 * 256 + 0x04
/-- 0x2100.05 … 0x2100.07 Clearing.DissentCount[A … C] -/
def clearingDissentCount (k : Nat) : Nat := 0x2100 * 256 + 0x05 + k
/-- 0x2100.08 … 0x2100.0A Clearing.RetireCount[A … C] -/
def clearingRetireCount (k : Nat) : Nat := 0x2100 * 256 + 0x08 + k
/-- 0x2100.0B Clearing.LaneSkewMax -/
def clearingLaneSkewMax : Nat := 0x2100 * 256 + 0x0B
/-- 0x2100.0C Clearing.SkewWarnPercent -/
def clearingSkewWarnPercent : Nat := 0x2100 * 256 + 0x0C
/-- 0x2100.0D Clearing.LastResyncTime -/
def clearingLastResyncTime : Nat := 0x2100 * 256 + 0x0D
/-- 0x2100.0E Clearing.MaskCRC -/
def clearingMaskCRC : Nat := 0x2100 * 256 + 0x0E
/-- 0x2100.0F Clearing.LiveBytes -/
def clearingLiveBytes : Nat := 0x2100 * 256 + 0x0F
/-- 0x2100.10 Clearing.SafeStateCause -/
def clearingSafeStateCause : Nat := 0x2100 * 256 + 0x10
/-- 0x2100.11 Clearing.Record -/
def clearingRecord : Nat := 0x2100 * 256 + 0x11
/-! Entries of R74 (02_timebase_and_boundaries). -/
/-- 0x1F00.01 Commit.Request -/
def commitRequest : Nat := 0x1F00 * 256 + 0x01
/-- 0x1F00.02 Commit.Domain -/
def commitDomain : Nat := 0x1F00 * 256 + 0x02
/-- 0x1F00.03 Commit.TargetBoundary -/
def commitTargetBoundary : Nat := 0x1F00 * 256 + 0x03
/-- 0x1F00.04 Commit.Status -/
def commitStatus : Nat := 0x1F00 * 256 + 0x04
/-- 0x1F00.05 Commit.AppliedBoundary -/
def commitAppliedBoundary : Nat := 0x1F00 * 256 + 0x05
/-- 0x1F00.06 Commit.Lead -/
def commitLead : Nat := 0x1F00 * 256 + 0x06
/-- 0x1F01.01 … 0x1F01.07 BoundaryCount[domain] -/
def boundaryCount (k : Nat) : Nat := 0x1F01 * 256 + 0x01 + k
/-- 0x1F02.01 … 0x1F02.07 Commit.StatusOf[domain] -/
def commitStatusOf (k : Nat) : Nat := 0x1F02 * 256 + 0x01 + k
/-- 0x1F03.01 … 0x1F03.07 Commit.AppliedOf[domain] -/
def commitAppliedOf (k : Nat) : Nat := 0x1F03 * 256 + 0x01 + k
/-- 0x2110.01 Timebase.Time -/
def timebaseTime : Nat := 0x2110 * 256 + 0x01
/-- 0x2110.02 Timebase.LanternDeviation -/
def timebaseLanternDeviation : Nat := 0x2110 * 256 + 0x02
/-- 0x2110.03 Timebase.GroveDeviation -/
def timebaseGroveDeviation : Nat := 0x2110 * 256 + 0x03
/-- 0x2110.04 Timebase.Status -/
def timebaseStatus : Nat := 0x2110 * 256 + 0x04
/-- 0x3010.01 Set0.LatencyLast -/
def latencyLast (s : Nat) : Nat := (0x3010 + 0x800 * s) * 256 + 0x01
/-- 0x3010.02 Set0.LatencyMax -/
def latencyMax (s : Nat) : Nat := (0x3010 + 0x800 * s) * 256 + 0x02
/-- 0x3010.03 Set0.LatencyHistogram -/
def latencyHistogram (s : Nat) : Nat := (0x3010 + 0x800 * s) * 256 + 0x03
/-- 0x3010.04 Set0.LateEdgeCount -/
def lateEdgeCount (s : Nat) : Nat := (0x3010 + 0x800 * s) * 256 + 0x04
/-- 0x3010.05 Set0.MinPulseDropCount -/
def minPulseDropCount (s : Nat) : Nat := (0x3010 + 0x800 * s) * 256 + 0x05
/-- 0x3010.06 Set0.HistogramClear -/
def histogramClear (s : Nat) : Nat := (0x3010 + 0x800 * s) * 256 + 0x06
/-- 0x3020.01 Set0.SwitchingFrequency -/
def switchingFrequency (s : Nat) : Nat := (0x3020 + 0x800 * s) * 256 + 0x01
/-- 0x3020.02 Set0.CarrierPhase -/
def carrierPhase (s : Nat) : Nat := (0x3020 + 0x800 * s) * 256 + 0x02
/-- 0x3020.03 Set0.SampleMode -/
def sampleMode (s : Nat) : Nat := (0x3020 + 0x800 * s) * 256 + 0x03
/-- 0x3020.04 Set0.MinPulse -/
def minPulse (s : Nat) : Nat := (0x3020 + 0x800 * s) * 256 + 0x04
/-- 0x3020.05 Set0.ActualFrequency -/
def actualFrequency (s : Nat) : Nat := (0x3020 + 0x800 * s) * 256 + 0x05
/-- 0x3021.01 … 0x3021.03 Set0.DeadTime[U … W] -/
def deadTime (s k : Nat) : Nat := (0x3021 + 0x800 * s) * 256 + 0x01 + k
/-! Entries of R103 (03_sensing). -/
/-- 0x3030.01 Set0.Sense.ModClock -/
def senseModClock (s : Nat) : Nat := (0x3030 + 0x800 * s) * 256 + 0x01
/-- 0x3030.02 Set0.Sense.ActualModClock -/
def senseActualModClock (s : Nat) : Nat := (0x3030 + 0x800 * s) * 256 + 0x02
/-- 0x3030.03 Set0.Sense.CaptureDelay -/
def senseCaptureDelay (s : Nat) : Nat := (0x3030 + 0x800 * s) * 256 + 0x03
/-- 0x3030.04 Set0.Sense.Window -/
def senseWindow (s : Nat) : Nat := (0x3030 + 0x800 * s) * 256 + 0x04
/-- 0x3030.05 Set0.Sense.MinWindow -/
def senseMinWindow (s : Nat) : Nat := (0x3030 + 0x800 * s) * 256 + 0x05
/-- 0x3030.06 Set0.Sense.ControlOSR -/
def senseControlOSR (s : Nat) : Nat := (0x3030 + 0x800 * s) * 256 + 0x06
/-- 0x3030.07 Set0.Sense.OvcOSR -/
def senseOvcOSR (s : Nat) : Nat := (0x3030 + 0x800 * s) * 256 + 0x07
/-- 0x3030.08 Set0.Sense.DcOSR -/
def senseDcOSR (s : Nat) : Nat := (0x3030 + 0x800 * s) * 256 + 0x08
/-- 0x3030.09 Set0.Sense.ShadowLimit -/
def senseShadowLimit (s : Nat) : Nat := (0x3030 + 0x800 * s) * 256 + 0x09
/-- 0x3030.0A Set0.Sense.StarNoNeutral -/
def senseStarNoNeutral (s : Nat) : Nat := (0x3030 + 0x800 * s) * 256 + 0x0A
/-- 0x3030.0B Set0.Sense.CentreCorrection -/
def senseCentreCorrection (s : Nat) : Nat := (0x3030 + 0x800 * s) * 256 + 0x0B
/-- 0x3040.01 Set0.Input[0].Gain -/
def inputGain (s n : Nat) : Nat := (0x3040 + 0x800 * s + n) * 256 + 0x01
/-- 0x3040.02 Set0.Input[0].Offset -/
def inputOffset (s n : Nat) : Nat := (0x3040 + 0x800 * s + n) * 256 + 0x02
/-- 0x3040.03 Set0.Input[0].SettleTime -/
def inputSettleTime (s n : Nat) : Nat := (0x3040 + 0x800 * s + n) * 256 + 0x03
/-- 0x3040.04 Set0.Input[0].EdgeMask -/
def inputEdgeMask (s n : Nat) : Nat := (0x3040 + 0x800 * s + n) * 256 + 0x04
/-- 0x3040.05 Set0.Input[0].TripHigh -/
def inputTripHigh (s n : Nat) : Nat := (0x3040 + 0x800 * s + n) * 256 + 0x05
/-- 0x3040.06 Set0.Input[0].TripLow -/
def inputTripLow (s n : Nat) : Nat := (0x3040 + 0x800 * s + n) * 256 + 0x06
/-- 0x3040.07 Set0.Input[0].TripConfirm -/
def inputTripConfirm (s n : Nat) : Nat := (0x3040 + 0x800 * s + n) * 256 + 0x07
/-- 0x3040.08 Set0.Input[0].Value -/
def inputValue (s n : Nat) : Nat := (0x3040 + 0x800 * s + n) * 256 + 0x08
/-- 0x3040.09 Set0.Input[0].Status -/
def inputStatus (s n : Nat) : Nat := (0x3040 + 0x800 * s + n) * 256 + 0x09
/-- 0x3040.0A Set0.Input[0].ShadowRun -/
def inputShadowRun (s n : Nat) : Nat := (0x3040 + 0x800 * s + n) * 256 + 0x0A
/-- 0x3040.0B Set0.Input[0].ShadowCount -/
def inputShadowCount (s n : Nat) : Nat := (0x3040 + 0x800 * s + n) * 256 + 0x0B
/-- 0x3040.0C Set0.Input[0].SkipCount -/
def inputSkipCount (s n : Nat) : Nat := (0x3040 + 0x800 * s + n) * 256 + 0x0C
/-- 0x3040.0D Set0.Input[0].CleanWindow -/
def inputCleanWindow (s n : Nat) : Nat := (0x3040 + 0x800 * s + n) * 256 + 0x0D
/-- 0x3040.0E Set0.Input[0].DcValue -/
def inputDcValue (s n : Nat) : Nat := (0x3040 + 0x800 * s + n) * 256 + 0x0E
/-- 0x2200.01 PI0.Mode -/
def piMode (i : Nat) : Nat := (0x2200 + i) * 256 + 0x01
/-- 0x2200.02 PI0.AssignedSet -/
def piAssignedSet (i : Nat) : Nat := (0x2200 + i) * 256 + 0x02
/-- 0x2200.03 PI0.LinesPerRev -/
def piLinesPerRev (i : Nat) : Nat := (0x2200 + i) * 256 + 0x03
/-- 0x2200.04 PI0.Invert -/
def piInvert (i : Nat) : Nat := (0x2200 + i) * 256 + 0x04
/-- 0x2200.05 PI0.GlitchFilter -/
def piGlitchFilter (i : Nat) : Nat := (0x2200 + i) * 256 + 0x05
/-- 0x2200.06 PI0.ExcitationFrequency -/
def piExcitationFrequency (i : Nat) : Nat := (0x2200 + i) * 256 + 0x06
/-- 0x2200.07 PI0.TrackingBandwidth -/
def piTrackingBandwidth (i : Nat) : Nat := (0x2200 + i) * 256 + 0x07
/-- 0x2200.08 PI0.ZTolerance -/
def piZTolerance (i : Nat) : Nat := (0x2200 + i) * 256 + 0x08
/-- 0x2200.09 PI0.RadiusLow -/
def piRadiusLow (i : Nat) : Nat := (0x2200 + i) * 256 + 0x09
/-- 0x2200.0A PI0.RadiusHigh -/
def piRadiusHigh (i : Nat) : Nat := (0x2200 + i) * 256 + 0x0A
/-- 0x2200.0B PI0.SensorlessFallback -/
def piSensorlessFallback (i : Nat) : Nat := (0x2200 + i) * 256 + 0x0B
/-- 0x2200.0C PI0.AngleMech -/
def piAngleMech (i : Nat) : Nat := (0x2200 + i) * 256 + 0x0C
/-- 0x2200.0D PI0.Speed -/
def piSpeed (i : Nat) : Nat := (0x2200 + i) * 256 + 0x0D
/-- 0x2200.0E PI0.Turns -/
def piTurns (i : Nat) : Nat := (0x2200 + i) * 256 + 0x0E
/-- 0x2200.0F PI0.Status -/
def piStatus (i : Nat) : Nat := (0x2200 + i) * 256 + 0x0F
/-- 0x2200.10 PI0.CountErrors -/
def piCountErrors (i : Nat) : Nat := (0x2200 + i) * 256 + 0x10
/-- 0x2220.01 AIN0.Scale -/
def ainScale (n : Nat) : Nat := (0x2220 + n) * 256 + 0x01
/-- 0x2220.02 AIN0.Offset -/
def ainOffset (n : Nat) : Nat := (0x2220 + n) * 256 + 0x02
/-- 0x2220.03 AIN0.FilterTime -/
def ainFilterTime (n : Nat) : Nat := (0x2220 + n) * 256 + 0x03
/-- 0x2220.04 AIN0.ValidLow -/
def ainValidLow (n : Nat) : Nat := (0x2220 + n) * 256 + 0x04
/-- 0x2220.05 AIN0.ValidHigh -/
def ainValidHigh (n : Nat) : Nat := (0x2220 + n) * 256 + 0x05
/-- 0x2220.06 AIN0.PairMode -/
def ainPairMode (n : Nat) : Nat := (0x2220 + n) * 256 + 0x06
/-- 0x2220.07 AIN0.PairTolerance -/
def ainPairTolerance (n : Nat) : Nat := (0x2220 + n) * 256 + 0x07
/-- 0x2220.08 AIN0.PairTime -/
def ainPairTime (n : Nat) : Nat := (0x2220 + n) * 256 + 0x08
/-- 0x2220.09 AIN0.Value -/
def ainValue (n : Nat) : Nat := (0x2220 + n) * 256 + 0x09
/-- 0x2220.0A AIN0.Raw -/
def ainRaw (n : Nat) : Nat := (0x2220 + n) * 256 + 0x0A
/-- 0x2220.0B AIN0.Enable -/
def ainEnable (n : Nat) : Nat := (0x2220 + n) * 256 + 0x0B
/-! Entries of R140 (04_control_engine). -/
/-- 0x4000.01 LawSlot[0].Order -/
def slotOrder (i : Nat) : Nat := (0x4000 + i) * 256 + 0x01
/-- 0x4000.02 LawSlot[0].Assignment -/
def slotAssignment (i : Nat) : Nat := (0x4000 + i) * 256 + 0x02
/-- 0x4000.03 … 0x4000.06 LawSlot[0].B0 … B3 -/
def slotB (i k : Nat) : Nat := (0x4000 + i) * 256 + 0x03 + k
/-- 0x4000.07 … 0x4000.09 LawSlot[0].A1 … A3 -/
def slotA (i k : Nat) : Nat := (0x4000 + i) * 256 + 0x07 + k
/-- 0x4000.0A LawSlot[0].Direction -/
def slotDirection (i : Nat) : Nat := (0x4000 + i) * 256 + 0x0A
/-- 0x4000.0B LawSlot[0].RefSource -/
def slotRefSource (i : Nat) : Nat := (0x4000 + i) * 256 + 0x0B
/-- 0x4000.0C LawSlot[0].MeasSource -/
def slotMeasSource (i : Nat) : Nat := (0x4000 + i) * 256 + 0x0C
/-- 0x4000.0D LawSlot[0].FfSource -/
def slotFfSource (i : Nat) : Nat := (0x4000 + i) * 256 + 0x0D
/-- 0x4000.0E LawSlot[0].FfGain -/
def slotFfGain (i : Nat) : Nat := (0x4000 + i) * 256 + 0x0E
/-- 0x4000.0F LawSlot[0].LimHighSource -/
def slotLimHighSource (i : Nat) : Nat := (0x4000 + i) * 256 + 0x0F
/-- 0x4000.10 LawSlot[0].LimLowSource -/
def slotLimLowSource (i : Nat) : Nat := (0x4000 + i) * 256 + 0x10
/-- 0x4000.11 LawSlot[0].LimHigh -/
def slotLimHigh (i : Nat) : Nat := (0x4000 + i) * 256 + 0x11
/-- 0x4000.12 LawSlot[0].LimLow -/
def slotLimLow (i : Nat) : Nat := (0x4000 + i) * 256 + 0x12
/-- 0x4000.13 LawSlot[0].SwapGroup -/
def slotSwapGroup (i : Nat) : Nat := (0x4000 + i) * 256 + 0x13
/-- 0x4000.14 LawSlot[0].Divider -/
def slotDivider (i : Nat) : Nat := (0x4000 + i) * 256 + 0x14
/-- 0x4000.15 LawSlot[0].Output -/
def slotOutput (i : Nat) : Nat := (0x4000 + i) * 256 + 0x15
/-- 0x4000.16 LawSlot[0].Error -/
def slotError (i : Nat) : Nat := (0x4000 + i) * 256 + 0x16
/-- 0x4000.17 LawSlot[0].Status -/
def slotStatus (i : Nat) : Nat := (0x4000 + i) * 256 + 0x17
/-- 0x4000.18 LawSlot[0].HistoryReset -/
def slotHistoryReset (i : Nat) : Nat := (0x4000 + i) * 256 + 0x18
/-! Entries of R141 (04_control_engine). -/
/-- 0x3050.01 Set0.Engine.DecouplingMode -/
def engineDecouplingMode (s : Nat) : Nat := (0x3050 + 0x800 * s) * 256 + 0x01
/-- 0x3050.02 Set0.Engine.DcNormFloor -/
def engineDcNormFloor (s : Nat) : Nat := (0x3050 + 0x800 * s) * 256 + 0x02
/-- 0x3050.03 Set0.Engine.DropLimit -/
def engineDropLimit (s : Nat) : Nat := (0x3050 + 0x800 * s) * 256 + 0x03
/-- 0x3050.04 Set0.Engine.OverrunCount -/
def engineOverrunCount (s : Nat) : Nat := (0x3050 + 0x800 * s) * 256 + 0x04
/-- 0x3050.05 Set0.Engine.LateOutputCount -/
def engineLateOutputCount (s : Nat) : Nat := (0x3050 + 0x800 * s) * 256 + 0x05
/-- 0x3050.06 Set0.Engine.DropRun -/
def engineDropRun (s : Nat) : Nat := (0x3050 + 0x800 * s) * 256 + 0x06
/-- 0x3050.07 Set0.Engine.AdvanceEnable -/
def engineAdvanceEnable (s : Nat) : Nat := (0x3050 + 0x800 * s) * 256 + 0x07
/-- 0x3050.08 Set0.Engine.AdvanceTrim -/
def engineAdvanceTrim (s : Nat) : Nat := (0x3050 + 0x800 * s) * 256 + 0x08
/-- 0x3050.09 Set0.Engine.AdvanceAngle -/
def engineAdvanceAngle (s : Nat) : Nat := (0x3050 + 0x800 * s) * 256 + 0x09
/-- 0x3050.0A Set0.Engine.AdvanceError -/
def engineAdvanceError (s : Nat) : Nat := (0x3050 + 0x800 * s) * 256 + 0x0A
/-- 0x3050.0B Set0.Engine.TailTime -/
def engineTailTime (s : Nat) : Nat := (0x3050 + 0x800 * s) * 256 + 0x0B
/-- 0x3050.0C Set0.Engine.QueueState -/
def engineQueueState (s : Nat) : Nat := (0x3050 + 0x800 * s) * 256 + 0x0C
/-- 0x3050.0D Set0.Engine.StallCount -/
def engineStallCount (s : Nat) : Nat := (0x3050 + 0x800 * s) * 256 + 0x0D
/-- 0x2120.01 Engine.ForceSwapTime -/
def engineForceSwapTime : Nat := 0x2120 * 256 + 0x01
/-- 0x2120.02 Engine.OuterDropLimit -/
def engineOuterDropLimit : Nat := 0x2120 * 256 + 0x02
/-- 0x2120.03 Engine.OuterOverrunCount -/
def engineOuterOverrunCount : Nat := 0x2120 * 256 + 0x03
/-- 0x2120.04 Engine.OuterLateOutputCount -/
def engineOuterLateOutputCount : Nat := 0x2120 * 256 + 0x04
/-- 0x2120.05 Engine.ForcedSwapCount -/
def engineForcedSwapCount : Nat := 0x2120 * 256 + 0x05
/-- 0x2121.01 SpeedFf.Inertia -/
def speedFfInertia : Nat := 0x2121 * 256 + 0x01
/-- 0x2121.02 SpeedFf.CoulombTorque -/
def speedFfCoulombTorque : Nat := 0x2121 * 256 + 0x02
/-- 0x2121.03 SpeedFf.ViscousCoeff -/
def speedFfViscousCoeff : Nat := 0x2121 * 256 + 0x03
/-- 0x2121.04 SpeedFf.FrictionBand -/
def speedFfFrictionBand : Nat := 0x2121 * 256 + 0x04
/-- 0x2121.05 SpeedFf.Torque -/
def speedFfTorque : Nat := 0x2121 * 256 + 0x05
/-! Entries of R142 (04_control_engine). -/
/-- 0x6000.01 Echo.Type -/
def echoType : Nat := 0x6000 * 256 + 0x01
/-- 0x6000.02 Echo.InjectKind -/
def echoInjectKind : Nat := 0x6000 * 256 + 0x02
/-- 0x6000.03 Echo.InjectTarget -/
def echoInjectTarget : Nat := 0x6000 * 256 + 0x03
/-- 0x6000.04 Echo.Amplitude -/
def echoAmplitude : Nat := 0x6000 * 256 + 0x04
/-- 0x6000.05 Echo.StartFreq -/
def echoStartFreq : Nat := 0x6000 * 256 + 0x05
/-- 0x6000.06 Echo.StopFreq -/
def echoStopFreq : Nat := 0x6000 * 256 + 0x06
/-- 0x6000.07 Echo.Points -/
def echoPoints : Nat := 0x6000 * 256 + 0x07
/-- 0x6000.08 Echo.SettlePeriods -/
def echoSettlePeriods : Nat := 0x6000 * 256 + 0x08
/-- 0x6000.09 Echo.MeasurePeriods -/
def echoMeasurePeriods : Nat := 0x6000 * 256 + 0x09
/-- 0x6000.0A Echo.SignalX -/
def echoSignalX : Nat := 0x6000 * 256 + 0x0A
/-- 0x6000.0B Echo.SignalY -/
def echoSignalY : Nat := 0x6000 * 256 + 0x0B
/-- 0x6000.0C Echo.PrbsOrder -/
def echoPrbsOrder : Nat := 0x6000 * 256 + 0x0C
/-- 0x6000.0D Echo.BitSamples -/
def echoBitSamples : Nat := 0x6000 * 256 + 0x0D
/-- 0x6000.0E Echo.Duration -/
def echoDuration : Nat := 0x6000 * 256 + 0x0E
/-- 0x6000.0F Echo.Start -/
def echoStart : Nat := 0x6000 * 256 + 0x0F
/-- 0x6000.10 Echo.Abort -/
def echoAbort : Nat := 0x6000 * 256 + 0x10
/-- 0x6000.11 Echo.State -/
def echoState : Nat := 0x6000 * 256 + 0x11
/-- 0x6000.12 Echo.AbortCode -/
def echoAbortCode : Nat := 0x6000 * 256 + 0x12
/-- 0x6000.13 Echo.PointIndex -/
def echoPointIndex : Nat := 0x6000 * 256 + 0x13
/-- 0x6010.01 Capture.ChannelCount -/
def captureChannelCount : Nat := 0x6010 * 256 + 0x01
/-- 0x6010.02 … 0x6010.09 Capture.Signal[1 … 8] -/
def captureSignal (k : Nat) : Nat := 0x6010 * 256 + 0x02 + k
/-- 0x6010.0A Capture.CaptureDomain -/
def captureCaptureDomain : Nat := 0x6010 * 256 + 0x0A
/-- 0x6010.0B Capture.Decimation -/
def captureDecimation : Nat := 0x6010 * 256 + 0x0B
/-- 0x6010.0C Capture.Trigger -/
def captureTrigger : Nat := 0x6010 * 256 + 0x0C
/-- 0x6010.0D Capture.TriggerLevel -/
def captureTriggerLevel : Nat := 0x6010 * 256 + 0x0D
/-- 0x6010.0E Capture.TriggerEvent -/
def captureTriggerEvent : Nat := 0x6010 * 256 + 0x0E
/-- 0x6010.0F Capture.PreTrigger -/
def capturePreTrigger : Nat := 0x6010 * 256 + 0x0F
/-- 0x6010.10 Capture.Arm -/
def captureArm : Nat := 0x6010 * 256 + 0x10
/-- 0x6010.11 Capture.State -/
def captureState : Nat := 0x6010 * 256 + 0x11
/-- 0x6010.12 Capture.Rows -/
def captureRows : Nat := 0x6010 * 256 + 0x12
/-- 0x6010.13 Capture.RowsWritten -/
def captureRowsWritten : Nat := 0x6010 * 256 + 0x13
/-- 0x6010.14 Capture.TriggerTime -/
def captureTriggerTime : Nat := 0x6010 * 256 + 0x14
/-- 0x6010.15 Capture.Buffer -/
def captureBuffer : Nat := 0x6010 * 256 + 0x15
/-- 0x6020.01 Echo.ResponseTable -/
def echoResponseTable : Nat := 0x6020 * 256 + 0x01
/-- 0x6020.02 Echo.ValidPoints -/
def echoValidPoints : Nat := 0x6020 * 256 + 0x02
/-! Entries of R182 (05_machine_control). -/
/-- 0x2130.01 Topology -/
def topology : Nat := 0x2130 * 256 + 0x01
/-- 0x2130.02 XyVoltageShare -/
def xyVoltageShare : Nat := 0x2130 * 256 + 0x02
/-- 0x3060.01 Set0.Machine.MachineType -/
def machineMachineType (s : Nat) : Nat := (0x3060 + 0x800 * s) * 256 + 0x01
/-- 0x3060.02 Set0.Machine.PolePairs -/
def machinePolePairs (s : Nat) : Nat := (0x3060 + 0x800 * s) * 256 + 0x02
/-- 0x3060.03 Set0.Machine.RatedSpeed -/
def machineRatedSpeed (s : Nat) : Nat := (0x3060 + 0x800 * s) * 256 + 0x03
/-- 0x3060.04 Set0.Machine.RatedTorque -/
def machineRatedTorque (s : Nat) : Nat := (0x3060 + 0x800 * s) * 256 + 0x04
/-- 0x3060.05 Set0.Machine.RatedCurrent -/
def machineRatedCurrent (s : Nat) : Nat := (0x3060 + 0x800 * s) * 256 + 0x05
/-- 0x3060.06 Set0.Machine.CurrentLimit -/
def machineCurrentLimit (s : Nat) : Nat := (0x3060 + 0x800 * s) * 256 + 0x06
/-- 0x3060.07 Set0.Machine.Rs -/
def machineRs (s : Nat) : Nat := (0x3060 + 0x800 * s) * 256 + 0x07
/-- 0x3060.08 Set0.Machine.Ld -/
def machineLd (s : Nat) : Nat := (0x3060 + 0x800 * s) * 256 + 0x08
/-- 0x3060.09 Set0.Machine.Lq -/
def machineLq (s : Nat) : Nat := (0x3060 + 0x800 * s) * 256 + 0x09
/-- 0x3060.0A Set0.Machine.PsiPM -/
def machinePsiPM (s : Nat) : Nat := (0x3060 + 0x800 * s) * 256 + 0x0A
/-- 0x3060.0B Set0.Machine.Ls -/
def machineLs (s : Nat) : Nat := (0x3060 + 0x800 * s) * 256 + 0x0B
/-- 0x3060.0C Set0.Machine.Lm -/
def machineLm (s : Nat) : Nat := (0x3060 + 0x800 * s) * 256 + 0x0C
/-- 0x3060.0D Set0.Machine.Lr -/
def machineLr (s : Nat) : Nat := (0x3060 + 0x800 * s) * 256 + 0x0D
/-- 0x3060.0E Set0.Machine.Rr -/
def machineRr (s : Nat) : Nat := (0x3060 + 0x800 * s) * 256 + 0x0E
/-- 0x3060.0F Set0.Machine.NominalFlux -/
def machineNominalFlux (s : Nat) : Nat := (0x3060 + 0x800 * s) * 256 + 0x0F
/-- 0x3060.10 Set0.Machine.ShaftInertia -/
def machineShaftInertia (s : Nat) : Nat := (0x3060 + 0x800 * s) * 256 + 0x10
/-- 0x3061.01 Set0.Mtpa.Points -/
def mtpaPoints (s : Nat) : Nat := (0x3061 + 0x800 * s) * 256 + 0x01
/-- 0x3061.02 Set0.Mtpa.Table -/
def mtpaTable (s : Nat) : Nat := (0x3061 + 0x800 * s) * 256 + 0x02
/-- 0x3062.01 Set0.Role.CurrentD -/
def roleCurrentD (s : Nat) : Nat := (0x3062 + 0x800 * s) * 256 + 0x01
/-- 0x3062.02 Set0.Role.CurrentQ -/
def roleCurrentQ (s : Nat) : Nat := (0x3062 + 0x800 * s) * 256 + 0x02
/-- 0x3062.03 Set0.Role.FieldWeakening -/
def roleFieldWeakening (s : Nat) : Nat := (0x3062 + 0x800 * s) * 256 + 0x03
/-- 0x3062.04 Set0.Role.Flux -/
def roleFlux (s : Nat) : Nat := (0x3062 + 0x800 * s) * 256 + 0x04
/-- 0x3062.05 Set0.Role.CurrentX -/
def roleCurrentX (s : Nat) : Nat := (0x3062 + 0x800 * s) * 256 + 0x05
/-- 0x3062.06 Set0.Role.CurrentY -/
def roleCurrentY (s : Nat) : Nat := (0x3062 + 0x800 * s) * 256 + 0x06
/-- 0x3063.01 Set0.Fw.VoltageRatio -/
def fwVoltageRatio (s : Nat) : Nat := (0x3063 + 0x800 * s) * 256 + 0x01
/-- 0x3063.02 Set0.Fw.FluxFloor -/
def fwFluxFloor (s : Nat) : Nat := (0x3063 + 0x800 * s) * 256 + 0x02
/-- 0x3070.01 Set0.Mod.Method -/
def modMethod (s : Nat) : Nat := (0x3070 + 0x800 * s) * 256 + 0x01
/-- 0x3070.02 Set0.Mod.OvermodLimit -/
def modOvermodLimit (s : Nat) : Nat := (0x3070 + 0x800 * s) * 256 + 0x02
/-- 0x3070.03 Set0.Mod.DpwmMinIndex -/
def modDpwmMinIndex (s : Nat) : Nat := (0x3070 + 0x800 * s) * 256 + 0x03
/-- 0x3070.04 Set0.Mod.Index -/
def modIndex (s : Nat) : Nat := (0x3070 + 0x800 * s) * 256 + 0x04
/-- 0x3070.05 Set0.Mod.NarrowPulseClampCount -/
def modNarrowPulseClampCount (s : Nat) : Nat := (0x3070 + 0x800 * s) * 256 + 0x05
/-- 0x3070.06 Set0.Mod.NpBalanceGain -/
def modNpBalanceGain (s : Nat) : Nat := (0x3070 + 0x800 * s) * 256 + 0x06
/-- 0x3070.07 Set0.Mod.NpDeviationLimit -/
def modNpDeviationLimit (s : Nat) : Nat := (0x3070 + 0x800 * s) * 256 + 0x07
/-- 0x3070.08 Set0.Mod.NpDeviation -/
def modNpDeviation (s : Nat) : Nat := (0x3070 + 0x800 * s) * 256 + 0x08
/-- 0x3070.09 Set0.Mod.PreClipGain -/
def modPreClipGain (s : Nat) : Nat := (0x3070 + 0x800 * s) * 256 + 0x09
/-- 0x3080.01 Set0.Obs.PositionSource -/
def obsPositionSource (s : Nat) : Nat := (0x3080 + 0x800 * s) * 256 + 0x01
/-- 0x3080.02 Set0.Obs.EncoderOffset -/
def obsEncoderOffset (s : Nat) : Nat := (0x3080 + 0x800 * s) * 256 + 0x02
/-- 0x3080.03 Set0.Obs.PllBandwidth -/
def obsPllBandwidth (s : Nat) : Nat := (0x3080 + 0x800 * s) * 256 + 0x03
/-- 0x3080.04 Set0.Obs.ObserverMinSpeed -/
def obsObserverMinSpeed (s : Nat) : Nat := (0x3080 + 0x800 * s) * 256 + 0x04
/-- 0x3080.05 Set0.Obs.HfiEnable -/
def obsHfiEnable (s : Nat) : Nat := (0x3080 + 0x800 * s) * 256 + 0x05
/-- 0x3080.06 Set0.Obs.HfiVoltage -/
def obsHfiVoltage (s : Nat) : Nat := (0x3080 + 0x800 * s) * 256 + 0x06
/-- 0x3080.07 Set0.Obs.HfiExitSpeed -/
def obsHfiExitSpeed (s : Nat) : Nat := (0x3080 + 0x800 * s) * 256 + 0x07
/-- 0x3080.08 Set0.Obs.IfCurrent -/
def obsIfCurrent (s : Nat) : Nat := (0x3080 + 0x800 * s) * 256 + 0x08
/-- 0x3080.09 Set0.Obs.BlendStart -/
def obsBlendStart (s : Nat) : Nat := (0x3080 + 0x800 * s) * 256 + 0x09
/-- 0x3080.0A Set0.Obs.BlendBand -/
def obsBlendBand (s : Nat) : Nat := (0x3080 + 0x800 * s) * 256 + 0x0A
/-- 0x3080.0B Set0.Obs.ActiveSource -/
def obsActiveSource (s : Nat) : Nat := (0x3080 + 0x800 * s) * 256 + 0x0B
/-- 0x3080.0C Set0.Obs.ObserverSpeed -/
def obsObserverSpeed (s : Nat) : Nat := (0x3080 + 0x800 * s) * 256 + 0x0C
/-- 0x3080.0D Set0.Obs.FluxEstimate -/
def obsFluxEstimate (s : Nat) : Nat := (0x3080 + 0x800 * s) * 256 + 0x0D
/-- 0x3080.0E Set0.Obs.AngleDisagreement -/
def obsAngleDisagreement (s : Nat) : Nat := (0x3080 + 0x800 * s) * 256 + 0x0E
/-- 0x3090.01 Set0.Los.AlphaMargin -/
def losAlphaMargin (s : Nat) : Nat := (0x3090 + 0x800 * s) * 256 + 0x01
/-- 0x3090.02 Set0.Los.FluxLow -/
def losFluxLow (s : Nat) : Nat := (0x3090 + 0x800 * s) * 256 + 0x02
/-- 0x3090.03 Set0.Los.FluxHigh -/
def losFluxHigh (s : Nat) : Nat := (0x3090 + 0x800 * s) * 256 + 0x03
/-- 0x3090.04 Set0.Los.FluxTime -/
def losFluxTime (s : Nat) : Nat := (0x3090 + 0x800 * s) * 256 + 0x04
/-- 0x3090.05 Set0.Los.ResidualLimit -/
def losResidualLimit (s : Nat) : Nat := (0x3090 + 0x800 * s) * 256 + 0x05
/-- 0x3090.06 Set0.Los.ResidualCount -/
def losResidualCount (s : Nat) : Nat := (0x3090 + 0x800 * s) * 256 + 0x06
/-- 0x3090.07 Set0.Los.AngleLimit -/
def losAngleLimit (s : Nat) : Nat := (0x3090 + 0x800 * s) * 256 + 0x07
/-- 0x3090.08 Set0.Los.ReacquireTime -/
def losReacquireTime (s : Nat) : Nat := (0x3090 + 0x800 * s) * 256 + 0x08
/-- 0x3090.09 Set0.Los.TorqueRestoreTime -/
def losTorqueRestoreTime (s : Nat) : Nat := (0x3090 + 0x800 * s) * 256 + 0x09
/-- 0x3090.0A Set0.Los.AscExitRatio -/
def losAscExitRatio (s : Nat) : Nat := (0x3090 + 0x800 * s) * 256 + 0x0A
/-- 0x3090.0B Set0.Los.LosCount -/
def losLosCount (s : Nat) : Nat := (0x3090 + 0x800 * s) * 256 + 0x0B
/-- 0x3090.0C Set0.Los.LastCriterion -/
def losLastCriterion (s : Nat) : Nat := (0x3090 + 0x800 * s) * 256 + 0x0C
/-- 0x3090.0D Set0.Los.State -/
def losState (s : Nat) : Nat := (0x3090 + 0x800 * s) * 256 + 0x0D
/-- 0x30A0.01 Set0.Start.StandstillSpeed -/
def startStandstillSpeed (s : Nat) : Nat := (0x30A0 + 0x800 * s) * 256 + 0x01
/-- 0x30A0.02 Set0.Start.MaxCatchSpeed -/
def startMaxCatchSpeed (s : Nat) : Nat := (0x30A0 + 0x800 * s) * 256 + 0x02
/-- 0x30A0.03 Set0.Start.ReverseCatchLimit -/
def startReverseCatchLimit (s : Nat) : Nat := (0x30A0 + 0x800 * s) * 256 + 0x03
/-- 0x30A0.04 Set0.Start.ReverseAction -/
def startReverseAction (s : Nat) : Nat := (0x30A0 + 0x800 * s) * 256 + 0x04
/-- 0x30A0.05 Set0.Start.RemeasurePeriod -/
def startRemeasurePeriod (s : Nat) : Nat := (0x30A0 + 0x800 * s) * 256 + 0x05
/-- 0x30A0.06 Set0.Start.StartWaitTime -/
def startStartWaitTime (s : Nat) : Nat := (0x30A0 + 0x800 * s) * 256 + 0x06
/-- 0x30A0.07 Set0.Start.ProbeCurrent -/
def startProbeCurrent (s : Nat) : Nat := (0x30A0 + 0x800 * s) * 256 + 0x07
/-- 0x30A0.08 Set0.Start.ProbeTime -/
def startProbeTime (s : Nat) : Nat := (0x30A0 + 0x800 * s) * 256 + 0x08
/-- 0x30A0.09 Set0.Start.SpeedMismatchLimit -/
def startSpeedMismatchLimit (s : Nat) : Nat := (0x30A0 + 0x800 * s) * 256 + 0x09
/-- 0x30A0.0A Set0.Start.CatchRampTime -/
def startCatchRampTime (s : Nat) : Nat := (0x30A0 + 0x800 * s) * 256 + 0x0A
/-- 0x30A0.0B Set0.Start.FluxBuildTime -/
def startFluxBuildTime (s : Nat) : Nat := (0x30A0 + 0x800 * s) * 256 + 0x0B
/-- 0x30A0.0C Set0.Start.StartStatus -/
def startStartStatus (s : Nat) : Nat := (0x30A0 + 0x800 * s) * 256 + 0x0C
/-- 0x30A0.0D Set0.Start.MeasuredSpeed -/
def startMeasuredSpeed (s : Nat) : Nat := (0x30A0 + 0x800 * s) * 256 + 0x0D
/-! Entries of R218 (06_drive_modes). -/
/-- 0x4800.01 Drive0.Mode -/
def mode (d : Nat) : Nat := (0x4800 + 0x100 * d) * 256 + 0x01
/-- 0x4800.02 Drive0.Application -/
def application (d : Nat) : Nat := (0x4800 + 0x100 * d) * 256 + 0x02
/-- 0x4800.03 Drive0.Command -/
def command (d : Nat) : Nat := (0x4800 + 0x100 * d) * 256 + 0x03
/-- 0x4800.04 Drive0.State -/
def state (d : Nat) : Nat := (0x4800 + 0x100 * d) * 256 + 0x04
/-- 0x4801.01 Drive0.Ref.ReferenceSource -/
def refReferenceSource (d : Nat) : Nat := (0x4801 + 0x100 * d) * 256 + 0x01
/-- 0x4801.02 Drive0.Ref.NetReference -/
def refNetReference (d : Nat) : Nat := (0x4801 + 0x100 * d) * 256 + 0x02
/-- 0x4801.03 Drive0.Ref.LeverPair -/
def refLeverPair (d : Nat) : Nat := (0x4801 + 0x100 * d) * 256 + 0x03
/-- 0x4801.04 Drive0.Ref.LeverFullScale -/
def refLeverFullScale (d : Nat) : Nat := (0x4801 + 0x100 * d) * 256 + 0x04
/-- 0x4801.05 Drive0.Ref.NeutralBand -/
def refNeutralBand (d : Nat) : Nat := (0x4801 + 0x100 * d) * 256 + 0x05
/-- 0x4801.06 Drive0.Ref.NeutralTime -/
def refNeutralTime (d : Nat) : Nat := (0x4801 + 0x100 * d) * 256 + 0x06
/-- 0x4801.07 Drive0.Ref.RefTimeout -/
def refRefTimeout (d : Nat) : Nat := (0x4801 + 0x100 * d) * 256 + 0x07
/-- 0x4801.08 Drive0.Ref.SpeedRampUp -/
def refSpeedRampUp (d : Nat) : Nat := (0x4801 + 0x100 * d) * 256 + 0x08
/-- 0x4801.09 Drive0.Ref.SpeedRampDown -/
def refSpeedRampDown (d : Nat) : Nat := (0x4801 + 0x100 * d) * 256 + 0x09
/-- 0x4801.0A Drive0.Ref.TorqueModeSpeedLimit -/
def refTorqueModeSpeedLimit (d : Nat) : Nat := (0x4801 + 0x100 * d) * 256 + 0x0A
/-- 0x4801.0B Drive0.Ref.ReferenceStatus -/
def refReferenceStatus (d : Nat) : Nat := (0x4801 + 0x100 * d) * 256 + 0x0B
/-- 0x4801.0C Drive0.Ref.TensionRamp -/
def refTensionRamp (d : Nat) : Nat := (0x4801 + 0x100 * d) * 256 + 0x0C
/-- 0x4802.01 … 0x4802.04 Drive0.Role.Speed, Tension, Position, Regeneration -/
def roleSpeed (d : Nat) : Nat := (0x4802 + 0x100 * d) * 256 + 0x01
/-- 0x4802.01 … 0x4802.04 Drive0.Role.Speed, Tension, Position, Regeneration -/
def roleTension (d : Nat) : Nat := (0x4802 + 0x100 * d) * 256 + 0x02
/-- 0x4802.01 … 0x4802.04 Drive0.Role.Speed, Tension, Position, Regeneration -/
def rolePosition (d : Nat) : Nat := (0x4802 + 0x100 * d) * 256 + 0x03
/-- 0x4802.01 … 0x4802.04 Drive0.Role.Speed, Tension, Position, Regeneration -/
def roleRegeneration (d : Nat) : Nat := (0x4802 + 0x100 * d) * 256 + 0x04
/-- 0x4810.01 Drive0.Power.HeldTokens -/
def powerHeldTokens (d : Nat) : Nat := (0x4810 + 0x100 * d) * 256 + 0x01
/-- 0x4810.02 Drive0.Power.Limit -/
def powerLimit (d : Nat) : Nat := (0x4810 + 0x100 * d) * 256 + 0x02
/-- 0x4810.03 Drive0.Power.Measured -/
def powerMeasured (d : Nat) : Nat := (0x4810 + 0x100 * d) * 256 + 0x03
/-- 0x4810.04 Drive0.Power.PhaseBackCount -/
def powerPhaseBackCount (d : Nat) : Nat := (0x4810 + 0x100 * d) * 256 + 0x04
/-- 0x4810.05 Drive0.Power.AckTimeout -/
def powerAckTimeout (d : Nat) : Nat := (0x4810 + 0x100 * d) * 256 + 0x05
/-- 0x4820.01 Drive0.Winch.GearRatio -/
def winchGearRatio (d : Nat) : Nat := (0x4820 + 0x100 * d) * 256 + 0x01
/-- 0x4820.02 Drive0.Winch.DrumCoreDiameter -/
def winchDrumCoreDiameter (d : Nat) : Nat := (0x4820 + 0x100 * d) * 256 + 0x02
/-- 0x4820.03 Drive0.Winch.RopeDiameter -/
def winchRopeDiameter (d : Nat) : Nat := (0x4820 + 0x100 * d) * 256 + 0x03
/-- 0x4820.04 Drive0.Winch.WrapsPerLayer -/
def winchWrapsPerLayer (d : Nat) : Nat := (0x4820 + 0x100 * d) * 256 + 0x04
/-- 0x4820.05 Drive0.Winch.WrapsFull -/
def winchWrapsFull (d : Nat) : Nat := (0x4820 + 0x100 * d) * 256 + 0x05
/-- 0x4820.06 Drive0.Winch.WrapsSet -/
def winchWrapsSet (d : Nat) : Nat := (0x4820 + 0x100 * d) * 256 + 0x06
/-- 0x4820.07 Drive0.Winch.PayoutLength -/
def winchPayoutLength (d : Nat) : Nat := (0x4820 + 0x100 * d) * 256 + 0x07
/-- 0x4820.08 Drive0.Winch.Layer -/
def winchLayer (d : Nat) : Nat := (0x4820 + 0x100 * d) * 256 + 0x08
/-- 0x4820.09 Drive0.Winch.EffectiveRadius -/
def winchEffectiveRadius (d : Nat) : Nat := (0x4820 + 0x100 * d) * 256 + 0x09
/-- 0x4820.0A Drive0.Winch.PayoutValid -/
def winchPayoutValid (d : Nat) : Nat := (0x4820 + 0x100 * d) * 256 + 0x0A
/-- 0x4820.0B Drive0.Winch.Wraps -/
def winchWraps (d : Nat) : Nat := (0x4820 + 0x100 * d) * 256 + 0x0B
/-- 0x4821.01 Drive0.Tension.Source -/
def tensionSource (d : Nat) : Nat := (0x4821 + 0x100 * d) * 256 + 0x01
/-- 0x4821.02 Drive0.Tension.Ain -/
def tensionAin (d : Nat) : Nat := (0x4821 + 0x100 * d) * 256 + 0x02
/-- 0x4821.03 Drive0.Tension.RenderTension -/
def tensionRenderTension (d : Nat) : Nat := (0x4821 + 0x100 * d) * 256 + 0x03
/-- 0x4821.04 Drive0.Tension.RenderSpeedMax -/
def tensionRenderSpeedMax (d : Nat) : Nat := (0x4821 + 0x100 * d) * 256 + 0x04
/-- 0x4821.05 Drive0.Tension.RenderStiffness -/
def tensionRenderStiffness (d : Nat) : Nat := (0x4821 + 0x100 * d) * 256 + 0x05
/-- 0x4821.06 Drive0.Tension.ShockRate -/
def tensionShockRate (d : Nat) : Nat := (0x4821 + 0x100 * d) * 256 + 0x06
/-- 0x4821.07 Drive0.Tension.ShockWindow -/
def tensionShockWindow (d : Nat) : Nat := (0x4821 + 0x100 * d) * 256 + 0x07
/-- 0x4821.08 Drive0.Tension.ShockArmFraction -/
def tensionShockArmFraction (d : Nat) : Nat := (0x4821 + 0x100 * d) * 256 + 0x08
/-- 0x4821.09 Drive0.Tension.ShockTorqueFraction -/
def tensionShockTorqueFraction (d : Nat) : Nat := (0x4821 + 0x100 * d) * 256 + 0x09
/-- 0x4821.0A Drive0.Tension.ShockHoldTime -/
def tensionShockHoldTime (d : Nat) : Nat := (0x4821 + 0x100 * d) * 256 + 0x0A
/-- 0x4821.0B Drive0.Tension.ShockRecoverTime -/
def tensionShockRecoverTime (d : Nat) : Nat := (0x4821 + 0x100 * d) * 256 + 0x0B
/-- 0x4821.0C Drive0.Tension.TensionMax -/
def tensionTensionMax (d : Nat) : Nat := (0x4821 + 0x100 * d) * 256 + 0x0C
/-- 0x4821.0D Drive0.Tension.Measured -/
def tensionMeasured (d : Nat) : Nat := (0x4821 + 0x100 * d) * 256 + 0x0D
/-- 0x4821.0E Drive0.Tension.RenderActive -/
def tensionRenderActive (d : Nat) : Nat := (0x4821 + 0x100 * d) * 256 + 0x0E
/-- 0x4822.01 Drive0.Payout.Min -/
def payoutMin (d : Nat) : Nat := (0x4822 + 0x100 * d) * 256 + 0x01
/-- 0x4822.02 Drive0.Payout.Max -/
def payoutMax (d : Nat) : Nat := (0x4822 + 0x100 * d) * 256 + 0x02
/-- 0x4822.03 Drive0.Payout.SpeedMax -/
def payoutSpeedMax (d : Nat) : Nat := (0x4822 + 0x100 * d) * 256 + 0x03
/-- 0x4830.01 Drive0.Heave.MotionTime -/
def heaveMotionTime (d : Nat) : Nat := (0x4830 + 0x100 * d) * 256 + 0x01
/-- 0x4830.02 … 0x4830.04 Drive0.Heave.MotionPosition, Velocity, Acceleration -/
def heaveMotionPosition (d : Nat) : Nat := (0x4830 + 0x100 * d) * 256 + 0x02
/-- 0x4830.02 … 0x4830.04 Drive0.Heave.MotionPosition, Velocity, Acceleration -/
def heaveMotionVelocity (d : Nat) : Nat := (0x4830 + 0x100 * d) * 256 + 0x03
/-- 0x4830.02 … 0x4830.04 Drive0.Heave.MotionPosition, Velocity, Acceleration -/
def heaveMotionAcceleration (d : Nat) : Nat := (0x4830 + 0x100 * d) * 256 + 0x04
/-- 0x4830.05 Drive0.Heave.MotionSequence -/
def heaveMotionSequence (d : Nat) : Nat := (0x4830 + 0x100 * d) * 256 + 0x05
/-- 0x4830.06 Drive0.Heave.Lead -/
def heaveLead (d : Nat) : Nat := (0x4830 + 0x100 * d) * 256 + 0x06
/-- 0x4830.07 Drive0.Heave.MaxAge -/
def heaveMaxAge (d : Nat) : Nat := (0x4830 + 0x100 * d) * 256 + 0x07
/-- 0x4830.08 Drive0.Heave.FadeTime -/
def heaveFadeTime (d : Nat) : Nat := (0x4830 + 0x100 * d) * 256 + 0x08
/-- 0x4830.09 Drive0.Heave.Gain -/
def heaveGain (d : Nat) : Nat := (0x4830 + 0x100 * d) * 256 + 0x09
/-- 0x4830.0A Drive0.Heave.Status -/
def heaveStatus (d : Nat) : Nat := (0x4830 + 0x100 * d) * 256 + 0x0A
/-- 0x4840.01 Drive0.Share.Mode -/
def shareMode (d : Nat) : Nat := (0x4840 + 0x100 * d) * 256 + 0x01
/-- 0x4840.02 Drive0.Share.Weight0 -/
def shareWeight0 (d : Nat) : Nat := (0x4840 + 0x100 * d) * 256 + 0x02
/-- 0x4840.03 Drive0.Limp.Enable -/
def limpEnable (d : Nat) : Nat := (0x4840 + 0x100 * d) * 256 + 0x03
/-- 0x4840.04 Drive0.Limp.TorqueLimit -/
def limpTorqueLimit (d : Nat) : Nat := (0x4840 + 0x100 * d) * 256 + 0x04
/-- 0x4850.01 Drive0.QR.Input -/
def qrInput (d : Nat) : Nat := (0x4850 + 0x100 * d) * 256 + 0x01
/-- 0x4850.02 Drive0.QR.Speed -/
def qrSpeed (d : Nat) : Nat := (0x4850 + 0x100 * d) * 256 + 0x02
/-- 0x4850.03 Drive0.QR.Accel -/
def qrAccel (d : Nat) : Nat := (0x4850 + 0x100 * d) * 256 + 0x03
/-- 0x4850.04 Drive0.QR.MaxTension -/
def qrMaxTension (d : Nat) : Nat := (0x4850 + 0x100 * d) * 256 + 0x04
/-- 0x4850.05 Drive0.QR.PayoutTorque -/
def qrPayoutTorque (d : Nat) : Nat := (0x4850 + 0x100 * d) * 256 + 0x05
/-- 0x4850.06 Drive0.QR.Fallback -/
def qrFallback (d : Nat) : Nat := (0x4850 + 0x100 * d) * 256 + 0x06
/-- 0x4850.07 Drive0.QR.State -/
def qrState (d : Nat) : Nat := (0x4850 + 0x100 * d) * 256 + 0x07
/-- 0x4860.01 Drive0.Regen.DcLimit -/
def regenDcLimit (d : Nat) : Nat := (0x4860 + 0x100 * d) * 256 + 0x01
/-- 0x4860.02 Drive0.Regen.ShortfallTime -/
def regenShortfallTime (d : Nat) : Nat := (0x4860 + 0x100 * d) * 256 + 0x02
/-- 0x4860.03 Drive0.Chop.OnVoltage -/
def chopOnVoltage (d : Nat) : Nat := (0x4860 + 0x100 * d) * 256 + 0x03
/-- 0x4860.04 Drive0.Chop.OffVoltage -/
def chopOffVoltage (d : Nat) : Nat := (0x4860 + 0x100 * d) * 256 + 0x04
/-- 0x4860.05 Drive0.Chop.Source -/
def chopSource (d : Nat) : Nat := (0x4860 + 0x100 * d) * 256 + 0x05
/-- 0x4860.06 Drive0.Chop.Resistance -/
def chopResistance (d : Nat) : Nat := (0x4860 + 0x100 * d) * 256 + 0x06
/-- 0x4860.07 Drive0.Chop.EnergyLimit -/
def chopEnergyLimit (d : Nat) : Nat := (0x4860 + 0x100 * d) * 256 + 0x07
/-- 0x4860.08 Drive0.Chop.CoolTime -/
def chopCoolTime (d : Nat) : Nat := (0x4860 + 0x100 * d) * 256 + 0x08
/-- 0x4860.09 Drive0.Chop.Energy -/
def chopEnergy (d : Nat) : Nat := (0x4860 + 0x100 * d) * 256 + 0x09
/-- 0x4860.0A Drive0.Chop.State -/
def chopState (d : Nat) : Nat := (0x4860 + 0x100 * d) * 256 + 0x0A
/-! Entries of R258 (07_gate_channels). -/
/-- 0x3100.01 G0.On.N1 -/
def gOnN1 (c : Nat) : Nat := (0x3100 + c + (if c < 6 then 0 else 0x7FA)) * 256 + 0x01
/-- 0x3100.02 G0.On.T1 -/
def gOnT1 (c : Nat) : Nat := (0x3100 + c + (if c < 6 then 0 else 0x7FA)) * 256 + 0x02
/-- 0x3100.03 G0.On.N2 -/
def gOnN2 (c : Nat) : Nat := (0x3100 + c + (if c < 6 then 0 else 0x7FA)) * 256 + 0x03
/-- 0x3100.04 G0.Off.N1 -/
def gOffN1 (c : Nat) : Nat := (0x3100 + c + (if c < 6 then 0 else 0x7FA)) * 256 + 0x04
/-- 0x3100.05 G0.Off.T1 -/
def gOffT1 (c : Nat) : Nat := (0x3100 + c + (if c < 6 then 0 else 0x7FA)) * 256 + 0x05
/-- 0x3100.06 G0.Off.N2 -/
def gOffN2 (c : Nat) : Nat := (0x3100 + c + (if c < 6 then 0 else 0x7FA)) * 256 + 0x06
/-- 0x3100.07 G0.Adapt.Mode -/
def gAdaptMode (c : Nat) : Nat := (0x3100 + c + (if c < 6 then 0 else 0x7FA)) * 256 + 0x07
/-- 0x3100.08 G0.Adapt.TargetOn -/
def gAdaptTargetOn (c : Nat) : Nat := (0x3100 + c + (if c < 6 then 0 else 0x7FA)) * 256 + 0x08
/-- 0x3100.09 G0.Adapt.TargetOff -/
def gAdaptTargetOff (c : Nat) : Nat := (0x3100 + c + (if c < 6 then 0 else 0x7FA)) * 256 + 0x09
/-- 0x3100.0A G0.Adapt.Deadband -/
def gAdaptDeadband (c : Nat) : Nat := (0x3100 + c + (if c < 6 then 0 else 0x7FA)) * 256 + 0x0A
/-- 0x3100.0B G0.Adapt.N1Min -/
def gAdaptN1Min (c : Nat) : Nat := (0x3100 + c + (if c < 6 then 0 else 0x7FA)) * 256 + 0x0B
/-- 0x3100.0C G0.Adapt.N1Max -/
def gAdaptN1Max (c : Nat) : Nat := (0x3100 + c + (if c < 6 then 0 else 0x7FA)) * 256 + 0x0C
/-- 0x3100.0D G0.Adapt.T1Min -/
def gAdaptT1Min (c : Nat) : Nat := (0x3100 + c + (if c < 6 then 0 else 0x7FA)) * 256 + 0x0D
/-- 0x3100.0E G0.Adapt.T1Max -/
def gAdaptT1Max (c : Nat) : Nat := (0x3100 + c + (if c < 6 then 0 else 0x7FA)) * 256 + 0x0E
/-- 0x3100.0F G0.Adapt.MinPeak -/
def gAdaptMinPeak (c : Nat) : Nat := (0x3100 + c + (if c < 6 then 0 else 0x7FA)) * 256 + 0x0F
/-- 0x3100.10 G0.Sc.StrayInductance -/
def gScStrayInductance (c : Nat) : Nat := (0x3100 + c + (if c < 6 then 0 else 0x7FA)) * 256 + 0x10
/-- 0x3100.11 G0.Sc.DiDtLimit -/
def gScDiDtLimit (c : Nat) : Nat := (0x3100 + c + (if c < 6 then 0 else 0x7FA)) * 256 + 0x11
/-- 0x3100.12 G0.Sc.DiDtLimitRamp -/
def gScDiDtLimitRamp (c : Nat) : Nat := (0x3100 + c + (if c < 6 then 0 else 0x7FA)) * 256 + 0x12
/-- 0x3100.13 G0.Sc.RampWindow -/
def gScRampWindow (c : Nat) : Nat := (0x3100 + c + (if c < 6 then 0 else 0x7FA)) * 256 + 0x13
/-- 0x3100.14 G0.Sc.CurrentLimit -/
def gScCurrentLimit (c : Nat) : Nat := (0x3100 + c + (if c < 6 then 0 else 0x7FA)) * 256 + 0x14
/-- 0x3100.15 G0.Sc.IntegratorLeak -/
def gScIntegratorLeak (c : Nat) : Nat := (0x3100 + c + (if c < 6 then 0 else 0x7FA)) * 256 + 0x15
/-- 0x3100.16 G0.Sense.DiodeDrop -/
def gSenseDiodeDrop (c : Nat) : Nat := (0x3100 + c + (if c < 6 then 0 else 0x7FA)) * 256 + 0x16
/-- 0x3100.17 G0.Sense.Resistance -/
def gSenseResistance (c : Nat) : Nat := (0x3100 + c + (if c < 6 then 0 else 0x7FA)) * 256 + 0x17
/-- 0x3100.18 G0.Uvlo.PosThreshold -/
def gUvloPosThreshold (c : Nat) : Nat := (0x3100 + c + (if c < 6 then 0 else 0x7FA)) * 256 + 0x18
/-- 0x3100.19 G0.Uvlo.NegRail -/
def gUvloNegRail (c : Nat) : Nat := (0x3100 + c + (if c < 6 then 0 else 0x7FA)) * 256 + 0x19
/-- 0x3100.1A G0.Status -/
def gStatus (c : Nat) : Nat := (0x3100 + c + (if c < 6 then 0 else 0x7FA)) * 256 + 0x1A
/-- 0x3100.1B G0.LiveOnN1 -/
def gLiveOnN1 (c : Nat) : Nat := (0x3100 + c + (if c < 6 then 0 else 0x7FA)) * 256 + 0x1B
/-- 0x3100.1C G0.LiveOnT1 -/
def gLiveOnT1 (c : Nat) : Nat := (0x3100 + c + (if c < 6 then 0 else 0x7FA)) * 256 + 0x1C
/-- 0x3100.1D G0.LiveOffN1 -/
def gLiveOffN1 (c : Nat) : Nat := (0x3100 + c + (if c < 6 then 0 else 0x7FA)) * 256 + 0x1D
/-- 0x3100.1E G0.LiveOffT1 -/
def gLiveOffT1 (c : Nat) : Nat := (0x3100 + c + (if c < 6 then 0 else 0x7FA)) * 256 + 0x1E
/-- 0x3100.1F G0.LastOnTime -/
def gLastOnTime (c : Nat) : Nat := (0x3100 + c + (if c < 6 then 0 else 0x7FA)) * 256 + 0x1F
/-- 0x3100.20 G0.LastOffTime -/
def gLastOffTime (c : Nat) : Nat := (0x3100 + c + (if c < 6 then 0 else 0x7FA)) * 256 + 0x20
/-- 0x3100.21 G0.AdaptLimitCount -/
def gAdaptLimitCount (c : Nat) : Nat := (0x3100 + c + (if c < 6 then 0 else 0x7FA)) * 256 + 0x21
/-- 0x3100.22 G0.OffConfirmLateCount -/
def gOffConfirmLateCount (c : Nat) : Nat := (0x3100 + c + (if c < 6 then 0 else 0x7FA)) * 256 + 0x22
/-- 0x3100.23 G0.ScTripLifetime -/
def gScTripLifetime (c : Nat) : Nat := (0x3100 + c + (if c < 6 then 0 else 0x7FA)) * 256 + 0x23
/-- 0x3100.24 G0.DieTemp -/
def gDieTemp (c : Nat) : Nat := (0x3100 + c + (if c < 6 then 0 else 0x7FA)) * 256 + 0x24
/-- 0x3100.25 G0.SwitchTemp -/
def gSwitchTemp (c : Nat) : Nat := (0x3100 + c + (if c < 6 then 0 else 0x7FA)) * 256 + 0x25
/-- 0x3100.26 G0.FaultCause -/
def gFaultCause (c : Nat) : Nat := (0x3100 + c + (if c < 6 then 0 else 0x7FA)) * 256 + 0x26
/-! Entries of R259 (07_gate_channels). -/
/-- 0x3110.01 Set0.Gate.CommandMode -/
def gateCommandMode (s : Nat) : Nat := (0x3110 + 0x800 * s) * 256 + 0x01
/-- 0x3110.02 Set0.Gate.DirectEnable -/
def gateDirectEnable (s : Nat) : Nat := (0x3110 + 0x800 * s) * 256 + 0x02
/-- 0x3110.03 Set0.Gate.Retry.Wait -/
def gateRetryWait (s : Nat) : Nat := (0x3110 + 0x800 * s) * 256 + 0x03
/-- 0x3110.04 Set0.Gate.Retry.Count -/
def gateRetryCount (s : Nat) : Nat := (0x3110 + 0x800 * s) * 256 + 0x04
/-- 0x3110.05 Set0.Gate.Retry.ScCount -/
def gateRetryScCount (s : Nat) : Nat := (0x3110 + 0x800 * s) * 256 + 0x05
/-- 0x3110.06 Set0.Gate.Retry.Window -/
def gateRetryWindow (s : Nat) : Nat := (0x3110 + 0x800 * s) * 256 + 0x06
/-- 0x3110.07 Set0.Gate.Retry.AutoRestart -/
def gateRetryAutoRestart (s : Nat) : Nat := (0x3110 + 0x800 * s) * 256 + 0x07
/-- 0x3110.08 Set0.Gate.MultiLegAction -/
def gateMultiLegAction (s : Nat) : Nat := (0x3110 + 0x800 * s) * 256 + 0x08
/-- 0x3110.09 Set0.Gate.Retry.State -/
def gateRetryState (s : Nat) : Nat := (0x3110 + 0x800 * s) * 256 + 0x09
/-- 0x3110.0A Set0.Gate.Retry.Used -/
def gateRetryUsed (s : Nat) : Nat := (0x3110 + 0x800 * s) * 256 + 0x0A
/-- 0x3110.0B Set0.Gate.Retry.ScUsed -/
def gateRetryScUsed (s : Nat) : Nat := (0x3110 + 0x800 * s) * 256 + 0x0B
/-- 0x3110.0C Set0.Gate.SwitchTempWarn -/
def gateSwitchTempWarn (s : Nat) : Nat := (0x3110 + 0x800 * s) * 256 + 0x0C
/-- 0x3110.0D Set0.Gate.SwitchTempTrip -/
def gateSwitchTempTrip (s : Nat) : Nat := (0x3110 + 0x800 * s) * 256 + 0x0D
/-- 0x3110.0E Set0.Gate.NtcR25 -/
def gateNtcR25 (s : Nat) : Nat := (0x3110 + 0x800 * s) * 256 + 0x0E
/-- 0x3110.0F Set0.Gate.NtcBeta -/
def gateNtcBeta (s : Nat) : Nat := (0x3110 + 0x800 * s) * 256 + 0x0F
/-- 0x3120.01 Set0.Dusk.ChargedLevel -/
def duskChargedLevel (s : Nat) : Nat := (0x3120 + 0x800 * s) * 256 + 0x01
/-- 0x3120.02 Set0.Dusk.ShortLevel -/
def duskShortLevel (s : Nat) : Nat := (0x3120 + 0x800 * s) * 256 + 0x02
/-- 0x3120.03 Set0.Dusk.DiodeLow -/
def duskDiodeLow (s : Nat) : Nat := (0x3120 + 0x800 * s) * 256 + 0x03
/-- 0x3120.04 Set0.Dusk.DiodeHigh -/
def duskDiodeHigh (s : Nat) : Nat := (0x3120 + 0x800 * s) * 256 + 0x04
/-- 0x3120.05 Set0.Dusk.OpenLevel -/
def duskOpenLevel (s : Nat) : Nat := (0x3120 + 0x800 * s) * 256 + 0x05
/-- 0x3120.06 Set0.Dusk.OpenLevelCharged -/
def duskOpenLevelCharged (s : Nat) : Nat := (0x3120 + 0x800 * s) * 256 + 0x06
/-- 0x3120.07 Set0.Dusk.Run -/
def duskRun (s : Nat) : Nat := (0x3120 + 0x800 * s) * 256 + 0x07
/-- 0x3120.08 Set0.Dusk.Result -/
def duskResult (s : Nat) : Nat := (0x3120 + 0x800 * s) * 256 + 0x08
/-- 0x3120.09 Set0.Dusk.Verdict -/
def duskVerdict (s : Nat) : Nat := (0x3120 + 0x800 * s) * 256 + 0x09
/-- 0x3120.0A Set0.Dusk.LastTime -/
def duskLastTime (s : Nat) : Nat := (0x3120 + 0x800 * s) * 256 + 0x0A
/-- 0x3120.0B Set0.Dusk.RotationSpan -/
def duskRotationSpan (s : Nat) : Nat := (0x3120 + 0x800 * s) * 256 + 0x0B
/-! Entries of R311 (08_safety). -/
/-- 0x5000.01 Safety.State -/
def safetyState : Nat := 0x5000 * 256 + 0x01
/-- 0x5000.02 Safety.SealValue -/
def safetySealValue : Nat := 0x5000 * 256 + 0x02
/-- 0x5000.03 Safety.SealConfirm -/
def safetySealConfirm : Nat := 0x5000 * 256 + 0x03
/-- 0x5000.04 Safety.ConfirmedSeal -/
def safetyConfirmedSeal : Nat := 0x5000 * 256 + 0x04
/-- 0x5000.05 Safety.ConfirmTimeLeft -/
def safetyConfirmTimeLeft : Nat := 0x5000 * 256 + 0x05
/-- 0x5000.06 Safety.FallbackSwitches -/
def safetyFallbackSwitches : Nat := 0x5000 * 256 + 0x06
/-- 0x5000.07 Safety.FallbackPreset -/
def safetyFallbackPreset : Nat := 0x5000 * 256 + 0x07
/-- 0x5000.08 Safety.RemoteReset -/
def safetyRemoteReset : Nat := 0x5000 * 256 + 0x08
/-- 0x5000.09 Safety.LockoutCause -/
def safetyLockoutCause : Nat := 0x5000 * 256 + 0x09
/-- 0x5000.0A Safety.ResetButton -/
def safetyResetButton : Nat := 0x5000 * 256 + 0x0A
/-- 0x5000.0B Safety.CommissioningRecord -/
def safetyCommissioningRecord : Nat := 0x5000 * 256 + 0x0B
/-- 0x5010.01 SI0.Function -/
def siFunction (i : Nat) : Nat := (0x5010 + i) * 256 + 0x01
/-- 0x5010.02 SI0.Target -/
def siTarget (i : Nat) : Nat := (0x5010 + i) * 256 + 0x02
/-- 0x5010.03 SI0.Restart -/
def siRestart (i : Nat) : Nat := (0x5010 + i) * 256 + 0x03
/-- 0x5010.04 SI0.Source -/
def siSource (i : Nat) : Nat := (0x5010 + i) * 256 + 0x04
/-- 0x5010.05 SI0.InputFilter -/
def siInputFilter (i : Nat) : Nat := (0x5010 + i) * 256 + 0x05
/-- 0x5010.06 SI0.Discrepancy -/
def siDiscrepancy (i : Nat) : Nat := (0x5010 + i) * 256 + 0x06
/-- 0x5010.07 SI0.Scope -/
def siScope (i : Nat) : Nat := (0x5010 + i) * 256 + 0x07
/-- 0x5010.08 SI0.State -/
def siState (i : Nat) : Nat := (0x5010 + i) * 256 + 0x08
/-- 0x5010.09 SI0.DiscrepancyCount -/
def siDiscrepancyCount (i : Nat) : Nat := (0x5010 + i) * 256 + 0x09
/-- 0x5020.01 Sto.DischargeTime -/
def stoDischargeTime : Nat := 0x5020 * 256 + 0x01
/-- 0x5020.02 Sto.Status -/
def stoStatus : Nat := 0x5020 * 256 + 0x02
/-- 0x5030.01 Drive0.Ss1.Kind -/
def ss1Kind (d : Nat) : Nat := (0x5030 + d) * 256 + 0x01
/-- 0x5030.02 Drive0.Ss1.Time -/
def ss1Time (d : Nat) : Nat := (0x5030 + d) * 256 + 0x02
/-- 0x5030.03 Drive0.Ss1.Decel -/
def ss1Decel (d : Nat) : Nat := (0x5030 + d) * 256 + 0x03
/-- 0x5030.04 Drive0.Ss1.MonitorDelay -/
def ss1MonitorDelay (d : Nat) : Nat := (0x5030 + d) * 256 + 0x04
/-- 0x5030.05 Drive0.Ss1.Tolerance -/
def ss1Tolerance (d : Nat) : Nat := (0x5030 + d) * 256 + 0x05
/-- 0x5030.06 Drive0.Ss1.StandstillSpeed -/
def ss1StandstillSpeed (d : Nat) : Nat := (0x5030 + d) * 256 + 0x06
/-- 0x5030.07 Drive0.Ss1.StandstillTime -/
def ss1StandstillTime (d : Nat) : Nat := (0x5030 + d) * 256 + 0x07
/-- 0x5040.01 Brake0.Drive -/
def brakeDrive (b : Nat) : Nat := (0x5040 + b) * 256 + 0x01
/-- 0x5040.02 Brake0.ApplyTime -/
def brakeApplyTime (b : Nat) : Nat := (0x5040 + b) * 256 + 0x02
/-- 0x5040.03 Brake0.ReleaseTime -/
def brakeReleaseTime (b : Nat) : Nat := (0x5040 + b) * 256 + 0x03
/-- 0x5040.04 Brake0.HoldCurrentMin -/
def brakeHoldCurrentMin (b : Nat) : Nat := (0x5040 + b) * 256 + 0x04
/-- 0x5040.05 Brake0.CurrentMax -/
def brakeCurrentMax (b : Nat) : Nat := (0x5040 + b) * 256 + 0x05
/-- 0x5040.06 Brake0.ApplyCurrent -/
def brakeApplyCurrent (b : Nat) : Nat := (0x5040 + b) * 256 + 0x06
/-- 0x5040.07 Brake0.TestPulse -/
def brakeTestPulse (b : Nat) : Nat := (0x5040 + b) * 256 + 0x07
/-- 0x5040.08 Brake0.TestPeriod -/
def brakeTestPeriod (b : Nat) : Nat := (0x5040 + b) * 256 + 0x08
/-- 0x5040.09 Brake0.SafeStateDelay -/
def brakeSafeStateDelay (b : Nat) : Nat := (0x5040 + b) * 256 + 0x09
/-- 0x5040.0A Brake0.Status -/
def brakeStatus (b : Nat) : Nat := (0x5040 + b) * 256 + 0x0A
/-- 0x5040.0B Brake0.CoilCurrent -/
def brakeCoilCurrent (b : Nat) : Nat := (0x5040 + b) * 256 + 0x0B
/-- 0x5050.01 Sbt0.HoldTorque -/
def sbtHoldTorque (b : Nat) : Nat := (0x5050 + b) * 256 + 0x01
/-- 0x5050.02 Sbt0.Factor -/
def sbtFactor (b : Nat) : Nat := (0x5050 + b) * 256 + 0x02
/-- 0x5050.03 Sbt0.MaxMovement -/
def sbtMaxMovement (b : Nat) : Nat := (0x5050 + b) * 256 + 0x03
/-- 0x5050.04 Sbt0.Interval -/
def sbtInterval (b : Nat) : Nat := (0x5050 + b) * 256 + 0x04
/-- 0x5050.05 Sbt0.Auto -/
def sbtAuto (b : Nat) : Nat := (0x5050 + b) * 256 + 0x05
/-- 0x5050.06 Sbt0.Run -/
def sbtRun (b : Nat) : Nat := (0x5050 + b) * 256 + 0x06
/-- 0x5050.07 Sbt0.Result -/
def sbtResult (b : Nat) : Nat := (0x5050 + b) * 256 + 0x07
/-- 0x5050.08 Sbt0.TimeSincePass -/
def sbtTimeSincePass (b : Nat) : Nat := (0x5050 + b) * 256 + 0x08
/-- 0x5050.09 Sbt0.LastMovement -/
def sbtLastMovement (b : Nat) : Nat := (0x5050 + b) * 256 + 0x09
/-- 0x5060.01 Isf0.Role -/
def isfRole (c : Nat) : Nat := (0x5060 + c) * 256 + 0x01
/-- 0x5060.02 Isf0.Path -/
def isfPath (c : Nat) : Nat := (0x5060 + c) * 256 + 0x02
/-- 0x5060.03 Isf0.ConnId -/
def isfConnId (c : Nat) : Nat := (0x5060 + c) * 256 + 0x03
/-- 0x5060.04 Isf0.TimeExpectation -/
def isfTimeExpectation (c : Nat) : Nat := (0x5060 + c) * 256 + 0x04
/-- 0x5060.05 Isf0.Cycle -/
def isfCycle (c : Nat) : Nat := (0x5060 + c) * 256 + 0x05
/-- 0x5060.06 Isf0.DataLength -/
def isfDataLength (c : Nat) : Nat := (0x5060 + c) * 256 + 0x06
/-- 0x5060.07 Isf0.SeqWindow -/
def isfSeqWindow (c : Nat) : Nat := (0x5060 + c) * 256 + 0x07
/-- 0x5060.08 Isf0.Status -/
def isfStatus (c : Nat) : Nat := (0x5060 + c) * 256 + 0x08
/-- 0x5060.09 Isf0.ErrorCount -/
def isfErrorCount (c : Nat) : Nat := (0x5060 + c) * 256 + 0x09
/-- 0x5070.01 VSI0.Function -/
def vsiFunction (v : Nat) : Nat := (0x5070 + v) * 256 + 0x01
/-- 0x5070.02 VSI0.Target -/
def vsiTarget (v : Nat) : Nat := (0x5070 + v) * 256 + 0x02
/-- 0x5070.03 VSI0.Restart -/
def vsiRestart (v : Nat) : Nat := (0x5070 + v) * 256 + 0x03
/-- 0x5070.04 VSI0.Scope -/
def vsiScope (v : Nat) : Nat := (0x5070 + v) * 256 + 0x04
/-- 0x5070.05 VSI0.Connection -/
def vsiConnection (v : Nat) : Nat := (0x5070 + v) * 256 + 0x05
/-- 0x5080.01 GroveStop.Action -/
def groveStopAction : Nat := 0x5080 * 256 + 0x01
/-- 0x5080.02 GroveStop.Restart -/
def groveStopRestart : Nat := 0x5080 * 256 + 0x02
/-- 0x5080.03 GroveStop.Status -/
def groveStopStatus : Nat := 0x5080 * 256 + 0x03
/-! Entries of R348 (09_grove). -/
/-- 0x1C00.01 Canopy.Position -/
def canopyPosition : Nat := 0x1C00 * 256 + 0x01
/-- 0x1C00.02 Canopy.EastStatus -/
def canopyEastStatus : Nat := 0x1C00 * 256 + 0x02
/-- 0x1C00.03 Canopy.WestStatus -/
def canopyWestStatus : Nat := 0x1C00 * 256 + 0x03
/-- 0x1C00.04 Canopy.EastNeighbour -/
def canopyEastNeighbour : Nat := 0x1C00 * 256 + 0x04
/-- 0x1C00.05 Canopy.WestNeighbour -/
def canopyWestNeighbour : Nat := 0x1C00 * 256 + 0x05
/-- 0x1C00.06 Canopy.EastLinkDelay -/
def canopyEastLinkDelay : Nat := 0x1C00 * 256 + 0x06
/-- 0x1C00.07 Canopy.WestLinkDelay -/
def canopyWestLinkDelay : Nat := 0x1C00 * 256 + 0x07
/-- 0x1C00.08 Canopy.CrcErrorCount -/
def canopyCrcErrorCount : Nat := 0x1C00 * 256 + 0x08
/-- 0x1C00.09 Canopy.ReplayCount -/
def canopyReplayCount : Nat := 0x1C00 * 256 + 0x09
/-- 0x1C00.0A Canopy.PortDownCount -/
def canopyPortDownCount : Nat := 0x1C00 * 256 + 0x0A
/-- 0x1C00.0B Canopy.Reachable -/
def canopyReachable : Nat := 0x1C00 * 256 + 0x0B
/-- 0x2800.01 Grove.Id -/
def groveId : Nat := 0x2800 * 256 + 0x01
/-- 0x2800.02 Grove.Size -/
def groveSize : Nat := 0x2800 * 256 + 0x02
/-- 0x2800.03 Grove.BoundaryPeriod -/
def groveBoundaryPeriod : Nat := 0x2800 * 256 + 0x03
/-- 0x2800.04 Grove.FormTime -/
def groveFormTime : Nat := 0x2800 * 256 + 0x04
/-- 0x2800.05 Grove.State -/
def groveState : Nat := 0x2800 * 256 + 0x05
/-- 0x2800.06 Grove.LeaderPosition -/
def groveLeaderPosition : Nat := 0x2800 * 256 + 0x06
/-- 0x2800.07 Grove.MemberMap -/
def groveMemberMap : Nat := 0x2800 * 256 + 0x07
/-- 0x2800.08 Grove.TokenMode -/
def groveTokenMode : Nat := 0x2800 * 256 + 0x08
/-- 0x2800.09 Grove.BoundaryNumber -/
def groveBoundaryNumber : Nat := 0x2800 * 256 + 0x09
/-- 0x2800.0A Grove.BoundaryOffset -/
def groveBoundaryOffset : Nat := 0x2800 * 256 + 0x0A
/-- 0x2800.0B Grove.JoinRefuseCode -/
def groveJoinRefuseCode : Nat := 0x2800 * 256 + 0x0B
/-- 0x2800.0C Grove.HandOverCount -/
def groveHandOverCount : Nat := 0x2800 * 256 + 0x0C
/-- 0x2810.01 Tokens.Total -/
def tokensTotal : Nat := 0x2810 * 256 + 0x01
/-- 0x2810.02 Tokens.Pool -/
def tokensPool : Nat := 0x2810 * 256 + 0x02
/-- 0x2810.03 Tokens.BookedSum -/
def tokensBookedSum : Nat := 0x2810 * 256 + 0x03
/-- 0x2810.04 Tokens.InFlight -/
def tokensInFlight : Nat := 0x2810 * 256 + 0x04
/-- 0x2810.05 Tokens.Expiring -/
def tokensExpiring : Nat := 0x2810 * 256 + 0x05
/-- 0x2810.06 Tokens.AuditRecord -/
def tokensAuditRecord : Nat := 0x2810 * 256 + 0x06
/-- 0x2810.07 Tokens.LastTransferSeq -/
def tokensLastTransferSeq : Nat := 0x2810 * 256 + 0x07
/-- 0x2810.08 Tokens.RetransmitCount -/
def tokensRetransmitCount : Nat := 0x2810 * 256 + 0x08
/-- 0x2820.01 … 0x2820.10 Share.Weight[p, s] -/
def shareWeight (k : Nat) : Nat := 0x2820 * 256 + 0x01 + k
/-- 0x2820.11 Share.InService -/
def shareInService : Nat := 0x2820 * 256 + 0x11
/-- 0x2820.12 Share.LateShareCount -/
def shareLateShareCount : Nat := 0x2820 * 256 + 0x12
/-- 0x2820.13 Share.SuspendCount -/
def shareSuspendCount : Nat := 0x2820 * 256 + 0x13
/-- 0x2820.14 Share.GroveTorqueRef -/
def shareGroveTorqueRef : Nat := 0x2820 * 256 + 0x14
/-- 0x2830.01 Unit.StandNumber -/
def unitStandNumber : Nat := 0x2830 * 256 + 0x01
/-- 0x2830.02 Unit.GroveNumber -/
def unitGroveNumber : Nat := 0x2830 * 256 + 0x02
/-- 0x2830.03 Unit.ShaftGroupNumber -/
def unitShaftGroupNumber : Nat := 0x2830 * 256 + 0x03
/-- 0x2830.04 Unit.StandRole -/
def unitStandRole : Nat := 0x2830 * 256 + 0x04
/-- 0x2830.05 Unit.StandLeaseTime -/
def unitStandLeaseTime : Nat := 0x2830 * 256 + 0x05
/-! Entries of R389 (10_field_network). -/
/-- 0x1800.01 Net.EtherType -/
def netEtherType : Nat := 0x1800 * 256 + 0x01
/-- 0x1800.02 Net.UdpPort -/
def netUdpPort : Nat := 0x1800 * 256 + 0x02
/-- 0x1800.03 Net.IpAddress -/
def netIpAddress : Nat := 0x1800 * 256 + 0x03
/-- 0x1800.04 Net.SubnetMask -/
def netSubnetMask : Nat := 0x1800 * 256 + 0x04
/-- 0x1800.05 Net.Gateway -/
def netGateway : Nat := 0x1800 * 256 + 0x05
/-- 0x1800.06 Net.MacAddress -/
def netMacAddress : Nat := 0x1800 * 256 + 0x06
/-- 0x1800.07 Net.VlanId -/
def netVlanId : Nat := 0x1800 * 256 + 0x07
/-- 0x1800.08 Net.CyclicPcp -/
def netCyclicPcp : Nat := 0x1800 * 256 + 0x08
/-- 0x1800.09 Net.ConnectionTimeout -/
def netConnectionTimeout : Nat := 0x1800 * 256 + 0x09
/-- 0x1800.0A Net.ViewerOpen -/
def netViewerOpen : Nat := 0x1800 * 256 + 0x0A
/-- 0x1800.0B Net.MalformedCount -/
def netMalformedCount : Nat := 0x1800 * 256 + 0x0B
/-- 0x1800.0C Net.ConnectionCount -/
def netConnectionCount : Nat := 0x1800 * 256 + 0x0C
/-- 0x1810.01 P1.Mode -/
def portMode (p : Nat) : Nat := (0x1810 + p) * 256 + 0x01
/-- 0x1810.02 P1.Status -/
def portStatus (p : Nat) : Nat := (0x1810 + p) * 256 + 0x02
/-- 0x1810.03 P1.RxDropCount -/
def portRxDropCount (p : Nat) : Nat := (0x1810 + p) * 256 + 0x03
/-- 0x1810.04 P1.FcsErrorCount -/
def portFcsErrorCount (p : Nat) : Nat := (0x1810 + p) * 256 + 0x04
/-- 0x1810.05 P1.LinkDownCount -/
def portLinkDownCount (p : Nat) : Nat := (0x1810 + p) * 256 + 0x05
/-- 0x1812.01 Ring.Role -/
def ringRole : Nat := 0x1812 * 256 + 0x01
/-- 0x1812.02 Ring.Profile -/
def ringProfile : Nat := 0x1812 * 256 + 0x02
/-- 0x1812.03 Ring.State -/
def ringState : Nat := 0x1812 * 256 + 0x03
/-- 0x1812.04 Ring.OpenCount -/
def ringOpenCount : Nat := 0x1812 * 256 + 0x04
/-- 0x1812.05 CutThrough.Enable -/
def cutThroughEnable : Nat := 0x1812 * 256 + 0x05
/-- 0x1820.01 Gptp.Enable -/
def gptpEnable : Nat := 0x1820 * 256 + 0x01
/-- 0x1820.02 Gptp.Priority1 -/
def gptpPriority1 : Nat := 0x1820 * 256 + 0x02
/-- 0x1820.03 Gptp.LogSyncInterval -/
def gptpLogSyncInterval : Nat := 0x1820 * 256 + 0x03
/-- 0x1820.04 Gptp.State -/
def gptpState : Nat := 0x1820 * 256 + 0x04
/-- 0x1820.05 Gptp.OffsetToTimebase -/
def gptpOffsetToTimebase : Nat := 0x1820 * 256 + 0x05
/-- 0x1820.06 Gptp.GrandmasterId -/
def gptpGrandmasterId : Nat := 0x1820 * 256 + 0x06
/-- 0x1830.01 Sched.Enable -/
def schedEnable : Nat := 0x1830 * 256 + 0x01
/-- 0x1830.02 Sched.WindowOffset -/
def schedWindowOffset : Nat := 0x1830 * 256 + 0x02
/-- 0x1830.03 Sched.WindowLength -/
def schedWindowLength : Nat := 0x1830 * 256 + 0x03
/-- 0x1830.04 Sched.Priority -/
def schedPriority : Nat := 0x1830 * 256 + 0x04
/-- 0x1840.01 Pd.CycleTime -/
def pdCycleTime : Nat := 0x1840 * 256 + 0x01
/-- 0x1840.02 Pd.TxOffset -/
def pdTxOffset : Nat := 0x1840 * 256 + 0x02
/-- 0x1840.03 Pd.Timeout -/
def pdTimeout : Nat := 0x1840 * 256 + 0x03
/-- 0x1840.04 Pd.Control -/
def pdControl : Nat := 0x1840 * 256 + 0x04
/-- 0x1840.05 Pd.Owner -/
def pdOwner : Nat := 0x1840 * 256 + 0x05
/-- 0x1840.06 Pd.State -/
def pdState : Nat := 0x1840 * 256 + 0x06
/-- 0x1840.07 Pd.TxBroadcast -/
def pdTxBroadcast : Nat := 0x1840 * 256 + 0x07
/-- 0x1840.08 Pd.RxOverwriteCount -/
def pdRxOverwriteCount : Nat := 0x1840 * 256 + 0x08
/-- 0x1841.01 Pd.RxMap.Count -/
def pdRxMapCount : Nat := 0x1841 * 256 + 0x01
/-- 0x1841.02 … 0x1841.21 Pd.RxMap.Entry[1 … 32] -/
def pdRxMapEntry (k : Nat) : Nat := 0x1841 * 256 + 0x02 + k
/-- 0x1842.01 Pd.TxMap.Count -/
def pdTxMapCount : Nat := 0x1842 * 256 + 0x01
/-- 0x1842.02 … 0x1842.21 Pd.TxMap.Entry[1 … 32] -/
def pdTxMapEntry (k : Nat) : Nat := 0x1842 * 256 + 0x02 + k
/-- 0x1851.01 … 0x1851.04 Credential[viewer … safety engineer] -/
def credential (k : Nat) : Nat := 0x1851 * 256 + 0x01 + k
/-- 0x1860.01 Session.IdleTimeout -/
def sessionIdleTimeout : Nat := 0x1860 * 256 + 0x01
/-- 0x1860.02 Session.Window -/
def sessionWindow : Nat := 0x1860 * 256 + 0x02
/-- 0x1860.03 Session.SegmentSize -/
def sessionSegmentSize : Nat := 0x1860 * 256 + 0x03
/-- 0x1860.04 Session.RetryTime -/
def sessionRetryTime : Nat := 0x1860 * 256 + 0x04
/-- 0x1860.05 Session.OpenCount -/
def sessionOpenCount : Nat := 0x1860 * 256 + 0x05
/-- 0x1860.06 Session.AbortCount -/
def sessionAbortCount : Nat := 0x1860 * 256 + 0x06
/-- 0x1860.07 Session.LastAbortCode -/
def sessionLastAbortCode : Nat := 0x1860 * 256 + 0x07
/-- 0x1870.01 Fw.ActiveSlot -/
def fwActiveSlot : Nat := 0x1870 * 256 + 0x01
/-- 0x1870.02 … 0x1870.03 Fw.SlotVersion[0 … 1] -/
def fwSlotVersion (k : Nat) : Nat := 0x1870 * 256 + 0x02 + k
/-- 0x1870.04 Fw.Activate -/
def fwActivate : Nat := 0x1870 * 256 + 0x04
/-- 0x1870.05 Fw.Confirm -/
def fwConfirm : Nat := 0x1870 * 256 + 0x05
/-- 0x1870.06 Fw.SecurityVersionMin -/
def fwSecurityVersionMin : Nat := 0x1870 * 256 + 0x06
/-- 0x1870.07 Fw.State -/
def fwState : Nat := 0x1870 * 256 + 0x07
/-- 0x1880.01 Usb.Enable -/
def usbEnable : Nat := 0x1880 * 256 + 0x01
/-- 0x1880.02 Usb.State -/
def usbState : Nat := 0x1880 * 256 + 0x02
/-- 0x1880.03 Usb.AttachCount -/
def usbAttachCount : Nat := 0x1880 * 256 + 0x03
/-- 0x1890.01 … 0x1890.04 IsfPeer[0 … 3] -/
def isfPeer (k : Nat) : Nat := 0x1890 * 256 + 0x01 + k
/-! Entries of R402 (11_object_dictionary). -/
/-- 0x2840.01 Unit.Level -/
def unitLevel : Nat := 0x2840 * 256 + 0x01
/-- 0x2840.02 Unit.Address -/
def unitAddress : Nat := 0x2840 * 256 + 0x02
/-- 0x2840.03 Unit.Command -/
def unitCommand : Nat := 0x2840 * 256 + 0x03
/-- 0x2840.04 Unit.Reference -/
def unitReference : Nat := 0x2840 * 256 + 0x04
/-- 0x2840.05 Unit.State -/
def unitState : Nat := 0x2840 * 256 + 0x05
/-- 0x2840.06 Unit.TorqueReference -/
def unitTorqueReference : Nat := 0x2840 * 256 + 0x06
/-- 0x2840.07 Unit.TorqueEstimate -/
def unitTorqueEstimate : Nat := 0x2840 * 256 + 0x07
/-- 0x2840.08 Unit.Speed -/
def unitSpeed : Nat := 0x2840 * 256 + 0x08
/-- 0x2840.09 Unit.TokensHeld -/
def unitTokensHeld : Nat := 0x2840 * 256 + 0x09
/-- 0x2840.0A Unit.Budget -/
def unitBudget : Nat := 0x2840 * 256 + 0x0A
/-- 0x2840.0B Unit.PowerMeasured -/
def unitPowerMeasured : Nat := 0x2840 * 256 + 0x0B
/-- 0x2840.0C Unit.FaultClass -/
def unitFaultClass : Nat := 0x2840 * 256 + 0x0C
/-- 0x2840.0D Unit.TemperatureMax -/
def unitTemperatureMax : Nat := 0x2840 * 256 + 0x0D
/-- 0x2840.0E Unit.InService -/
def unitInService : Nat := 0x2840 * 256 + 0x0E
/-- 0x2840.0F Unit.UnitsBelow -/
def unitUnitsBelow : Nat := 0x2840 * 256 + 0x0F
/-! Entries of R411 (11_object_dictionary). -/
/-- 0x1000.01 Identity.VendorName -/
def identityVendorName : Nat := 0x1000 * 256 + 0x01
/-- 0x1000.02 Identity.ProductName -/
def identityProductName : Nat := 0x1000 * 256 + 0x02
/-- 0x1000.03 Identity.OrderingCode -/
def identityOrderingCode : Nat := 0x1000 * 256 + 0x03
/-- 0x1000.04 Identity.SerialNumber -/
def identitySerialNumber : Nat := 0x1000 * 256 + 0x04
/-- 0x1000.05 Identity.HardwareCode -/
def identityHardwareCode : Nat := 0x1000 * 256 + 0x05
/-- 0x1000.06 Identity.MainDieStepping -/
def identityMainDieStepping : Nat := 0x1000 * 256 + 0x06
/-- 0x1000.07 Identity.ChannelDieStepping -/
def identityChannelDieStepping : Nat := 0x1000 * 256 + 0x07
/-- 0x1000.08 Identity.Build -/
def identityBuild : Nat := 0x1000 * 256 + 0x08
/-- 0x1000.09 Identity.FirmwareVersion -/
def identityFirmwareVersion : Nat := 0x1000 * 256 + 0x09
/-- 0x1000.0A Identity.BootCount -/
def identityBootCount : Nat := 0x1000 * 256 + 0x0A
/-- 0x1000.0B Identity.DescriptionCrc -/
def identityDescriptionCrc : Nat := 0x1000 * 256 + 0x0B
/-- 0x1000.0C Identity.UnitAddress -/
def identityUnitAddress : Nat := 0x1000 * 256 + 0x0C
/-- 0x1000.0D Identity.ModuleName -/
def identityModuleName : Nat := 0x1000 * 256 + 0x0D
/-- 0x1010.01 Dictionary.EntryCount -/
def dictionaryEntryCount : Nat := 0x1010 * 256 + 0x01
/-- 0x1010.02 Dictionary.Directory -/
def dictionaryDirectory : Nat := 0x1010 * 256 + 0x02
/-- 0x1E00.01 Bank.Active -/
def bankActive : Nat := 0x1E00 * 256 + 0x01
/-- 0x1E00.02 Bank.Activate -/
def bankActivate : Nat := 0x1E00 * 256 + 0x02
/-- 0x1E00.03 Bank.Store -/
def bankStore : Nat := 0x1E00 * 256 + 0x03
/-- 0x1E00.04 Bank.RestoreDefaults -/
def bankRestoreDefaults : Nat := 0x1E00 * 256 + 0x04
/-- 0x1E00.05 Bank.Erase -/
def bankErase : Nat := 0x1E00 * 256 + 0x05
/-- 0x1E00.06 Bank.Status -/
def bankStatus : Nat := 0x1E00 * 256 + 0x06
/-- 0x1E00.07 Bank.Valid -/
def bankValid : Nat := 0x1E00 * 256 + 0x07
/-- 0x1E00.08 … 0x1E00.0B Bank.Crc[0 … 3] -/
def bankCrc (k : Nat) : Nat := 0x1E00 * 256 + 0x08 + k
/-- 0x1E00.0C … 0x1E00.0F Bank.Seal[0 … 3] -/
def bankSeal (k : Nat) : Nat := 0x1E00 * 256 + 0x0C + k
/-- 0x1E00.10 Bank.LoadState -/
def bankLoadState : Nat := 0x1E00 * 256 + 0x10
/-- 0x1E00.11 Bank.SkippedRecords -/
def bankSkippedRecords : Nat := 0x1E00 * 256 + 0x11
/-- 0x1E00.12 Bank.StoreCount -/
def bankStoreCount : Nat := 0x1E00 * 256 + 0x12
/-! Entries of R440 (12_power_thermal_lantern). -/
/-- 0x2000.01 … 0x2000.09 Supply.Voltage[VDD_LA, VDD_LB, VDD_LC, VDD_CL, VIO, VANA, VPHY1V, VPHY2V5, VLAN] -/
def supplyVoltage (k : Nat) : Nat := 0x2000 * 256 + 0x01 + k
/-- 0x2000.0A Supply.Status -/
def supplyStatus : Nat := 0x2000 * 256 + 0x0A
/-- 0x2000.0B Supply.LaneMismatchMax -/
def supplyLaneMismatchMax : Nat := 0x2000 * 256 + 0x0B
/-- 0x2000.0C Supply.PowerFailCount -/
def supplyPowerFailCount : Nat := 0x2000 * 256 + 0x0C
/-- 0x2010.01 Power.SleepRequest -/
def powerSleepRequest : Nat := 0x2010 * 256 + 0x01
/-- 0x2010.02 Power.IdleSleepTime -/
def powerIdleSleepTime : Nat := 0x2010 * 256 + 0x02
/-- 0x2010.03 Power.SleepStatus -/
def powerSleepStatus : Nat := 0x2010 * 256 + 0x03
/-- 0x2010.04 Power.WakeCause -/
def powerWakeCause : Nat := 0x2010 * 256 + 0x04
/-- 0x2010.05 Power.SleepTime -/
def powerSleepTime : Nat := 0x2010 * 256 + 0x05
/-- 0x2010.06 Power.SleepCount -/
def powerSleepCount : Nat := 0x2010 * 256 + 0x06
/-- 0x2020.01 Lantern.SamplePeriod -/
def lanternSamplePeriod : Nat := 0x2020 * 256 + 0x01
/-- 0x2020.02 Lantern.FilterTime -/
def lanternFilterTime : Nat := 0x2020 * 256 + 0x02
/-- 0x2020.03 Lantern.EncoderMode -/
def lanternEncoderMode : Nat := 0x2020 * 256 + 0x03
/-- 0x2020.04 Lantern.EncoderSettle -/
def lanternEncoderSettle : Nat := 0x2020 * 256 + 0x04
/-- 0x2020.05 Lantern.Status -/
def lanternStatus : Nat := 0x2020 * 256 + 0x05
/-- 0x2020.06 Lantern.Acknowledge -/
def lanternAcknowledge : Nat := 0x2020 * 256 + 0x06
/-- 0x2020.07 Lantern.TickCount -/
def lanternTickCount : Nat := 0x2020 * 256 + 0x07
/-- 0x2020.08 Lantern.EncoderCount -/
def lanternEncoderCount : Nat := 0x2020 * 256 + 0x08
/-- 0x2020.09 Lantern.DieTemp -/
def lanternDieTemp : Nat := 0x2020 * 256 + 0x09
/-- 0x2030.01 Lantern.Rule[0] -/
def lanternRule (k : Nat) : Nat := 0x2030 * 256 + 0x01 + k
/-- 0x2030.11 Lantern.RuleFired -/
def lanternRuleFired : Nat := 0x2030 * 256 + 0x11
/-- 0x2030.12 Lantern.FireLog -/
def lanternFireLog : Nat := 0x2030 * 256 + 0x12
/-- 0x2040.01 Windmill[0].Speed; drive 1 three sub-indices above. -/
def windmillSpeed (d : Nat) : Nat := 0x2040 * 256 + 1 + 3 * d
/-- 0x2040.02 Windmill[0].Age; drive 1 three sub-indices above. -/
def windmillAge (d : Nat) : Nat := 0x2040 * 256 + 2 + 3 * d
/-- 0x2040.03 Windmill[0].Source; drive 1 three sub-indices above. -/
def windmillSource (d : Nat) : Nat := 0x2040 * 256 + 3 + 3 * d
/-! Entries of R441 (12_power_thermal_lantern). -/
/-- 0x2050.01 … 0x2050.10 Temp.MainDie[S0 … S15] -/
def tempMainDie (k : Nat) : Nat := 0x2050 * 256 + 0x01 + k
/-- 0x2050.11 Temp.MainDieTj -/
def tempMainDieTj : Nat := 0x2050 * 256 + 0x11
/-- 0x2050.12 Temp.SensorBroken -/
def tempSensorBroken : Nat := 0x2050 * 256 + 0x12
/-- 0x2050.13 Shade.Level -/
def shadeLevel : Nat := 0x2050 * 256 + 0x13
/-- 0x2060.01 Thermal.Shade3Halve -/
def thermalShade3Halve : Nat := 0x2060 * 256 + 0x01
/-- 0x2060.02 Thermal.AinTempMask -/
def thermalAinTempMask : Nat := 0x2060 * 256 + 0x02
/-- 0x2060.03 Thermal.NtcCrossCheck -/
def thermalNtcCrossCheck : Nat := 0x2060 * 256 + 0x03
/-- 0x2060.04 Thermal.ShutdownCount -/
def thermalShutdownCount : Nat := 0x2060 * 256 + 0x04
/-- 0x2070.01 NV.RecordSeq -/
def nvRecordSeq : Nat := 0x2070 * 256 + 0x01
/-- 0x2070.02 NV.JournalFill -/
def nvJournalFill : Nat := 0x2070 * 256 + 0x02
/-- 0x2070.03 NV.CorrectedCount -/
def nvCorrectedCount : Nat := 0x2070 * 256 + 0x03
/-- 0x2070.04 NV.UncorrectableCount -/
def nvUncorrectableCount : Nat := 0x2070 * 256 + 0x04
/-- 0x2070.05 NV.DiscardedAtStart -/
def nvDiscardedAtStart : Nat := 0x2070 * 256 + 0x05
/-- 0x2070.06 NV.RetentionUsed -/
def nvRetentionUsed : Nat := 0x2070 * 256 + 0x06
/-! Entries of R459 (13_start_faults_events). -/
/-- 0x5800.01 … 0x5800.80 EventClass[EV 0x00 … 0x7F] -/
def eventClass (k : Nat) : Nat := 0x5800 * 256 + 0x01 + k
/-- 0x5810.01 Fault.Reset -/
def faultReset : Nat := 0x5810 * 256 + 0x01
/-- 0x5810.02 Fault.ActiveLow -/
def faultActiveLow : Nat := 0x5810 * 256 + 0x02
/-- 0x5810.03 Fault.ActiveHigh -/
def faultActiveHigh : Nat := 0x5810 * 256 + 0x03
/-- 0x5810.04 Fault.HighestClass -/
def faultHighestClass : Nat := 0x5810 * 256 + 0x04
/-- 0x5820.01 Log.Head -/
def logHead : Nat := 0x5820 * 256 + 0x01
/-- 0x5820.02 Log.Count -/
def logCount : Nat := 0x5820 * 256 + 0x02
/-- 0x5820.03 Log.ReadSeq -/
def logReadSeq : Nat := 0x5820 * 256 + 0x03
/-- 0x5820.04 Log.Record -/
def logRecord : Nat := 0x5820 * 256 + 0x04
/-- 0x5820.05 Log.Window -/
def logWindow : Nat := 0x5820 * 256 + 0x05
/-- 0x5820.06 Log.LostCount -/
def logLostCount : Nat := 0x5820 * 256 + 0x06
/-- 0x5830.01 Start.ResetSource -/
def startResetSource : Nat := 0x5830 * 256 + 0x01
/-- 0x5830.02 Start.State -/
def startState : Nat := 0x5830 * 256 + 0x02
/-- 0x5830.03 Start.ReadyTime -/
def startReadyTime : Nat := 0x5830 * 256 + 0x03
/-- 0x5830.04 Start.LaneSelfTest -/
def startLaneSelfTest : Nat := 0x5830 * 256 + 0x04
/-- 0x5900.01 … 0x5900.80 Queue.DropCount[Q0 … Q127] -/
def queueDropCount (k : Nat) : Nat := 0x5900 * 256 + 0x01 + k
/-- 0x5910.01 … 0x5910.80 Queue.HighWater[Q0 … Q127] -/
def queueHighWater (k : Nat) : Nat := 0x5910 * 256 + 0x01 + k

end Sys2Proof.Machine.Key
end

