-- ==== Sys2Proof/Machine/State.lean ====
section
/-! DEFINITION. The machine's state as plain data, the reasons a step can stop, and the state right after reset.
INVENTORY.md lists every field with the rule that names it. -/

namespace Sys2Proof.Machine

/-! ### Lanes and the Clearing (R13 to R50) -/

/-- Status of a lane, codes of Clearing.LaneStatus (R50). -/
inductive LaneStatus where
  | active | dissenting | resyncing | retired
  deriving DecidableEq, Repr

/-- One compute lane (R13). -/
structure LaneSt where
  status   : LaneStatus := .active
  /-- stamps (ns) of the transitions into dissent that are less than 1 s old, oldest first (R33) -/
  dissents : List Nat := []
  /-- lane-local SRAM, 256 KB, bytes that are not 0 (R44) -/
  sram     : List Host.Cell := []
  /-- a dissent that is counted at the next control-cycle boundary; its third within 1 s, which retires the lane (R23, R33) -/
  mark     : Option Bool := none
  /-- NV write records that waited in the lane's output queue when it dissented, and the first boundary at which its resync was due
  (R35), ns -/
  nvWaiting : List VoteId := []
  holdFrom  : Option Nat := none
  /-- voltage of the lane's core rail is in range (R415) -/
  railOk   : Bool := true
  deriving DecidableEq, Repr

/-- One arrival of a vote (R21, R23). -/
structure Arrival where
  lane  : Lane
  stamp : Nat
  body  : BitVec 74        -- RSVD (10) and PAYLOAD (64), the compared value
  deriving DecidableEq, Repr

/-- A vote that is open (R23). -/
structure Vote where
  vid      : VoteId
  /-- arrivals of lanes still counted, earliest first -/
  arrivals : List Arrival
  /-- stamp of the first arrival, from which the agreement window runs (R26) -/
  opened   : Nat
  emitted  : Bool := false
  deriving DecidableEq, Repr

/-- A token that arrived alone: case T8 waits for the signatures of the next boundary (R28). -/
structure Suspect where
  lane : Lane
  /-- arrivals of the vote concerned, for the Clearing record -/
  vote : Vote
  /-- a control-cycle boundary has passed since the window closed: the next signature vote decides -/
  armed : Bool := false
  deriving DecidableEq, Repr

/-- A content copy of a voted frame, record or message (R22). -/
structure CopyJob where
  vid    : VoteId
  len    : Nat
  crc    : BitVec 32
  source : Lane
  second : Option Lane
  deriving DecidableEq, Repr

/-- A resync in progress (R34). -/
structure Resync where
  target : Lane
  source : Lane
  start  : Nat
  /-- blocks that have been written since they were copied and still wait to be copied again (step 3), as they stood at the last
  boundary (ns) -/
  dirty  : List (Fin 4096) := []
  seenAt : Nat := 0
  deriving DecidableEq, Repr

/-- The Clearing: the lanes, the open votes, the voters' verdicts (R16 to R49). -/
structure Clearing where
  lanes     : Vector LaneSt 3 := Vector.replicate 3 {}
  votes     : List Vote := []
  suspects  : List Suspect := []
  copies    : List CopyJob := []
  resync    : Option Resync := none
  /-- lane self-dissent or vote verdicts wait for the next boundary to start their resync (R34) -/
  safeState : Bool := false
  /-- timebase time (ns) of the entry into safe state -/
  safeAt    : Nat := 0
  /-- position of the first of the two comparator bits fed with a difference (R39), 0 to 125 -/
  exercise  : Nat := 0
  /-- lanes whose signature of the running cycle has been submitted, with its value (R46) -/
  sigs      : List (Lane × BitVec 64) := []
  /-- signatures of the last boundary were voted from at least two lanes -/
  sigVoted  : Bool := true
  /-- the input sequence number of the next fan-out input, and the words of the last one with their parity on top (R17) -/
  inputSeq  : BitVec 32 := 0
  input     : List (BitVec 33) := []
  /-- the instant of the last control-cycle boundary (R25), ps -/
  boundaryAt : Time := 0
  /-- SEQ of the state-signature tokens of the running cycle (R19, R46) -/
  sigSeq    : BitVec 32 := 0
  /-- live blocks of the current mask (R44, R45) -/
  liveBlocks : List Nat := []
  deriving DecidableEq, Repr

/-- A voter's own outputs and its safe-output watchdog (R40, R263). -/
structure VoterSt where
  /-- PAYLOAD[17:0] of the last safe-output token this voter took -/
  held     : BitVec 18 := 0
  /-- control-cycle boundaries since that token -/
  missed   : Nat := 0
  /-- its watchdog has acted; the bits stay ignored until the next main-domain reset -/
  barked   : Bool := false
  /-- the watchdog opened its STO switch -/
  stoOpened : Bool := false
  /-- its brake switches are open by SafeStateDelay or the watchdog -/
  brakesOpened : Vector Bool 2 := Vector.replicate 2 false
  deriving DecidableEq, Repr

/-! ### PWM logic and gate channels (R56 to R64, R219 to R259) -/

/-- A duty token that waits for its half-period (R61). -/
structure WaitingDuty where
  compare : Time
  duty    : F32
  deriving DecidableEq, Repr

/-- One leg of a set's PWM logic (R60 to R63, R484). -/
structure Leg where
  held    : Option F32 := none
  tPrev   : Option Time := none
  /-- pending edge in the half-period in progress -/
  pending : Option Time := none
  /-- the command that the pending edge makes: the pair's upper switch, or its lower one -/
  pendTo  : Bool := false
  /-- the pair has made its edge in the half-period in progress -/
  made    : Bool := false
  /-- the switch commanded: upper, lower, none before the first turn-on after an enable -/
  cmd     : Option Bool := none
  /-- tokens that wait for their half-period, by slot (false rising, true falling) -/
  waiting : List (Bool × WaitingDuty) := []
  /-- the first turn-on after an enable (R484 step 2) -/
  turnOn  : Option Time := none
  deriving DecidableEq, Repr

/-- One set's carrier and PWM logic (R52, R56 to R64). -/
structure Pwm where
  rising    : Bool := true
  hStart    : Time := 0
  hEnd      : Time := 0
  /-- the valley at which the running period ends; it is stretched towards a new grid (R56) -/
  next      : Time := 0
  moving    : Bool := false
  /-- half-period of the running carrier (R56), ps -/
  half      : Time := 0
  /-- origin of the carrier grid: for set 0 its start, for set 1 the origin of its valley grid (R56) -/
  origin    : Time := 0
  /-- the grid is to be recomputed at the next valley (R56) -/
  regrid    : Bool := false
  /-- Shade 3 halves the carrier from the next valley (R432) -/
  halved    : Bool := false
  /-- per leg: the two-level leg, or the pair T1/T3 of a three-level one; and the pair T2/T4 (R157, R158) -/
  legs      : Vector Leg 3 := Vector.replicate 3 {}
  lows      : Vector Leg 3 := Vector.replicate 3 {}
  histogram : List Nat := List.replicate 32 0
  /-- HistogramClear waits for the next control boundary of the set (R52) -/
  clearHist : Bool := false
  deriving DecidableEq, Repr

/-- What a channel die does with edge commands (R222). -/
inductive ChMode where
  | release | offHold | softHold | staticOn | invalid | safe
  deriving DecidableEq, Repr

/-- One gate channel: its die and the edge logic's view of it (R219 to R246). -/
structure Channel where
  /-- accepted configuration, if any (R223) -/
  config    : Option (List Byte) := none
  vposOk    : Bool := false
  vnegOk    : Bool := false
  logicOk   : Bool := false
  mode      : ChMode := .offHold
  /-- the edge logic requests the switch on, since (R231) -/
  want      : Bool := false
  wantSince : Time := 0
  /-- the switch is commanded on -/
  on        : Bool := false
  onAt      : Time := 0
  offAt     : Time := 0
  /-- phase 1 of the running edge ends here (R224) -/
  phase1End : Option Time := none
  /-- a soft turn-off is in progress (R224, R237) -/
  soft      : Bool := false
  /-- gate-off has been confirmed since the last off command (R231) -/
  confirmed : Bool := true
  /-- the gate state the die last reported since the switch was turned on (R221, R232) -/
  gateOn    : Bool := false
  /-- an off request of an inner NPC switch is held by R232, softly or not, since -/
  offHeld   : Bool := false
  heldSoft  : Bool := false
  heldAt    : Time := 0
  /-- segments driven: source and sink (R224) -/
  source    : Nat := 0
  sink      : Nat := 0
  /-- i_int of the short-circuit integrator, A (R236) -/
  iInt      : F32 := 0
  latches   : List TripCause := []
  /-- Dusk injection: 0 none, 1 0.5 mA, 2 2 mA (R222) -/
  inject    : Nat := 0
  /-- SWCMDn, as its ball stands (R230) -/
  swcmd     : Bool := false
  /-- first uplink frame seen since the STO switches closed (R444) -/
  uplinkSeen : Bool := false
  linkOk    : Bool := true
  /-- the detector's in-window threshold applies (R235) -/
  inRamp    : Bool := false
  /-- stamp of the last "adaptation at limit" record (R227) -/
  lastLimit : Option Nat := none
  /-- last readings of the uplink: VSEN, DIDT, TEMP (R221) -/
  vsen      : F32 := 0
  didt      : F32 := 0
  temp      : F32 := 0
  deriving DecidableEq, Repr

/-- Active-short-circuit patterns (R244, R245). -/
inductive AscPattern where
  | low | high | levelO
  deriving DecidableEq, Repr

/-- A turn-off sequence in progress (R241). -/
structure TurnOff where
  rest : List (Fin 12)
  soft : Bool
  next : Time
  deriving DecidableEq, Repr

/-- A Dusk test in progress (R251 to R254). -/
structure DuskRun where
  /-- end of the step in progress, ns -/
  due      : Nat := 0
  /-- step 0 is the baseline, 1 to 12 (24 in topology 3) the injections, the last the check -/
  step     : Nat := 0
  charged  : Bool := false
  baseUV   : F32 := 0
  baseVW   : F32 := 0
  /-- per injected switch slot: V0, V2 and class code (R253), by phase then slot -/
  results  : List (Nat × Nat × F32 × F32 × Nat) := []
  /-- largest shift to each other phase seen, by phase (R254) -/
  shifts   : List (Nat × F32 × F32) := []
  /-- part of a start (R175), of a request (R251) or of a brake test (R286) -/
  purpose  : Nat := 0
  /-- V_SEN reached the blocked level at 0.5 mA; the 0.5 mA reading -/
  v0       : F32 := 0
  blocked  : Bool := false
  deriving DecidableEq, Repr

/-- The edge logic and retry state of one set (R240 to R249). -/
structure GateSet where
  pulses    : Bool := false
  removedAt : Time := 0
  asc       : Option AscPattern := none
  turnOff   : Option TurnOff := none
  /-- stamps (ns) of the two trip histories (R247) -/
  scHist    : List Nat := []
  otherHist : List Nat := []
  retry     : Nat := 0
  waitEnd   : Option Nat := none
  /-- legs that tripped for short circuit, with the trip's stamp (ns), of the turn-off in progress (R242) -/
  scLegs    : List (Nat × Nat) := []
  multiLeg  : Bool := false
  dusk      : Option DuskRun := none
  /-- a Dusk test is wanted: for a start (0), a request (1), a brake test (2), a direct enable (3) -/
  duskWant  : Option Nat := none
  /-- direct mode: the test of the enable has passed (R230) -/
  direct    : Bool := false
  deriving DecidableEq, Repr

/-! ### Safety (R260 to R311, R485, R486) -/

/-- One safe-input channel (R264 to R267). -/
structure SafeCh where
  demand    : Bool := false
  testFault : Bool := false
  known     : Bool := false
  deriving DecidableEq, Repr

/-- One safe input (R264 to R271, R485). -/
structure SafeIn where
  ch       : Vector SafeCh 2 := Vector.replicate 2 {}
  known    : Bool := false
  /-- the channels disagree since (ns) (R269) -/
  disagree : Option Nat := none
  discrep  : Bool := false
  /-- progress of the clearing cycle of R269: 0 none, 1 both seen in demand, 2 both then out of demand -/
  cycle    : Nat := 0
  /-- the input's demand has acted and Restart 1 waits for a reset (R270) -/
  awaitReset : Bool := false
  /-- the demand on which the device last acted -/
  acted    : Bool := false
  deriving DecidableEq, Repr

/-- One ISF connection (R301 to R304). -/
structure IsfConn where
  lastSeq  : Option (BitVec 16) := none
  /-- frames accepted since the opening or the last fail-safe, up to three (R303) -/
  accepted : Nat := 0
  failSafe : Bool := false
  data     : List Byte := []
  deadline : Option Nat := none
  txSeq    : BitVec 16 := 1
  nextTx   : Option Nat := none
  /-- reset bit: pressed since (ns) (R291) -/
  pressed  : Option Nat := none
  held     : Bool := false
  deriving DecidableEq, Repr

/-- One virtual safe input (R304). -/
structure VSafeIn where
  acted      : Bool := false
  awaitReset : Bool := false
  deriving DecidableEq, Repr

/-- A test of one brake's switches in progress (R284). -/
inductive BrakeTest where
  | idle | hs | ls
  deriving DecidableEq, Repr

/-- One brake output (R281 to R284). -/
structure Brake where
  hs       : Bool := false
  ls       : Bool := false
  released : Bool := false
  /-- released and verified within ReleaseTime, or applied and verified within ApplyTime (R283) -/
  verified : Bool := false
  releaseFault : Bool := false
  applyFault   : Bool := false
  switchFault  : Bool := false
  /-- end of the release or apply check (ns) -/
  checkEnd : Option Nat := none
  nextTest : Option Nat := none
  /-- the low-side switch is tested next; start (ns) of the last high-side test -/
  lsNext   : Bool := false
  testBase : Nat := 0
  /-- instant (ns) from which TimeSincePass runs on from its stored value -/
  passAt   : Nat := 0
  test     : BrakeTest := .idle
  pulseEnd : Option Nat := none
  fbp      : Bool := false
  fbn      : Bool := false
  /-- a brake test has failed (R287) -/
  testFailed : Bool := false
  overdue    : Bool := false
  deriving DecidableEq, Repr

/-- A safe brake test in progress (R286). -/
structure SbtRun where
  /-- 0 STO release, 1 Dusk test, 2 ramp up, 3 hold +, 4 ramp over, 5 hold −, 6 ramp down -/
  phase  : Nat := 0
  theta0 : F32 := 0
  torque : F32 := 0
  start  : Nat := 0
  deriving DecidableEq, Repr

/-- The STO switches and their release sequence (R272 to R276). -/
structure Sto where
  /-- commanded states of the two switches -/
  hs       : Bool := false
  ls       : Bool := false
  fbp      : Bool := false
  fbn      : Bool := false
  /-- release sequence: none, or the step 1, 2 or 3 in progress (R273) -/
  step     : Option Nat := none
  stepEnd  : Nat := 0
  /-- STO_FBP has read low since the last opening or start (R273) -/
  discharged : Bool := false
  /-- an opening that has to be seen to discharge: its instant, ns (R274) -/
  openedAt : Option Nat := none
  fault    : Bool := false
  deferred : Bool := false
  /-- first uplink frames are awaited until (ns) (R444) -/
  uplinkEnd : Option Nat := none
  deriving DecidableEq, Repr

/-- The reset button (R290). -/
structure Button where
  closed   : Bool := false
  since    : Nat := 0
  held     : Bool := false
  blocked  : Bool := false
  deriving DecidableEq, Repr

/-- Safety commissioning and the safe outputs (R293 to R300). -/
structure Safety where
  si        : Vector SafeIn 6 := Vector.replicate 6 {}
  vsi       : Vector VSafeIn 16 := Vector.replicate 16 {}
  isf       : Vector IsfConn 4 := Vector.replicate 4 {}
  sto       : Sto := {}
  brakes    : Vector Brake 2 := Vector.replicate 2 {}
  sbt       : Vector (Option SbtRun) 2 := Vector.replicate 2 none
  button    : Button := {}
  /-- end of the seal confirmation time (ns) (R296) -/
  sealEnd   : Option Nat := none
  /-- that time has run out; the next control-cycle boundary acts on it -/
  sealOver  : Bool := false
  /-- the chopper request, and its energy model forced it off (R216) -/
  chop      : Bool := false
  chopForced : Bool := false
  chopAt    : Nat := 0
  /-- the lanes' active-short-circuit verdict per set (R42, R172) -/
  ascReq    : Vector Bool 2 := Vector.replicate 2 false
  /-- grove-stop lines as read: A low, B low; the demand on which the device acted; line test -/
  gstopA    : Bool := false
  gstopB    : Bool := false
  gstopActed : Bool := false
  gstopSince : Option Nat := none
  gstopWait  : Bool := false
  /-- steps of the grove-stop line test in progress that have passed (R307) -/
  lineTest   : Option Nat := none
  lineAt     : Nat := 0          -- its present step began, ns
  linePassed : Bool := false
  lineFault  : Bool := false
  deriving DecidableEq, Repr

/-! ### Drives (R183 to R218) -/

/-- Drive states, codes of R186. -/
inductive DriveState where
  | off | starting | running | stopping | waiting | quickRelease | locked
  deriving DecidableEq, Repr

/-- Steps of a start (R175, R188). -/
inductive StartStep where
  | idle | stoRelease | channels | dusk | speed | probe | enable | preTorque
  deriving DecidableEq, Repr

/-- An SS1 in progress (R277 to R280). -/
structure Ss1Run where
  start  : Nat
  n0     : F32
  /-- outer-loop computations in a row above the envelope (R279) -/
  above  : Nat := 0
  /-- standstill reached; the brake applies and the torque is held (R280) -/
  braking : Bool := false
  /-- the end goes to Locked (R270) -/
  lock   : Bool := false
  brakeEnd : Option Nat := none
  deriving DecidableEq, Repr

/-- The last accepted motion record (R203). -/
structure Motion where
  time : Int := 0           -- timebase time, ns
  netTime : Nat := 0        -- IEEE 802.1AS time, ns
  pos  : F32 := 0
  vel  : F32 := 0
  acc  : F32 := 0
  sq   : BitVec 16 := 0
  deriving DecidableEq, Repr

/-- A linear change of a factor over time: from a value at a start towards a target over a duration (R200, R205). -/
structure Fade where
  from_ : F32
  to_   : F32
  start : Nat
  dur   : Nat
  deriving DecidableEq, Repr

/-- One drive (R183 to R216). -/
structure Drive where
  st        : DriveState := .off
  step      : StartStep := .idle
  /-- the request of the start in progress, ns (R180) -/
  startAt   : Nat := 0
  /-- a Command 1 is held until its condition ends (R249, R288, R485) -/
  held      : Bool := false
  ss1       : Option Ss1Run := none
  /-- the speed has been at or below StandstillSpeed since (ns) (R277) -/
  slowSince : Option Nat := none
  limp      : Option (Fin 2) := none
  /-- lever accepted at neutral (R191); within the neutral band since (ns) -/
  neutral   : Bool := false
  neutralSince : Option Nat := none
  refTimeout : Bool := false
  lastRef    : Nat := 0
  /-- ramped speed reference 0x0400, tension and position references -/
  speedRef   : F32 := 0
  tensionRef : F32 := 0
  posRef     : F32 := 0
  torqueRef  : F32 := 0
  motor      : F32 := 0      -- motoring torque limit in force, N·m
  regen      : F32 := 0      -- regeneration torque limit in force, N·m
  haul       : F32 := 0      -- haul torque limit of R199
  lastOuter  : Nat := 0
  /-- shock factor s (R200): hold from, recovery -/
  shock      : F32 := 0x3F800000
  shockHold  : Option Nat := none
  shockRec   : Option Fade := none
  tensionHist : List (Nat × F32) := []
  render     : Bool := false
  holdTorque : Option F32 := none
  preOk      : Option Nat := none
  wraps      : F32 := 0
  /-- mechanical speed (rad/s) at the last outer computation; a payout limit clamps the speed reference (R202) -/
  omega      : F32 := 0
  clamped    : Bool := false
  turnsAt    : F32 := 0      -- motor turns at the last update of W
  motion     : Option Motion := none
  fresh      : Nat := 0
  gain       : F32 := 0
  fade       : Option Fade := none
  stroke     : Bool := false
  /-- a take-over of R189 holds for the next computation: payout reference or torque reference starts where they stood -/
  starts     : Bool := false
  /-- g rises or has risen to Heave.Gain; the present loss of the motion reference has been acted on (R205) -/
  risen      : Bool := false
  lossSeen   : Bool := false
  qrDemand   : Bool := false
  qrState    : Nat := 0
  /-- a quick release has ended in Locked: a row of R289 of its own -/
  qrEnded    : Bool := false
  shortfall  : Option Nat := none
  /-- a start waits for its wait time to run out (R180); remeasure due -/
  waitUntil  : Option Nat := none
  remeasure  : Option Nat := none
  /-- phase-back acknowledge outstanding: tokens asked and deadline (R196) -/
  phaseBack  : Option (Nat × Nat) := none
  deriving DecidableEq, Repr

/-! ### Events (R446 to R459) -/

/-- An active event (R446). -/
structure Active where
  ev    : Nat
  set   : Option (Fin 2)
  drv   : Option (Fin 2)
  inst  : Nat
  cls   : Nat
  /-- the cause is gone (R487) -/
  gone  : Bool
  deriving DecidableEq, Repr

/-- Events, their records and notifications (R446 to R457). -/
structure Events where
  active   : List Active := []
  /-- withheld raises by EV since its previous record (R454) -/
  suppressed : Sparse Nat := []
  /-- EV and stamp (ns) of records of kind raised, the last second (R454) -/
  recent   : List (Nat × Nat) := []
  /-- (EV, set) and stamp of the last record under a limit of one per set per second (R64, R125) -/
  perSet   : List ((Nat × Nat) × Nat) := []
  nextSeq  : Nat := 0
  lost     : Nat := 0
  /-- RAM ring of 256 while NV writing is stopped (R456) -/
  ramRing  : List (List Byte) := []
  /-- Fault.Reset has been written at this instant (ns); the next control-cycle boundary carries it out (R449) -/
  resetAt  : Option Nat := none
  deriving DecidableEq, Repr
/-! ### Commits (R65 to R73, R128 to R131) -/

/-- A commit that waits for its boundary (R70). -/
structure PendingCommit where
  /-- the boundary count it names; none for the next boundary -/
  target  : Option Nat
  /-- requested at (ns); a boundary at the same nanosecond is not the next one (R70) -/
  at_     : Nat
  /-- it changes safety entries (R295) -/
  safety  : Bool := false
  /-- it runs under the grove commit rules (R72) -/
  grove   : Bool := false
  deriving DecidableEq, Repr

/-- A swap group carried past its boundary (R130). -/
structure Carried where
  slots : List (Fin 32)
  since : Nat
  deriving DecidableEq, Repr

/-- One swap-domain instance (R66, R71). -/
structure DomSt where
  count   : Nat := 0
  status  : Nat := 0
  applied : Nat := 0
  pending : Option PendingCommit := none
  carried : List Carried := []
  /-- this member has answered a prepare and holds the commit (R73): deadline (ns) -/
  prepared : Option Nat := none
  /-- a grove commit of this number passes without this member, whose prepare has lapsed (R73) -/
  missAt   : Option Nat := none
  deriving DecidableEq, Repr

/-- A grove commit at the leader: answers still awaited (R72). -/
structure GroveCommit where
  dom     : Dom
  /-- the boundary count a request 2 names -/
  target  : Option Nat
  awaiting : BitVec 8
  deadline : Nat
  deriving DecidableEq, Repr

/-! ### Sensing (R75 to R103) -/

/-- A decimating sinc3 chain (R78): three integrators at the bit rate, three differences at the decimated rate, the bits since the
last output, the outputs so far (up to three), and the last output x once the filter has filled. -/
structure Sinc where
  acc    : Nat × Nat × Nat := (0, 0, 0)
  prev   : Int × Int × Int := (0, 0, 0)
  bits   : Nat := 0
  filled : Nat := 0
  out    : F32 := 0
  deriving DecidableEq, Repr

/-- One modulator input (R75 to R90). -/
structure Input where
  dead    : Bool := false
  /-- the stream was declared dead at (R89) -/
  deadAt  : Time := 0
  /-- the control stream and the DC chain (R78) -/
  ctl     : Sinc := {}
  dc      : Sinc := {}
  /-- whole bit periods inside the clean window of the last sample (R83) -/
  n       : Nat := 0
  /-- the stream revived at this time: a kernel must lie after it (R90) -/
  aliveAt : Time := 0
  tripped : Bool := false
  /-- x and centre time of the last window sample; state of the last sample: 0 measured, 1 Kirchhoff, 2 model,
  3 held, 4 not measured (R85) -/
  x       : F32 := 0
  tm      : Time := 0
  shadow  : Nat := 0
  value   : F32 := 0
  overRange : Bool := false
  deriving DecidableEq, Repr

/-- A leg takes a level: 0 DC−, 1 neutral point, 2 DC+, 3 with every switch of the leg off (R84, R85). -/
structure PoleEdge where
  at_   : Time
  leg   : Fin 3
  level : Nat
  deriving DecidableEq, Repr

/-- One set's sensing (R76 to R91). -/
structure Sense where
  inputs   : Vector Input 6 := Vector.replicate 6 {}
  /-- start of the modulator clock's bit grid (R76); none while it does not run -/
  mclk     : Option Time := none
  /-- the grid before the last restart: its start and its bit period -/
  before   : Option (Time × Time) := none
  /-- switching commands of the set not older than the longest window, as (time, leg mask) (R81) -/
  edges    : List (Time × Nat) := []
  /-- levels of the legs since the last computed sample instant, oldest first, and those before (R84, R85) -/
  poles    : List PoleEdge := []
  pole0    : Vector Nat 3 := Vector.replicate 3 3
  /-- one sample with all three currents measured since the last enable (R85) -/
  allSeen  : Bool := false
  /-- time of the last declaration of a line-to-line measurement: valid, amplitude, frequency, reverse (R91) -/
  termValid : Bool := false
  termAmpl  : F32 := 0
  termFreq  : F32 := 0
  termRev   : Bool := false
  npSince   : Option Nat := none
  /-- a set's own currents and voltage references in its own frame, of the latest computation (R85, R161, R196) -/
  own       : F32 × F32 := (0, 0)
  ownU      : F32 × F32 := (0, 0)
  deriving DecidableEq, Repr

/-- One position interface (R92 to R98). -/
structure PosIf where
  /-- edges counted, and the count at the last sample instant (R93, R96) -/
  count     : Int := 0
  countPrev : Int := 0
  /-- stamps (ns) of the first and last edges since the last sample instant, of the last one before it; the count after the first -/
  firstEdge : Nat := 0
  lastEdge  : Nat := 0
  prevEdge  : Nat := 0
  firstCount : Int := 0
  edges     : Nat := 0
  /-- mode 2: the interpolated place within the period, of 65,536, and the position in those units (R94); mode 3: the tracked
  electrical angle, degrees, and electrical revolutions (R95) -/
  place     : Nat := 0
  posn      : Int := 0
  /-- mode 2: the period counter's offset to the signals' quadrants, aligned at the first latch (R94, R97) -/
  phase     : Option Int := none
  track     : F32 := 0
  elecRevs  : Int := 0
  latchAt   : Time := 0
  /-- EXC was enabled at (ns) (R95) -/
  excAt     : Nat := 0
  referenced : Bool := false
  valid     : Bool := true
  wireBreak : Bool := false
  excOpen   : Bool := false
  countErr  : Bool := false
  trackLoss : Bool := false
  overSpeed : Bool := false
  zSeen     : Bool := false
  zCount    : Int := 0
  settling  : Bool := false
  angle     : F32 := 0
  speed     : F32 := 0
  turns     : Int := 0
  deriving DecidableEq, Repr

/-- One slow analog input (R99, R100). -/
structure Ain where
  raw      : F32 := 0
  filtered : F32 := 0
  value    : F32 := 0
  seen     : Bool := false
  last     : Nat := 0
  outside  : Nat := 0
  deriving DecidableEq, Repr

/-- One lever pair (R101). -/
structure Pair where
  disagree : Option Nat := none
  agree    : Option Nat := none
  invalid  : Bool := false
  deriving DecidableEq, Repr

/-! ### Law slots, engine, machine control (R104 to R182) -/

/-- The running state of one law slot (R105, R110). -/
structure SlotSt where
  e       : List F32 := [0, 0, 0]     -- e[k−1], e[k−2], e[k−3]
  y       : List F32 := [0, 0, 0]     -- y[k−1], y[k−2], y[k−3]
  out     : F32 := 0
  err     : F32 := 0
  ff      : F32 := 0
  running : Bool := false
  sat     : Nat := 0                  -- 0 none, 1 high, 2 low
  frozen  : Bool := false
  frozenEnd : Bool := false           -- the last completed computation ended frozen (R130)
  nonFin  : Bool := false
  clear   : Bool := false             -- HistoryReset waits for the next boundary (R113)
  deriving DecidableEq, Repr

/-- A sample that waits for the engine: its instant and what the front end latched (R122, R123). -/
structure SampleRec where
  at_   : Time
  data  : Sample
  /-- count of the set's control domain at the instant (R114) -/
  count : Nat
  /-- the sample of a carrier peak (R57) -/
  peak  : Bool := false
  /-- live values of its instant that swaps have changed since (R68) -/
  old   : Sparse Val := []
  deriving DecidableEq, Repr

/-- One set's computation queue and latency bookkeeping (R119 to R127). -/
structure Engine where
  cur      : Option SampleRec := none
  queued   : Option SampleRec := none
  /-- active lanes that have reported completion, and lanes that still owe the report of an earlier sample (R122) -/
  done     : List Lane := []
  owe      : List Lane := []
  dropRun  : Nat := 0
  limitRaised : Bool := false
  stamp    : Nat := 0           -- latency stamp (ns)
  tail     : Nat := 300         -- T_tail (ns)
  /-- sample instants in a row without a duty token (R127) -/
  stall    : Nat := 0
  /-- what the modulator gives for the three legs; the duty tokens carry the lanes' copies of it (R61, R153) -/
  duties   : Vector F32 3 := Vector.replicate 3 0
  lastComputed : Time := 0
  /-- the last sample instant, whether it was a peak, and the live values of that instant that swaps have changed since (R68) -/
  lastSample   : Time := 0
  lastPeak     : Bool := false
  since        : Sparse Val := []
  /-- duty tokens the last computation has still to emit: set, leg and slot, in their order (R57) -/
  expect       : List (Fin 2 × Fin 3 × Bool) := []
  samples  : Nat := 0
  deriving DecidableEq, Repr

/-- One set's machine control: angle source, observer, loss of synchronism, start (R165 to R180). -/
structure MachCtl where
  theta    : F32 := 0          -- angle in use, electrical degrees
  omega    : F32 := 0          -- electrical speed in use, rad/s
  source   : Nat := 0          -- ActiveSource, codes of 0x3080.0B
  obsTheta : F32 := 0
  obsOmega : F32 := 0
  obsFlux  : F32 := 0
  obsPhase : F32 := 0          -- PLL phase error, degrees
  obsSince : Option Nat := none
  idEst    : F32 := 0          -- last current estimate in dq (R85)
  iqEst    : F32 := 0
  idPred   : F32 := 0          -- prediction for the next sample (R85)
  iqPred   : F32 := 0
  psiR     : F32 := 0
  /-- an induction machine's flux models (R169): the current model's flux and angle, the voltage model's stator flux in the stationary
  frame and its rotor-flux angle -/
  cmPsi    : F32 := 0
  cmTheta  : F32 := 0
  psiS     : F32 × F32 := (0, 0)
  vmTheta  : F32 := 0
  /-- the stationary currents of the computation before, from which the models step on (R126, R147) -/
  alphaBeta : F32 × F32 := (0, 0)
  /-- the stator frequency a catch holds while the flux builds (R179), rad/s -/
  catchW   : Option F32 := none
  /-- angle, speed and instant of the computation before, and those from which the angle is extrapolated (R171) -/
  last     : F32 × F32 × Time := (0, 0, 0)
  base     : F32 × F32 × Time := (0, 0, 0)
  /-- a probe scan in progress: its start, ns, and the current it places, A (R177) -/
  probeAt  : Nat := 0
  probe    : F32 := 0
  omegas   : List (F32 × Time) := []
  fluxOut  : Option Nat := none
  resCount : Nat := 0
  angCount : Nat := 0
  losState : Nat := 0
  losAt    : Nat := 0
  losTimes : List Nat := []
  byObserver : Bool := false   -- the observer supplies the angle since a reacquisition (R171)
  torque   : F32 := 0          -- torque estimate, N·m
  tref     : F32 := 0          -- torque reference and limits as the drive mode last gave them, N·m
  mot      : F32 := 0
  reg      : F32 := 0
  curScale : F32 := 0x3F800000 -- factor on the current limit (R209)
  ramp     : Option Fade := none   -- torque-limit ramp factor (R171, R179)
  fluxRamp : Option Fade := none
  building : Bool := false
  enabledAt : Nat := 0
  enablePending : Bool := false    -- pulse enable at the next valley (R175)
  measuring : Bool := false
  /-- StartStatus before the start in progress (R256) -/
  prevStatus : Nat := 0
  speedAt  : Nat := 0              -- instant of the speed measurement (ns)
  speed    : F32 := 0              -- measured speed, rpm, signed
  catching : Bool := false         -- the next computation is the first of a catch (R179)
  polarity : Nat := 0              -- polarity pulses: 0 none, 1 first, 2 second in progress (R167)
  /-- start of the pulse in progress, ns, and the largest |i_d| of each pulse, A -/
  polarityAt : Nat := 0
  peak1    : F32 := 0
  peak2    : F32 := 0
  hfiSign  : Bool := false
  ifAngle  : F32 := 0
  dpwm     : Bool := false
  deriving DecidableEq, Repr

/-- A control-cycle boundary that waits for the outer-loop datapath: its count, its instant (ns), and the live values of that
instant that swaps have changed since (R68, R122). -/
structure OuterRec where
  count : Nat
  at_   : Nat
  old   : Sparse Val := []
  deriving DecidableEq, Repr

/-- The outer-loop datapath (R122, R185). -/
structure Outer where
  busy    : Bool := false
  /-- the queued boundary (R122) -/
  queued  : Option OuterRec := none
  done    : List Lane := []
  owe     : List Lane := []
  dropRun : Nat := 0
  limitRaised : Bool := false
  start   : Nat := 0
  deriving DecidableEq, Repr

/-- Echo (R132 to R138). -/
structure Echo where
  state    : Nat := 0
  abort    : Nat := 0
  owner    : Option (BitVec 16) := none
  point    : Nat := 0
  n        : Nat := 0          -- injection computations since the start of the point or run
  len      : Nat := 0          -- N of the point (R135)
  periods  : Nat := 0          -- M of the point
  accX     : F32 × F32 := (0, 0)
  accY     : F32 × F32 := (0, 0)
  flags    : Nat := 0
  repeated : Bool := false
  value    : F32 := 0          -- injection of the present computation
  endAt    : Nat := 0
  table    : List (List Byte) := []
  valid    : Nat := 0
  was      : Nat := 0          -- state before a suspension
  base     : Nat := 0          -- computation at which accumulation began
  ticked   : Bool := false     -- the injection was updated in the present computation
  deriving DecidableEq, Repr

/-- Capture (R137). -/
structure Capture where
  state   : Nat := 0
  owner   : Option (BitVec 16) := none
  rows    : List (List Byte) := []   -- oldest first
  skip    : Nat := 0
  after   : Nat := 0                 -- rows still to write after the trigger
  trigTime : Nat := 0
  last1   : F32 := 0
  was     : Nat := 0
  /-- the event of Trigger 4 has been raised since the arming -/
  hit     : Bool := false
  deriving DecidableEq, Repr
/-! ### Non-volatile memory (R434 to R438, R456) -/

/-- What an area commit names (R434, R436). -/
inductive NvArea where
  | bank (n : Fin 4) | commissioning | firmware
  deriving DecidableEq, Repr

/-- The valid content of an area: the copy or slot that holds it, its length and CRC-32C (R436). -/
structure NvCopy where
  copy : Fin 2
  len  : Nat
  crc  : BitVec 32
  deriving DecidableEq, Repr

/-- Who waits for a write (R393, R407, R382). -/
inductive NvWaiter where
  | nobody | answer (rq : Req) | bankStore | bankErase | session (sid : BitVec 32)
  /-- a member that reports its slot valid to the leader (R385) -/
  | member
  deriving DecidableEq, Repr

/-- A record that waits for the NV controller (R436, R457). -/
inductive NvJob where
  /-- an event-log record for the next slot of the ring (R456) -/
  | log (record : List Byte)
  /-- a device entry, and what its write answers (R393) -/
  | entry (key : Nat) (v : Val) (w : NvWaiter)
  /-- a piece of content for an inactive copy or slot -/
  | content (addr : Nat) (bytes : List Byte)
  /-- an area commit; none empties the area (R409) -/
  | area (a : NvArea) (c : Option NvCopy) (w : NvWaiter)
  deriving DecidableEq, Repr

/-- What a record kept in the journal says. -/
inductive JWhat where
  | entry (key : Nat) (v : Val)
  | area (a : NvArea) (c : Option NvCopy)
  | content
  deriving DecidableEq, Repr

/-- A valid record of the journal: its place and length, and what it says (R436, R437). -/
structure JRec where
  off  : Nat
  len  : Nat
  what : JWhat
  deriving DecidableEq, Repr

/-- The NV controller (R434 to R438). -/
structure Nv where
  stopped  : Bool := false
  jobs     : List NvJob := []
  logSlot  : Nat := 0
  logCount : Nat := 0
  clrSlot  : Nat := 0
  /-- valid journal records, oldest first; next journal offset and next record sequence (R436) -/
  journal  : List JRec := []
  jOff     : Nat := 0
  seq      : Nat := 1
  /-- records found without a valid marker or CRC since the last start (R437) -/
  discarded : Nat := 0
  /-- the image a bank, the commissioning record, a firmware slot holds, if any (R434) -/
  bank     : Vector (Option NvCopy) 4 := Vector.replicate 4 none
  com      : Option NvCopy := none
  slot     : Vector (Option NvCopy) 2 := #v[some { copy := 0, len := 256, crc := 0xB872B190 }, none]
  /-- power failed since the last start (R417) -/
  powerFailed : Bool := false
  /-- by brake: a test is due (R288; log entry 127) -/
  sbtDue   : Vector Bool 2 := Vector.replicate 2 false
  /-- by brake: no drive starts until a test has passed (R287; log entry 127) -/
  sbtMust  : Vector Bool 2 := Vector.replicate 2 false
  /-- time used of each area's retention since it was written, ns (R435), by area code; instant of its last update -/
  age      : Sparse Nat := []
  ageAt    : Nat := 0
  /-- a bank being put in use: its number and the LoadState that follows (R409) -/
  activating : Option (Fin 4 × Nat) := none
  deriving DecidableEq, Repr



/-! ### Lantern (R421 to R428), sleep (R418 to R420) -/

/-- The Lantern: what lives on VLAN, through every reset of the main domain. -/
structure Lantern where
  /-- MAIN_EN -/
  mainEn   : Bool := true
  asleep   : Bool := false
  /-- a start failed, and MAIN_EN will rise again; the last rise or fall of MAIN_EN (R414) -/
  retry    : Bool := false
  enAt     : Time := 0
  /-- why the main domain leaves reset next (R445) -/
  source   : Nat := 1
  /-- the last three samples, newest first (R422) -/
  samples  : List LanternInputs := []
  /-- filter outputs: PI0 speed, AIN0 to AIN3, die temperature -/
  filtered : Vector F32 6 := Vector.replicate 6 0
  holds    : Vector Nat 16 := Vector.replicate 16 0
  refs     : Vector (Option F32) 16 := Vector.replicate 16 none
  /-- rules that have fired with the windmill action and whose condition still holds (R428) -/
  milling  : Vector Bool 16 := Vector.replicate 16 false
  fireLog  : List (List Byte) := []
  /-- PI0 while the main domain sleeps or is in reset (R423): levels last read, count at the last sample, referenced -/
  levels   : Bool × Bool := (false, false)
  lastCount : Int := 0
  /-- the Lantern's count of PI0 (R423) -/
  count    : Int := 0
  referenced : Bool := false
  /-- the count at its last index pulse (R93) -/
  zCount   : Int := 0
  /-- PI0 was referenced when a drive's wraps were last stored (R197) -/
  wrapsRef : Vector Bool 2 := Vector.replicate 2 false
  /-- sources that woke the device, bit r rule r (R420) -/
  wakeCause : Nat := 0
  /-- tick at which the sleep began -/
  sleptAt  : Nat := 0
  /-- tick of each windmill record (R428) -/
  millTick : Vector Nat 2 := Vector.replicate 2 0
  /-- DIP rows as read in the first start since the power-on reset (R299) -/
  dip      : Nat := 0
  dipRead  : Bool := false
  /-- test pulses begin at this time (ns) of the running main domain (R265) -/
  holdUntil : Nat := 0
  /-- dark pulse of TP0, TP1 in progress -/
  dark     : Vector Bool 2 := Vector.replicate 2 false
  /-- start of the last dark pulse of TP0, TP1, ps, before 0 where the time counter has started again since (R265) -/
  darkAt   : Vector (Option Int) 2 := Vector.replicate 2 none
  /-- SamplePeriod and the rules as the last sample found them (R422, R424) -/
  period   : Nat := 10
  words    : Vector Nat 16 := Vector.replicate 16 0
  /-- LinesPerRev, Invert and AssignedSet of PI0 as the running main domain last had them (R423, R425, R428) -/
  lines    : Nat := 0
  invert   : Bool := false
  set      : Fin 2 := 0
  /-- the last three readings of the encoder speed, newest first (R422) -/
  speeds   : List F32 := []
  /-- the rule whose brake-creep alarm is latched (R427) -/
  creepRule : Nat := 0
  deriving DecidableEq, Repr

/-- A sleep being entered (R418, R419). -/
structure Sleep where
  entering : Bool := false
  /-- its request, ns -/
  since    : Nat := 0
  /-- the grove boundary at which the grove sleeps -/
  boundary : Option Nat := none
  /-- every drive Off and no connection open since (ns) -/
  idleSince : Option Nat := none
  deriving DecidableEq, Repr




/-! ### Temperature (R429 to R433) -/

/-- A level with its dwell (R431): the level wanted, since when at every reading, and the last change. -/
structure Dwell where
  level : Nat := 0
  want  : Nat := 0
  since : Nat := 0
  last  : Option Nat := none
  deriving DecidableEq, Repr

/-- Temperature supervision. -/
structure Thermal where
  /-- deviating readings in a row, by bit number of Temp.SensorBroken (R430) -/
  strikes : Sparse Nat := []
  /-- Shade, by 0; channel dies by 1 + c; switches of set s by 16 + s -/
  dwells  : Sparse Dwell := []
  /-- by main-die sensor: its readings at or above 150 °C in a row (R433) -/
  hot     : Sparse Nat := []
  /-- sensors read since the start, by bit number of Temp.SensorBroken; when each was last read, ns (R429) -/
  seen    : Nat := 0
  readAt  : Sparse Nat := []
  deriving DecidableEq, Repr



/-! ### Canopy link (R312 to R321) -/

/-- A Canopy packet with its payload. -/
structure Packet where
  h       : PacketHeader
  payload : List Byte
  deriving DecidableEq, Repr

/-- One Canopy port (R312 to R320). -/
structure CanopyPort where
  lanes     : Vector Bool 2 := Vector.replicate 2 false
  up        : Bool := false
  selfOk    : Bool := true
  neighbour : Option (Fin 8) := none
  orderFault : Bool := false
  /-- next link sequence sent, last one received in order (R315) -/
  txSeq     : BitVec 12 := 0
  rxSeq     : BitVec 12 := 0xFFF
  /-- packets not acknowledged yet, oldest first (R316); times the oldest has been replayed -/
  replay    : List Packet := []
  replays   : Nat := 0
  /-- discarding until the peer's replay begins -/
  discard   : Bool := false
  lastSent  : Time := 0
  /-- cumulative credits by VC (R318): sent, returned by the peer, freed here -/
  sent      : Vector Nat 8 := Vector.replicate 8 0
  returned  : Vector Nat 8 := Vector.replicate 8 0
  freed     : Vector Nat 8 := Vector.replicate 8 0
  /-- credits freed here that a header has returned to the peer, by VC (R315, R318) -/
  told      : Vector Nat 8 := Vector.replicate 8 0
  /-- packets that wait for credits -/
  queue     : List Packet := []
  /-- transmit time of the delay request in flight (R325), ns -/
  asked     : Option Nat := none
  /-- when the oldest packet awaiting an acknowledgement was sent, or the last acknowledgement came -/
  ackAt     : Time := 0
  /-- the last self-check (R320) -/
  checkedAt : Option Time := none
  deriving DecidableEq, Repr

/-! ### Groves (R322 to R348) -/

/-- What a member, and above all the leader, keeps of one position (R322 to R337). -/
structure Member where
  hello    : Option Hello := none
  joined   : Bool := false
  /-- grove time valid at the member (R322 step 4) -/
  heard    : Nat := 0
  missed   : Nat := 0
  suspended : Bool := false
  status   : Option StatusMsg := none
  /-- status bytes of East and West from LINK_STATE (R320) -/
  links    : Nat × Nat := (0, 0)
  booked   : Nat := 0
  /-- tokens that expire, and when they return (ns) (R335) -/
  expiring : Nat := 0
  expireAt : Nat := 0
  /-- holding and last applied sequence of the running audit (R337) -/
  report   : Option (Nat × Nat) := none
  /-- the last release of this member credited here (R333) -/
  lastRel  : Nat := 0
  /-- CLAIM of a hand-over: may the claimant lead (R330) -/
  claim    : Option Bool := none
  deriving DecidableEq, Repr

/-- A transfer of tokens in flight (R333). -/
structure Transfer where
  sq     : Nat
  amount : Nat
  pos    : Fin 8
  grant  : Bool
  /-- the release has been requested of this member and not acknowledged by its limit yet -/
  asked  : Bool := false
  sentAt : Nat := 0
  deriving DecidableEq, Repr

/-- The grove as this device sees it (R322 to R345). -/
structure Grove where
  members  : Vector Member 8 := Vector.replicate 8 {}
  firstUp  : Option Nat := none
  /-- time (ns) of the last grove boundary -/
  tN       : Nat := 0
  /-- own holding, last transfer applied, end of the lease (R333, R335) -/
  holding  : Nat := 0
  lastSeq  : Nat := 0
  lease    : Nat := 0
  lapsed   : Bool := false
  /-- own release: asked by the leader, then in flight (R333) -/
  release  : Option Transfer := none
  /-- the leader's pool, recall outstanding, next transfer sequence number and transfers in flight (R332, R333) -/
  pool     : Nat := 0
  recalled : Nat := 0
  nextSeq  : Nat := 1
  flights  : List Transfer := []
  granting : Bool := true
  /-- the audit at the last boundary: pool, in flight, expiring and bookings as they stood, whether it is still open (R337) -/
  snap     : Nat × Nat × Nat × Nat := (0, 0, 0, 0)
  snapBook : Vector Nat 8 := Vector.replicate 8 0
  auditing : Bool := false
  auditOk  : Bool := true
  claimAt  : Option Nat := none
  retryAt  : Option Nat := none
  /-- consecutive boundaries with an offset of 20 ns or less (R322) -/
  aligned  : Nat := 0
  /-- a SHARE that waits for its apply time, and the references applied (R340) -/
  share    : Option (Nat × List F32) := none
  refs     : Vector F32 2 := Vector.replicate 2 0
  /-- stand (R344): last renewal of the total by process data, ns; the other groves present; the totals given to groves, and one level
  up the budgets given to stands, by their numbers -/
  renewed  : Option Nat := none
  seen     : List Config.GroveSeen := []
  given    : Sparse Nat := []
  standGiven : Sparse Nat := []
  /-- Unit.Budget of the shaft group (R345, R401) -/
  shaftBudget : Nat := 0
  /-- the T_j of the last split, by set (R340) -/
  torques  : List F32 := []
  /-- link delays last asked for, ns (R325) -/
  delayAt  : Option Nat := none
  /-- t_N of the last SYNC taken (R325), and of the last one whose offset was wide (R55) -/
  syncAt   : Option Nat := none
  wideAt   : Option Nat := none
  /-- the next SYNC is the first since the join: the time counter may step to grove time (R54) -/
  stepDue  : Bool := false
  /-- last BOUNDARY or TAKEOVER received: its number (R328); t_N of the last one that listed the members (R335) -/
  heardN   : Nat := 0
  listed   : Nat := 0
  /-- last HELLO sent, ns (R322) -/
  helloAt  : Option Nat := none
  /-- the last own release that is acknowledged: sequence and amount (R333) -/
  relDone  : Nat × Nat := (0, 0)
  /-- transfers in flight as the last audit's boundary found them; every member is dropped at the next boundary (R337, R338) -/
  snapFlights : List Transfer := []
  dropAll  : Bool := false
  /-- members that have marked a distributed firmware slot valid (R385) -/
  fwValid  : Nat := 0
  deriving DecidableEq, Repr




/-! ### Field network (R349 to R389) -/

/-- One Ethernet port (R349 to R356). -/
structure EthPort where
  up       : Bool := false
  speed    : Fin 3 := 0
  blocked  : Bool := false
  downAt   : Nat := 0
  /-- 802.1Qbv gates (R356): scheduled, best effort -/
  gates    : Bool × Bool := (true, true)
  /-- frames that wait in the port's transmit queues: queue offset, class (scheduled or best effort) and bytes, oldest first (R356,
  R457) -/
  waiting  : List (Nat × Bool × List Byte) := []
  deriving DecidableEq, Repr

/-- A connection (R361 to R365). -/
structure Conn where
  handle  : BitVec 16
  src     : Source
  /-- 0 none, 1 viewer, 2 operator, 3 commissioning engineer, 4 safety engineer -/
  role    : Nat := 0
  sub     : Nat := 6
  name    : List Byte := []
  last    : Nat := 0
  /-- nonce, its stamp (ns), the role asked -/
  nonce   : Option (List Byte × Nat × Nat) := none
  /-- the last answered request: identifier, status, body (R365) -/
  answered : Option (BitVec 16 × Nat × List Byte) := none
  /-- first 8 bytes of the SHA-256 of the credential of the login (R486) -/
  credId  : List Byte := []
  /-- ConnectionTimeout as it stood at the last PDU, s (R364, R389) -/
  limit   : Nat := 60
  deriving DecidableEq, Repr

/-- Cyclic process data (R367 to R371). -/
structure Pd where
  lastRx  : Option (BitVec 16) := none
  frame   : Option (List Byte) := none
  missed  : Nat := 0
  txCount : BitVec 16 := 0
  txData  : List Byte := []
  txAt    : Option Nat := none
  /-- instant of the last network boundary (R66), ns -/
  cycleAt : Nat := 0
  deriving DecidableEq, Repr

/-- gPTP (R353 to R355). -/
structure Gptp where
  syncs   : Nat := 0
  gm      : BitVec 64 := 0
  /-- rate ratio to the time counter (R354), as a quotient -/
  rateNum : Nat := 1
  rateDen : Nat := 1
  /-- the last Sync: the counter's reading and the grandmaster's time then, ns -/
  lastSync : Nat := 0
  lastTime : Nat := 0
  /-- the last Sync sent as the grandmaster (R353), ns -/
  sentAt   : Nat := 0
  deriving DecidableEq, Repr

/-- The field network. -/
structure Net where
  ports   : Vector EthPort 2 := Vector.replicate 2 {}
  conns   : List Conn := []
  nextHandle : Nat := 1
  /-- login failures of a source within 60 s (ns), and blocked sources until (ns) (R362) -/
  fails   : List (Source × Nat) := []
  blocks  : List (Source × Nat) := []
  pd      : Pd := {}
  gptp    : Gptp := {}
  /-- requests forwarded on Canopy, with their deadline (ns) and kind (R366) -/
  forwarded : List (Req × Nat × Nat) := []
  /-- MRP manager (R352): the last own test frame received, and the last one sent, ns -/
  mrpSeen : Nat := 0
  mrpSent : Nat := 0
  deriving DecidableEq, Repr

/-! ### Sessions (R373 to R385) -/

/-- A session (R373 to R382). -/
structure Session where
  sid     : BitVec 32
  conn    : BitVec 16
  /-- its receive and transmit session queue, k of R457 -/
  slot    : Fin 8 := 0
  ty      : Nat
  target  : Nat
  window  : Nat
  seg     : Nat
  total   : Nat
  crc     : BitVec 32
  token   : BitVec 16
  opened  : Nat
  key     : Nat := 0
  /-- next expected segment, of the device in a download, of the partner in an upload -/
  e       : Nat := 0
  stored  : Sparse (List Byte) := []
  content : List Byte := []
  last    : Nat
  /-- upload: highest segment sent, resends of segment e, instant of the last progress -/
  sentTo  : Nat := 0
  resends : Nat := 0
  retryAt : Nat := 0
  /-- the FINISH that waits for the commit point -/
  finish  : Option Req := none
  /-- the device's area commit waits in the NV queue, or for the members of the grove -/
  committing : Bool := false
  /-- the last NAK: its segment and instant (R377) -/
  nakAt   : Option (Nat × Nat) := none
  deriving DecidableEq, Repr

/-- Sessions, open and completed. -/
structure Sessions where
  opened  : List Session := []
  next    : Nat := 0
  /-- completed ones with their connection and whether they ran down, for repeated FINISH and late ABORT -/
  done    : List (BitVec 32 × BitVec 16 × Bool) := []
  /-- OPENs granted: connection, token, instant and the body of the OPEN_ACK (R376) -/
  recent  : List (BitVec 16 × BitVec 16 × Nat × List Byte) := []
  deriving DecidableEq, Repr

/-- Firmware slots (R385). -/
structure Fw where
  active  : Fin 2 := 0
  /-- the slot on trial at the next start, or running on trial -/
  trialNext : Option (Fin 2) := none
  trial   : Bool := false
  rolled  : Bool := false
  /-- the confirmed slot -/
  confirmed : Fin 2 := 0
  /-- the boot firmware passes its own check (R443) -/
  bootOk  : Bool := true
  /-- an image that arrives from the grove's leader on VC 7, so far -/
  rx      : List Byte := []
  deriving DecidableEq, Repr




/-! ### The whole block -/

/-- Something that left the device: the model's record of its outputs, oldest first (log entry 7). -/
inductive Sent where
  /-- a voted token, emitted (R24) -/
  | token (t : Token)
  /-- a content copied to its destination after its vote (R22) -/
  | content (ty : BitVec 4) (dest : BitVec 16) (bytes : List Byte)
  /-- an answer to a request, or another PDU to a partner: kind as in the header (R359), status (R360) and body -/
  | reply (kind : Nat) (rq : Req) (status : Nat) (body : List Byte)
  /-- an event notification, kind 0x07 (R359, R455) -/
  | note (record : List Byte)
  /-- an Ethernet frame on a port -/
  | frame (port : Fin 2) (bytes : List Byte)
  /-- a UDP datagram on a port, from Net.UdpPort to a partner's address and port (R357) -/
  | udp (via : Fin 2) (ip : BitVec 32) (port from_ : Nat) (pdu : List Byte)
  /-- a bulk IN transfer of the USB port (R357, R386) -/
  | usb (pdu : List Byte)
  /-- a Canopy packet on a port, East 0, West 1 -/
  | canopy (port : Fin 2) (h : PacketHeader) (payload : List Byte)
  /-- a copy that ends with the inverted link CRC (R319) -/
  | canopyBad (port : Fin 2) (h : PacketHeader) (payload : List Byte)
  /-- a switch command to a channel die (R222) -/
  | command (ch : Fin 12) (code : Nat)
  /-- the safe-state command to all twelve dies (R41) -/
  | safeCommand
  deriving DecidableEq, Repr

/-- The block without its queue of waiting commands. -/
structure Mach where
  /-- stamp of the latest command processed, ps -/
  now     : Time := 0
  /-- live values of the object dictionary (R65); an entry not listed has its default -/
  live    : Sparse Val := []
  /-- shadow values (R65); an entry not listed has its default -/
  shadow  : Sparse Val := []
  /-- the main domain is out of reset: none in reset, some false in the boot state, some true running (R442, R443) -/
  up      : Option Bool := none
  clr     : Clearing := {}
  voters  : Vector VoterSt 2 := Vector.replicate 2 {}
  pwm     : Vector Pwm 2 := Vector.replicate 2 {}
  ch      : Vector Channel 12 := Vector.replicate 12 {}
  gate    : Vector GateSet 2 := Vector.replicate 2 {}
  safety  : Safety := {}
  drives  : Vector Drive 2 := Vector.replicate 2 {}
  ev      : Events := {}
  doms    : Vector DomSt 7 := Vector.replicate 7 {}
  gcommits : List GroveCommit := []
  sense   : Vector Sense 2 := Vector.replicate 2 {}
  pos     : Vector PosIf 2 := Vector.replicate 2 {}
  ain     : Vector Ain 8 := Vector.replicate 8 {}
  /-- the input that the converter of the slow analog inputs took last, and when (ns) (R99) -/
  ainLast : Option (Fin 8 × Nat) := none
  pairs   : Vector Pair 4 := Vector.replicate 4 {}
  slots   : Vector SlotSt 32 := Vector.replicate 32 {}
  /-- values of the signals of R109, by code; a signal not listed is 0 -/
  signals : Sparse F32 := []
  eng     : Vector Engine 2 := Vector.replicate 2 {}
  mc      : Vector MachCtl 2 := Vector.replicate 2 {}
  outer   : Outer := {}
  echo    : Echo := {}
  capture : Capture := {}
  nv      : Nv := {}
  lantern : Lantern := {}
  sleep   : Sleep := {}
  thermal : Thermal := {}
  canopy  : Vector CanopyPort 2 := Vector.replicate 2 {}
  grove   : Grove := {}
  net     : Net := {}
  sess    : Sessions := {}
  fw      : Fw := {}
  /-- the 8 MB MRAM, bytes that are not 0 (R434) -/
  mram    : List Host.Cell := []
  /-- what has left the device -/
  sent    : List Sent := []
  /-- FAULT_N is asserted (R41, R427, R450) -/
  faultN  : Bool := false
  /-- free values drawn so far (log entry 3): the model's own counter, no state of the spec -/
  free    : Nat := 0
  deriving DecidableEq, Repr

/-- The state: the block and the commands that wait, first in, first out. -/
structure State where
  core    : Mach := {}
  pending : List Instr := []
  deriving DecidableEq, Repr

/-- Reasons to stop with a fault. No meaning of this model raises one: every command of the table has an effect. -/
inductive Fault where
  /-- raised by no meaning; safe (the machine would stop where the hardware goes on) -/
  | none
  deriving DecidableEq, Repr

/-- Reasons to refuse a command. -/
inductive Refusal where
  /-- a row of the command table without a meaning yet; raised by its arm of `exec` only; safe -/
  | notModelled (mnemonic : String)
  deriving DecidableEq, Repr

/-- The machine right after reset: a module as it leaves the factory, VLAN just applied, the main domain held in reset, no
command waiting. Every register without a reset value in the spec is zero (log entry 1). -/
def State.reset : State := {}

end Sys2Proof.Machine
end

