-- ==== Sys2Proof/Machine/Ops.lean ====
section
/-! DEFINITION. Named operations over the state: sparse stores, dictionary values, vectors, memory, free values, times. -/

namespace Sys2Proof.Machine

/-! ### Sparse data -/

/-- The value listed under a key. -/
def look {α : Type} (k : Nat) (l : Sparse α) : Option α := (l.find? (fun c => c.1 == k)).map (·.2)

/-- The list without a key. -/
def erase {α : Type} (k : Nat) (l : Sparse α) : Sparse α := l.filter (fun c => c.1 != k)

/-- A pair put before the first larger key. -/
def ins {α : Type} (k : Nat) (v : α) : Sparse α → Sparse α
  | [] => [(k, v)]
  | c :: t => if k < c.1 then (k, v) :: c :: t else c :: ins k v t

/-- A write that keeps the canonical form: the value an unlisted key reads as is not listed. -/
def putAt {α : Type} [DecidableEq α] (d : Nat → α) (k : Nat) (v : α) (l : Sparse α) : Sparse α :=
  if v = d k then erase k l else ins k v (erase k l)

/-- Keys strictly rising from `lo`, no value equal to what an unlisted key reads as. -/
def wfFrom {α : Type} [DecidableEq α] (d : Nat → α) : Option Nat → Sparse α → Bool
  | _, [] => true
  | lo, c :: t => (match lo with | none => true | some x => decide (x < c.1)) && decide (c.2 ≠ d c.1) && wfFrom d (some c.1) t

/-- The canonical form of sparse data. -/
def sparseWf {α : Type} [DecidableEq α] (d : Nat → α) (l : Sparse α) : Bool := wfFrom d none l

/-! ### Vectors -/

/-- An element changed. -/
def vmod {α : Type} {n : Nat} (v : Vector α n) (i : Fin n) (f : α → α) : Vector α n := v.set i.1 (f v[i]) i.2

/-- Every element changed, with its index. -/
def vmap {α β : Type} {n : Nat} (v : Vector α n) (f : Fin n → α → β) : Vector β n := Vector.ofFn (fun i => f i v[i])

/-- An element by number, the last one where the number is out of range. -/
def fin2 (n : Nat) : Fin 2 := if n = 0 then 0 else 1
/-- A channel by number. -/
def fin12 (n : Nat) : Fin 12 := ⟨n % 12, Nat.mod_lt _ (by decide)⟩

/-! ### Dictionary values (R65, R390 to R396) -/

/-- The live value of an entry. -/
def Mach.val (m : Mach) (k : Nat) : Val := (look k m.live).getD (dfltOf k)
/-- The shadow value of an entry (R65). -/
def Mach.shVal (m : Mach) (k : Nat) : Val := (look k m.shadow).getD (dfltOf k)

/-- The number a value carries; a byte string carries none. -/
def valNat : Val → Nat
  | .num n => n
  | .bytes _ => 0
/-- The bytes a value carries; a number carries none. -/
def valBytes : Val → List Byte
  | .num _ => []
  | .bytes b => b

/-- The live value of an entry as a number. -/
def Mach.n (m : Mach) (k : Nat) : Nat := valNat (m.val k)
/-- The live value of a REAL32 entry. -/
def Mach.r (m : Mach) (k : Nat) : F32 := BitVec.ofNat 32 (m.n k)
/-- The live value of a BOOLEAN entry. -/
def Mach.b (m : Mach) (k : Nat) : Bool := m.n k != 0
/-- The live value of an INTEGER32 entry. -/
def Mach.i32 (m : Mach) (k : Nat) : Int := toSigned 32 (m.n k)

/-- A live value written. -/
def Mach.put (m : Mach) (k : Nat) (v : Val) : Mach := { m with live := putAt dfltOf k v m.live }
/-- A shadow value written. -/
def Mach.putShadow (m : Mach) (k : Nat) (v : Val) : Mach := { m with shadow := putAt dfltOf k v m.shadow }
/-- A live number written. -/
def Mach.putN (m : Mach) (k n : Nat) : Mach := m.put k (.num n)
/-- A live REAL32 written. -/
def Mach.putR (m : Mach) (k : Nat) (x : F32) : Mach := m.put k (.num x.toNat)
/-- A live BOOLEAN written. -/
def Mach.putB (m : Mach) (k : Nat) (x : Bool) : Mach := m.put k (.num (b2n x))
/-- A live signed number of `w` bits written. -/
def Mach.putI (m : Mach) (w k : Nat) (x : Int) : Mach := m.put k (.num (ofSigned w x))
/-- A live and shadow value written alike (R405). -/
def Mach.putBoth (m : Mach) (k : Nat) (v : Val) : Mach := (m.put k v).putShadow k v

/-- The next free value: what the spec leaves open at this instant (log entry 3). -/
def Mach.freeNow (m : Mach) : BitVec 64 := Config.freeValue m.free
/-- The free value has been used. -/
def Mach.drew (m : Mach) : Mach := { m with free := m.free + 1 }

/-- The largest value of an entry's type. -/
def maxOf (k : Nat) : Nat := match rowOf k with
  | none => 0
  | some r => if r.ty.fixed then 2 ^ (8 * r.ty.width) - 1 else 0

/-- A counter increased by `a`. The spec does not say what a counter at the end of its range reads next: a free value
(log entry 8). -/
def Mach.add (m : Mach) (k a : Nat) : Mach :=
  if m.n k + a ≤ maxOf k then m.putN k (m.n k + a)
  else (m.putN k (m.freeNow.toNat % (maxOf k + 1))).drew

/-- A counter increased by one. -/
def Mach.inc (m : Mach) (k : Nat) : Mach := m.add k 1

/-- A signal of R109. -/
def Mach.sig (m : Mach) (code : Nat) : F32 := (look code m.signals).getD 0
/-- A signal of R109 formed. -/
def Mach.setSig (m : Mach) (code : Nat) (x : F32) : Mach := { m with signals := putAt (fun _ => 0) code x m.signals }

/-- The live blocks of the mask that goes with the configuration in force, in ascending order (R44). -/
def Mach.maskBlocks (m : Mach) : List Nat := (List.range 4096).filter (Config.livenessMask m.live).getLsbD

/-! ### Times -/

/-- Timebase time in nanoseconds (R53). -/
def Mach.ns (m : Mach) : Nat := m.now / 1000
/-- The state at a command's instant; time never runs back. -/
def Mach.at_ (m : Mach) (t : Time) : Mach := { m with now := max m.now t }
/-- Milliseconds in nanoseconds. -/
def ms (n : Nat) : Nat := n * 1000000
/-- Microseconds in nanoseconds. -/
def us (n : Nat) : Nat := n * 1000
/-- A deadline has been set and has come. -/
def due (m : Mach) (d : Option Nat) : Bool := match d with | none => false | some t => decide (t ≤ m.ns)

/-! ### Parts of the state changed -/

def Mach.modClr (m : Mach) (f : Clearing → Clearing) : Mach := { m with clr := f m.clr }
def Mach.modPwm (m : Mach) (s : Fin 2) (f : Pwm → Pwm) : Mach := { m with pwm := vmod m.pwm s f }
def Mach.modLeg (m : Mach) (s : Fin 2) (l : Fin 3) (f : Leg → Leg) : Mach :=
  m.modPwm s (fun p => { p with legs := vmod p.legs l f })
def Mach.modCh (m : Mach) (c : Fin 12) (f : Channel → Channel) : Mach := { m with ch := vmod m.ch c f }
def Mach.modGate (m : Mach) (s : Fin 2) (f : GateSet → GateSet) : Mach := { m with gate := vmod m.gate s f }
def Mach.modSafety (m : Mach) (f : Safety → Safety) : Mach := { m with safety := f m.safety }
def Mach.modSto (m : Mach) (f : Sto → Sto) : Mach := m.modSafety (fun s => { s with sto := f s.sto })
def Mach.modSi (m : Mach) (i : Fin 6) (f : SafeIn → SafeIn) : Mach := m.modSafety (fun s => { s with si := vmod s.si i f })
def Mach.modVsi (m : Mach) (i : Fin 16) (f : VSafeIn → VSafeIn) : Mach := m.modSafety (fun s => { s with vsi := vmod s.vsi i f })
def Mach.modIsf (m : Mach) (i : Fin 4) (f : IsfConn → IsfConn) : Mach := m.modSafety (fun s => { s with isf := vmod s.isf i f })
def Mach.modBrake (m : Mach) (i : Fin 2) (f : Brake → Brake) : Mach := m.modSafety (fun s => { s with brakes := vmod s.brakes i f })
def Mach.modDrive (m : Mach) (d : Fin 2) (f : Drive → Drive) : Mach := { m with drives := vmod m.drives d f }
def Mach.modEv (m : Mach) (f : Events → Events) : Mach := { m with ev := f m.ev }
def Mach.modDom (m : Mach) (d : Fin 7) (f : DomSt → DomSt) : Mach := { m with doms := vmod m.doms d f }
def Mach.modSense (m : Mach) (s : Fin 2) (f : Sense → Sense) : Mach := { m with sense := vmod m.sense s f }
def Mach.modInput (m : Mach) (s : Fin 2) (n : Fin 6) (f : Input → Input) : Mach :=
  m.modSense s (fun x => { x with inputs := vmod x.inputs n f })
def Mach.modPos (m : Mach) (i : Fin 2) (f : PosIf → PosIf) : Mach := { m with pos := vmod m.pos i f }
def Mach.modAin (m : Mach) (i : Fin 8) (f : Ain → Ain) : Mach := { m with ain := vmod m.ain i f }
def Mach.modPair (m : Mach) (i : Fin 4) (f : Pair → Pair) : Mach := { m with pairs := vmod m.pairs i f }
def Mach.modSlot (m : Mach) (i : Fin 32) (f : SlotSt → SlotSt) : Mach := { m with slots := vmod m.slots i f }
def Mach.modEng (m : Mach) (s : Fin 2) (f : Engine → Engine) : Mach := { m with eng := vmod m.eng s f }
def Mach.modMc (m : Mach) (s : Fin 2) (f : MachCtl → MachCtl) : Mach := { m with mc := vmod m.mc s f }
def Mach.modVoter (m : Mach) (i : Fin 2) (f : VoterSt → VoterSt) : Mach := { m with voters := vmod m.voters i f }
def Mach.modLane (m : Mach) (i : Fin 3) (f : LaneSt → LaneSt) : Mach := m.modClr (fun c => { c with lanes := vmod c.lanes i f })
def Mach.modLan (m : Mach) (f : Lantern → Lantern) : Mach := { m with lantern := f m.lantern }
def Mach.modEcho (m : Mach) (f : Echo → Echo) : Mach := { m with echo := f m.echo }
def Mach.modCap (m : Mach) (f : Capture → Capture) : Mach := { m with capture := f m.capture }

/-- Something leaves the device. -/
def Mach.emit (m : Mach) (x : Sent) : Mach := { m with sent := m.sent ++ [x] }

/-- A change made for each element of a list, in its order. -/
def Mach.each {α : Type} (m : Mach) (xs : List α) (f : α → Mach → Mach) : Mach := xs.foldl (fun m x => f x m) m

/-- Both sets, both drives, both brakes. -/
def two : List (Fin 2) := [0, 1]
/-- The three legs. -/
def three : List (Fin 3) := [0, 1, 2]

/-! ### Memory (R434) -/

/-- What an MRAM byte nothing has written reads as (log entry 9). -/
def memDefault : Nat → Byte := fun _ => 0
/-- One byte of a memory. -/
def memGet (mem : List Host.Cell) (a : Nat) : Byte := (look a mem).getD (memDefault a)
/-- One byte written. -/
def memPut (mem : List Host.Cell) (a : Nat) (b : Byte) : List Host.Cell := putAt memDefault a b mem
/-- Bytes written at rising addresses. -/
def memPutAll (mem : List Host.Cell) : Nat → List Byte → List Host.Cell
  | _, [] => mem
  | a, b :: t => memPutAll (memPut mem a b) (a + 1) t
/-- `n` bytes from an address. -/
def memRead (mem : List Host.Cell) (a : Nat) : Nat → List Byte
  | 0 => []
  | n + 1 => memGet mem a :: memRead mem (a + 1) n
/-- `n` bytes at an address made 0, all at once. -/
def memZero (mem : List Host.Cell) (a n : Nat) : List Host.Cell := mem.filter (fun c => !(a ≤ c.1 ∧ c.1 < a + n : Bool))
/-- The canonical form of a memory. -/
def Memory.wf (mem : List Host.Cell) : Bool := sparseWf memDefault mem

/-- MRAM bytes written; the locked area 0x615000 to 0x61FFFF takes no write (R434). -/
def Mach.nvPut (m : Mach) (a : Nat) (bs : List Byte) : Mach :=
  if a + bs.length ≤ 0x615000 ∨ 0x620000 ≤ a ∧ a + bs.length ≤ 0x800000 then { m with mram := memPutAll m.mram a bs } else m
/-- MRAM bytes read. -/
def Mach.nvGet (m : Mach) (a n : Nat) : List Byte := memRead m.mram a n

/-- A write handed to the NV controller (R436); none is taken while writing is stopped (R417, R433, R438). -/
def Mach.nvJob (m : Mach) (j : NvJob) : Mach := if m.nv.stopped then m else { m with nv := { m.nv with jobs := m.nv.jobs ++ [j] } }
/-- A device entry's new value in force at once, its NV record queued (R393). -/
def Mach.putDevice (m : Mach) (k : Nat) (v : Val) : Mach := (m.putBoth k v).nvJob (.entry k v .nobody)

/-! ### What runs -/

/-- The main domain is out of reset and has finished its start-up (R442). -/
def Mach.running (m : Mach) : Bool := m.up == some true
/-- The lanes act: the main domain runs and the Clearing is not in safe state (R41). -/
def Mach.lanesAct (m : Mach) : Bool := m.running && !m.clr.safeState
/-- An effect of the main domain's hardware: nothing happens while the domain is in reset or in the boot state (log entry 10). -/
def whenUp (f : Mach → Mach) (m : Mach) : Mach := if m.running then f m else m
/-- An effect of the lanes: nothing happens in Clearing safe state either, since no token leaves (R41, log entry 10). -/
def whenLanes (f : Mach → Mach) (m : Mach) : Mach := if m.lanesAct then f m else m
/-- An effect under a condition. -/
def when_ (c : Bool) (f : Mach → Mach) (m : Mach) : Mach := if c then f m else m

end Sys2Proof.Machine
end

