-- ==== Sys2Proof/Machine/Operands.lean ====
section
/-! DEFINITION. Operand forms: swap-domain codes and owners (R66), signal codes (R109), written values with their type, length
and range checks (R391, R395), channel numbers of a set (R144), lanes and voters by number. -/

namespace Sys2Proof.Machine

/-! ### Requests, lanes, voters, domains -/

/-- The handle under which a request owns what it starts; one that another member has forwarded (R366) is no connection of this device. -/
def ownerOf (rq : Req) : BitVec 16 := match rq.src with | .canopy _ => 0xFFFF | _ => rq.handle

/-- Lane number: 0 A, 1 B, 2 C. -/
def laneIx : Lane → Fin 3 | .a => 0 | .b => 1 | .c => 2
/-- The lane of a LANE field (R19); 0b11 is reserved. -/
def laneOf : Nat → Option Lane | 0 => some .a | 1 => some .b | 2 => some .c | _ => none
/-- The lanes in order. -/
def lanes3 : List Lane := [.a, .b, .c]
/-- Voter number: 0 primary, 1 reflection. -/
def voterIx : Voter → Fin 2 | .primary => 0 | .reflection => 1

/-- Place of a domain instance in the order of R66. -/
def domIx : Dom → Fin 7
  | .set 0 => 0 | .set _ => 1 | .ctl 0 => 2 | .ctl _ => 3 | .device => 4 | .network => 5 | .grove => 6
/-- Code of a domain instance (R66). -/
def domCode : Dom → Nat
  | .set 0 => 0x00 | .set _ => 0x01 | .ctl 0 => 0x10 | .ctl _ => 0x11 | .device => 0x12 | .network => 0x20 | .grove => 0x30
/-- The domain instance of a code (R66). -/
def domOfCode : Nat → Option Dom
  | 0x00 => some (.set 0) | 0x01 => some (.set 1) | 0x10 => some (.ctl 0) | 0x11 => some (.ctl 1) | 0x12 => some .device
  | 0x20 => some .network | 0x30 => some .grove | _ => none
/-- The seven instances in the order of R66. -/
def allDoms : List Dom := [.set 0, .set 1, .ctl 0, .ctl 1, .device, .network, .grove]

/-! ### Topology (R143, R144, R220) -/

/-- The topology in force. -/
def Mach.topo (m : Mach) : Nat := m.n Key.topology
/-- Dual three-phase: topologies 1 and 2. -/
def Mach.dual (m : Mach) : Bool := m.topo == 1 || m.topo == 2
/-- Three-level. -/
def Mach.npc (m : Mach) : Bool := m.topo == 3

/-- A channel number, taken modulo 12. -/
def chan (n : Nat) : Fin 12 := ⟨n % 12, Nat.mod_lt _ (by decide)⟩

/-- The set a channel belongs to (R143). -/
def Mach.setOfCh (m : Mach) (c : Fin 12) : Fin 2 := if m.npc then 0 else if c.1 < 6 then 0 else 1

/-- A set's channels in the turn-off order of R241. -/
def Mach.turnOffOrder (m : Mach) (s : Fin 2) : List (Fin 12) :=
  if m.npc then [0, 1, 4, 5, 8, 9, 2, 3, 6, 7, 10, 11]
  else [0, 2, 4, 1, 3, 5].map (fun c => chan (c + 6 * s.1))

/-- The channels of a set, in any order (R143); set 1 has none in topology 3. -/
def Mach.setChs (m : Mach) (s : Fin 2) : List (Fin 12) :=
  if m.npc then (if s = 0 then m.turnOffOrder 0 else []) else m.turnOffOrder s

/-- The leg (phase) a channel belongs to within its set (R144, R220). -/
def Mach.legOfCh (m : Mach) (c : Fin 12) : Fin 3 :=
  let k := if m.npc then c.1 / 4 else (c.1 % 6) / 2
  if k = 0 then 0 else if k = 1 then 1 else 2

/-- High-side (R144): G(2p) of a two-level leg, T1 and T2 of an NPC leg. -/
def Mach.isHigh (_m : Mach) (c : Fin 12) : Bool := c.1 % 2 == 0

/-- A channel's partner under the interlock: the other switch of a two-level leg (R231), T1 with T3 and T2 with T4 (R232). -/
def Mach.partner (m : Mach) (c : Fin 12) : Fin 12 :=
  if m.npc then chan (4 * (c.1 / 4) + (3 - c.1 % 4))
  else chan (if c.1 % 2 = 0 then c.1 + 1 else c.1 - 1)

/-- T1, T4, T2, T3 of an NPC phase (R144). -/
def npcCh (p k : Nat) : Fin 12 := chan (4 * p + k)

/-- A set is configured: one of its roles names a slot; in topologies 1 and 2 set 1 as set 0, in topology 3 never set 1 (R148). -/
def Mach.configured (m : Mach) (s : Fin 2) : Bool :=
  let own := fun (x : Nat) => [Key.roleCurrentD x, Key.roleCurrentQ x, Key.roleFieldWeakening x, Key.roleFlux x,
    Key.roleCurrentX x, Key.roleCurrentY x].any (fun k => m.n k != 0xFF)
  if s = 0 then own 0 else if m.npc then false else if m.dual then own 0 else own 1

/-- The set whose datapath computes a set's duties (R164), and at whose frequency and sample mode it runs (R145). -/
def Mach.dataSet (m : Mach) (s : Fin 2) : Fin 2 := if m.dual then 0 else s
/-- The switching frequency a set runs at, Hz (R145). -/
def Mach.swFreq (m : Mach) (s : Fin 2) : Nat := m.n (Key.switchingFrequency (m.dataSet s).1)
/-- The sample mode a set runs at (R145). -/
def Mach.smpMode (m : Mach) (s : Fin 2) : Nat := m.n (Key.sampleMode (m.dataSet s).1)

/-- The owner of a law slot has pulses enabled: its set, the machine's either set in topologies 1 and 2, any set for the outer loops
(R113, R164). -/
def Mach.ownerPulses (m : Mach) (a : Nat) : Bool :=
  if a = 2 ∨ m.dual then m.gate[0].pulses || m.gate[1].pulses else m.gate[fin2 a].pulses
/-- Law slots run and idle as R113 says: one that starts has zero histories, one that stops is zero throughout. -/
def slotsFollow (m : Mach) : Mach :=
  { m with slots := vmap m.slots (fun i x =>
    if m.n (Key.slotOrder i.1) ≠ 0 ∧ m.ownerPulses (m.n (Key.slotAssignment i.1)) then (if x.running then x else { running := true }) else {}) }

/-- A carrier half-period of a frequency: the nearest whole multiple of 2.5 ns, ps (R56). -/
def halfOf (f : Nat) : Time := if f = 0 then 0 else ((1000000000000 + 2500 * f) / (5000 * f)) * 2500
/-- The set whose sample instants are the control-cycle boundaries: SyncSet's, else the other one; none without a configured set (R25). -/
def Mach.syncSet (m : Mach) : Option (Fin 2) :=
  let pick := fin2 (m.n Key.clearingSyncSet)
  if m.configured pick then some pick else if m.configured 0 then some 0 else if m.configured 1 then some 1 else none
/-- The period of the control-cycle boundary that a configuration gives, ps (R25). -/
def Mach.controlPeriod (m : Mach) : Time :=
  match m.syncSet with
  | none => 100000000
  | some s =>
    let h := halfOf (m.swFreq s)
    if m.smpMode s = 2 then h else 2 * h

/-- The other set. -/
def other (s : Fin 2) : Fin 2 := if s = 0 then 1 else 0

/-! ### Inputs of a set (R75, R76) -/

/-- The divider N of a modulator clock, the nearest of 16 to 80 (R76). -/
def mclkDiv (f : Nat) : Nat := if f = 0 then 80 else max 16 (min 80 ((2 * 400000000 + f) / (2 * f)))

/-- An input is used (R75): in topology 3 set 1 has MDAT9 alone. -/
def Mach.inputUsed (m : Mach) (s : Fin 2) (n : Fin 6) : Bool := !m.npc || s == 0 || n == 3
/-- The set whose settings and events an input of the physical sets has (R75): MDAT9 in topology 3 is set 0's. -/
def Mach.inputSet (m : Mach) (s : Fin 2) : Fin 2 := if m.npc then 0 else s
/-- The inputs of a set, with the physical set each is counted in: in topology 3 MDAT9 is set 0's (R75). -/
def Mach.inputsOf (m : Mach) (s : Fin 2) : List (Fin 2 × Fin 6) :=
  (List.finRange 6).map (fun n => (s, n)) ++ (if m.npc && s == 0 then [(1, 3)] else [])
/-- The bit period of a set's modulators, ps (R76). -/
def Mach.bitPeriod (m : Mach) (s : Fin 2) : Time := 2500 * mclkDiv (m.n (Key.senseModClock s.1))
/-- Sense.ActualModClock (R76). -/
def Mach.actualModClock (m : Mach) (s : Fin 2) : F32 := fRat 400000000 (mclkDiv (m.n (Key.senseModClock s.1)))
/-- A quantity of an input: Gain × x + Offset (R77). -/
def Mach.quantity (m : Mach) (s : Fin 2) (n : Fin 6) (x : F32) : F32 :=
  let k := m.inputSet s
  fadd (fmul (m.r (Key.inputGain k.1 n.1)) x) (m.r (Key.inputOffset k.1 n.1))
/-- The value of an input's DC chain (R78). -/
def Mach.dcValue (m : Mach) (s : Fin 2) (n : Fin 6) : F32 := m.quantity s n m.sense[s].inputs[n].dc.out
/-- The DC-link value of a set's DC chains (R75, R251). -/
def Mach.dcLink (m : Mach) (s : Fin 2) : F32 := if m.npc then fadd (m.dcValue 0 3) (m.dcValue 1 3) else m.dcValue s 3

/-- The device is a grove's member under another leader. -/
def Mach.follows (m : Mach) : Bool := decide (2 ≤ m.n Key.groveSize) && m.n Key.groveState == 2
/-- Drive 1 exists only in topology 0 with Share.Mode 0 (R183), which a member under a leader ignores (R339). -/
def Mach.driveExists (m : Mach) (d : Fin 2) : Bool := d == 0 || (m.topo == 0 && m.n (Key.shareMode 0) == 0 && !m.follows)
/-- The mode of a drive; a member's drive 0 runs in torque mode, whatever its own Mode (R339). -/
def Mach.modeOf (m : Mach) (d : Fin 2) : Nat := if d = 0 ∧ m.follows then 0 else m.n (Key.mode d.1)
/-- A drive takes its reference from a lever (R190), but for a member's drive 0 (R339). -/
def Mach.byLever (m : Mach) (d : Fin 2) : Bool := m.n (Key.refReferenceSource d.1) == 1 && !(d == 0 && m.follows)
/-- The sets a drive commands (R183). -/
def Mach.setsOf (m : Mach) (d : Fin 2) : List (Fin 2) :=
  if m.driveExists 1 then (if m.configured d then [d] else [])
  else if d = 0 then two.filter m.configured else []
/-- The drive that commands a set (R183). -/
def Mach.driveOf (m : Mach) (s : Fin 2) : Fin 2 := if m.driveExists 1 then s else 0
/-- The drives of the device. -/
def Mach.theDrives (m : Mach) : List (Fin 2) := two.filter m.driveExists
/-- A drive is configured when it commands a configured set (R148). -/
def Mach.driveConfigured (m : Mach) (d : Fin 2) : Bool := !(m.setsOf d).isEmpty
/-- The set whose machine data describe the machine of a set (R143). -/
def Mach.machSet (m : Mach) (s : Fin 2) : Nat := if m.topo = 0 then s.1 else 0

/-! ### Signal codes (R109) -/

/-- Codes of R109, 0xFFFF left out. -/
def signalCode (c : Nat) : Bool :=
  c == 0 || (0x0100 ≤ c && c ≤ 0x013F) || (0x0200 ≤ c && c ≤ 0x0215) || (0x0300 ≤ c && c ≤ 0x0315) ||
  (0x0400 ≤ c && c ≤ 0x0409) || (0x0500 ≤ c && c ≤ 0x0507)
/-- Signals that accept Echo injection (R109). -/
def injectable (c : Nat) : Bool :=
  c ∈ [0x0202, 0x0203, 0x0210, 0x0302, 0x0303, 0x0310, 0x0400, 0x0404, 0x0406, 0x0408]

/-! ### Owners and domains of entries (R66, R258) -/

/-- The set an index of the range 0x3xxx belongs to; in topology 3 all channels belong to set 0 (R258). -/
def Mach.setOfKey (m : Mach) (k : Nat) : Fin 2 :=
  let i := k / 256
  if m.npc && 0x3900 ≤ i && i ≤ 0x3905 then 0 else if i < 0x3800 then 0 else 1

/-- The domain instance of an entry (R66): a slot's follows its live Assignment, a position interface's the set it is assigned
to, other "control" entries outside the set ranges belong to the device (log entry 11). -/
def Mach.domOf (m : Mach) (k : Nat) : Option Dom :=
  let i := k / 256
  match rowOf k with
  | none => none
  | some r => match r.dom with
    | .none => none
    | .set => some (.set (m.setOfKey k))
    | .device => some .device
    | .network => some .network
    | .grove => some .grove
    | .control =>
      if 0x4000 ≤ i ∧ i ≤ 0x401F then
        match m.n (Key.slotAssignment (i - 0x4000)) with
        | 0 => some (.ctl 0)
        | 1 => some (.ctl 1)
        | _ => some .device
      else if i = 0x2200 ∨ i = 0x2201 then some (.ctl (fin2 (m.n (Key.piAssignedSet (i - 0x2200)))))
      else if 0x3000 ≤ i ∧ i < 0x4000 then some (.ctl (m.setOfKey k))
      else some .device

/-! ### Values and ranges (R391, R395) -/

/-- The value of the given bytes under a type, or the status of R360 that refuses it: length and type (0x0006), then BOOLEAN
encoding, NaN, infinity and characters (0x0005). -/
def parseVal (ty : Ty) (b : List Byte) : Except Nat Val :=
  match ty with
  | .str n => if b.length > n then .error 0x0006
              else if b.all (fun c => 0x20 ≤ c.toNat && c.toNat ≤ 0x7E) then .ok (.bytes b) else .error 0x0005
  | .oct n => if b.length = n then .ok (.bytes b) else .error 0x0006
  | .dom n => if b.length > n then .error 0x0006 else .ok (.bytes b)
  | .bool => if b.length = 1 then (if beNat b ≤ 1 then .ok (.num (beNat b)) else .error 0x0005) else .error 0x0006
  | .real => if b.length = 4 then
      (if fFinite (BitVec.ofNat 32 (beNat b)) then .ok (.num (beNat b)) else .error 0x0005) else .error 0x0006
  | t => if b.length = t.width then .ok (.num (beNat b)) else .error 0x0006

/-- The bytes a value is carried in (R391). -/
def carryVal (ty : Ty) : Val → List Byte
  | .num n => beBytes ty.width n
  | .bytes b => b

/-- Fields of a Lantern rule that R424 lays down: reserved codes and bits. -/
def lanternRuleOk (n : Nat) : Bool :=
  (n >>> 61) % 4 != 3 && (n >>> 56) % 32 ≤ 0x0C && (n >>> 53) % 8 ≤ 2 && (n >>> 32) % 4096 == 0 &&
  fFinite (BitVec.ofNat 32 n)

/-- Whether a value lies in an entry's range (R392, R395 check 8). -/
def Mach.inRange (_m : Mach) (k : Nat) (r : Row) (v : Val) : Bool :=
  match v with
  | .bytes _ => true
  | .num n =>
    match r.rng with
    | .any => true
    | .nat lo hi => lo ≤ n && n ≤ hi
    | .natOr lo hi xs => (lo ≤ n && n ≤ hi) || n ∈ xs
    | .natStep lo hi st => lo ≤ n && n ≤ hi && n % st == 0
    | .int lo hi => lo ≤ toSigned (8 * r.ty.width) n && toSigned (8 * r.ty.width) n ≤ hi
    | .oneOf xs => n ∈ xs
    | .real lo hi => fle lo (BitVec.ofNat 32 n) && fle (BitVec.ofNat 32 n) hi
    | .realOrZero lo hi => fIsZero (BitVec.ofNat 32 n) || (fle lo (BitVec.ofNat 32 n) && fle (BitVec.ofNat 32 n) hi)
    | .signal => signalCode n
    | .signalOrNeg => signalCode n || n == 0xFFFF
    | .echoTarget => n ≤ 31 || signalCode n
    | .eventClass =>
      let e := k % 256 - 1
      let c := eventClassRow e
      (c.2.1 ≤ n && n ≤ c.2.2)
    | .lanternRule => lanternRuleOk n
    | .pdMap => n % 256 == 0
    | .siFunction => n ≤ 3
    | .pairMode => n ≤ 2 && ((k / 256) % 2 == 0 || n == 0)

/-- The number of the ISF, AIN, law slot or other repeated unit an index belongs to, by its base. -/
def unitOf (k base : Nat) : Nat := k / 256 - base

/-- Microseconds, as REAL32 seconds. -/
def fSeconds (ns : Nat) : F32 := fRat ns 1000000000

/-- Percent of a quantity. -/
def fPercent (p x : F32) : F32 := fdiv (fmul p x) (fRat 100 1)

/-- π as the nearest word. -/
def fPi : F32 := 0x40490FDB
/-- √3 as the nearest word. -/
def fSqrt3 : F32 := 0x3FDDB3D7
/-- rpm to rad/s. -/
def rpmToRad (n : F32) : F32 := fdiv (fmul (fmul n (fRat 2 1)) fPi) (fRat 60 1)
/-- rad/s to rpm. -/
def radToRpm (w : F32) : F32 := fdiv (fmul w (fRat 60 1)) (fmul (fRat 2 1) fPi)
/-- Degrees of a rad quantity. -/
def radToDeg (x : F32) : F32 := fdiv (fmul x (fRat 180 1)) fPi
/-- An angle in degrees brought into 0 to 360. -/
def wrapDeg (x : F32) : F32 := fsub x (fmul (fRat 360 1) (fInt (fFloor (fdiv x (fRat 360 1)))))
/-- An angle difference in degrees brought into −180 to 180. -/
def wrapDiff (x : F32) : F32 := let y := wrapDeg x; if fgt y (fRat 180 1) then fsub y (fRat 360 1) else y
/-- A linear change evaluated at a time (ns). -/
def Fade.at_ (f : Fade) (ns : Nat) : F32 :=
  if f.dur = 0 ∨ ns ≥ f.start + f.dur then f.to_
  else fadd f.from_ (fmul (fsub f.to_ f.from_) (fRat ((ns - f.start : Nat) : Int) f.dur))
/-- A linear change has ended. -/
def Fade.over_ (f : Fade) (ns : Nat) : Bool := ns ≥ f.start + f.dur

end Sys2Proof.Machine
end

