-- ==== Sys2Proof/Machine/Flags.lean ====
section
/-! DEFINITION. Flags and status words the device forms from its state: FAULT_N, the active-event words, lane and commit
status, and the other read-only entries whose value follows from other state (R50, R71, R401, R450, R459). -/

namespace Sys2Proof.Machine

/-- Code of a lane status (R50). -/
def laneCode : LaneStatus → Nat | .active => 0 | .dissenting => 1 | .resyncing => 2 | .retired => 3
/-- Lanes that vote (R29). -/
def Mach.activeLanes (m : Mach) : List Lane := lanes3.filter (fun l => m.clr.lanes[laneIx l].status == .active)
/-- Clearing.LaneStatus (R50). -/
def Mach.laneStatusWord (m : Mach) : Nat :=
  laneCode m.clr.lanes[0].status + 4 * laneCode m.clr.lanes[1].status + 16 * laneCode m.clr.lanes[2].status
/-- Clearing.State (R50): 0 triplex, 1 duplex for resync, 2 duplex after retirement, 3 safe state. -/
def Mach.clearingState (m : Mach) : Nat :=
  if m.clr.safeState then 3
  else if m.activeLanes.length = 3 then 0
  else if lanes3.any (fun l => m.clr.lanes[laneIx l].status == .retired) then 2 else 1

/-- Drive state code (R186). -/
def driveCode : DriveState → Nat
  | .off => 0 | .starting => 1 | .running => 2 | .stopping => 3 | .waiting => 4 | .quickRelease => 5 | .locked => 6

/-- FaultCause code of a latch (R258). -/
def causeCode : TripCause → Nat
  | .didt => 0x01 | .integrator => 0x02 | .desaturation => 0x03 | .vposUvlo => 0x04 | .vnegUvlo => 0x05
  | .legInterlock => 0x06 | .linkLossChannel => 0x07 | .linkLossMain => 0x08 | .logicSupply => 0x09 | .invalidCommand => 0x0A

/-- A channel is available: no latched fault and valid rails (R245). -/
def Mach.available (m : Mach) (c : Fin 12) : Bool :=
  let x := m.ch[c]
  x.latches.isEmpty && x.vposOk && (x.vnegOk || m.n (Key.gUvloNegRail c.1) == 0) && x.logicOk

/-- A channel that may make edges: available, and its configuration accepted (R212, R223). -/
def Mach.ready (m : Mach) (c : Fin 12) : Bool := m.available c && m.ch[c].config.isSome
/-- Status word of a channel (R258). -/
def Mach.channelStatus (m : Mach) (c : Fin 12) : Nat :=
  let x := m.ch[c]
  b2n (m.available c) + 2 * b2n x.on + 4 * b2n (x.latches.contains .vposUvlo) + 8 * b2n (x.latches.contains .vnegUvlo) +
  16 * b2n (x.latches.contains .didt) + 32 * b2n (x.latches.contains .integrator) +
  64 * b2n (x.latches.contains .desaturation) +
  128 * b2n (x.latches.contains .linkLossChannel || x.latches.contains .linkLossMain) + 256 * b2n (x.inject != 0) + 512 * b2n x.soft

/-- Highest class among active events that satisfy a test; 0xFF where there is none (R401, R459). -/
def Mach.highest (m : Mach) (p : Active → Bool) : Nat :=
  let cs := (m.ev.active.filter p).map (·.cls)
  if cs.isEmpty then 0xFF else cs.foldl max 0

/-- Bits of the active events with numbers `lo` to `lo + 63` (R459). -/
def Mach.activeWord (m : Mach) (lo : Nat) : Nat :=
  m.ev.active.foldl (fun w a => if lo ≤ a.ev ∧ a.ev < lo + 64 then w ||| (1 <<< (a.ev - lo)) else w) 0

/-- An event is active (R446). -/
def Mach.isActive (m : Mach) (ev : Nat) : Bool := m.ev.active.any (fun a => a.ev == ev)

/-- FAULT_N (R41, R427, R443, R450): the Clearing's safe state, an active event of class F3 or higher, the Lantern's latch
(Lantern.Status bit 2), the boot state. -/
def Mach.faultWanted (m : Mach) : Bool :=
  m.clr.safeState || m.ev.active.any (fun a => 3 ≤ a.cls) || bit (m.n Key.lanternStatus) 2 || m.up == some false

/-- Sto.Status (R311). -/
def Mach.stoStatus (m : Mach) : Nat :=
  let x := m.safety.sto
  b2n x.hs + 2 * b2n x.ls + 4 * b2n x.fbp + 8 * b2n x.fbn + 16 * b2n x.fault + 32 * b2n x.deferred

/-- Brake status word (R311). -/
def Mach.brakeStatus (m : Mach) (k : Fin 2) : Nat :=
  let x := m.safety.brakes[k]
  b2n x.released + 2 * b2n x.hs + 4 * b2n x.ls + 8 * b2n x.fbp + 16 * b2n x.fbn +
  32 * b2n (x.releaseFault || x.applyFault || x.switchFault) + 64 * b2n (x.test != .idle)

/-- Safety.LockoutCause: one bit per row of R289, in the order of its table. -/
def Mach.lockoutCause (m : Mach) : Nat :=
  let si := (List.finRange 6).any (fun i => let x := m.safety.si[i]; x.discrep || x.ch[0].testFault || x.ch[1].testFault)
  let brk := two.any (fun k => let b := m.safety.brakes[k]; b.releaseFault || b.applyFault || b.switchFault)
  b2n m.clr.safeState +
  2 * b2n (two.any (fun d => m.drives[d].st == .locked)) + 4 * b2n si +
  8 * b2n (m.ev.active.any (fun a => a.cls == 4)) + 16 * b2n (two.any (fun s => m.gate[s].retry == 3)) +
  32 * b2n (m.safety.sto.fault || brk) + 64 * b2n (two.any (fun k => m.safety.brakes[k].testFailed)) +
  128 * b2n (two.any (fun s => m.mc[s].losState == 2 || m.mc[s].losState == 3)) +
  256 * b2n (two.any (fun d => m.drives[d].qrEnded))

/-- Status word of a law slot (R141's table): running, saturated high, saturated low, frozen, swap carried, non-finite hold. -/
def Mach.slotStatus (m : Mach) (i : Fin 32) : Nat :=
  let x := m.slots[i]
  b2n x.running + 2 * b2n (x.sat == 1) + 4 * b2n (x.sat == 2) + 8 * b2n x.frozen +
  16 * b2n ((List.finRange 7).any (fun d => m.doms[d].carried.any (fun c => c.slots.contains i))) + 32 * b2n x.nonFin

/-- Status word of a position interface (R103). -/
def posStatus (p : PosIf) : Nat :=
  b2n (p.valid && !p.wireBreak && !p.excOpen && !p.settling && !p.overSpeed) + 2 * b2n p.referenced + 4 * b2n p.wireBreak +
  8 * b2n p.countErr + 16 * b2n p.excOpen + 32 * b2n p.trackLoss + 64 * b2n p.overSpeed

/-- The encoder of an interface is valid (R98, R103). -/
def posValid (p : PosIf) : Bool := p.valid && !p.wireBreak && !p.excOpen && !p.settling && !p.overSpeed

/-- Status word of a modulator input (R103). -/
def inputStatus (x : Input) : Nat :=
  b2n (1 ≤ x.shadow && x.shadow ≤ 3) + 2 * b2n (x.shadow == 1) + 4 * b2n (x.shadow == 2) + 8 * b2n x.dead + 16 * b2n x.overRange + 32 * b2n x.tripped

/-- Status word of the boundary domain a commit reads back (R70): the domain Commit.Domain names. -/
def Mach.commitView (m : Mach) : DomSt :=
  match domOfCode (m.n Key.commitDomain) with
  | some d => m.doms[domIx d]
  | none => {}

/-- Milliseconds left of the seal confirmation time (R295). -/
def Mach.confirmLeft (m : Mach) : Nat :=
  match m.safety.sealEnd with
  | none => 0
  | some e => (e - m.ns) / 1000000

/-- The button's state word (R311): open, pressed, held, blocked until open. -/
def buttonCode (b : Button) : Nat := if b.blocked then 3 else if b.held then 2 else if b.closed then 1 else 0

/-- IEEE 802.1AS time in ns, 0 while unsynchronised, by the offset and the rate ratio of the last Sync (R354, R355, R455). -/
def Mach.netTime (m : Mach) : Nat :=
  let g := m.net.gptp
  match m.n Key.gptpState with
  | 2 => g.lastTime + (m.ns - g.lastSync) * g.rateNum / max 1 g.rateDen
  | 3 => ((m.ns : Int) + toSigned 64 (m.n Key.gptpOffsetToTimebase)).toNat
  | _ => 0
/-- The timebase time (ns) of an IEEE 802.1AS time (R203, R354). -/
def Mach.timebaseOf (m : Mach) (t : Nat) : Int :=
  let g := m.net.gptp
  if m.n Key.gptpState = 2 then (g.lastSync : Int) + ((t : Int) - g.lastTime) * g.rateDen / max 1 g.rateNum
  else (t : Int) - toSigned 64 (m.n Key.gptpOffsetToTimebase)

/-- Position for a log record: 0xFF alone (R455). -/
def Mach.groveByte (m : Mach) : Nat := if m.n Key.groveSize ≤ 1 then 0xFF else m.n Key.canopyPosition

end Sys2Proof.Machine
end

