-- ==== Sys2Proof/Machine/Events.lean ====
section
/-! DEFINITION. Events: classes, records, notifications, the active list (R446, R449 to R456, R487). The reactions of the
classes are in React.lean. -/

namespace Sys2Proof.Machine

/-- The class in force for an event (R453): the configured one, which for "Lantern tick missing" is F2 at least outside a grove of
two or more (R55, R452; log entry 12). -/
def Mach.classOf (m : Mach) (e : Nat) : Nat :=
  let c := m.n (Key.eventClass e)
  if e = 0x06 ∧ m.n Key.groveSize < 2 then max 2 c else c

/-- Condition events: the rule that raises them describes a state that lasts (R487; the list is read from the raising rules,
log entry 13). Every other event is an occurrence event. -/
def conditionEvents : List Nat :=
  [0x03, 0x04, 0x05, 0x06, 0x0D, 0x10, 0x13, 0x14, 0x15, 0x16, 0x21, 0x23, 0x26, 0x28, 0x29, 0x2D, 0x2E, 0x2F, 0x30, 0x33,
   0x34, 0x35, 0x36, 0x37, 0x38, 0x39, 0x3A, 0x3B, 0x3E, 0x3F, 0x40, 0x43, 0x44, 0x45, 0x46, 0x47, 0x49, 0x4A, 0x4B, 0x4C,
   0x4D, 0x53, 0x55, 0x57, 0x58, 0x59, 0x5A, 0x5C, 0x5E, 0x62, 0x63, 0x65, 0x66, 0x67, 0x69, 0x6E, 0x72, 0x73, 0x74, 0x76,
   0x77, 0x78, 0x79, 0x7A, 0x7B, 0x7D, 0x7F]

/-- The trip events of a set, cleared at F3 by command 0x08 (R446). -/
def tripEvents : List Nat := [0x09, 0x34, 0x35, 0x36, 0x37, 0x38, 0x39, 0x3A]

/-- A byte of an optional set or drive number (R455). -/
def optByte (o : Option (Fin 2)) : Nat := match o with | none => 0xFF | some i => i.1

/-- The 64-byte log record (R455); `kind` is 0 raised, 1 cleared. -/
def Mach.logRecord (m : Mach) (e kind cls : Nat) (set drv : Option (Fin 2)) (inst : Nat) (v1 v2 : BitVec 32) : List Byte :=
  let sup := (look e m.ev.suppressed).getD 0
  let body :=
    beBytes 4 m.ev.nextSeq ++ beBytes 4 (m.n Key.identityBootCount) ++ beBytes 8 m.ns ++ beBytes 8 m.netTime ++
    beBytes 1 e ++ beBytes 1 kind ++ beBytes 1 cls ++ beBytes 1 (optByte set) ++ beBytes 1 (optByte drv) ++ beBytes 1 inst ++
    beBytes 2 sup ++ beBytes 4 v1.toNat ++ beBytes 4 v2.toNat ++ beBytes 2 m.ev.lost ++ beBytes 1 m.clearingState ++
    beBytes 1 (m.n Key.shadeLevel) ++ beBytes 1 (m.n Key.safetyState) ++ beBytes 1 (driveCode m.drives[0].st) ++
    beBytes 1 (driveCode m.drives[1].st) ++ beBytes 1 m.groveByte ++ List.replicate 12 0
  body ++ beBytes 4 (crc32c body).toNat

/-- A log record is written (R454, R456): notified in every case (R455); kept from NV memory, and counted lost, at Shade 2 and
above for F0 and F1 and when 64 records wait already; kept in the RAM ring of 256 while NV writing is stopped. -/
def Mach.record (m : Mach) (e kind cls : Nat) (set drv : Option (Fin 2)) (inst : Nat) (v1 v2 : BitVec 32) : Mach :=
  let rec_ := m.logRecord e kind cls set drv inst v1 v2
  let noted := (m.modEv (fun x => { x with
      nextSeq := (x.nextSeq + 1) % 2 ^ 32, suppressed := erase e x.suppressed,
      recent := if kind = 0 then x.recent.filter (fun r => m.ns < r.2 + 1000000000) ++ [(e, m.ns)] else x.recent })).emit (.note rec_)
  let waiting := (m.nv.jobs.filter (fun j => match j with | .log _ => true | _ => false)).length
  let full := decide (!m.nv.stopped ∧ 64 ≤ waiting)
  if 2 ≤ m.n Key.shadeLevel ∧ cls ≤ 1 ∨ full then
    let x := (noted.modEv (fun x => { x with lost := x.lost + 1 })).inc Key.logLostCount
    let x := if full then x.inc (Key.queueDropCount 99) else x
    x.nvJob (.entry Key.logLostCount (x.val Key.logLostCount) .nobody)
  else
    let kept := noted.modEv (fun x => { x with lost := 0 })
    if m.nv.stopped then kept.modEv (fun x => { x with ramRing := (x.ramRing ++ [rec_]).drop ((x.ramRing.length + 1) - 256) })
    else { kept with nv := { kept.nv with jobs := kept.nv.jobs ++ [.log rec_] } }

/-- The identity of an active event: its number, scope and instance (log entry 13). -/
def Active.is (a : Active) (e : Nat) (set drv : Option (Fin 2)) (inst : Nat) : Bool :=
  a.ev == e && a.set == set && a.drv == drv && a.inst == inst

/-- One record per set per second for "late edge" and "late output" (R64, R125), one in ten per EV and second for all (R454). -/
def Mach.withheld (m : Mach) (e : Nat) (set : Option (Fin 2)) : Bool :=
  let recent := (m.ev.recent.filter (fun r => r.1 == e && decide (m.ns < r.2 + 1000000000))).length
  let last := (m.ev.perSet.find? (fun p => p.1 == (e, optByte set))).map (·.2)
  decide (10 ≤ recent) ||
  ((e == 0x07 || e == 0x1A) && (match last with | none => false | some t => decide (m.ns < t + 1000000000)))

/-- The capture's trigger on an event hears every raise of it, whether a record is written or not (R137, R454). -/
def Mach.captureHears (m : Mach) (e : Nat) : Mach :=
  if m.capture.state = 1 ∧ m.n Key.captureTrigger = 4 ∧ m.n Key.captureTriggerEvent = e then
    { m with capture := { m.capture with hit := true } }
  else m

/-- An event is raised with a class applied, its reaction left to the caller: the record, unless it is active already or a limit
withholds it (R454), and the active list (R446, R487). In Clearing safe state no event is raised (R451). -/
def Mach.note_ (m : Mach) (e cls : Nat) (set drv : Option (Fin 2)) (inst : Nat) (v1 v2 : BitVec 32) : Mach :=
  if m.clr.safeState then m else
  let m := m.captureHears e
  let isAct := m.ev.active.any (fun a => a.is e set drv inst)
  let m1 :=
    if isAct then m
    else if m.withheld e set then
      m.modEv (fun x => { x with suppressed := putAt (fun _ => 0) e ((look e x.suppressed).getD 0 + 1) x.suppressed })
    else
      (m.record e 0 cls set drv inst v1 v2).modEv (fun x => { x with
        perSet := if e = 0x07 ∨ e = 0x1A then
            (x.perSet.filter (fun p => p.1 != (e, optByte set))) ++ [((e, optByte set), m.ns)] else x.perSet })
  if cls = 0 then m1
  else if isAct then
    m1.modEv (fun x => { x with active := x.active.map (fun a => if a.is e set drv inst then { a with gone := !conditionEvents.contains e } else a) })
  else m1.modEv (fun x => { x with active := x.active ++
      [{ ev := e, set := set, drv := drv, inst := inst, cls := cls, gone := !conditionEvents.contains e }] })

/-- Active events that satisfy a test are cleared, each with a "cleared" record (R449). -/
def Mach.clearEvents (m : Mach) (p : Active → Bool) : Mach :=
  (m.ev.active.filter p).foldl (fun m a => m.record a.ev 1 a.cls a.set a.drv a.inst 0 0)
    (m.modEv (fun x => { x with active := x.active.filter (fun a => !p a) }))

/-- The cause of a condition event is gone (R446, R487): F1 ends with its cause; higher classes wait for their reset. -/
def Mach.causeGone (m : Mach) (e : Nat) (set drv : Option (Fin 2)) (inst : Nat) : Mach :=
  let m := m.modEv (fun x => { x with active := x.active.map (fun a => if a.is e set drv inst then { a with gone := true } else a) })
  m.clearEvents (fun a => a.is e set drv inst && a.cls == 1 && conditionEvents.contains a.ev)

/-- What a fault reset clears (R449): active events of class F1 to F3 whose cause is gone; a trip event of a set at F3 waits for
command 0x08 (R446). -/
def faultResettable (a : Active) : Bool :=
  a.gone && 1 ≤ a.cls && a.cls ≤ 3 && !(tripEvents.contains a.ev && a.cls == 3)

/-- An event of class F2 or higher is active in a drive's scope (R447, R449), but for those of sets that do not matter. -/
def Mach.blocked (m : Mach) (d : Fin 2) (skip : Fin 2 → Bool) : Bool :=
  m.ev.active.any (fun a => 2 ≤ a.cls && (match a.set with
    | some s => m.driveOf s == d && !skip s
    | none => match a.drv with | some x => x == d | none => true))
/-- An event of class F2 or higher is active in a drive's scope. -/
def Mach.blocksStart (m : Mach) (d : Fin 2) : Bool := m.blocked d (fun _ => false)

end Sys2Proof.Machine
end

