-- ==== Sys2Proof/Machine/React.lean ====
section
/-! DEFINITION. What an event's class does (R446 to R448): pulse removal and the turn-off sequence (R240 to R245), STO and its
deferral (R260 to R262), brakes (R282), SS1 (R277), limp (R208 to R210), the decision after a loss of synchronism (R171, R174),
and raising an event with its reaction. -/

namespace Sys2Proof.Machine

/-- How an event is raised from within a reaction: number, set, drive, instance. -/
abbrev Raiser := Nat → Option (Fin 2) → Option (Fin 2) → Nat → Mach → Mach

/-! ### Speeds -/

/-- The position interface a set takes its angle from, if it names one (R165). -/
def Mach.piOf (m : Mach) (s : Fin 2) : Option (Fin 2) :=
  match m.n (Key.obsPositionSource (m.machSet s)) with
  | 1 => some 0
  | 2 => some 1
  | _ => none
/-- A set's encoder is valid (R98, R165). -/
def Mach.encValid (m : Mach) (s : Fin 2) : Bool := match m.piOf s with | some i => posValid m.pos[i] | none => false
/-- Pole pairs of a set's machine. -/
def Mach.poles (m : Mach) (s : Fin 2) : F32 := fNat (m.n (Key.machinePolePairs (m.machSet s)))
/-- The speed of a set's shaft in rpm, signed: the encoder's while it is valid, the observer's otherwise (R165). -/
def Mach.setSpeed (m : Mach) (s : Fin 2) : F32 :=
  match m.piOf s with
  | some i => if posValid m.pos[i] then m.pos[i].speed else fdiv (radToRpm m.mc[s].obsOmega) (m.poles s)
  | none => fdiv (radToRpm m.mc[s].obsOmega) (m.poles s)
/-- The first set of a drive. -/
def Mach.firstSet (m : Mach) (d : Fin 2) : Fin 2 := match m.setsOf d with | s :: _ => s | [] => d
/-- The speed of a drive, 0x0401 (R109). -/
def Mach.speedOf (m : Mach) (d : Fin 2) : F32 := m.setSpeed (m.firstSet d)
/-- Rated speed of a drive's machine, rpm. -/
def Mach.ratedSpeed (m : Mach) (d : Fin 2) : F32 := m.r (Key.machineRatedSpeed (m.machSet (m.firstSet d)))

/-- The electrical speed without pulses and without an encoder: in active short circuit that of the zero crossings of the phase
currents, the estimate of which is a free value (R173; log entry 3), otherwise the terminal measurement's where it is valid (R172). -/
def Mach.bareOmega (m : Mach) (s : Fin 2) : Option F32 :=
  if m.gate[s].asc.isSome then some m.mc[s].obsOmega
  else if m.sense[s].termValid then some (fmul (fmul (fRat 2 1) fPi) m.sense[s].termFreq) else none
/-- The electrical speed by which the uncontrolled-generation condition is judged: the speed in use while pulses are enabled,
the encoder's while they are removed, or else as `bareOmega` gives it (R172, R173); none where nothing is valid. -/
def Mach.genOmega (m : Mach) (s : Fin 2) : Option F32 :=
  if m.gate[s].pulses then some m.mc[s].omega
  else match m.piOf s with
    | some i => if posValid m.pos[i] then some (fmul (rpmToRad m.pos[i].speed) (m.poles s)) else m.bareOmega s
    | none => m.bareOmega s
/-- The DC-link voltage of a set as its input 3 last gave it; in topology 3 the sum of both halves (R75). -/
def Mach.udc (m : Mach) (s : Fin 2) : F32 :=
  if m.npc then fadd m.sense[0].inputs[3].value m.sense[1].inputs[3].value else m.sense[s].inputs[3].value
/-- √3 ψ_PM |ω| of a permanent-magnet machine (R171). -/
def Mach.backEmf (m : Mach) (s : Fin 2) (w : F32) : F32 :=
  fmul (fmul fSqrt3 (m.r (Key.machinePsiPM (m.machSet s)))) (fabs w)
/-- The machine is a permanent-magnet machine (R145). -/
def Mach.isPm (m : Mach) (s : Fin 2) : Bool := m.n (Key.machineMachineType (m.machSet s)) != 2
/-- The uncontrolled-generation condition at a speed (R171). Where no speed is known it is taken as not holding (DESIGN CHOICE, log entry
122). -/
def Mach.generates (m : Mach) (s : Fin 2) (w : Option F32) : Bool :=
  match w with
  | none => false
  | some w => m.isPm s && fgt (m.backEmf s w) (m.udc s)

/-! ### Switches and sets -/

/-- A command code goes to a channel die (R222). -/
def cmdCh (c : Fin 12) (code : Nat) (m : Mach) : Mach := m.emit (.command c code)

/-- A switching command of a leg opens exclusion zones in its own set and, for inputs with bit 3, in the other (R81); in topology 3 set
1's MDAT9 has the legs of set 0 (R75). Commands older than 100 µs can meet no window and are forgotten. -/
def noteEdge (s : Fin 2) (leg : Fin 3) (m : Mach) : Mach :=
  let add := fun (mask : Nat) (x : Sense) => { x with edges := (x.edges.filter (fun e => m.now < e.1 + 100000000)) ++ [(m.now, mask)] }
  (m.modSense s (add (2 ^ leg.1))).modSense (other s) (add (if m.npc then 2 ^ leg.1 else 8))
/-- A leg's level from an instant on, for the applied voltage (R84, R85). -/
def notePole (s : Fin 2) (leg : Fin 3) (t : Time) (level : Nat) (m : Mach) : Mach :=
  m.modSense s (fun x => { x with poles := x.poles ++ [{ at_ := t, leg := leg, level := level }] })

/-- A switch that is on is turned off, softly or with its Off profile (R224), a switching command of its leg (R81); one that is off
stays as it is. -/
def switchOff (c : Fin 12) (soft : Bool) (m : Mach) : Mach :=
  let m := if m.ch[c].on then noteEdge (m.setOfCh c) (m.legOfCh c) m else m
  let t1 := if soft then 1500000 else 1000 * m.n (Key.gLiveOffT1 c.1)
  m.modCh c (fun x =>
    if x.on then { x with
      on := false, want := false, offHeld := false, offAt := m.now, soft := soft, confirmed := false, iInt := 0,
      source := 0, sink := if soft then 2 else if t1 = 0 then m.n (Key.gOffN2 c.1) else m.n (Key.gLiveOffN1 c.1),
      phase1End := if t1 = 0 then none else some (m.now + 80000 + t1) }
    else { x with want := false })

/-- An inner switch of an NPC leg may be turned off: its outer switch has been commanded off for 2 µs and confirmed off (R232);
every other switch may be turned off at any time. -/
def Mach.offAllowed (m : Mach) (c : Fin 12) : Bool :=
  if m.npc && (c.1 % 4 == 2 || c.1 % 4 == 3) then
    let o := m.ch[chan (c.1 - 2)]
    !o.on && o.confirmed && decide (o.offAt + 2000000 ≤ m.now)
  else true

/-- A channel held off, its die told so by command 0x02 or 0x03 (R222); a die that has tripped ignores it (R237). -/
def holdOff1 (c : Fin 12) (soft : Bool) (m : Mach) : Mach :=
  cmdCh c (if soft then 0x03 else 0x02)
    (m.modCh c (fun x => if x.latches.isEmpty then { x with mode := if soft then .softHold else .offHold, want := false } else { x with want := false }))

/-- A die follows edges, or holds its switch on: no command holds its switch off yet. -/
def Channel.loose (x : Channel) : Bool := x.mode == .release || x.mode == .staticOn || x.want

/-- One step of a turn-off sequence: the first switch of the rest that is on is turned off and held, the next step follows 500 ns
later (R241); an inner NPC switch that must still wait holds the sequence (R232). -/
def turnOffStep (s : Fin 2) (rest : List (Fin 12)) (soft : Bool) (m : Mach) : Mach :=
  match rest.filter (fun c => m.ch[c].on) with
  | [] => m.modGate s (fun g => { g with turnOff := none })
  | c :: more =>
    if m.offAllowed c then
      (holdOff1 c soft (switchOff c soft m)).modGate s (fun g => { g with
        turnOff := if more.isEmpty then none else some { rest := more, soft := soft, next := m.now + 500000 } })
    else m.modGate s (fun g => { g with turnOff := some { rest := c :: more, soft := soft, next := m.now } })

/-- The turn-off sequence of a set over some of its switches (R241, R242): those that are off are held off, those that are on follow in
order. A sequence that runs goes on with its next step; it stays soft, and becomes soft with a protective turn-off (R240). -/
def turnOffSeq (s : Fin 2) (cs : List (Fin 12)) (soft : Bool) (m : Mach) : Mach :=
  let on := cs.filter (fun c => m.ch[c].on)
  let m := m.each (cs.filter (fun c => !m.ch[c].on && m.ch[c].loose)) (holdOff1 · soft)
  let m := m.each on (fun c m => m.modCh c (fun x => { x with want := false }))
  match m.gate[s].turnOff with
  | some x => m.modGate s (fun g => { g with turnOff := if on.isEmpty then none else some { x with rest := on, soft := x.soft || soft } })
  | none => turnOffStep s on soft m

/-- Motor turns of the position source, as its angle was last latched. -/
def Mach.motorTurns (m : Mach) (d : Fin 2) : F32 :=
  match m.piOf (m.firstSet d) with
  | some i => fadd (fInt m.pos[i].turns) (fdiv m.pos[i].angle (fRat 360 1))
  | none => 0
/-- The wraps at an instant: those of the last update and the drum turns since, hauling in being forward (R11, R197). -/
def Mach.wrapsAt (m : Mach) (d : Fin 2) (turns : F32) : F32 :=
  fadd m.drives[d].wraps (fdiv (fsub turns m.drives[d].turnsAt) (m.r (Key.winchGearRatio d.1)))
/-- Motor turns with the counts since the last latch (R93, R94). -/
def Mach.turnsNow (m : Mach) (d : Fin 2) : F32 :=
  match m.piOf (m.firstSet d) with
  | some i => if m.n (Key.piMode i.1) ≤ 2 then
      fadd (m.motorTurns d) (fRat (m.pos[i].count - m.pos[i].countPrev) (max 1 (4 * m.n (Key.piLinesPerRev i.1)))) else m.motorTurns d
  | none => 0

/-- The count of a drive's position source that is stored beside its wraps (R197). -/
def Mach.posCount (m : Mach) (d : Fin 2) : Int := match m.piOf (m.firstSet d) with | some i => m.pos[i].count | none => 0

/-- The wraps and the count at a pulse removal or sleep entry become the drive's Wraps entry, kept in NV memory (R197). -/
def storeWraps (d : Fin 2) (m : Mach) : Mach :=
  let v := Val.bytes (beBytes 4 (m.wrapsAt d (m.turnsNow d)).toNat ++ beBytes 4 (ofSigned 32 (m.posCount d)))
  (m.putDevice (Key.winchWraps d.1) v).modLan (fun l => { l with wrapsRef := vmod l.wrapsRef d (fun _ => m.pos[0].referenced) })

/-- What follows every removal of a set's pulses: the held duties are cleared (R484), its law slots go idle, the outer loops'
too once no set has its pulses (R113), the windmill record takes the speed (R428), the wraps are stored (R197). -/
def pulsesRemoved (s : Fin 2) (m : Mach) : Mach :=
  let was := m.gate[s].pulses
  let m := (m.modGate s (fun g => { g with pulses := false, removedAt := if was then m.now else g.removedAt })).modPwm s
    (fun p => { p with legs := Vector.replicate 3 {}, lows := Vector.replicate 3 {} })
  if !was then m else
  let m := m.each three (fun leg m => notePole s leg m.now 3 m)
  let speed := m.setSpeed s
  let m := slotsFollow m
  let m := ((m.putR (Key.windmillSpeed s.1) speed).putN (Key.windmillAge s.1) 0).putN (Key.windmillSource s.1) 1
  let m : Mach := { m with lantern := { m.lantern with millTick := vmod m.lantern.millTick s (fun _ => m.n Key.lanternTickCount) } }
  let m := m.modMc s (fun x => { x with
    building := false, ramp := none, fluxRamp := none, polarity := 0, catching := false, resCount := 0, angCount := 0,
    fluxOut := none, omegas := [], idPred := 0, iqPred := 0, measuring := false })
  let m : Mach := (m.modSense s (fun x => { x with allSeen := false, termValid := false })).modEng s (fun x => { x with stall := 0 })
  let d := m.driveOf s
  if m.n (Key.application d.1) = 1 then storeWraps d m else m

/-- A set's pulses are removed and its switches turned off in the order of R241, softly in a protective turn-off, each with its
Off profile otherwise (R240). Direct mode needs a new enable (R230). -/
def stopPulses (s : Fin 2) (soft : Bool) (m : Mach) : Mach :=
  turnOffSeq s (m.setChs s) soft ((pulsesRemoved s m).modGate s (fun g => { g with asc := none, direct := false }))

/-- The pattern the side selector shows (R245): the low side while all of it is available, else the high side; a three-level set
has level O while T2 and T3 are available. -/
def Mach.sideSelector (m : Mach) (s : Fin 2) : Option AscPattern :=
  let cs := m.setChs s
  if m.npc then
    (if (cs.filter (fun c => c.1 % 4 = 2 ∨ c.1 % 4 = 3)).all m.available then some .levelO else none)
  else if (cs.filter (fun c => c.1 % 2 = 1)).all m.available then some .low
  else if (cs.filter (fun c => c.1 % 2 = 0)).all m.available then some .high
  else none
/-- The switches a pattern holds on (R244, R245). -/
def inPattern (p : AscPattern) (c : Fin 12) : Bool :=
  match p with
  | .low => c.1 % 2 == 1
  | .high => c.1 % 2 == 0
  | .levelO => c.1 % 4 == 2 || c.1 % 4 == 3

/-- A set enters a pattern: the switches that must be off turn off softly in order, those that must be on are requested through
the interlock, those already in their state stay (R244). -/
def ascPattern (s : Fin 2) (p : AscPattern) (m : Mach) : Mach :=
  let cs := m.setChs s
  let m := (pulsesRemoved s m).modGate s (fun g => { g with asc := some p, direct := false })
  let m := m.each (cs.filter (inPattern p)) (fun c m =>
    cmdCh c 0x04 (m.modCh c (fun x =>
      if x.latches.isEmpty then { x with mode := .staticOn, want := true, wantSince := if x.want then x.wantSince else m.now } else x)))
  turnOffSeq s (cs.filter (fun c => !inPattern p c)) true m

/-- A set enters active short circuit, or turns every switch off and says so where no side is available (R244, R245). -/
def ascEnter (rz : Raiser) (s : Fin 2) (m : Mach) : Mach :=
  match m.sideSelector s with
  | some p => (ascPattern s p m).modMc s (fun x => { x with losState := 2 })
  | none => rz 0x41 (some s) none 0xFF (stopPulses s true m)

/-! ### Brakes (R282) -/

/-- The brake outputs of a drive (R281). -/
def Mach.brakesOf (m : Mach) (d : Fin 2) : List (Fin 2) := two.filter (fun k => m.n (Key.brakeDrive k.1) == d.1)

/-- The torque estimate of a drive: the sum over its sets (R188). -/
def Mach.driveTorque (m : Mach) (d : Fin 2) : F32 := fsum ((m.setsOf d).map (fun s => m.mc[s].torque))

/-- A brake is applied: both switches open, the check of R283 runs to ApplyTime; the drive's holding torque is recorded (R188). -/
def brakeApply (k : Fin 2) (m : Mach) : Mach :=
  let b := m.safety.brakes[k]
  if !b.hs ∧ !b.ls then m else
  let m := m.modBrake k (fun b => { b with
    hs := false, ls := false, released := false, verified := false, test := .idle, pulseEnd := none, nextTest := none,
    checkEnd := some (m.ns + ms (m.n (Key.brakeApplyTime k.1))) })
  if m.n (Key.brakeDrive k.1) ≤ 1 then
    let d := fin2 (m.n (Key.brakeDrive k.1))
    m.modDrive d (fun x => { x with holdTorque := some (m.driveTorque d) })
  else m

/-- The brakes of a drive are applied, but for a set in active short circuit, whose brake follows the end of it, and in the free
payout of Fallback 1 while its demand lasts (R214, R282). -/
def brakesApply (d : Fin 2) (m : Mach) : Mach :=
  let x := m.drives[d]
  if (m.setsOf d).any (fun s => m.gate[s].asc.isSome) || (x.qrState == 3 && x.qrDemand) then m else m.each (m.brakesOf d) brakeApply

/-- A brake is released: both switches close and the release check runs to ReleaseTime (R281, R283). A fault keeps it applied
until a deliberate reset, unless `force` (R214). -/
def brakeRelease (force : Bool) (k : Fin 2) (m : Mach) : Mach :=
  let b := m.safety.brakes[k]
  if !force ∧ (b.releaseFault ∨ b.applyFault ∨ b.switchFault) then m else
  if b.hs ∧ b.ls then m else
  m.modBrake k (fun b => { b with
    hs := true, ls := true, verified := false, test := .idle, pulseEnd := none,
    checkEnd := some (m.ns + ms (m.n (Key.brakeReleaseTime k.1))) })

/-! ### STO (R260 to R262, R273, R276) -/

/-- A drive is in a state that uses the gate supply (R276). -/
def DriveState.active : DriveState → Bool
  | .starting | .running | .stopping | .quickRelease => true
  | _ => false
/-- A set is in active short circuit. -/
def Mach.anyAsc (m : Mach) : Bool := two.any (fun s => m.gate[s].asc.isSome)
/-- A brake test or Dusk test is running or requested, or a set is enabled in a direct mode (R230, R276). -/
def Mach.testing (m : Mach) : Bool :=
  two.any (fun k => m.safety.sbt[k].isSome) || two.any (fun s => m.gate[s].dusk.isSome || m.gate[s].duskWant.isSome || m.gate[s].direct)

/-- Both STO switches open, but not while any set is in active short circuit (R262): the feed discharges, the release sequence is abandoned (R273, R274), the dies lose their supply in
time and their links are judged again only after their next first frame (R444). -/
def stoOpen (m : Mach) : Mach :=
  let x := m.safety.sto
  if m.anyAsc then m else
  let m := m.modSto (fun x => { x with hs := false, ls := false, step := none, uplinkEnd := none, deferred := false })
  if x.hs ∨ x.ls then
    { m.modSto (fun x => { x with openedAt := some m.ns, discharged := false }) with
      ch := vmap m.ch (fun _ c => { c with uplinkSeen := false }) }
  else m

/-- STO of the device (R260): every set's pulses removed and both switches opened. With a set in active short circuit the
switches stay closed, the other set is pulse-blocked and the deferral is raised once (R262). -/
def stoAct (rz : Raiser) (m : Mach) : Mach :=
  if m.anyAsc then
    let m := m.each two (fun s m => if m.gate[s].asc.isSome then m else stopPulses s false m)
    if m.safety.sto.deferred then m
    else
      let m := m.modSto (fun x => { x with deferred := true })
      m.each (two.filter (fun s => m.gate[s].asc.isSome)) (fun s m => rz 0x47 (some s) none 0xFF m)
  else stoOpen (m.each two (fun s m => stopPulses s false m))

/-! ### Drives (R187) -/

/-- Echo's run ends aborted (R138). -/
def echoEnd (code : Nat) (m : Mach) : Mach :=
  if m.echo.state = 0 ∨ m.echo.state = 4 ∨ m.echo.state = 5 then m
  else (m.modEcho (fun e => { e with state := 5, abort := code, value := 0 })).note_ 0x1D (m.classOf 0x1D) none none code 0 0

/-- The start sequence of a drive is broken off: a Dusk test stops its injection, measurements and pending enables end. -/
def startAbort (d : Fin 2) (m : Mach) : Mach :=
  let m := m.modDrive d (fun x => { x with step := .idle, preOk := none })
  m.each (m.setsOf d) (fun s m =>
    let m := if m.gate[s].dusk.isSome then m.each (m.setChs s) (fun c m => if m.ch[c].inject ≠ 0 then cmdCh c 0x07 (m.modCh c (fun x => { x with inject := 0 })) else m) else m
    (m.modGate s (fun g => { g with dusk := none, duskWant := none })).modMc s (fun x => { x with measuring := false, enablePending := false }))


/-- The STO switches open once nothing uses the gate supply (R276). -/
def stoIfUnused (m : Mach) : Mach :=
  if two.any (fun d => m.drives[d].st.active) ∨ m.testing ∨ m.anyAsc then m
  else if m.safety.sto.hs ∨ m.safety.sto.ls then stoOpen m else m

/-- The safe brake tests of a drive are broken off with result 0x03: their Dusk tests, measurements and enables end, the pulses are
removed, the switches open unless something uses them (R276); the test stays due, a held Command 1 does not proceed (R288). -/
def sbtAbort (d : Fin 2) (m : Mach) : Mach :=
  if (m.brakesOf d).all (fun k => m.safety.sbt[k].isNone) then m else
  let m := m.each ((m.brakesOf d).filter (fun k => m.safety.sbt[k].isSome)) (fun k m =>
    let m := { m.modSafety (fun x => { x with sbt := vmod x.sbt k (fun _ => none) }) with nv := { m.nv with sbtDue := vmod m.nv.sbtDue k (fun _ => true) } }
    (m.putDevice (Key.sbtResult k.1) (.num 0x03)).modDrive d (fun x => { x with held := false }))
  stoIfUnused (m.each (m.setsOf d) (fun s m => stopPulses s false m) |> startAbort d)

/-- The pulses of a drive's sets are removed, but for a set in active short circuit (R174). -/
def drivePulsesOff (d : Fin 2) (m : Mach) : Mach :=
  m.each (m.setsOf d) (fun s m => if m.gate[s].asc.isSome then m else if m.gate[s].pulses then stopPulses s false m else m)

/-- A drive goes to Off or Locked: pulses removed, its brakes applied, references and start sequence cleared (R186, R187). An SS1 under
Restart 1 that it ends leaves it Locked, whatever ends it (R270, R280). -/
def driveEnd (d : Fin 2) (st : DriveState) (m : Mach) : Mach :=
  let m := startAbort d m
  let m := drivePulsesOff d m
  let m := m.modDrive d (fun x => { x with
    st := if x.st = .locked ∨ (x.ss1.map (·.lock)).getD false then .locked else st, ss1 := none, limp := none,
    speedRef := 0, torqueRef := 0, waitUntil := none, remeasure := none, render := false, stroke := false,
    qrState := if x.qrState = 3 then 3 else 0 })
  stoIfUnused (brakesApply d m)

/-- Quick release with its pulses gone (R214): with Fallback 1 the brake is released for free payout, otherwise it stays applied;
"quick release unavailable" is raised with Fallback 0. -/
def qrFallback (rz : Raiser) (d : Fin 2) (m : Mach) : Mach :=
  if m.b (Key.qrFallback d.1) then
    m.each (m.brakesOf d) (brakeRelease true) |>.modDrive d (fun x => { x with qrState := 3 })
  else rz 0x31 none (some d) 0xFF (m.modDrive d (fun x => { x with qrState := 0 }))

/-- A drive is stopped by STO, F3 or F4: to Off or Locked, quick release falling back where its demand lasts (R187, R214). -/
def driveKill (rz : Raiser) (d : Fin 2) (st : DriveState) (m : Mach) : Mach :=
  let qr := m.drives[d].st == .quickRelease
  let m := driveEnd d st m
  if qr && m.drives[d].qrDemand then qrFallback rz d m else m

/-- An SS1 of a drive begins (R277): from Starting, Running or Waiting it goes to Stopping; in torque or tension mode it takes
speed control at the measured speed. `lock` makes the end Locked (R270). -/
def startSs1 (d : Fin 2) (lock : Bool) (m : Mach) : Mach :=
  let x := m.drives[d]
  if x.st = .starting ∨ x.st = .running ∨ x.st = .waiting then
    let m := startAbort d m
    let n := m.speedOf d
    let take := m.modeOf d = 0 ∨ m.modeOf d = 2
    m.modDrive d (fun x => { x with
      st := .stopping, ss1 := some { start := m.ns, n0 := n, lock := lock }, waitUntil := none, remeasure := none,
      speedRef := if take then n else x.speedRef })
  else if x.st = .stopping then m.modDrive d (fun x => { x with ss1 := x.ss1.map (fun r => { r with lock := r.lock || lock }) })
  else m

/-! ### Loss of synchronism: the decision (R171, R174) -/

/-- The set whose datapath holds a set's machine: set 0 for both sets of a dual machine (R164). -/
def Mach.machCtl (m : Mach) (s : Fin 2) : Fin 2 := if m.dual then 0 else s

/-- The last row of R171: active short circuit where the machine would generate uncontrolled, pulses removed otherwise. -/
def losDecide (rz : Raiser) (s : Fin 2) (m : Mach) : Mach :=
  if m.generates s (some m.mc[m.machCtl s].omega) then
    rz 0x21 (some s) none 0xFF (m.modMc s (fun x => { x with losState := 2 }))
  else
    rz 0x20 (some s) none 0xFF (stopPulses s false (m.modMc s (fun x => { x with losState := 3 })))

/-- A stop during reacquisition ends it at once (R174). -/
def losStop (rz : Raiser) (d : Fin 2) (m : Mach) : Mach :=
  m.each ((m.setsOf d).filter (fun s => m.mc[m.machCtl s].losState == 1)) (losDecide rz)

/-! ### Classes (R446 to R448) -/

/-- Events whose F3 cause is local to a set (R208). -/
def localEvents : List Nat := [0x09, 0x0D, 0x0F, 0x1B, 0x34, 0x35, 0x36, 0x37, 0x38, 0x39, 0x3A, 0x3B]


/-- Limp is permitted for a drive that loses a set to an event (R208, R210), on no grove member but the leader (R339). -/
def Mach.limpOk (m : Mach) (s : Fin 2) (ev : Nat) : Bool :=
  let d := m.driveOf s
  !m.follows && m.b (Key.limpEnable d.1) && (m.n (Key.shareMode 0) == 1 || m.dual) && localEvents.contains ev &&
  m.gate[s].asc.isNone && m.configured (other s) && m.gate[other s].pulses && m.drives[d].st == .running

/-- F3 or higher is active for a set, by its own scope, its drive's or the device's. -/
def Mach.setF3 (m : Mach) (s : Fin 2) : Bool :=
  m.ev.active.any (fun a => 3 ≤ a.cls && (match a.set with
    | some x => x == s
    | none => match a.drv with | some d => d == m.driveOf s | none => true))

/-- The drives an event acts on (R447). -/
def Mach.scopeDrives (m : Mach) (set drv : Option (Fin 2)) : List (Fin 2) :=
  match set with
  | some s => [m.driveOf s]
  | none => match drv with
    | some d => [d]
    | none => m.theDrives

/-- The reaction of a class on a scope (R446 to R448), with an Echo run aborted from F2 on (R138) and safe brake tests broken off
(R288). -/
def react (rz : Raiser) (cls ev : Nat) (set drv : Option (Fin 2)) (m : Mach) : Mach :=
  if cls ≤ 1 then m else
  let ds := m.scopeDrives set drv
  let m := (echoEnd 0x02 m).each ds sbtAbort
  if cls = 2 then
    m.each ds (fun d m => startSs1 d false (losStop rz d m))
  else if cls = 3 then
    match set with
    | some s =>
      if m.gate[s].asc.isSome then m
      else if m.limpOk s ev then
        (stopPulses s false m).modDrive (m.driveOf s) (fun x => { x with limp := some (other s) })
      else
        let d := m.driveOf s
        let m := if m.gate[s].pulses then stopPulses s false m else m
        -- on a grove's member the faulted set leaves the share, and the drive runs on with the other one (R339)
        if m.follows ∧ m.gate[other s].pulses ∧ m.driveOf (other s) = d then m else
        let m := if m.drives[d].st = .locked ∨ m.drives[d].st = .off then m else driveKill rz d .off m
        if (two.filter m.configured).all m.setF3 then stoAct rz m else m
    | none => stoAct rz (m.each m.theDrives (fun d m => if m.drives[d].st = .locked then m else driveKill rz d .off m))
  else if cls = 4 then
    let m := m.each m.theDrives (driveKill rz · .locked)
    stoAct rz (m.each two (fun k m => brakesApply (fin2 (m.n (Key.brakeDrive k.1))) m))
  else match set with
    | some s =>
      let m := if m.gate[s].asc.isSome then m else ascEnter rz s m
      let d := m.driveOf s
      if m.drives[d].st = .locked ∨ m.drives[d].st = .off then m else driveKill rz d .off m
    | none => m

/-- An event raised with a class: record, active list, then the class's reaction, which may raise further events down to a depth
no reaction of the spec exceeds. -/
def raiseAs : Nat → Nat → Nat → Option (Fin 2) → Option (Fin 2) → Nat → BitVec 32 → BitVec 32 → Mach → Mach
  | 0, cls, e, set, drv, inst, v1, v2, m => m.note_ e cls set drv inst v1 v2
  | k + 1, cls, e, set, drv, inst, v1, v2, m =>
    if m.clr.safeState then m else
    react (fun e set drv inst m => raiseAs k (m.classOf e) e set drv inst 0 0 m) cls e set drv
      (m.note_ e cls set drv inst v1 v2)

/-- An event raised with its configured class (R446, R453) and the two values of its record (R455). -/
def raiseV (e : Nat) (set drv : Option (Fin 2)) (inst : Nat) (v1 v2 : BitVec 32) (m : Mach) : Mach :=
  raiseAs 3 (m.classOf e) e set drv inst v1 v2 m
/-- An event raised with values that its rule does not name. -/
def raise (e : Nat) (set drv : Option (Fin 2)) (inst : Nat) (m : Mach) : Mach := raiseV e set drv inst 0 0 m

/-- An event that a computation raises: number, scope, instance, values. -/
structure Raised where
  ev   : Nat
  set  : Option (Fin 2)
  drv  : Option (Fin 2)
  inst : Nat
  v1   : BitVec 32 := 0
  v2   : BitVec 32 := 0
  deriving DecidableEq, Repr

/-- A place in the order of R448: descending class, within one class ascending EV. -/
def Mach.placeRaised (m : Mach) (x : Raised) : List Raised → List Raised
  | [] => [x]
  | y :: r =>
    if m.classOf y.ev < m.classOf x.ev ∨ (m.classOf y.ev = m.classOf x.ev ∧ x.ev < y.ev) then x :: y :: r else y :: m.placeRaised x r
/-- The events of one computation in the order of R448. -/
def raiseAll (l : List Raised) (m : Mach) : Mach :=
  (l.foldl (fun a x => m.placeRaised x a) []).foldl (fun m x => raiseV x.ev x.set x.drv x.inst x.v1 x.v2 m) m

/-- A drive event. -/
def raiseD (e : Nat) (d : Fin 2) (m : Mach) : Mach := raise e none (some d) 0xFF m
/-- A set event. -/
def raiseS (e : Nat) (s : Fin 2) (inst : Nat) (m : Mach) : Mach := raise e (some s) none inst m
/-- A device event. -/
def raiseM (e inst : Nat) (m : Mach) : Mach := raise e none none inst m

end Sys2Proof.Machine
end

