-- ==== Sys2Proof/Machine/Demands.lean ====
section
/-! DEFINITION. Demands and release conditions (R260, R268, R276, R485), the safe-output word the lanes want and what
the voters drive (R40, R263). -/

namespace Sys2Proof.Machine

/-! ### Demands -/

/-- A safe input is in demand: either channel, a latched fault, or a state not yet known (R268, R269, R485); for quick release both
channels, each healthy (R211). -/
def Mach.siDemand (m : Mach) (i : Fin 6) : Bool :=
  let x := m.safety.si[i]
  let a := x.ch[0].demand || x.ch[0].testFault
  let b := x.ch[1].demand || x.ch[1].testFault
  match m.n (Key.siFunction i.1) with
  | 0 => false
  | 3 => x.known && x.ch[0].demand && x.ch[1].demand && !(x.discrep || x.ch[0].testFault || x.ch[1].testFault)
  | _ => !x.known || a || b || x.discrep

/-- The safe-input status word (R311): an input whose state is not known yet counts as in demand (R485); a fault whose cycle is complete
awaits its reset (R269). -/
def Mach.siStatus (m : Mach) (i : Fin 6) : Nat :=
  let x := m.safety.si[i]
  let a := x.ch[0].demand || x.ch[0].testFault
  let b := x.ch[1].demand || x.ch[1].testFault
  let fault := x.discrep || x.ch[0].testFault || x.ch[1].testFault
  b2n a + 2 * b2n b + 4 * b2n (m.siDemand i) + 8 * b2n x.discrep + 16 * b2n x.ch[0].testFault + 32 * b2n x.ch[1].testFault +
  64 * b2n (fault && x.cycle != 2) + 128 * b2n (x.awaitReset || (fault && x.cycle == 2))

/-- A virtual input is in demand: its bit of the accepted data is 0 (R304). -/
def Mach.vsiDemand (m : Mach) (v : Fin 16) : Bool :=
  if m.n (Key.vsiFunction v.1) = 0 then false else
  let c : Fin 4 := ⟨m.n (Key.vsiConnection v.1) % 4, Nat.mod_lt _ (by decide)⟩
  let x := m.safety.isf[c]
  if x.failSafe ∨ x.accepted < 3 then true
  else match x.data with
    | b0 :: b1 :: _ => !(if v.1 < 8 then b1.getLsbD v.1 else b0.getLsbD (v.1 - 8))
    | _ => true

/-- A Target word names a drive. -/
def targets (t : Nat) (d : Fin 2) : Bool := bit t d.1
/-- A Target word includes every drive of the device (R260). -/
def Mach.targetsAll (m : Mach) (t : Nat) : Bool := m.theDrives.all (targets t)

/-- A demand of the given functions acts on a drive, from a safe input, a virtual input or the grove stop. -/
def Mach.demandOn (m : Mach) (fs : List Nat) (d : Fin 2) : Bool :=
  (List.finRange 6).any (fun i => fs.contains (m.n (Key.siFunction i.1)) && m.siDemand i && targets (m.n (Key.siTarget i.1)) d) ||
  (List.finRange 16).any (fun v => fs.contains (m.n (Key.vsiFunction v.1)) && m.vsiDemand v && targets (m.n (Key.vsiTarget v.1)) d) ||
  (m.safety.gstopActed && fs.contains (if m.n Key.groveStopAction = 0 then 1 else 2))

/-- An STO demand or reaction of the device is present (R260, R276). -/
def Mach.stoDemand (m : Mach) : Bool :=
  (List.finRange 6).any (fun i => m.n (Key.siFunction i.1) == 1 && m.siDemand i && m.targetsAll (m.n (Key.siTarget i.1))) ||
  (List.finRange 16).any (fun v => m.n (Key.vsiFunction v.1) == 1 && m.vsiDemand v && m.targetsAll (m.n (Key.vsiTarget v.1))) ||
  (m.safety.gstopActed && m.n Key.groveStopAction == 0) ||
  m.ev.active.any (fun a => a.cls == 4 || (a.cls == 3 && a.set.isNone)) ||
  ((two.any m.configured) && (two.filter m.configured).all m.setF3)

/-- The state of every configured input is known (R485); only inputs that target the drive count where one is named. -/
def Mach.inputsKnown (m : Mach) (d : Option (Fin 2)) : Bool :=
  (List.finRange 6).all (fun i => m.n (Key.siFunction i.1) == 0 || m.safety.si[i].known ||
    (match d with | none => false | some d => !targets (m.n (Key.siTarget i.1)) d))

/-- A lock-out is present (R276, R289); a locked set alone leaves a drive that may start on its other set (R249). -/
def Mach.lockedOut (m : Mach) : Bool :=
  let c := m.lockoutCause
  let sets := two.filter m.configured
  (setBit c 4 false != 0) || (bit c 4 && sets.all (fun s => m.gate[s].retry == 3))

/-- The release conditions of R276. -/
def Mach.stoReleaseOk (m : Mach) : Bool :=
  (m.n Key.safetyState == 2 || m.n Key.safetyState == 3) && !m.stoDemand && m.inputsKnown none && !m.lockedOut &&
  (two.any (fun d => m.drives[d].st.active || m.drives[d].qrDemand) || m.testing)

/-- A pulse block of a set is in force (R261): an STO demand that targets its drive without covering the device, an F3 reaction
of the set, or a deferral of STO on the other set (R262). -/
def Mach.blockWanted (m : Mach) (s : Fin 2) : Bool :=
  m.gate[s].asc.isNone &&
  (m.demandOn [1] (m.driveOf s) || m.ev.active.any (fun a => a.cls == 3 && a.set == some s) || m.safety.sto.deferred)

/-- The device asserts both grove-stop lines while it has a demand on an input with Scope 1 (R305). -/
def Mach.gstopAssert (m : Mach) : Bool :=
  (List.finRange 6).any (fun i => m.n (Key.siScope i.1) == 1 && m.siDemand i) ||
  (List.finRange 16).any (fun v => m.n (Key.vsiScope v.1) == 1 && m.vsiDemand v)

/-- PAYLOAD[17:0] of the safe-output token that the lanes want (R263). -/
def Mach.safeWord (m : Mach) : BitVec 18 :=
  let s := m.safety
  BitVec.ofNat 18 (b2n s.sto.hs + 2 * b2n s.sto.ls + 4 * b2n s.brakes[0].hs + 8 * b2n s.brakes[0].ls +
    16 * b2n s.brakes[1].hs + 32 * b2n s.brakes[1].ls + 64 * b2n s.chop + 128 * b2n (m.blockWanted 0) +
    256 * b2n (m.blockWanted 1) + 512 * b2n m.gstopAssert + 65536 * b2n s.ascReq[0] + 131072 * b2n s.ascReq[1])

/-! ### What the voters drive (R40, R263) -/

/-- STO_HS and STO_LS closed: the bit each voter holds, unless it has opened its switch itself; once its watchdog has acted, as that left
the switch, whatever a later token says. -/
def Mach.stoOut (m : Mach) (v : Fin 2) : Bool := (m.voters[v].barked || m.voters[v].held.getLsbD v.1) && !m.voters[v].stoOpened
/-- The brake switch of a voter, high side for the primary, low side for the reflection. -/
def Mach.brakeOut (m : Mach) (k v : Fin 2) : Bool :=
  m.voters[v].held.getLsbD (2 + 2 * k.1 + v.1) && !m.voters[v].brakesOpened[k]
/-- The step of the line test in which this member asserts a line alone (R307): GSTOP_A and then GSTOP_B of each member of the map in
turn. -/
def Mach.lineTurn (m : Mach) : Option (Fin 2) :=
  match m.safety.lineTest with
  | none => none
  | some k =>
    let on := ((List.finRange 8).filter (fun p => bit (m.n Key.groveMemberMap) p.1))[k / 2]?
    if on.map (·.1) = some (m.n Key.canopyPosition) then some (fin2 (k % 2)) else none
/-- A grove-stop line is asserted by a voter, by its held bit, its watchdog or the line test. How one line alone is asserted, where the
token has one bit for both, the spec leaves open (log entry 21). -/
def Mach.gstopOut (m : Mach) (v : Fin 2) : Bool := m.voters[v].held.getLsbD 9 || m.voters[v].barked || m.lineTurn == some v
/-- The chopper output (R216, R263). -/
def Mach.chopOut (m : Mach) : Bool := m.voters[0].held.getLsbD 6 && !m.clr.safeState

/-- Both voters take a safe-output word (R263). -/
def takeSafeWord (w : BitVec 18) (m : Mach) : Mach :=
  { m with voters := vmap m.voters (fun _ v => { v with held := w, missed := 0 }) }

end Sys2Proof.Machine
end

