-- ==== Sys2Proof/Machine/Clearing.lean ====
section
/-! DEFINITION. The Clearing: votes, dissent, resync, signatures, the safe state and what the voters do alone (R13 to R50, R263,
R282, R483). -/

namespace Sys2Proof.Machine

/-! ### Tokens (R19) -/

/-- TYPE of a token. -/
def tokType (k : Token) : BitVec 4 := k.extractLsb' 124 4
/-- The vote a token belongs to (R21). -/
def tokVote (k : Token) : VoteId := { ty := tokType k, dest := k.extractLsb' 96 16, sq := k.extractLsb' 64 32 }
/-- RSVD and PAYLOAD, compared beside the vote's name (R19, R21). -/
def tokBody (k : Token) : BitVec 74 := k.extractLsb' 112 10 ++ k.extractLsb' 0 64
/-- PAYLOAD of a compared value. -/
def bodyPayload (b : BitVec 74) : BitVec 64 := b.extractLsb' 0 64
/-- The token a lane submits with the given fields; LANE is the lane's own. -/
def mkToken (l : Lane) (v : VoteId) (rsvd : BitVec 10) (p : BitVec 64) : Token :=
  v.ty ++ BitVec.ofNat 2 (laneIx l).1 ++ rsvd ++ v.dest ++ v.sq ++ p

/-- A lane is active (R29). -/
def Mach.laneActive (m : Mach) (l : Lane) : Bool := m.clr.lanes[laneIx l].status == .active
/-- Number of active lanes. -/
def Mach.activeCount (m : Mach) : Nat := m.activeLanes.length
/-- The agreement window, ns (R26): the value in force when an arrival or a close is judged, for a vote open since before a swap too
(DESIGN CHOICE, log entry 116). -/
def Mach.window (m : Mach) : Nat := m.n Key.clearingAgreementWindow

/-! ### Safe state (R41 to R43, R483) -/

/-- Eight bytes of the Clearing record for one arrival (R483). -/
def arrivalBytes (entry opened w : Nat) (first : Option Arrival) : Option Arrival → List Byte
  | none => [0xFF, 0, 0, 0, 0, 0, 0, 0]
  | some a =>
    beBytes 1 (laneIx a.lane).1 ++
    beBytes 1 (b2n (a.stamp ≤ opened + w) + 2 * b2n (match first with | some f => f.body == a.body | none => false)) ++
    [0, 0] ++ beBytes 4 (entry - a.stamp)

/-- The Clearing record (R483). -/
def Mach.clearingRecordBytes (m : Mach) (cause : Nat) (v : Option Vote) : List Byte :=
  let as3 := match v with | some v => (v.arrivals.drop (v.arrivals.length - 3)).map some | none => []
  let as3 := as3 ++ List.replicate (3 - as3.length) none
  let first : Option Arrival := as3.head?.join
  let opened := match v with | some v => v.opened | none => 0
  let head := beBytes 1 cause ++ beBytes 1 m.clearingState ++ beBytes 1 m.laneStatusWord ++
    (match v with | some v => beBytes 1 v.vid.ty.toNat ++ beBytes 2 v.vid.dest.toNat | none => [0, 0, 0]) ++ [0, 0] ++
    (match v with | some v => beBytes 4 v.vid.sq.toNat | none => [0, 0, 0, 0]) ++
    beBytes 8 m.ns ++ beBytes 4 (m.n Key.identityBootCount)
  let body := head ++ (as3.map (arrivalBytes m.ns opened m.window first)).flatten ++
    beBytes 8 (match first with | some a => (bodyPayload a.body).toNat | none => 0) ++ [0, 0, 0, 0]
  body ++ beBytes 4 (crc32c body).toNat

/-- A set's pulses are gone without a lane having removed them: the legs' held duties are cleared (R484). -/
def pulsesDead (s : Fin 2) (m : Mach) : Mach :=
  (m.modGate s (fun g => { g with
      pulses := false, removedAt := (if g.pulses then m.now else g.removedAt), turnOff := none, dusk := none, direct := false })).modPwm s (fun p => { p with legs := Vector.replicate 3 {}, lows := Vector.replicate 3 {} })

/-- Either voter's copy of the last safe-output token carries a set's active-short-circuit request (R42). -/
def Mach.ascHeld (m : Mach) (s : Fin 2) : Bool :=
  m.voters[0].held.getLsbD (16 + s.1) || m.voters[1].held.getLsbD (16 + s.1)

/-- Entry into the Clearing's safe state (R41 to R43): the record, the safe-state command to every die, STO opened by both
voters unless an active short circuit is requested, the brakes with SafeStateDelay 0 (R282), every drive Locked (R187), safe
brake tests aborted (R288). -/
def safeEnter (cause : Nat) (v : Option Vote) (m : Mach) : Mach :=
  if m.clr.safeState then m else
  let rec_ := m.clearingRecordBytes cause v
  let m := (m.nvPut (0x614000 + 64 * m.nv.clrSlot) rec_)
  let m := { m with nv := { m.nv with clrSlot := (m.nv.clrSlot + 1) % 64 } }
  let m := ((m.putN Key.clearingSafeStateCause cause).put Key.clearingRecord (.bytes rec_)).emit .safeCommand
  let asc := m.ascHeld 0 || m.ascHeld 1
  let m := m.each two pulsesDead
  let m := { m with
    voters := vmap m.voters (fun _ x => { x with
      stoOpened := x.stoOpened || !asc,
      brakesOpened := vmap x.brakesOpened (fun k b => b || m.n (Key.brakeSafeStateDelay k.1) == 0) }),
    drives := vmap m.drives (fun d x => if m.driveExists d then { x with
      st := .locked, step := .idle, ss1 := none, limp := none, waitUntil := none, remeasure := none, qrState := 0 } else x) }
  let m := m.each two (fun k m => if m.safety.sbt[k].isSome then
    { (m.putN (Key.sbtResult k.1) 0x03).modSafety (fun x => { x with sbt := vmod x.sbt k (fun _ => none) }) with
      nv := { m.nv with sbtDue := vmod m.nv.sbtDue k (fun _ => true) } }
    else m)
  m.modClr (fun c => { c with safeState := true, safeAt := m.ns, votes := [], suspects := [], copies := [], resync := none, sigs := [] })

/-! ### Liveness (R44, R45, R48, R49) -/

/-- A block is live. -/
def Mach.liveBlock (m : Mach) (b : Nat) : Bool := m.clr.liveBlocks.contains b
/-- The live bytes of a lane's SRAM, every dead block zero (R34 step 5, R48). -/
def liveOnly (live : List Nat) (sram : List Host.Cell) : List Host.Cell := sram.filter (fun c => live.contains (c.1 / 64))

/-- The liveness mask as bytes (R49). -/
def maskBytes (live : List Nat) : List Byte :=
  (List.range 512).map (fun i => BitVec.ofNat 8 ((List.range 8).foldl (fun a j => a + (if live.contains (8 * i + j) then 2 ^ j else 0)) 0))

/-- A new liveness mask takes effect at a swap boundary: initial values into every block that becomes live, in all three lanes,
MaskCRC and LiveBytes (R45, R49). -/
def applyMask (live : List Nat) (m : Mach) : Mach :=
  if live = m.clr.liveBlocks then m else
  let fresh := live.filter (fun b => !m.clr.liveBlocks.contains b)
  let m := m.modClr (fun c => { c with
    liveBlocks := live,
    lanes := vmap c.lanes (fun _ l => { l with
      sram := fresh.foldl (fun mem b => memPutAll mem (64 * b) ((List.range 64).map (fun i => (Config.initialBlock b).extractLsb' (8 * i) 8))) l.sram }) })
  (m.putN Key.clearingMaskCRC (crc32c (maskBytes live)).toNat).putN Key.clearingLiveBytes (64 * live.length)

/-- The 64-bit signature of a lane's live state, blocks in ascending order (R46). -/
def Mach.signature (m : Mach) (l : Lane) : BitVec 64 :=
  crc64 ((m.clr.liveBlocks.map (fun b => memRead m.clr.lanes[laneIx l].sram (64 * b) 64)).flatten)

/-! ### Votes (R21 to R30) -/

/-- A token is emitted (R24): a content is copied for types 0x4 to 0x6 (R22), a signature goes nowhere (R47), nor does
a token of a reserved type, which has no destination (R20; log entry 104). -/
def emitVote (v : Vote) (a : Arrival) (second : Option Lane) (m : Mach) : Mach :=
  if v.vid.ty = 7 then m.modClr (fun c => { c with sigVoted := c.sigVoted || v.vid.sq == c.sigSeq })
  else if v.vid.ty = 4 ∨ v.vid.ty = 5 ∨ v.vid.ty = 6 then
    let p := bodyPayload a.body
    m.modClr (fun c => { c with copies := c.copies ++
      [{ vid := v.vid, len := (p.extractLsb' 32 32).toNat, crc := p.extractLsb' 0 32, source := a.lane, second := second }] })
  else if 4 ≤ v.vid.ty.toNat ∨ v.vid.ty = 0 then m
  else m.emit (.token (mkToken a.lane v.vid (a.body.extractLsb' 64 10) (bodyPayload a.body)))

/-- A vote replaced by its next state, or closed. -/
def setVote (v : Vote) (o : Option Vote) (m : Mach) : Mach :=
  m.modClr (fun c => { c with votes := (c.votes.filter (fun x => x.vid != v.vid)) ++ o.toList })

/-- What a vote that lost a lane's arrival comes to under the duplex rules (R29, R30). DEDUCED (log entry 103): a window that has begun
keeps its start although the arrival that began it is lost; a vote without an arrival is closed, so that the next one begins a window. -/
def redecide (v : Vote) (m : Mach) : Mach :=
  match v.arrivals with
  | [] => setVote v none m
  | [_] => setVote v (some v) m
  | a :: b :: _ =>
    if a.body = b.body then
      setVote v none (if v.emitted then m else emitVote v a (some b.lane) m)
    else safeEnter 0x04 (some v) m

/-- A lane becomes dissenting by a vote (R32, R33): its arrivals are taken out of the open votes, which the two other lanes' arrivals
decide (R30), its NV write records that wait are noted (R35); the count, and the retirement at the third entry within 1 s, come at the
next control-cycle boundary (R23 step 9). A lane that is out already does not become dissenting again. -/
def dissent (l : Lane) (m : Mach) : Mach :=
  if m.clr.safeState ∨ !m.laneActive l then m else
  let i := laneIx l
  let kept := m.clr.lanes[i].dissents.filter (fun t => m.ns < t + 1000000000) ++ [m.ns]
  let waits := (m.clr.votes.filter (fun v => v.vid.ty == 5 && v.arrivals.any (fun a => a.lane == l))).map (fun v => v.vid)
  let m := m.modLane i (fun x => { x with
    dissents := kept, status := .dissenting, mark := some (decide (3 ≤ kept.length)), nvWaiting := waits, holdFrom := none })
  let m := m.modClr (fun c => { c with suspects := c.suspects.filter (fun s => s.lane != l), sigs := c.sigs.filter (fun s => s.1 != l) })
  m.each m.clr.votes (fun v m => if m.clr.safeState then m else redecide { v with arrivals := v.arrivals.filter (fun a => a.lane != l) } m)

/-- A dissent is counted, and the third within 1 s retires the lane: "lane retired", its stored count (R33, R36). -/
def countDissent (l : Lane) (m : Mach) : Mach :=
  let i := laneIx l
  match m.clr.lanes[i].mark with
  | none => m
  | some r =>
    let m := (m.inc (Key.clearingDissentCount i.1)).modLane i (fun x => { x with mark := none, status := if r then .retired else x.status })
    if r then
      let k := Key.clearingRetireCount i.1
      raiseM 0x02 i.1 ((m.inc k).nvJob (.entry k ((m.inc k).val k) .nobody))
    else m

/-- A lane becomes dissenting without a vote: at once with its count (R18, R32, R35, R415). -/
def selfDissent (l : Lane) (m : Mach) : Mach := countDissent l (dissent l m)

/-- The signature vote decides the lone tokens that waited for it (R28): the other two lanes' signatures match, and the suspect
dissents, or they differ, and the device goes to safe state. -/
def judgeSuspects (v : Vote) (m : Mach) : Mach :=
  m.each (m.clr.suspects.filter (fun s => s.armed)) (fun s m =>
    if m.clr.safeState then m else
    match v.arrivals.filter (fun a => a.lane != s.lane) with
    | a :: b :: _ =>
      if a.body = b.body then dissent s.lane (m.modClr (fun c => { c with suspects := c.suspects.filter (fun x => x != s) }))
      else safeEnter 0x03 (some s.vote) m
    | _ => m)

/-- Suspects whose signature vote ended without a pair of the other lanes: safe state (R28). -/
def failSuspects (m : Mach) : Mach :=
  match m.clr.suspects.filter (fun s => s.armed) with
  | [] => m
  | s :: _ => safeEnter 0x03 (some s.vote) m

/-- The agreement window of a vote closes (R27 cases T4, T6, T8, T9; R29 cases D3, D4). -/
def closeVote (v : Vote) (m : Mach) : Mach :=
  if m.activeCount = 3 then
    match v.arrivals with
    | [_] =>
      if v.vid.ty = 7 then safeEnter 0x03 (some v) m
      else (setVote v none m).modClr (fun c => { c with suspects := c.suspects ++
        (v.arrivals.map (fun a => { lane := a.lane, vote := v })) })
    | _ :: _ :: _ =>
      if v.emitted then
        let m := setVote v none m
        m.each (m.activeLanes.filter (fun l => !v.arrivals.any (fun a => a.lane == l))) dissent
      else safeEnter 0x02 (some v) m
    | [] => setVote v none m
  else
    match v.arrivals with
    | [] => setVote v none m
    | _ => safeEnter 0x05 (some v) m

/-- An arrival is judged in a vote that is open (R27, R29). -/
def arriveOpen (v : Vote) (a : Arrival) (m : Mach) : Mach :=
  let w := { v with arrivals := v.arrivals ++ [a] }
  if m.activeCount = 3 then
    match v.arrivals with
    | [x] =>
      if x.body = a.body then setVote v (some { w with emitted := true }) (emitVote v x (some a.lane) m)
      else setVote v (some w) m
    | [x, y] =>
      if v.emitted then
        if x.body = a.body then setVote v none m else dissent a.lane (setVote v none m)
      else if x.body = a.body then dissent y.lane (setVote v none (emitVote v x (some a.lane) m))
      else if y.body = a.body then dissent x.lane (setVote v none (emitVote v y (some a.lane) m))
      else safeEnter 0x01 (some w) m
    | _ => m
  else
    match v.arrivals with
    | [] => setVote v (some w) m
    | x :: _ =>
      if x.body = a.body then setVote v none (if v.emitted then m else emitVote v x (some a.lane) m)
      else safeEnter 0x04 (some w) m

/-- Arrival skew against the earliest arrival (R16): the largest since reset, and "lane skew high" above the warning share. -/
def noteSkew (v : Vote) (a : Arrival) (m : Mach) : Mach :=
  let skew := a.stamp - v.opened
  let m := if m.n Key.clearingLaneSkewMax < skew then m.putN Key.clearingLaneSkewMax (min skew 50000) else m
  let lim := m.n Key.clearingSkewWarnPercent * m.window
  if 100 * skew > lim then raiseV 0x01 none none (laneIx a.lane).1 (fNat skew) (fRat lim 100) m else m

/-- A lane submits a token (R23, R27): a token of a lane that is not active is discarded unread (R29), one whose vote has
closed without it is discarded as late; a second token of the same lane in one vote is discarded (log entry 15). -/
def submit (l : Lane) (k : Token) (m : Mach) : Mach :=
  if !m.running ∨ m.clr.safeState ∨ !m.laneActive l then m else
  let id := tokVote k
  let a : Arrival := { lane := l, stamp := m.ns, body := tokBody k }
  if m.clr.suspects.any (fun s => s.vote.vid == id) then m else
  match m.clr.votes.find? (fun v => v.vid == id) with
  | none => m.modClr (fun c => { c with votes := c.votes ++ [{ vid := id, arrivals := [a], opened := m.ns }] })
  | some v =>
    if v.arrivals.any (fun x => x.lane == l) then m else
    let late := decide (v.opened + m.window < m.ns)
    let m := noteSkew v a m
    if late then closeVote v m else
    let m := arriveOpen v a m
    if id.ty = 7 ∧ id.sq = m.clr.sigSeq then judgeSuspects { v with arrivals := v.arrivals ++ [a] } m else m

/-- A stamp lies in the guard band of a vote's window close, 150 ns to either side (R38). -/
def inGuard (w stamp : Nat) (v : Option Vote) : Bool :=
  match v with
  | none => false
  | some v => decide (v.opened + w ≤ stamp + 150 ∧ stamp ≤ v.opened + w + 150)

/-- The reflection's verdict (R37): a difference in any item puts the device in safe state; whether an arrival was in time is not
compared within the guard band of the window's close, where the reflection adopts the primary's judgement (R38). -/
def reflect (r : ReflVerdict) (v : Option Vote) (m : Mach) : Mach :=
  if m.running && (r == .differs || (r == .timing && !inGuard m.window m.ns v)) then safeEnter 0x07 none m else m

/-! ### Commands -/

/-- The number of ones of a word is odd. -/
def oddOnes {w : Nat} (x : BitVec w) : Bool := (List.range w).foldl (fun a i => xor a (x.getLsbD i)) false
/-- A word with its even parity bit on top (R17). -/
def withParity (x : BitVec 32) : BitVec 33 := (if oddOnes x then 1#1 else 0#1) ++ x
/-- The words as a lane takes them, after the bits flipped on the way to it. -/
def wordsTaken (l : Lane) (upsets : List (Lane × Nat × BitVec 33)) (ws : List (BitVec 33)) : List (BitVec 33) :=
  ws.zipIdx.map (fun w => (upsets.filter (fun u => u.1 == l && u.2.1 == w.2)).foldl (fun x u => x ^^^ u.2.2) w.1)
/-- INPUT_FANOUT_DELIVERY (R17, R18): the input is numbered and given its parity; a lane that takes a word with bad parity declares
itself dissenting. -/
def inputFanoutDeliveryEff (words : List (BitVec 32)) (upsets : List (Lane × Nat × BitVec 33)) : Mach → Mach :=
  whenUp (fun m =>
    let ws := words.map withParity
    (m.modClr (fun c => { c with inputSeq := c.inputSeq + 1, input := ws })).each
      (lanes3.filter (fun l => (wordsTaken l upsets ws).any oddOnes)) selfDissent)

/-- TOKEN_ARRIVAL (R27). -/
def tokenArrivalEff (l : Lane) (k : Token) (r : ReflVerdict) (m : Mach) : Mach :=
  let v := m.clr.votes.find? (fun v => v.vid == tokVote k)
  if m.lanesAct && m.laneActive l then reflect r v (submit l k m) else m

/-- AGREEMENT_WINDOW_CLOSE (R27): acts once the window of an open vote has run out. -/
def agreementWindowCloseEff (id : VoteId) (r : ReflVerdict) (m : Mach) : Mach :=
  if !m.lanesAct then m else
  match m.clr.votes.find? (fun v => v.vid == id) with
  | none => m
  | some v =>
    if m.ns < v.opened + m.window then m else
    let m := closeVote v m
    let m := if id.ty = 7 ∧ id.sq = m.clr.sigSeq then failSuspects m else m
    reflect r (some v) m

/-- CONTENT_COPY_COMPLETE (R22). -/
def contentCopyCompleteEff (id : VoteId) (content : List Byte) (m : Mach) : Mach :=
  if !m.lanesAct then m else
  match m.clr.copies.find? (fun j => j.vid == id) with
  | none => m
  | some j =>
    let drop := m.modClr (fun c => { c with copies := c.copies.filter (fun x => x.vid != id) })
    if content.length = j.len ∧ crc32c content = j.crc then drop.emit (.content id.ty id.dest content)
    else
      let again := match j.second with
        | some l => drop.modClr (fun c => { c with copies := c.copies ++ [{ j with source := l, second := none }] })
        | none => drop
      dissent j.source again

/-- RESYNC_FAILED (R35): 2 ms after its start; one further dissent is counted, the next boundary starts a new resync. -/
def resyncFailedEff (l : Lane) (m : Mach) : Mach :=
  if !m.lanesAct then m else
  match m.clr.resync with
  | none => m
  | some r =>
    if r.target ≠ l ∨ m.ns < r.start + 2000000 then m else
    let i := laneIx l
    selfDissent l ((m.modClr (fun c => { c with resync := none })).modLane i (fun x => { x with status := .active }))

/-- SIGNATURE_COMPLETE (R46): the lane submits the signature taken at the boundary. -/
def signatureCompleteEff (l : Lane) (r : ReflVerdict) (m : Mach) : Mach :=
  if !m.lanesAct then m else
  match m.clr.sigs.find? (fun s => s.1 == l) with
  | none => m
  | some (_, v) =>
    let id : VoteId := { ty := 7, dest := 0, sq := m.clr.sigSeq }
    let m := m.modClr (fun c => { c with sigs := c.sigs.filter (fun s => s.1 != l) })
    tokenArrivalEff l (mkToken l id 0 v) r m

/-- DISSENT_ENTRY_EXPIRY (R33). -/
def dissentEntryExpiryEff (l : Lane) (m : Mach) : Mach :=
  m.modLane (laneIx l) (fun x => { x with dissents := x.dissents.filter (fun t => m.ns < t + 1000000000) })

/-- DEAD_STATE_SCRUB (R48). -/
def deadStateScrubEff : Mach → Mach :=
  whenUp (fun m => m.modClr (fun c => { c with
    lanes := vmap c.lanes (fun _ x => { x with sram := liveOnly c.liveBlocks x.sram }) }))

/-- SAFE_OUTPUT_WATCHDOG (R263). -/
def safeOutputWatchdogEff (v : Voter) (m : Mach) : Mach :=
  let i := voterIx v
  if !m.running ∨ m.voters[i].barked ∨ m.voters[i].missed < 4 then m else
  let h := m.voters[i].held
  m.modVoter i (fun x => { x with
    barked := true,
    stoOpened := x.stoOpened || !(h.getLsbD 16 || h.getLsbD 17) || !h.getLsbD i.1,
    brakesOpened := if m.clr.safeState then x.brakesOpened else Vector.replicate 2 true })

/-- SAFE_STATE_BRAKE_DELAY (R282): SafeStateDelay after the entry, each voter opens its own switch. -/
def safeStateBrakeDelayEff (k : Fin 2) (v : Voter) (m : Mach) : Mach :=
  if m.clr.safeState && decide (m.clr.safeAt + ms (m.n (Key.brakeSafeStateDelay k.1)) ≤ m.ns) then
    m.modVoter (voterIx v) (fun x => { x with brakesOpened := vmod x.brakesOpened k (fun _ => true) })
  else m

/-- SAFE_OUTPUT_TOKEN (R263): both voters take the payload; in safe state no token is emitted (R41). -/
def safeOutputTokenEff (p : BitVec 64) : Mach → Mach := whenLanes (takeSafeWord (p.extractLsb' 0 18))

/-- SAFE_STATE_COMMAND (R42, R241, R244): a set whose request was held takes the selector's pattern, every other switch turns off,
softly where it conducts; the channel ignores edges from then on. -/
def safeStateCommandEff (c : Fin 12) (m : Mach) : Mach :=
  if !m.clr.safeState then m else
  let s := m.setOfCh c
  let off := (switchOff c true m).modCh c (fun x => { x with mode := .safe, want := false })
  if m.ascHeld s then
    match m.sideSelector s with
    | some p =>
      let m := m.modGate s (fun g => { g with asc := some p })
      if inPattern p c then
        m.modCh c (fun x => if x.latches.isEmpty then { x with mode := .staticOn, want := true, wantSince := if x.want then x.wantSince else m.now } else x)
      else (switchOff c true m).modCh c (fun x => { x with mode := .safe, want := false })
    | none => off
  else off

/-! ### The Clearing's part of a control-cycle boundary (R25, R34 to R39, R41, R46) -/

/-- The exercise of the comparators and the calibration of the window timers (R38, R39). -/
def boundaryTests (calib : Nat) (exercised : Bool) (m : Mach) : Mach :=
  let w := m.window
  let off := if calib ≤ w then w - calib else calib - w
  let m := m.modClr (fun c => { c with exercise := (c.exercise + 2) % 126 })
  if !exercised then safeEnter 0x09 none m
  else if 50 * off > w then safeEnter 0x08 none m
  else m

/-- The time (ns) in which the copy engine copies a number of blocks, 64 bytes at 2.048 bytes per ns (R34). -/
def copyTime (blocks : Nat) : Nat := (64000 * blocks + 2047) / 2048
/-- The dirty set of a resync at a boundary (R34 step 3): of the blocks that waited, those the copy engine has not reached since the pre-copy
ended, and those written since that it has not copied again. -/
def Resync.dirtyNow (r : Resync) (m : Mach) (fresh : List (Fin 4096)) : List (Fin 4096) :=
  let from_ := max r.seenAt (r.start + copyTime m.clr.liveBlocks.length)
  ((r.dirty.drop (2048 * (m.ns - from_) / 64000) ++ fresh).filter (fun b => m.liveBlock b.1)).eraseDups
/-- The final pass and readmission of a resync (R34 steps 2 to 6): once the first pass over the live blocks has ended and the dirty set
holds 1,024 bytes or less; the pause by which the final pass extends the boundary counts in the resync's time (R35). A resync whose source
has itself dissented is given up, and starts anew from another active lane (DESIGN CHOICE, log entry 115: R34 is silent). -/
def resyncFinish (dirty : List (Fin 4096)) (m : Mach) : Mach :=
  match m.clr.resync with
  | none => m
  | some r =>
    let now := r.dirtyNow m dirty
    let left := now.length
    if m.clr.lanes[laneIx r.source].status ≠ .active then
      (m.modLane (laneIx r.target) (fun x => { x with status := .dissenting })).modClr (fun c => { c with resync := none })
    else if m.ns < r.start + copyTime m.clr.liveBlocks.length ∨ 16 < left ∨ m.clr.lanes[laneIx r.target].status ≠ .resyncing then
      m.modClr (fun c => { c with resync := some { r with dirty := now, seenAt := m.ns } })
    else
    let src := liveOnly m.clr.liveBlocks m.clr.lanes[laneIx r.source].sram
    let m := m.putN Key.clearingLastResyncTime (m.ns - r.start + copyTime left)
    (m.modLane (laneIx r.target) (fun x => { x with status := .active, sram := src })).modClr
      (fun c => { c with resync := none })

/-- A dissenting lane's resync starts (R34 step 1): not while its core rail is out of range (R415), nor while an NV write record of its
own waits to be voted or discarded, unless the next boundary came more than 200 µs late (R35). One resync runs at a time, of the waiting lanes
in the order A, B, C (DESIGN CHOICE, log entry 115: R34 is silent). -/
def resyncStart (m : Mach) : Mach :=
  if m.clr.resync.isSome then m else
  match lanes3.find? (fun l => m.clr.lanes[laneIx l].status == .dissenting && m.clr.lanes[laneIx l].railOk), m.activeLanes with
  | some l, src :: _ =>
    let x := m.clr.lanes[laneIx l]
    let from_ := x.holdFrom.getD m.ns
    let waits := x.nvWaiting.any (fun id => m.clr.votes.any (fun v => v.vid == id))
    if waits ∧ m.ns + m.controlPeriod / 1000 ≤ from_ + 200000 then m.modLane (laneIx l) (fun x => { x with holdFrom := some from_ })
    else (m.modLane (laneIx l) (fun x => { x with status := .resyncing, holdFrom := none, nvWaiting := [] })).modClr
      (fun c => { c with resync := some { target := l, source := src, start := m.ns, seenAt := m.ns } })
  | _, _ => m

/-- Signatures: the deadline of the previous boundary's, the suspects they leave undecided, and the new ones taken (R28, R41,
R46). -/
def signaturesDue (m : Mach) : Mach :=
  if !m.clr.sigVoted then safeEnter 0x06 none m
  else
    let m := failSuspects m
    if m.clr.safeState then m else
    m.modClr (fun c => { c with
      sigVoted := false, sigSeq := c.sigSeq + 1,
      sigs := m.activeLanes.map (fun l => (l, m.signature l)),
      suspects := c.suspects.map (fun s => { s with armed := true }) })

/-- The Clearing at a boundary: what votes caused takes effect (R23 step 9); the watchdogs count it in safe state too (R263). -/
def clearingBoundary (calib : Nat) (exercised : Bool) (dirty : List (Fin 4096)) (m : Mach) : Mach :=
  let m := { m with voters := vmap m.voters (fun _ v => { v with missed := v.missed + 1 }) }
  if m.clr.safeState then m else
  let m := m.each lanes3 countDissent
  let m := boundaryTests calib exercised m
  if m.clr.safeState then m else
  let m := resyncFinish dirty m
  let m := resyncStart m
  signaturesDue m

end Sys2Proof.Machine
end

