-- ==== Sys2Proof/Machine/Image.lean ====
section
/-! DEFINITION. The entries of the dictionary in order, the safety parameter image and its seal (R293, R390, R398). -/

namespace Sys2Proof.Machine

/-- How many consecutive indices an index of the tables stands for (R398). -/
def repeats (b : Nat) : Nat :=
  if b = 0x4000 then 32 else if b = 0x5070 then 16 else if b = 0x2220 then 8
  else if b = 0x3040 ∨ b = 0x3100 ∨ b = 0x5010 then 6 else if b = 0x5060 then 4
  else if b = 0x2200 ∨ b = 0x5030 ∨ b = 0x5040 ∨ b = 0x5050 ∨ b = 0x1810 then 2 else 1

/-- The indices an index of the tables stands for, set 1's and drive 1's copies included (R398). -/
def copiesOf (b : Nat) : List Nat :=
  let own := (List.range (repeats b)).map (b + ·)
  if 0x3010 ≤ b ∧ b ≤ 0x30A0 ∨ 0x3100 ≤ b ∧ b ≤ 0x3120 then own ++ own.map (· + 0x800)
  else if 0x4800 ≤ b ∧ b ≤ 0x4860 then own ++ own.map (· + 0x100) else own

/-- Every index of the dictionary, ascending (R390). -/
def allIndices : List Nat :=
  ((dictTable.flatMap (fun p => copiesOf p.1)).foldl (fun l i => ins i () l) ([] : Sparse Unit)).map (·.1)

/-- Every entry, in ascending index and then sub-index (R390). -/
def allKeys : List Nat :=
  allIndices.flatMap (fun i => ((rowsAt i).getD []).flatMap (fun r => (List.range (r.hi + 1 - r.lo)).map (fun j => i * 256 + r.lo + j)))

/-- The bytes of an entry's value in an image: its type's width, a DOMAIN behind its length (R293, R410). -/
def imageValue (k : Nat) (v : Val) : List Byte :=
  match rowOf k with
  | none => []
  | some r => match r.ty with
    | .dom _ => beBytes 4 (valBytes v).length ++ valBytes v
    | ty => carryVal ty v

/-- The safety parameter image (R293). -/
def Mach.safetyImage (m : Mach) : List Byte :=
  (allKeys.filter safetyFlag).flatMap (fun k => beBytes 2 (k / 256) ++ beBytes 1 (k % 256) ++ imageValue k (m.val k))

/-- The seal value of the live safety image (R293). -/
def Mach.seal (m : Mach) : Nat := (crc32c m.safetyImage).toNat

end Sys2Proof.Machine
end

