-- ==== Sys2Proof/Machine/Swap.lean ====
section
/-! DEFINITION. Boundaries and swaps of the swap domains (R65 to R69, R128 to R131), and what follows from a swap in other
chapters (R45, R189, R191, R228, R295). -/

namespace Sys2Proof.Machine

/-! ### Swap groups (R129) -/

/-- The number of a slot's swap group, live or shadow. -/
def groupLive (m : Mach) (i : Fin 32) : Nat := m.n (Key.slotSwapGroup i.1)
/-- The shadow number of a slot's swap group. -/
def groupShadow (m : Mach) (i : Fin 32) : Nat := valNat (m.shVal (Key.slotSwapGroup i.1))
/-- A slot's entries lie in a domain. -/
def Mach.slotIn? (m : Mach) (d : Dom) (i : Fin 32) : Bool := m.domOf (Key.slotOrder i.1) == some d
/-- Two slots share a non-zero group number, in the live bank or in the shadow bank of the domain that is committed. -/
def linked (d : Dom) (m : Mach) (i j : Fin 32) : Bool :=
  (groupLive m i != 0 && groupLive m i == groupLive m j) ||
  (m.slotIn? d i && m.slotIn? d j && groupShadow m i != 0 && groupShadow m i == groupShadow m j)
/-- Slots reached from a list by chains of at most `n` links. -/
def reach (d : Dom) (m : Mach) : Nat → List (Fin 32) → List (Fin 32)
  | 0, l => l
  | n + 1, l => reach d m n ((List.finRange 32).filter (fun i => l.contains i || l.any (linked d m i)))
/-- The joined group of a slot for a commit of a domain; a slot in no group is alone (R129). -/
def joinedGroup (d : Dom) (m : Mach) (i : Fin 32) : List (Fin 32) := reach d m 32 [i]

/-- A slot is frozen at this boundary: the last of its computations to complete before it ended frozen (R130). -/
def Mach.frozenAt (m : Mach) (i : Fin 32) : Bool := m.slots[i].frozenEnd

/-- A completed computation of an owner latches how its slots ended (R130). -/
def latchFrozen (a : Nat) (m : Mach) : Mach :=
  { m with slots := vmap m.slots (fun i x => if m.n (Key.slotAssignment i.1) = a then { x with frozenEnd := x.frozen } else x) }

/-- The joined groups of a domain with a frozen member, each once (R130). Slots without a group number swap at once. -/
def Mach.frozenGroups (m : Mach) (d : Dom) : List (List (Fin 32)) :=
  ((List.finRange 32).filter (fun i => m.frozenAt i && m.slotIn? d i &&
    (groupLive m i != 0 || groupShadow m i != 0))).foldl
    (fun gs i => if gs.any (fun g => g.contains i) then gs else gs ++ [joinedGroup d m i]) []

/-- The slot an entry belongs to. -/
def slotOfKey (k : Nat) : Option Nat := if 0x4000 ≤ k / 256 ∧ k / 256 ≤ 0x401F then some (k / 256 - 0x4000) else none

/-! ### Swapping -/

/-- The entries whose live and shadow values differ and that satisfy a test. -/
def Mach.changed (m : Mach) (p : Nat → Bool) : List Nat :=
  let ks := (m.live.map (·.1)) ++ (m.shadow.map (·.1)).filter (fun k => (look k m.live).isNone)
  ks.filter (fun k => (m.domOf k).isSome && p k && m.val k != m.shVal k)

/-- The live bank as a swap of the given entries leaves it. -/
def Mach.swapKeys (m : Mach) (ks : List Nat) : Mach := m.each ks (fun k m' => m'.put k (m.shVal k))

/-- Values kept for an earlier instant, with those of entries that now change. -/
def keepOld (m : Mach) (ks : List Nat) (l : Sparse Val) : Sparse Val :=
  ks.foldl (fun l k => if (look k l).isSome then l else ins k (m.val k) l) l
/-- Samples and boundaries whose instant has passed, and which are not computed yet, keep the values of their instant (R68). -/
def noteOld (ks : List Nat) (m : Mach) : Mach :=
  { m with
    eng := vmap m.eng (fun _ e => { e with since := keepOld m ks e.since, queued := e.queued.map (fun r => { r with old := keepOld m ks r.old }) }),
    outer := { m.outer with queued := m.outer.queued.map (fun r => { r with old := keepOld m ks r.old }) } }
/-- A computation with the live bank as it stood at its own instant (R68). -/
def withOld (old : Sparse Val) (f : Mach → Mach) (m : Mach) : Mach :=
  let m' := f (old.foldl (fun x c => x.put c.1 c.2) m)
  old.foldl (fun x c => x.put c.1 (m.val c.1)) m'

/-- Profile and adaptation entries of a channel (R228). -/
def profileKey (k : Nat) : Bool := 1 ≤ k % 256 && k % 256 ≤ 0x0F && baseIndex (k / 256) == 0x3100

/-- A channel's adapted values return to the configured ones (R228). -/
def resetAdapted (c : Fin 12) (m : Mach) : Mach :=
  (((m.putN (Key.gLiveOnN1 c.1) (m.n (Key.gOnN1 c.1))).putN (Key.gLiveOnT1 c.1) (m.n (Key.gOnT1 c.1))).putN
    (Key.gLiveOffN1 c.1) (m.n (Key.gOffN1 c.1))).putN (Key.gLiveOffT1 c.1) (m.n (Key.gOffT1 c.1))

/-- The number of the drive a speed, tension and position signal belongs to: signals 0x0400 to 0x0409 are drive 0's unless the
command names drive 1 (log entry 16). -/
def measuredTension (m : Mach) (d : Fin 2) : F32 := m.r (Key.tensionMeasured d.1)

/-- The compensation gain g in force (R205). -/
def Drive.gainNow (x : Drive) (ns : Nat) : F32 := match x.fade with | some f => f.at_ ns | none => x.gain
/-- The last motion record is stale, or there is none (R205). -/
def Mach.motionStale (m : Mach) (d : Fin 2) : Bool :=
  match m.drives[d].motion with
  | none => true
  | some r => decide ((ms (m.n (Key.heaveMaxAge d.1)) : Int) < (m.ns : Int) - r.time)
/-- The gain rises to Heave.Gain (R205). -/
def heaveRise (d : Fin 2) (m : Mach) : Mach :=
  (m.modDrive d (fun x => { x with
    risen := true, fade := some { from_ := x.gainNow m.ns, to_ := m.r (Key.heaveGain d.1), start := m.ns, dur := ms (m.n (Key.heaveFadeTime d.1)) }
  })).causeGone 0x2D none (some d) 0xFF

/-- The compensation at a mode change (R205): into heave compensation g starts at 0 and rises after ten fresh records in a row; out of
it the motion component goes at once (R189). -/
def heaveChanged (d : Fin 2) (old new : Nat) (m : Mach) : Mach :=
  if new = 4 then
    let m := m.modDrive d (fun x => { x with gain := 0, fade := none, risen := false, lossSeen := false })
    if 10 ≤ m.drives[d].fresh ∧ !m.motionStale d then heaveRise d m else m
  else if old = 4 then
    ((m.modDrive d (fun x => { x with gain := 0, fade := none, risen := false, lossSeen := false, stroke := false })).causeGone 0x2D none (some d) 0xFF)
      |>.causeGone 0x2E none (some d) 0xFF
  else m

/-- What a change of a drive's mode takes over while it runs (R189), and the lever rule it restarts (R191). A reference that starts at
a value holds it for the next computation (log entry 109). Modes 3 and 4 need a valid payout (R197). -/
def modeChanged (d : Fin 2) (old new : Nat) (m : Mach) : Mach :=
  let n := m.speedOf d
  let x := m.drives[d]
  let m := heaveChanged d old new (m.modDrive d (fun x => { x with neutral := false, neutralSince := none }))
  if x.st ≠ .running then m else
  let m := if (new = 3 ∨ new = 4) ∧ !m.b (Key.winchPayoutValid d.1) then raiseD 0x28 d m else m
  match old, new with
  | 1, 2 =>
    let slot := m.n (Key.roleTension d.1)
    let m := if h : slot < 32 then m.modSlot ⟨slot, h⟩ (fun y => { y with y := [x.speedRef, x.speedRef, x.speedRef] }) else m
    m.modDrive d (fun x => { x with tensionRef := measuredTension m d })
  | 2, 1 | 3, 1 => m.modDrive d (fun x => { x with speedRef := n })
  | 4, 1 | 4, 3 | 0, 1 => m.modDrive d (fun x => { x with speedRef := n })
  | _, 3 => m.modDrive d (fun x => { x with posRef := m.r (Key.winchPayoutLength d.1), starts := true })
  | _, 4 => m.modDrive d (fun x => { x with posRef := m.r (Key.winchPayoutLength d.1) })
  | 1, 0 => m.modDrive d (fun x => { x with starts := true })
  | _, _ => m

/-- A grove formation begins (R322, R348): alone with Size 1, holding its own total (R195), forming otherwise. -/
def groveForm (m : Mach) : Mach :=
  let alone := decide (m.n Key.groveSize ≤ 1)
  let p := m.n Key.canopyPosition
  let g : Grove := { m.grove with
    members := Vector.replicate 8 {}, firstUp := if (m.canopy[0].up || m.canopy[1].up) then some m.ns else none,
    holding := if alone then m.n Key.tokensTotal else 0, lapsed := !alone, release := none, pool := 0, recalled := 0, flights := [],
    auditing := false, claimAt := none, retryAt := none, aligned := 0, share := none, helloAt := none, granting := true, dropAll := false }
  let m : Mach := { m with
    grove := g,
    canopy := if alone then vmap m.canopy (fun _ p => { selfOk := p.selfOk, lastSent := p.lastSent, checkedAt := p.checkedAt }) else m.canopy }
  (((m.putN Key.groveState (if alone then 0 else 1)).putN Key.groveLeaderPosition (if alone then p else 0xFF)).putN
    Key.groveMemberMap (if alone then 2 ^ p else 0)).putN Key.groveTokenMode (if alone then 0 else 1)

def Mach.modEth (m : Mach) (p : Fin 2) (f : EthPort → EthPort) : Mach := { m with net := { m.net with ports := vmod m.net.ports p f } }

/-- The ring is open (R352): the manager opens its blocked port. -/
def ringOpen (m : Mach) : Mach :=
  if m.n Key.ringRole = 0 ∨ m.n Key.ringState = 2 then m else
  let m := (m.putN Key.ringState 2).inc Key.ringOpenCount
  raiseM 0x65 0xFF { m with net := { m.net with ports := vmap m.net.ports (fun _ p => { p with blocked := false }) } }
/-- A port goes down (R350). -/
def ethDown (p : Fin 2) (m : Mach) : Mach :=
  if !m.net.ports[p].up then m else
  let m := m.modEth p (fun x => { x with up := false, downAt := m.ns, waiting := [] })
  ringOpen (raiseM 0x63 (p.1 + 1) (m.inc (Key.portLinkDownCount p.1)))
/-- The speed a port's link may have: none while it is switched off, any under auto-negotiation (R349). -/
def Mach.speedAllowed (m : Mach) (p : Fin 2) (speed : Fin 3) : Bool :=
  m.n (Key.portMode p.1) == 0 || m.n (Key.portMode p.1) == speed.1 + 1

/-- Network settings that take effect at their swap: a port switched off or held to another speed (R349), gPTP switched on or off
(R353), the schedule's suspension (R356), the ring role (R352; log entry 26). -/
def netSwapped (ks : List Nat) (m : Mach) : Mach :=
  let m := m.each two (fun p m => if ks.contains (Key.portMode p.1) ∧ !m.speedAllowed p m.net.ports[p].speed then ethDown p m else m)
  let m := if ks.contains Key.gptpEnable then
      let m := m.putN Key.gptpState (if m.b Key.gptpEnable then 1 else 0)
      { m with net := { m.net with gptp := { m.net.gptp with syncs := 0, gm := 0 } } }
    else m
  let m := if m.b Key.schedEnable ∧ 2 ≤ m.n Key.gptpState then m
    else { m with net := { m.net with ports := vmap m.net.ports (fun _ p => { p with gates := (true, true) }) } }
  let m := if ks.contains Key.schedEnable ∨ ks.contains Key.gptpEnable then
      (if m.b Key.schedEnable ∧ m.n Key.gptpState < 2 then raiseM 0x67 0xFF m else m.causeGone 0x67 none none 0xFF)
    else m
  if ks.contains Key.ringRole then
    let up := m.net.ports[0].up && m.net.ports[1].up
    let m := m.putN Key.ringState (match m.n Key.ringRole with | 0 => 0 | 1 => if up then 1 else 2 | _ => 2)
    { m with net := { m.net with ports := vmap m.net.ports (fun _ p => { p with blocked := false }) } }
  else m

/-- An interface's reference is lost: the payout of a winch that counts on it is no longer valid, and the modes that need it
stop (R197). -/
def referenceLost (i : Fin 2) (m : Mach) : Mach :=
  let m := m.modPos i (fun p => { p with referenced := false })
  m.each m.theDrives (fun d m =>
    if m.n (Key.application d.1) = 1 ∧ m.piOf (m.firstSet d) = some i ∧ m.b (Key.winchPayoutValid d.1) then
      let m := m.putB (Key.winchPayoutValid d.1) false
      if (m.modeOf d = 3 ∨ m.modeOf d = 4) ∧ m.drives[d].st ≠ .off then raiseD 0x28 d m else m
    else m)
/-- The wraps count on from the position source as it stands (R197). -/
def wrapsAnchor (m : Mach) : Mach := m.each two (fun d m => m.modDrive d (fun x => { x with turnsAt := m.motorTurns d }))

/-- A position interface whose mode or lines change starts anew and without its reference, but for its latched faults, which a fault
reset alone ends (R98, R197); a resolver's excitation settles first (R92, R95). -/
def posSwapped (ks : List Nat) (m : Mach) : Mach :=
  (if ks.any (fun k => two.any (fun i => k == Key.piMode i.1 || k == Key.piLinesPerRev i.1 || k == Key.obsPositionSource i.1)) then wrapsAnchor else id) <|
  m.each two (fun i m => if ks.contains (Key.piMode i.1) ∨ ks.contains (Key.piLinesPerRev i.1) then
    (referenceLost i m).modPos i (fun p => { settling := m.n (Key.piMode i.1) == 3, excAt := m.ns, valid := p.valid, wireBreak := p.wireBreak, excOpen := p.excOpen }) else m)

/-- An ISF connection whose settings change opens anew (R303). -/
def isfSwapped (ks : List Nat) (m : Mach) : Mach :=
  m.each (List.finRange 4) (fun c m =>
    if [Key.isfRole c.1, Key.isfPath c.1, Key.isfConnId c.1, Key.isfDataLength c.1].any ks.contains then
      (m.modIsf c (fun _ => {})).causeGone 0x55 none none c.1
    else m)

/-- What follows a swap that changed the given entries: adapted values (R228), mode and lever rules (R189, R191), the liveness
mask (R45), network, position, ISF and grove settings, the safety state (R295). -/
def afterSwap (old : Mach) (ks : List Nat) (m : Mach) : Mach :=
  let m := m.each (List.finRange 12) (fun c m =>
    if ks.any (fun k => profileKey k && k / 256 == Key.gOnN1 c.1 / 256) then resetAdapted c m else m)
  let m := m.each m.theDrives (fun d m =>
    let m := if ks.contains (Key.mode d.1) then modeChanged d (old.n (Key.mode d.1)) (m.n (Key.mode d.1)) m else m
    if ks.contains (Key.refReferenceSource d.1) then m.modDrive d (fun x => { x with neutral := false, neutralSince := none }) else m)
  let m := isfSwapped ks (netSwapped ks (posSwapped ks m))
  let m := if ks.contains Key.groveId ∨ ks.contains Key.groveSize then groveForm m else m
  let m := applyMask m.maskBlocks (slotsFollow m)
  if ks.any safetyFlag ∧ m.nv.activating.isSome then m.putN Key.safetySealValue m.seal
  else if ks.any safetyFlag then
    ((m.putN Key.safetyState 1).putN Key.safetySealValue m.seal).modSafety (fun s => { s with sealEnd := some (m.ns + 120000000000) })
  else m

/-- The live bank of a domain takes its shadow values at a boundary, groups with a frozen member being carried (R65, R130). -/
def swapDomain (d : Dom) (m : Mach) : Mach :=
  let gs := m.frozenGroups d
  let held := fun k => match slotOfKey k with | some i => gs.any (fun g => g.any (fun j => j.1 == i)) | none => false
  let ks := m.changed (fun k => m.domOf k == some d && !held k)
  let carry := gs.filter (fun g => g.any (fun i => !(m.changed (fun k => m.domOf k == some d && slotOfKey k == some i.1)).isEmpty))
  let m' := afterSwap m ks ((noteOld ks m).swapKeys ks)
  m'.modDom (domIx d) (fun x => { x with
    pending := none, applied := x.count, status := if carry.isEmpty then 2 else 3,
    carried := carry.map (fun g => { slots := g, since := m.ns }) })

/-- A carried group swaps (R130); the status follows when it was the last. -/
def swapCarried (d : Dom) (g : Carried) (m : Mach) : Mach :=
  let ks := m.changed (fun k => m.domOf k == some d && (match slotOfKey k with | some i => g.slots.any (fun j => j.1 == i) | none => false))
  (afterSwap m ks ((noteOld ks m).swapKeys ks)).modDom (domIx d) (fun x =>
    let left := x.carried.filter (fun c => c != g)
    { x with carried := left, status := if left.isEmpty then 2 else x.status })

/-- A boundary of a domain: its count, its carried groups, its pending commit (R67, R70, R130). -/
def boundaryOf (d : Dom) (m : Mach) : Mach :=
  let m := m.modDom (domIx d) (fun x => { x with count := x.count + 1 })
  let m := m.each m.doms[domIx d].carried (fun g m =>
    if g.slots.any m.frozenAt then m else swapCarried d g m)
  let x := m.doms[domIx d]
  match x.pending with
  | none => m
  | some p =>
    let hit := match p.target with
      | none => !p.grove && decide (p.at_ < m.ns)
      | some n => if p.grove then decide (n ≤ m.n Key.groveBoundaryNumber) else decide (n ≤ x.count ∧ p.at_ < m.ns)
    if hit then swapDomain d m else m

/-- SWAP_FORCED (R131): ForceSwapTime after the boundary at which its commit applied, a carried group swaps; each frozen member's
error history becomes zero and its output history its held output less its feed-forward. -/
def swapForcedEff (d : Dom) (group : Nat) (m : Mach) : Mach :=
  if !m.lanesAct then m else
  match m.doms[domIx d].carried.find? (fun g => decide (g.since + ms (m.n Key.engineForceSwapTime) ≤ m.ns) &&
      g.slots.any (fun i => groupLive m i == group || groupShadow m i == group)) with
  | none => m
  | some g =>
    let m := m.each g.slots (fun i m =>
      if m.frozenAt i then m.modSlot i (fun x => { x with
        e := [0, 0, 0], y := [fsub x.out x.ff, fsub x.out x.ff, fsub x.out x.ff] }) else m)
    raiseM 0x1C group (swapCarried d g (m.inc Key.engineForcedSwapCount))

end Sys2Proof.Machine
end

