-- ==== Sys2Proof/Machine/Pwm.lean ====
section
/-! DEFINITION. Carriers, duty tokens, leg edges, dead time and the interlock (R52, R56 to R64, R81, R157, R158, R231, R232,
R484). -/

namespace Sys2Proof.Machine

/-! ### Switching commands (R81, R224, R231, R232) -/

/-- The first place of an edge at or after an instant (R53). -/
def edgeAt (t : Time) : Time := (t + 624) / 625 * 625

/-- A leg's dead time, ps (R60). -/
def Mach.deadTime (m : Mach) (s : Fin 2) (leg : Fin 3) : Time := 1000 * m.n (Key.deadTime s.1 leg.1)

/-- The set's command mode is direct, 1 or 2 (R229). -/
def Mach.directMode (m : Mach) (s : Fin 2) : Bool := m.n (Key.gateCommandMode s.1) != 0

/-- A requested switch may turn on (R223, R231, R232, R237): its die is supplied, configured and without latches, follows edges,
and under the interlock its partner has been commanded off for the dead time and is confirmed off; in direct mode 1 the request
alone must have lasted the dead time, in direct mode 2 10 ns, within which a request of its partner holds both off. A soft turn-off of
its own runs out its phase 1 first. An outer NPC switch also needs its inner one on and confirmed on. -/
def Mach.onAllowed (m : Mach) (c : Fin 12) : Bool :=
  let x := m.ch[c]
  let s := m.setOfCh c
  let dt := m.deadTime s (m.legOfCh c)
  let p := m.ch[m.partner c]
  x.want && !x.on && x.latches.isEmpty && x.vposOk && x.logicOk && (x.vnegOk || m.n (Key.gUvloNegRail c.1) == 0) && x.config.isSome &&
  (x.mode == .release || x.mode == .staticOn) && !(x.soft && (match x.phase1End with | some t => decide (m.now < t) | none => false)) &&
  (m.n (Key.gateCommandMode s.1) != 2 || x.mode != .release || decide (x.wantSince + 10000 ≤ m.now)) &&
  (if m.n (Key.gateCommandMode s.1) = 1 ∧ x.mode = .release then decide (x.wantSince + dt ≤ m.now)
   else !p.on && !(p.want && decide (x.wantSince < p.wantSince + 10000 ∧ p.wantSince < x.wantSince + 10000)) && p.confirmed && decide (p.offAt + dt ≤ m.now || (p.offAt == 0))) &&
  (if m.npc then
     (if c.1 % 4 ≤ 1 then m.ch[chan (c.1 + 2)].on && m.ch[chan (c.1 + 2)].gateOn else true)
   else true)

/-- In a direct mode the switch that turns on gives its leg's level (R85, R229). -/
def noteOn (c : Fin 12) (m : Mach) : Mach :=
  if !m.directMode (m.setOfCh c) then m else
  notePole (m.setOfCh c) (m.legOfCh c) m.now
    (if m.npc then (match c.1 % 4 with | 0 => 2 | 1 => 0 | _ => 1) else if m.isHigh c then 2 else 0) m

/-- A switch turns on where it may (R224): phase 1 starts 80 ns later, the detectors' in-window threshold applies (R235). -/
def tryOn (c : Fin 12) (m : Mach) : Mach :=
  if m.onAllowed c then
    noteOn c <| noteEdge (m.setOfCh c) (m.legOfCh c) (m.modCh c (fun x => { x with
      on := true, onAt := m.now, gateOn := false, soft := false, inRamp := true, iInt := 0,
      sink := 0, source := if m.n (Key.gLiveOnT1 c.1) = 0 then m.n (Key.gOnN2 c.1) else m.n (Key.gLiveOnN1 c.1),
      phase1End := if m.n (Key.gLiveOnT1 c.1) = 0 then none else some (m.now + 80000 + 1000 * m.n (Key.gLiveOnT1 c.1)) }))
  else m

/-- A switch is requested on; `wantSince` stands from the first request (R231). -/
def wantOn (c : Fin 12) (m : Mach) : Mach :=
  m.modCh c (fun x => if x.want then { x with offHeld := false } else { x with want := true, wantSince := m.now, offHeld := false })
/-- A switch is commanded off, softly or with its Off profile (R60, R224); an inner NPC switch that must still wait for its outer one
has the request held (R232). -/
def offRequest (c : Fin 12) (soft : Bool) (m : Mach) : Mach :=
  if m.ch[c].on ∧ !m.offAllowed c then
    m.modCh c (fun x => { x with want := false, offHeld := true, heldSoft := soft || (x.offHeld && x.heldSoft), heldAt := if x.offHeld then x.heldAt else m.now })
  else switchOff c soft m
/-- The PWM logic or a SWCMD ball commands a switch off. -/
def cmdOff (c : Fin 12) (m : Mach) : Mach := offRequest c false m
/-- A held off request is carried out once R232 allows it. -/
def releaseHeld (c : Fin 12) (m : Mach) : Mach := if m.ch[c].offHeld && m.offAllowed c then switchOff c m.ch[c].heldSoft m else m

/-! ### Legs and pairs -/

/-- The upper and lower switch of a leg's pair: pair 0 is the two-level leg, or T1/T3; pair 1 is T2/T4 (R144, R157). -/
def Mach.pairChs (m : Mach) (s : Fin 2) (leg : Fin 3) (low : Bool) : Fin 12 × Fin 12 :=
  if m.npc then (if low then (npcCh leg.1 2, npcCh leg.1 1) else (npcCh leg.1 0, npcCh leg.1 3))
  else (chan (6 * s.1 + 2 * leg.1), chan (6 * s.1 + 2 * leg.1 + 1))

/-- A pair's PWM state. -/
def Mach.pairOf (m : Mach) (s : Fin 2) (leg : Fin 3) (low : Bool) : Leg := if low then m.pwm[s].lows[leg] else m.pwm[s].legs[leg]
/-- A pair's PWM state changed. -/
def Mach.modPair' (m : Mach) (s : Fin 2) (leg : Fin 3) (low : Bool) (f : Leg → Leg) : Mach :=
  m.modPwm s (fun p => if low then { p with lows := vmod p.lows leg f } else { p with legs := vmod p.legs leg f })
/-- The pairs of a leg in force. -/
def Mach.pairs2 (m : Mach) : List Bool := if m.npc then [false, true] else [false]

/-- The compare level of a pair for a duty or level command (R58, R158). -/
def Mach.levelOf (m : Mach) (low : Bool) (d : F32) : F32 :=
  if m.npc then (if low then fclamp 0 fOne (fmul (fRat 2 1) d) else fclamp 0 fOne (fsub (fmul (fRat 2 1) d) fOne))
  else fclamp 0 fOne d

/-- The compare time nearest to an instant: a multiple of 0.625 ns (R53, R58). -/
def toSubTick (t : Time) : Time := (2 * t + 625) / 1250 * 625

/-- The instant at which the carrier crosses a compare level in the half-period in progress; none for the levels 0 and 1, which
make no edge (R57, R63). -/
def Pwm.crossing (p : Pwm) (d : F32) : Option Time :=
  let len := p.hEnd - p.hStart
  if fle d 0 || fge d fOne then none
  else some (toSubTick (if p.rising then p.hStart + fScaleNat d len else p.hEnd - fScaleNat d len))

/-- The carrier lies below a level at an instant of the half-period in progress (R57). -/
def Pwm.below (p : Pwm) (d : F32) (t : Time) : Bool :=
  let len := p.hEnd - p.hStart
  let up := if p.rising then t - p.hStart else p.hEnd - t
  decide (up < fScaleNat d len)

/-- "late edge" is counted and raised (R64). -/
def lateEdge (s : Fin 2) (leg : Fin 3) (m : Mach) : Mach :=
  raiseS 0x07 s leg.1 (m.inc (Key.lateEdgeCount s.1))

/-- The minimum pulse of a set, ps (R60). -/
def Mach.minPulse (m : Mach) (s : Fin 2) : Time := 1000 * m.n (Key.minPulse s.1)

/-- The A1 move of an edge that would fall less than 5 ns after a peak or valley (R64). -/
def Pwm.afterTurn (p : Pwm) (t : Time) : Time := if t < p.hStart + 5000 then p.hStart + 5000 else t

/-- A token's compare time judged at `ta` for a pair in the half-period in progress (R62). An edge whose time is off the places of R53
takes the next one (DESIGN CHOICE, log entry 111). -/
def judge (s : Fin 2) (leg : Fin 3) (low : Bool) (ta tc : Time) (to_ : Bool) (m : Mach) : Mach :=
  let p := m.pwm[s]
  let x := m.pairOf s leg low
  let cancel := fun (m : Mach) => m.modPair' s leg low (fun x => { x with pending := none })
  if x.made then m
  else if p.hEnd ≤ tc then cancel m
  else
    let once := decide (tc < ta + 7500)
    let tx := p.afterTurn (edgeAt (if once then ta + 7500 else tc))
    if p.hEnd ≤ tx then lateEdge s leg (cancel m)
    else if (match x.tPrev with | none => false | some tp => decide (tx < tp + m.minPulse s)) then
      (if once then lateEdge s leg (cancel m) else (cancel m).inc (Key.minPulseDropCount s.1))
    else m.modPair' s leg low (fun x => { x with pending := some tx, pendTo := to_ })

/-- The held duty's pending edge at the start of a half-period (R62, R63). -/
def heldEdge (s : Fin 2) (leg : Fin 3) (low : Bool) (m : Mach) : Mach :=
  let p := m.pwm[s]
  let x := m.pairOf s leg low
  match x.held with
  | none => m
  | some d => match p.crossing (m.levelOf low d) with
    | none => m
    | some tc =>
      let tx := p.afterTurn tc
      if (match x.tPrev with | none => false | some tp => decide (tx < tp + m.minPulse s)) then m.inc (Key.minPulseDropCount s.1)
      else m.modPair' s leg low (fun x => { x with pending := some tx, pendTo := !p.rising })

/-- A duty judged for every pair of its leg at `ta` (R62, R158): the pair in whose range the level lies takes the compare time;
a pair that leaves its range makes its edge at once, and the other follows after dwelling at O for the minimum pulse. -/
def judgeDuty (s : Fin 2) (leg : Fin 3) (ta tc : Time) (d : F32) (m : Mach) : Mach :=
  let p := m.pwm[s]
  if !m.npc then
    if fle d 0 || fge d fOne then m.modPair' s leg false (fun x => { x with pending := none })
    else judge s leg false ta tc (!p.rising) m
  else
    let low := fle d (fRat 1 2)
    let out := m.pairOf s leg (!low)
    let home : Bool := !low           -- the pair out of range rests: T1/T3 at T3 for low levels, T2/T4 at T2 for high ones
    let leaves := match out.cmd with | some c => c != home | none => false
    let m := if leaves then judge s leg (!low) ta ta home m else m.modPair' s leg (!low) (fun x => { x with pending := none })
    let dwell := match (m.pairOf s leg (!low)).pending with
      | some t => if leaves then max tc (t + m.minPulse s) else tc
      | none => tc
    if fle (m.levelOf low d) 0 || fge (m.levelOf low d) fOne then m.modPair' s leg low (fun x => { x with pending := none })
    else judge s leg low ta dwell (!p.rising) m

/-- The first duty of a leg after an enable (R484): at its judgement plus 7.5 ns the leg takes the command the duty gives at the
carrier value of that instant. -/
def firstDuty (s : Fin 2) (leg : Fin 3) (ta : Time) (m : Mach) : Mach :=
  let t := edgeAt (ta + 7500)
  m.each m.pairs2 (fun low m => m.modPair' s leg low (fun x => { x with turnOn := some t, tPrev := some t }))

/-- A leg that pulses were enabled for has not been turned on yet, nor is it about to be (R484). -/
def Mach.unlit (m : Mach) (s : Fin 2) (leg : Fin 3) : Bool :=
  let x := m.pairOf s leg false
  x.cmd.isNone && x.turnOn.isNone
/-- A duty judged with what R484 adds for a leg's first one. -/
def judgeToken (s : Fin 2) (leg : Fin 3) (ta tc : Time) (d : F32) (m : Mach) : Mach :=
  judgeDuty s leg ta tc d (if m.unlit s leg then firstDuty s leg ta m else m)

/-- The edge of a pair is made (R60, R62): the outgoing switch off, the incoming one requested. -/
def makeEdge (s : Fin 2) (leg : Fin 3) (low : Bool) (up : Bool) (t : Time) (m : Mach) : Mach :=
  let (hi, lo) := m.pairChs s leg low
  let (inc, out) := if up then (hi, lo) else (lo, hi)
  let m := m.modPair' s leg low (fun x => { x with cmd := some up })
  let level := (m.pairs2.map (fun l => if (m.pairOf s leg l).cmd = some true then (if m.npc then 1 else 2) else 0)).sum
  wantOn inc (cmdOff out (notePole s leg t level m))

/-! ### Commands of the PWM logic -/

/-- The nearest absolute time with the token's low 32 bits, ps (R58). -/
def compareTime (now : Time) (c : BitVec 32) : Time :=
  let n := now / 625
  ((n : Int) + (c - BitVec.ofNat 32 n).toInt).toNat * 625

/-- A set's sample period, ps: one half-period with SampleMode 2, a carrier period otherwise (R59). -/
def Mach.samplePeriod (m : Mach) (s : Fin 2) : Time :=
  if m.smpMode s = 2 then m.pwm[s].half else 2 * m.pwm[s].half

/-- A flag of the sweep point in measurement (R136). -/
def echoFlag (b : Nat) (m : Mach) : Mach := if m.echo.state = 3 then m.modEcho (fun e => { e with flags := setBit e.flags b true }) else m

/-- The latency of the sample whose last duty token of a set has now been emitted (R51, R52), the set's tail and advance error
(R120, R121), and the late-output check (R125). -/
def noteLatency (s : Fin 2) (m : Mach) : Mach :=
  let d := m.eng[m.dataSet s]
  let e := m.eng[s]
  let ts := match d.cur with | some r => r.at_ | none => d.lastComputed
  let lat := (m.now - ts) / 1000
  let m := m.putN (Key.latencyLast s.1) (min lat 4294967295)
  let m := if m.n (Key.latencyMax s.1) < lat then m.putN (Key.latencyMax s.1) (min lat 4294967295) else m
  let m := m.setSig (0x0215 + 0x100 * s.1) (fSeconds lat)
  let tail := m.ns - e.stamp
  let m := (m.putI 32 (Key.engineAdvanceError s.1) (((e.stamp : Int) - (ts / 1000 : Nat)) + e.tail - lat)).putN (Key.engineTailTime s.1) tail
  let m := m.modEng s (fun e => { e with tail := tail })
  let bin := min (lat / 250) 31
  let m := m.modPwm s (fun p => { p with histogram := p.histogram.modify bin (fun c => min (c + 1) 4294967295) })
  if m.now > ts + m.samplePeriod (m.dataSet s) then
    raiseS 0x1A s 0xFF (echoFlag 3 (m.inc (Key.engineLateOutputCount s.1))) else m

/-- A pair's turn-on, if its time has come by an instant (R484). -/
def dueTurnOn (s : Fin 2) (leg : Fin 3) (low : Bool) (upTo : Time) (m : Mach) : Mach :=
  let x := m.pairOf s leg low
  match x.turnOn with
  | none => m
  | some t =>
    if upTo < t then m else
    makeEdge s leg low (m.pwm[s].below (m.levelOf low (x.held.getD 0)) t) t (m.modPair' s leg low (fun x => { x with turnOn := none }))
/-- A pair's edge, if its time has come by an instant (R62). -/
def dueEdge (s : Fin 2) (leg : Fin 3) (low : Bool) (upTo : Time) (m : Mach) : Mach :=
  let x := m.pairOf s leg low
  match x.pending with
  | none => m
  | some t =>
    if upTo < t then m else
    let m := m.modPair' s leg low (fun x => { x with pending := none })
    if x.cmd = some x.pendTo then m
    else makeEdge s leg low x.pendTo t (m.modPair' s leg low (fun x => { x with made := true, tPrev := some t }))
/-- The turn-ons and edges of a leg whose time has come by an instant (R62, R484), while the set's pulses are enabled. -/
def dueEdges (s : Fin 2) (leg : Fin 3) (upTo : Time) (m : Mach) : Mach :=
  m.each m.pairs2 (fun low m => if m.gate[s].pulses then dueEdge s leg low upTo (dueTurnOn s leg low upTo m) else m)

/-- LEG_EDGE (R62, R484): turn-ons and edges whose time has come. -/
def legEdgeEff (s : Fin 2) (leg : Fin 3) : Mach → Mach := whenUp (fun m => dueEdges s leg m.now m)

/-- The end of the nanosecond of an instant: two stamps are the same when they read the same nanosecond (R53). -/
def sameStamp (m : Mach) : Time := 1000 * m.ns + 999

/-- A duty token reaches the PWM logic (R58, R61, R62, R484). An edge with the same stamp is made first. -/
def takeDuty (s : Fin 2) (leg : Fin 3) (slot : Bool) (compare : BitVec 32) (duty : F32) (m : Mach) : Mach :=
  let m := m.modEng s (fun e => { e with stall := 0 })
  let m := if leg = 2 then noteLatency s m else m
  if fIsNan duty || !m.gate[s].pulses || m.directMode s then m else
  let d := fclamp 0 fOne duty
  let tc := compareTime m.now compare
  let m := dueEdges s leg (sameStamp m) m
  let m := m.each m.pairs2 (fun low m => m.modPair' s leg low (fun x => { x with held := some d }))
  if m.pwm[s].rising != slot then
    -- the half-period of this slot is in progress: it is the target
    judgeToken s leg m.now tc d m
  else
    m.modPair' s leg false (fun x => { x with
      waiting := x.waiting.filter (fun w => w.1 != slot) ++ [(slot, { compare := tc, duty := d })] })

/-- DUTY_TOKEN (R57, R58, R61, R62, R484): one that the set's last computation has still to emit, in the order U, V, W, set 0's
before set 1's in topologies 1 and 2 (R164). -/
def dutyTokenEff (s : Fin 2) (leg : Fin 3) (slot : Bool) (compare : BitVec 32) (duty : F32) (m : Mach) : Mach :=
  let e := m.eng[m.dataSet s].expect
  if !m.lanesAct ∨ !e.contains (s, leg, slot) then m
  else takeDuty s leg slot compare duty
    (m.modEng (m.dataSet s) (fun x => { x with expect := (e.dropWhile (fun y => y != (s, leg, slot))).drop 1 }))

/-- The start of a half-period for a set's legs: waiting tokens are judged, the others' held duties give their edges (R62). -/
def startHalf (s : Fin 2) (m : Mach) : Mach :=
  let slot := !m.pwm[s].rising
  let t := m.pwm[s].hStart
  m.each three (fun leg m =>
    let m := m.each m.pairs2 (fun low m => m.modPair' s leg low (fun x => { x with made := false, pending := none }))
    if !m.gate[s].pulses then m else
    let x := m.pairOf s leg false
    match x.waiting.find? (fun w => w.1 == slot) with
    | some (_, w) =>
      judgeToken s leg t w.compare w.duty
        (m.modPair' s leg false (fun x => { x with waiting := x.waiting.filter (fun w => w.1 != slot) }))
    | none => m.each m.pairs2 (fun low m => heldEdge s leg low m))

/-- DEAD_TIME_ELAPSED (R60, R231, R232): held off requests of the leg are carried out and its requested switches turn on where the
interlock allows. -/
def deadTimeElapsedEff (s : Fin 2) (leg : Fin 3) : Mach → Mach :=
  whenUp (fun m =>
    let cs := (m.setChs s).filter (fun c => m.legOfCh c == leg)
    (m.each cs releaseHeld).each cs tryOn)

/-! ### Carriers (R56, R59, R66) -/


/-- The half-period a set's carrier is to run at: its frequency's, doubled while Shade 3 halves it (R432). -/
def Mach.halfWanted (m : Mach) (s : Fin 2) : Time :=
  let h := halfOf (m.swFreq s)
  if m.pwm[s].halved then 2 * h else h

/-- The first valley of set 1's grid at or after an instant (R56). -/
def Mach.gridAfter (m : Mach) (half t : Time) : Time :=
  let t1 := 2 * half
  if t1 = 0 then t else
  let off := m.pwm[0].origin + toSubTick (fScaleNat (m.r (Key.carrierPhase 1)) t1 / 360)
  if t ≤ off then off - ((off - t) / t1) * t1 else off + ((t - off + t1 - 1) / t1) * t1

/-- Shade 3 halves the carriers of sets not in a direct mode; in dual topologies set 1 follows set 0 (R432). -/
def Mach.shadeHalves (m : Mach) (s : Fin 2) : Bool :=
  3 ≤ m.n Key.shadeLevel && m.b Key.thermalShade3Halve && !m.directMode (m.dataSet s)

/-- The set an interface is assigned to. -/
def Mach.piSet (m : Mach) (i : Fin 2) : Fin 2 := fin2 (m.n (Key.piAssignedSet i.1))
/-- Counts of one revolution (R93). -/
def Mach.piCounts (m : Mach) (i : Fin 2) : Nat := 4 * m.n (Key.piLinesPerRev i.1)

/-- The speed of an incremental interface at a sample instant, rpm (R93): from the count difference between the first and the last
edge since the instant before; with one edge alone, from that edge and the one before it; with none, no more than one count in
the time since the last edge (log entry 23). -/
def Mach.countSpeed (m : Mach) (i : Fin 2) (ns : Nat) : F32 :=
  let p := m.pos[i]
  let cpr := max 1 (m.piCounts i)
  let rpm := fun (c : Int) (dt : Nat) => fRat (60000000000 * c) (cpr * dt)
  if 2 ≤ p.edges ∧ p.firstEdge < p.lastEdge then rpm (p.count - p.firstCount) (p.lastEdge - p.firstEdge)
  else if p.edges = 0 then
    let lim := rpm 1 (max 1 (ns - p.lastEdge))
    if fgt (fabs p.speed) lim then (if fSign p.speed then fneg lim else lim) else p.speed
  else rpm (p.count - p.countPrev) (max 1 (p.lastEdge - p.prevEdge))

/-- The counts of the interfaces assigned to a set are latched at its sample instant (R96): an incremental interface's position
with its speed, a sin/cos one's period count. -/
def latchCounts (s : Fin 2) (at_ : Time) (m : Mach) : Mach :=
  m.each (two.filter (fun i => m.piSet i == s || m.dual)) (fun i m =>
    let p := m.pos[i]
    match m.n (Key.piMode i.1) with
    | 1 =>
      let cpr : Int := max 1 (m.piCounts i)
      let c := p.count - p.zCount
      let c0 := p.countPrev - p.zCount
      m.modPos i (fun q => { q with
        angle := fRat (360 * (c % cpr)) cpr.toNat, speed := m.countSpeed i (at_ / 1000), turns := p.turns + (c / cpr - c0 / cpr),
        countPrev := p.count, edges := 0 })
    | 2 => m.modPos i (fun q => { q with countPrev := p.count, edges := 0 })
    | _ => m)

/-- A control boundary of a set: its sample instant (R59, R66), the histogram and history clears due there, the positions it latches
(R96), one more sample instant without a duty token (R127). -/
def sampleInstant (s : Fin 2) (at_ : Time) (peak : Bool) (m : Mach) : Mach :=
  let m := latchCounts s at_ (boundaryOf (.ctl s) m)
  let m := if m.pwm[s].clearHist then
      (m.modPwm s (fun p => { p with clearHist := false, histogram := List.replicate 32 0 })).putN (Key.latencyMax s.1) 0
    else m
  let m := { m with slots := vmap m.slots (fun i x =>
    if x.clear ∧ m.n (Key.slotAssignment i.1) = s.1 then { x with clear := false, e := [0, 0, 0], y := [0, 0, 0] } else x) }
  m.modEng s (fun e => { e with lastSample := at_, lastPeak := peak, since := [], stall := if m.gate[s].pulses then e.stall + 1 else 0 })

/-- Discontinuous PWM takes effect, or ends, at a valley (R154). -/
def dpwmUpdate (s : Fin 2) (m : Mach) : Mach :=
  let x := m.r (Key.modIndex s.1)
  let lim := m.r (Key.modDpwmMinIndex s.1)
  let on := m.n (Key.modMethod s.1) == 1 &&
    (if m.mc[s].dpwm then !flt x (fsub lim (fRat 5 100)) else fge x lim)
  m.modMc s (fun y => { y with dpwm := on })

/-- The modulator clock of a set restarts at a valley (R76): the bits before it stay on the old grid. -/
def restartMclk (s : Fin 2) (t : Time) (old : Time) (m : Mach) : Mach :=
  m.modSense s (fun x => { x with mclk := some t, before := x.mclk.map (fun o => (o, old)) })

/-- CARRIER_VALLEY (R56, R57, R59): at the end of a falling half-period. In a grove the origin is grove time 0 (R326), and the
halving of Shade 3 waits for a valley that is a whole multiple of the new period (R432). The modulator clock restarts where its own
or the carrier's frequency changes and where a stretched period has reached its new grid (R76). A committed frequency that rounds to the
running half-period restarts nothing, and set 0's origin stays (DESIGN CHOICE, log entry 118); a peak half a picosecond off the model's
unit is taken at the picosecond before it (same entry). -/
def carrierValleyEff (s : Fin 2) (m : Mach) : Mach :=
  let p := m.pwm[s]
  if !m.running ∨ p.rising ∨ m.now < p.hEnd then m else
  let t := p.hEnd
  let ph0 := m.n (Key.carrierPhase s.1)
  let bit0 := m.bitPeriod s
  let m := boundaryOf (.set s) m
  let grove := decide (2 ≤ m.n Key.groveSize)
  let halve := m.shadeHalves s && (!grove || p.halved || t % (4 * max 1 (halfOf (m.swFreq s))) == 0)
  let m := dpwmUpdate s (m.modPwm s (fun p => { p with halved := halve }))
  let half := m.halfWanted s
  let restart := decide (half ≠ p.half)
  let m := if s = 0 then
      (if restart then (m.modPwm 0 (fun p => { p with origin := if grove then 0 else t, regrid := p.regrid || grove })).modPwm 1
        (fun p => { p with regrid := true }) else m)
    else if restart ∨ m.n (Key.carrierPhase 1) ≠ ph0 then m.modPwm 1 (fun p => { p with regrid := true }) else m
  let plain := t + 2 * half
  let next := if m.pwm[s].regrid then
      (if s = 1 then m.gridAfter half plain else
        let o := m.pwm[0].origin
        o + ((plain - o + 2 * half - 1) / max 1 (2 * half)) * (2 * half))
    else plain
  let m := m.modPwm s (fun q => { q with
    rising := true, hStart := t, hEnd := t + (next - t) / 2, next := next, moving := next != plain, half := half, regrid := false })
  let m := m.putR (Key.actualFrequency s.1) (fRat 1000000000000 (max 1 (2 * half)))
  let m := if restart ∨ p.moving ∨ m.bitPeriod s ≠ bit0 ∨ m.sense[s].mclk.isNone then restartMclk s t bit0 m else m
  let m := if m.smpMode s ≠ 1 then sampleInstant s t false m else m
  startHalf s m

/-- CARRIER_PEAK (R57, R59): at the end of a rising half-period. -/
def carrierPeakEff (s : Fin 2) (m : Mach) : Mach :=
  let p := m.pwm[s]
  if !m.running ∨ !p.rising ∨ m.now < p.hEnd then m else
  let t := p.hEnd
  let m := m.modPwm s (fun p => { p with rising := false, hStart := t, hEnd := p.next })
  let m := if m.smpMode s ≠ 0 then sampleInstant s t true m else m
  startHalf s m

/-- HISTOGRAM_CLEAR (R52): at the set's next control boundary. -/
def histogramClearEff (s : Fin 2) (m : Mach) : Mach := m.modPwm s (fun p => { p with clearHist := true })

end Sys2Proof.Machine
end

