-- ==== Sys2Proof/Machine/Trips.lean ====
section
/-! DEFINITION. Channel trips: protective turn-offs, latches and the trip histories (R237, R240 to R248, R257). -/

namespace Sys2Proof.Machine

/-! ### Trips and histories (R240 to R248) -/

/-- Entries of a trip history younger than Retry.Window (R247). -/
def Mach.freshTrips (m : Mach) (s : Fin 2) (h : List Nat) : List Nat :=
  h.filter (fun t => m.ns < t + 1000000000 * m.n (Key.gateRetryWindow s.1))

/-- A trip that starts a new turn-off is entered in its history, or locks the set out at the limit (R247, R248). -/
def enterTrip (s : Fin 2) (sc : Bool) (m : Mach) : Mach :=
  let g := m.gate[s]
  let m := m.modGate s (fun g => { g with scHist := m.freshTrips s g.scHist, otherHist := m.freshTrips s g.otherHist })
  if g.retry = 1 then
    -- the same turn-off: a short circuit moves its entry to the short-circuit history
    if sc ∧ g.scLegs.isEmpty then
      m.modGate s (fun g => match g.otherHist.getLast? with
        | some t => { g with otherHist := g.otherHist.dropLast, scHist := g.scHist ++ [t] }
        | none => g)
    else m
  else if g.retry = 3 then m
  else
    let used := if sc then m.gate[s].scHist.length else m.gate[s].otherHist.length
    let limit := if sc then m.n (Key.gateRetryScCount s.1) else m.n (Key.gateRetryCount s.1)
    if used < limit then
      m.modGate s (fun g => { g with
        scHist := if sc then g.scHist ++ [m.ns] else g.scHist, otherHist := if sc then g.otherHist else g.otherHist ++ [m.ns],
        retry := if g.retry = 2 then 2 else 1 })
    else m.modGate s (fun g => { g with retry := 3, waitEnd := none })

/-- The set's turn-off after a trip (R241, R245): in active short circuit it changes to the other side's pattern or turns
everything off, otherwise its pulses are removed softly. -/
def tripTurnOff (s : Fin 2) (m : Mach) : Mach :=
  match m.gate[s].asc with
  | none => stopPulses s true m
  | some p =>
    match m.sideSelector s with
    | some q => if q = p then m else ascPattern s q m
    | none => raiseS 0x41 s 0xFF (stopPulses s true m)

/-- A protective turn-off of a set with its event (R240 to R243, R257); `leg` names the leg of a short circuit. With MultiLegAction 1
the other set is turned off as well and its drive does not go on. -/
def tripSet (s : Fin 2) (ev inst : Nat) (leg : Option (Fin 3)) (v1 v2 : BitVec 32) (m : Mach) : Mach :=
  let was := m.gate[s].retry
  let m := tripTurnOff s (enterTrip s leg.isSome m)
  let m := match leg with
    | none => m
    | some l => m.modGate s (fun g => { g with scLegs := g.scLegs ++ [(l.1, m.ns)] })
  let multi := m.gate[s].scLegs.any (fun a => m.gate[s].scLegs.any (fun b =>
    a.1 != b.1 && decide (a.2 ≤ b.2 + 2000 ∧ b.2 ≤ a.2 + 2000)))
  let first := multi && !m.gate[s].multiLeg
  let m := if first then m.modGate s (fun g => { g with multiLeg := true }) else m
  let also : List (Bool × Nat) := [(first, 0x36), (m.gate[s].retry == 3 && was != 3, 0x3B)]
  let m := raiseAll ({ ev := ev, set := some s, drv := none, inst := inst, v1 := v1, v2 := v2 } ::
    (also.filter (·.1)).map (fun x => { ev := x.2, set := some s, drv := none, inst := 0xFF })) m
  if first ∧ m.n (Key.gateMultiLegAction s.1) = 1 ∧ m.gate[other s].pulses then
    let m := stopPulses (other s) true m
    let d := m.driveOf (other s)
    if m.drives[d].st.active then driveEnd d .off m else m
  else m

/-- A cause latched by a channel (R258). -/
def latch (c : Fin 12) (k : TripCause) (m : Mach) : Mach :=
  (m.modCh c (fun x => { x with latches := if x.latches.contains k then x.latches else x.latches ++ [k] })).putN
    (Key.gFaultCause c.1) (causeCode k)

/-- The event a latched cause raises (R257). -/
def causeEvent : TripCause → Nat
  | .didt | .integrator => 0x34
  | .desaturation => 0x35
  | .vposUvlo | .vnegUvlo | .logicSupply => 0x37
  | .legInterlock => 0x38
  | .linkLossChannel | .linkLossMain => 0x39
  | .invalidCommand => 0x3A
/-- A cause that counts as a short circuit (R247). -/
def causeSc : TripCause → Bool
  | .didt | .integrator | .desaturation => true
  | _ => false

/-- An undervoltage is expected: the safe-output token that the voters hold has STO active, or the device starts up (R234). -/
def Mach.uvloExpected (m : Mach) : Bool :=
  !(m.voters[0].held.getLsbD 0 && m.voters[1].held.getLsbD 1) || m.n Key.startState != 2

/-- A channel turns its switch off softly on its own (R237); one whose turn-off has been commanded but has not begun its phase 1 becomes
soft. -/
def ownSoftOff (c : Fin 12) (m : Mach) : Mach :=
  if m.ch[c].on then switchOff c true m
  else if m.now < m.ch[c].offAt + 80000 ∧ !m.ch[c].confirmed then
    m.modCh c (fun x => { x with soft := true, sink := 2, phase1End := some (m.now + 1580000) })
  else m

/-- A channel trips (R237, R242): its own soft turn-off, the latch, the lifetime count of short circuits (R250), the set's
turn-off and event. An expected undervoltage is only logged, with class 0 (R234). -/
def chTrip (c : Fin 12) (k : TripCause) (v1 v2 : BitVec 32) (m : Mach) : Mach :=
  let m := latch c k (ownSoftOff c m)
  let s := m.setOfCh c
  if (k = .vposUvlo ∨ k = .vnegUvlo ∨ k = .logicSupply) ∧ m.uvloExpected then
    raiseAs 3 0 0x37 (some s) none c.1 v1 v2 m
  else
    let m := if causeSc k then
        let m := m.inc (Key.gScTripLifetime c.1)
        m.nvJob (.entry (Key.gScTripLifetime c.1) (m.val (Key.gScTripLifetime c.1)) .nobody)
      else m
    tripSet s (causeEvent k) c.1 (if causeSc k then some (m.legOfCh c) else none) v1 v2 m

/-- A latched cause is still present, as the state shows it: a rail outside its range, an uplink without frames (R221, R233, R248). -/
def Mach.causeStands (m : Mach) (c : Fin 12) : TripCause → Bool
  | .vposUvlo => !m.ch[c].vposOk
  | .vnegUvlo => !m.ch[c].vnegOk && m.n (Key.gUvloNegRail c.1) == 1
  | .logicSupply => !m.ch[c].logicOk
  | .linkLossMain => m.ch[c].uplinkSeen && !m.ch[c].linkOk
  | _ => false

/-- The latches of a channel are cleared by command 0x08, but for causes still present (R222). -/
def clearLatches (c : Fin 12) (persists : List TripCause) (m : Mach) : Mach :=
  let m := m.modCh c (fun x => { x with latches := x.latches.filter persists.contains })
  if m.ch[c].latches.isEmpty then m.putN (Key.gFaultCause c.1) 0 else m

/-- The trip events of a set at class F3 are cleared with the latches of its turn-off (R446); of another class, their cause is gone
(R449). -/
def clearTrips (s : Fin 2) (m : Mach) : Mach :=
  let m := m.modEv (fun x => { x with active := x.active.map (fun a =>
    if a.set == some s && tripEvents.contains a.ev then { a with gone := true } else a) })
  (m.each ([0, 1, 2] : List (Fin 6)) (fun n m => m.modInput s n (fun x => { x with tripped := false }))).clearEvents
    (fun a => a.set == some s && (a.cls == 3 || a.cls == 1) && tripEvents.contains a.ev)

/-- Command 0x08 to channels of a set (R222, R248): their latches are cleared, with the trip events once none is left, and causes still
present trip again and are counted again. -/
def clearTripped (s : Fin 2) (cs : List (Fin 12)) (persists : List (Fin 12 × TripCause)) (m : Mach) : Mach :=
  let again := cs.flatMap (fun c => (m.ch[c].latches.filter (fun k => persists.contains (c, k) || m.causeStands c k)).map (fun k => (c, k)))
  let m := m.each cs (fun c m => clearLatches c ((again.filter (fun p => p.1 == c)).map (·.2)) m)
  let m := if (m.setChs s).all (fun d => m.ch[d].latches.isEmpty || again.any (fun p => p.1 == d)) then clearTrips s m else m
  m.each again (fun p m => chTrip p.1 p.2 0 0 m)

end Sys2Proof.Machine
end

