-- ==== Sys2Proof/Machine/Channels.lean ====
section
/-! DEFINITION. Gate channels: die commands, configuration, rails, profiles and their adaptation, detectors, links, protective
turn-offs and the trip histories (R219 to R248, R257, R258, R444). -/

namespace Sys2Proof.Machine

/-! ### Commands to a channel die (R222) -/

/-- A die command arrives: none does in the Clearing's safe state (R41). -/
def dieCmd (f : Mach → Mach) : Mach → Mach := whenLanes f

/-- SWITCH_RELEASE. -/
def switchReleaseEff (c : Fin 12) : Mach → Mach := dieCmd (fun m => m.modCh c (fun x => { x with mode := .release }))
/-- OFF_WITH_OFF_PROFILE. -/
def offWithOffProfileEff (c : Fin 12) : Mach → Mach :=
  dieCmd (fun m => (offRequest c false m).modCh c (fun x => { x with mode := .offHold, want := false }))
/-- SOFT_OFF. -/
def softOffEff (c : Fin 12) : Mach → Mach :=
  dieCmd (fun m => (offRequest c true m).modCh c (fun x => { x with mode := .softHold, want := false }))
/-- STATIC_ON (R231, R237, R244): turned on where the interlock allows; a die that has tripped ignores it. -/
def staticOnEff (c : Fin 12) : Mach → Mach :=
  dieCmd (fun m => if !m.ch[c].latches.isEmpty then m else tryOn c (m.modCh c (fun x => { x with
    mode := .staticOn, want := true, wantSince := if x.want then x.wantSince else m.now })))
/-- A Dusk injection out of the die of an off switch (R222, R252). -/
def injectEff (c : Fin 12) (level : Nat) : Mach → Mach :=
  dieCmd (fun m => m.modCh c (fun x => if x.on then x else { x with inject := level }))
/-- CLEAR_FAULT_LATCHES (R222, R248): a cause that persists trips again at once and is counted again. -/
def clearFaultLatchesEff (c : Fin 12) (persists : List TripCause) : Mach → Mach :=
  dieCmd (fun m => clearTripped (m.setOfCh c) [c] (persists.map (fun k => (c, k))) m)
/-- RESET_ADAPTED_PROFILE (R228). -/
def resetAdaptedProfileEff (c : Fin 12) : Mach → Mach := dieCmd (resetAdapted c)
/-- INVALID_COMMAND (R222): a reserved code holds the switch off and is latched and reported. -/
def invalidCommandEff (c : Fin 12) (code : BitVec 8) : Mach → Mach :=
  dieCmd (fun m =>
    if 1 ≤ code.toNat ∧ code.toNat ≤ 9 then m
    else chTrip c .invalidCommand (fNat code.toNat) 0 (m.modCh c (fun x => { x with mode := .invalid })))
/-- The command a code of PAYLOAD[7:0] carries to its die (R222). -/
def dieCommandEff (c : Fin 12) (code : BitVec 8) : Mach → Mach :=
  match code.toNat with
  | 0x01 => switchReleaseEff c
  | 0x02 => offWithOffProfileEff c
  | 0x03 => softOffEff c
  | 0x04 => staticOnEff c
  | 0x05 => injectEff c 1
  | 0x06 => injectEff c 2
  | 0x07 => injectEff c 0
  | 0x08 => clearFaultLatchesEff c []
  | 0x09 => resetAdaptedProfileEff c
  | _ => invalidCommandEff c code

/-! ### Links and status (R221, R444) -/

/-- Links are judged after the die's first frame, with both STO switches closed (R444). -/
def Mach.linkJudged (m : Mach) (c : Fin 12) : Bool := m.ch[c].uplinkSeen && m.stoOut 0 && m.stoOut 1

/-- UPLINK_STATUS_FRAME (R221, R232, R242): gate state, readings and die temperature stored; a latch not known yet is a trip reported;
an outer NPC switch that waited for this one may turn on. -/
def uplinkStatusFrameEff (c : Fin 12) (fr : UplinkFrame) : Mach → Mach :=
  whenUp (fun m =>
    let m := (m.modCh c (fun x => { x with
      uplinkSeen := true, linkOk := true, gateOn := fr.gateOn, vsen := fr.vsen, didt := fr.didt, temp := fr.temp })).putR (Key.gDieTemp c.1) fr.dieTemp
    let m := m.each (fr.latches.filter (fun k => !m.ch[c].latches.contains k)) (fun k m => chTrip c k 0 0 m)
    if m.npc ∧ 2 ≤ c.1 % 4 then tryOn (chan (c.1 - 2)) m else m)
/-- DOWNLINK_LOSS (R221): the die turns off softly and latches. -/
def downlinkLossEff (c : Fin 12) : Mach → Mach :=
  whenUp (fun m => if m.linkJudged c then chTrip c .linkLossChannel 0 0 m else m)
/-- UPLINK_LOSS (R221): the main die declares a link loss. -/
def uplinkLossEff (c : Fin 12) : Mach → Mach :=
  whenUp (fun m => if m.linkJudged c then chTrip c .linkLossMain 0 0 (m.modCh c (fun x => { x with linkOk := false })) else m)
/-- CHANNEL_UPLINK_TIMEOUT (R444): 50 ms after the release sequence without a first frame. -/
def channelUplinkTimeoutEff (c : Fin 12) : Mach → Mach :=
  whenUp (fun m => if !m.ch[c].uplinkSeen && due m m.safety.sto.uplinkEnd then
    chTrip c .linkLossMain 0 0 (m.modCh c (fun x => { x with linkOk := false })) else m)
/-- CHANNEL_CONFIGURATION (R223): accepted with a matching CRC; the adapted values start from the configured ones (R228). -/
def channelConfigurationEff (c : Fin 12) (cfg : List Byte) (crc : BitVec 32) : Mach → Mach :=
  whenUp (fun m => if m.ch[c].logicOk ∧ crc32c cfg = crc then resetAdapted c (m.modCh c (fun x => { x with config := some cfg })) else m)

/-! ### Edges (R224, R226, R227) -/

/-- PROFILE_PHASE1_END (R224): the segments of phase 2 take over, 16 in a soft turn-off. -/
def profilePhase1EndEff (c : Fin 12) (m : Mach) : Mach :=
  match m.ch[c].phase1End with
  | some t => if t ≤ m.now then m.modCh c (fun x => { x with
      phase1End := none, source := if x.on then m.n (Key.gOnN2 c.1) else 0,
      sink := if x.on then 0 else if x.soft then 16 else m.n (Key.gOffN2 c.1) }) else m
  | none => m

/-- "adaptation at limit", at most once a minute per channel (R227). -/
def adaptLimit (c : Fin 12) (m : Mach) : Mach :=
  let m := m.inc (Key.gAdaptLimitCount c.1)
  match m.ch[c].lastLimit with
  | some t => if m.ns < t + 60000000000 then m else raiseS 0x3D (m.setOfCh c) c.1 (m.modCh c (fun x => { x with lastLimit := some m.ns }))
  | none => raiseS 0x3D (m.setOfCh c) c.1 (m.modCh c (fun x => { x with lastLimit := some m.ns }))

/-- A value moved one step up or down within bounds; a step the bounds prevent is reported (R227). -/
def stepWithin (c : Fin 12) (key : Nat) (up : Bool) (by_ lo hi : Nat) (m : Mach) : Mach :=
  let v := m.n key
  let w := if up then min (v + by_) hi else max (v - by_) lo
  let w := max lo (min hi w)
  if w = v then adaptLimit c m else m.putN key w

/-- A switching time as it is resolved, to the nearest 2.5 ns (R226; DEDUCED, log entry 109). -/
def resolved (t : F32) : F32 := fmul (fInt (fNearest (fdiv t (fRat 5 2)))) (fRat 5 2)

/-- EDGE_MEASUREMENT (R226, R227). -/
def edgeMeasurementEff (c : Fin 12) (on : Bool) (time peak : F32) : Mach → Mach :=
  whenUp (fun m =>
    if (!on && m.ch[c].soft) || flt (fabs peak) (m.r (Key.gAdaptMinPeak c.1)) then m else
    let time := resolved time
    let m := m.putR (if on then Key.gLastOnTime c.1 else Key.gLastOffTime c.1) time
    let tgt := fNat (m.n (if on then Key.gAdaptTargetOn c.1 else Key.gAdaptTargetOff c.1))
    let db := fNat (m.n (Key.gAdaptDeadband c.1))
    let faster := fgt time (fadd tgt db)
    let slower := flt time (fsub tgt db)
    if !faster && !slower then m else
    let n1 := if on then Key.gLiveOnN1 c.1 else Key.gLiveOffN1 c.1
    let t1 := if on then Key.gLiveOnT1 c.1 else Key.gLiveOffT1 c.1
    let n2 := if on then Key.gOnN2 c.1 else Key.gOffN2 c.1
    match m.n (Key.gAdaptMode c.1) with
    | 1 => stepWithin c n1 faster 1 (m.n (Key.gAdaptN1Min c.1)) (m.n (Key.gAdaptN1Max c.1)) m
    | 2 => stepWithin c t1 (if m.n n1 > m.n n2 then faster else slower) 5 (m.n (Key.gAdaptT1Min c.1)) (m.n (Key.gAdaptT1Max c.1)) m
    | _ => m)

/-! ### Rails (R233, R234) -/

/-- A rail's validity. -/
def setRail (r : GateRail) (ok : Bool) (x : Channel) : Channel :=
  match r with
  | .vpos => { x with vposOk := ok }
  | .vneg => { x with vnegOk := ok }
  | .logic => { x with logicOk := ok }
/-- The cause a rail's loss latches. -/
def railCause : GateRail → TripCause | .vpos => .vposUvlo | .vneg => .vnegUvlo | .logic => .logicSupply

/-- The rising threshold of VPOS, V (R233). -/
def Mach.posThreshold (m : Mach) (c : Fin 12) : F32 :=
  match m.n (Key.gUvloPosThreshold c.1) with | 0 => fRat 21 2 | 1 => fRat 12 1 | 2 => fRat 14 1 | _ => fRat 16 1
/-- A rail at a voltage becomes valid (R233). No range is given for the logic supply: it is as the command says. -/
def Mach.railUp (m : Mach) (c : Fin 12) (v : F32) : GateRail → Bool
  | .vpos => fge v (m.posThreshold c)
  | .vneg => fle v (fneg (fRat 2 1))
  | .logic => true
/-- A rail at a voltage becomes invalid (R233): below the rising threshold less 1.0 V, above −1.7 V. -/
def Mach.railDown (m : Mach) (c : Fin 12) (v : F32) : GateRail → Bool
  | .vpos => flt v (fsub (m.posThreshold c) fOne)
  | .vneg => fgt v (fneg (fRat 17 10))
  | .logic => true

/-- RAIL_VALID (R223, R233): the latch of an undervoltage that was expected is cleared by command 0x08 once the rail stands again
(log entry 17). -/
def railValidEff (c : Fin 12) (r : GateRail) (volts : F32) (m : Mach) : Mach :=
  if !m.railUp c volts r then m else
  let m := m.modCh c (setRail r true)
  if m.lanesAct && m.gate[m.setOfCh c].retry == 0 && m.ch[c].latches.contains (railCause r) then
    clearLatches c (m.ch[c].latches.filter (· != railCause r)) (cmdCh c 0x08 m)
  else m

/-- RAIL_INVALID (R233, R234): the switch turns off softly, the cause is latched; without its logic supply the die loses its
configuration. A supervised VNEG rail only with Uvlo.NegRail 1. -/
def railInvalidEff (c : Fin 12) (r : GateRail) (volts : F32) (m : Mach) : Mach :=
  if !m.railDown c volts r then m else
  let m := m.modCh c (fun x => let x := setRail r false x; if r = .logic then { x with config := none } else x)
  if r = .vneg ∧ m.n (Key.gUvloNegRail c.1) = 0 then m
  else if m.running then chTrip c (railCause r) volts 0 m else latch c (railCause r) (ownSoftOff c m)

/-! ### Detectors (R235 to R238) -/

/-- A detector is live, `ps` after the turn-on command: from phase 1 of the turn-on to phase 1 of the turn-off, each 80 ns after its
edge time (R225, R235). -/
def Mach.onSince (m : Mach) (c : Fin 12) (ps : Time) : Bool :=
  let x := m.ch[c]
  decide (x.onAt + 80000 + ps ≤ m.now) && (x.on || (!x.confirmed && decide (x.onAt ≤ x.offAt ∧ m.now < x.offAt + 80000)))

/-- DIDT_TRIP (R235): at or above L_s times the limit in force. -/
def didtTripEff (c : Fin 12) (volts : F32) : Mach → Mach :=
  whenUp (fun m =>
    let lim := if m.ch[c].inRamp ∧ !m.onSince c (1000 * m.n (Key.gScRampWindow c.1)) then m.r (Key.gScDiDtLimitRamp c.1) else m.r (Key.gScDiDtLimit c.1)
    let thr := fdiv (fmul (m.r (Key.gScStrayInductance c.1)) lim) (fRat 1000 1)
    if m.onSince c 0 && fge volts thr then chTrip c .didt volts thr m else m)
/-- RAMP_WINDOW_END (R235). -/
def rampWindowEndEff (c : Fin 12) (m : Mach) : Mach :=
  if m.onSince c (1000 * m.n (Key.gScRampWindow c.1)) then m.modCh c (fun x => { x with inRamp := false }) else m
/-- One stretch of the integrator: a DIDT voltage held for a time (ps) moves i_int (A) with the leak's time constant τ (R236). -/
def Mach.integrate (m : Mach) (c : Fin 12) (i : F32) (s : F32 × Nat) : F32 :=
  let tau := fNat (m.n (Key.gScIntegratorLeak c.1))
  let k := Config.exp (fneg (fdiv (fRat s.2 1000000) tau))
  let goal := fmul (fdiv (fmul s.1 (fRat 1000 1)) (m.r (Key.gScStrayInductance c.1))) tau
  fadd (fmul i k) (fmul goal (fsub fOne k))

/-- INTEGRATOR_TRIP (R236): i_int formed from the DIDT voltage since the turn-on command, a list of voltages and the times (ps) they
stood, has reached ScCurrentLimit. -/
def integratorTripEff (c : Fin 12) (course : List (F32 × Nat)) : Mach → Mach :=
  whenUp (fun m =>
    let lim := m.r (Key.gScCurrentLimit c.1)
    if !m.onSince c (course.map (·.2)).sum then m else
    let i := course.foldl (m.integrate c) 0
    -- held at zero while the switch is commanded off
    let m := m.modCh c (fun x => { x with iInt := if x.on then i else 0 })
    if fge i lim then chTrip c .integrator i lim m else m)
/-- DESATURATION_TRIP (R238): the sense node, less the diode drop and the drop of 0.5 mA across the sense resistance, above 9.0 V,
after the blanking of 1,500 ns. -/
def desaturationTripEff (c : Fin 12) (volts : F32) : Mach → Mach :=
  whenUp (fun m =>
    let v := fsub (fsub volts (m.r (Key.gSenseDiodeDrop c.1))) (fmul (fRat 1 2000) (m.r (Key.gSenseResistance c.1)))
    if m.onSince c 1500000 && fgt v (fRat 9 1) then chTrip c .desaturation v (fRat 9 1) m else m)

/-! ### Sequences, interlock, direct commands (R230, R231, R241) -/

/-- TURN_OFF_SEQUENCE_STEP (R241). -/
def turnOffSequenceStepEff (s : Fin 2) (m : Mach) : Mach :=
  match m.gate[s].turnOff with
  | some x => if x.next ≤ m.now then turnOffStep s x.rest x.soft m else m
  | none => m

/-- GATE_OFF_CONFIRMED (R231, R232): a partner that waited longer than its dead time is counted and may turn on; an inner NPC switch
whose off request waited for this one is turned off. -/
def gateOffConfirmedEff (c : Fin 12) : Mach → Mach :=
  whenUp (fun m =>
    if m.ch[c].on then m else
    let p := m.partner c
    let late := !m.ch[c].confirmed && m.ch[p].want && !m.ch[p].on &&
      decide (m.ch[c].offAt + m.deadTime (m.setOfCh c) (m.legOfCh c) < m.now)
    let m := m.modCh c (fun x => { x with confirmed := true, soft := false })
    let m := tryOn p (if late then m.inc (Key.gOffConfirmLateCount c.1) else m)
    if m.npc ∧ c.1 % 4 ≤ 1 then releaseHeld (chan (c.1 + 2)) m else m)

/-- A leg breaks the interlock for more than 1 µs: both switches of a pair requested on (R231), or a request held by R232. -/
def Mach.legConflict (m : Mach) (s : Fin 2) (leg : Fin 3) : Bool :=
  ((m.setChs s).filter (fun c => m.legOfCh c == leg)).any (fun c =>
    let x := m.ch[c]
    let p := m.ch[m.partner c]
    (x.want && p.want && decide (max x.wantSince p.wantSince + 1000000 < m.now)) ||
    (x.offHeld && decide (x.heldAt + 1000000 < m.now)) ||
    (m.npc && c.1 % 4 ≤ 1 && x.want && !x.on && !(m.ch[chan (c.1 + 2)].on && m.ch[chan (c.1 + 2)].gateOn) &&
      decide (x.wantSince + 1000000 < m.now)))

/-- LEG_INTERLOCK_FAULT (R231, R232): only where the interlock is active. With the set's own PWM logic, which never breaks the rules, it
is a fault of that logic, and is taken as it comes. -/
def legInterlockFaultEff (s : Fin 2) (leg : Fin 3) : Mach → Mach :=
  whenUp (fun m =>
    let mode := m.n (Key.gateCommandMode s.1)
    if mode = 1 ∨ (mode = 2 ∧ !m.legConflict s leg) then m else
    let cs := (m.setChs s).filter (fun c => m.legOfCh c == leg)
    tripSet s 0x38 leg.1 none 0 0 (m.each cs (fun c m => latch c .legInterlock (m.modCh c (fun x => { x with want := false })))))

/-- SWCMD_TRANSITION (R230): acts in a direct mode between the enable and a protective turn-off. -/
def swcmdTransitionEff (c : Fin 12) (high : Bool) (m : Mach) : Mach :=
  let s := m.setOfCh c
  let m := m.modCh c (fun x => { x with swcmd := high })
  if !m.running ∨ !m.directMode s ∨ !m.gate[s].direct ∨ !m.gate[s].pulses then m else
  let m := noteEdge s (m.legOfCh c) m
  if high then tryOn c (wantOn c m)
  else
    let held := m.ch[c].want && !m.ch[c].on
    let m := cmdOff c m
    if held then m.modCh c (fun x => { x with offAt := m.now }) else m

/-- TRIP_HISTORY_EXPIRY (R247). -/
def tripHistoryExpiryEff (s : Fin 2) (m : Mach) : Mach :=
  m.modGate s (fun g => { g with scHist := m.freshTrips s g.scHist, otherHist := m.freshTrips s g.otherHist })

/-- Every channel of a set is commanded off and confirmed off. -/
def Mach.allOff (m : Mach) (s : Fin 2) : Bool := (m.setChs s).all (fun c => !m.ch[c].on && m.ch[c].confirmed)

/-- SET_CONFIRMED_OFF (R248, R446): command 0x08 to every channel, the trip events cleared, the wait started; a cause that
persists trips again. -/
def setConfirmedOffEff (s : Fin 2) (persists : List (Fin 12 × TripCause)) : Mach → Mach :=
  whenLanes (fun m =>
    if m.gate[s].retry ≠ 1 ∨ !m.allOff s then m else
    let cs := m.setChs s
    let tripped := cs.filter (fun c => !m.ch[c].latches.isEmpty)
    let m := m.each cs (cmdCh · 0x08)
    let m := m.modGate s (fun g => { g with retry := 2, waitEnd := some (m.ns + ms (m.n (Key.gateRetryWait s.1))), scLegs := [], multiLeg := false })
    clearTripped s cs persists (m.each tripped (fun c m => raiseS 0x3C s c.1 m)))

end Sys2Proof.Machine
end

