-- ==== Sys2Proof/Machine/Start.lean ====
section
/-! DEFINITION. Starting and stopping a drive: Command 1 and Command 0 (R186 to R189), the STO release (R272 to R276), the Dusk
test (R251 to R256), the speed measurement and the start decision (R175 to R180), the pulse enable, pre-torque and brake release
(R188), quick release (R211 to R214), the retry's restart (R249) and the direct enable (R230). -/

namespace Sys2Proof.Machine

/-! ### STO release (R273 to R276) -/

/-- "STO switch fault" opens both switches and latches until a deliberate reset (R273 to R275, R289). -/
def stoFault (m : Mach) : Mach := raiseM 0x46 0xFF (stoOpen (m.modSto (fun x => { x with fault := true })))

/-- The release sequence starts: with both switches open FBN must read low, then step 1 closes the high-side switch alone (R273). -/
def stoBegin (m : Mach) : Mach :=
  if m.safety.sto.fbn then stoFault m else m.modSto (fun x => { x with step := some 1, hs := true, ls := false, stepEnd := m.ns + ms 10 })

/-- A release that is wanted and permitted begins once the feed has discharged, and waits for that otherwise; a sequence whose
condition lapses is abandoned (R273, R276). -/
def stoProgress (m : Mach) : Mach :=
  let x := m.safety.sto
  let wanted := two.any (fun d => m.drives[d].st.active || m.drives[d].qrDemand) ||
    two.any (fun s => m.gate[s].duskWant.isSome || m.safety.sbt[s].isSome)
  if x.step.isSome then (if m.stoReleaseOk then m else stoOpen m)
  else if wanted ∧ !x.hs ∧ !x.ls ∧ m.stoReleaseOk then
    if x.discharged then stoBegin m else m
  else m

/-- STO_FEED_DISCHARGED: FBP reads low with both switches open, and what FBN reads then. -/
def stoFeedDischargedEff (fbn : Bool) : Mach → Mach := whenUp (fun m =>
  let x := m.safety.sto
  if x.hs ∨ x.ls then m else m.modSto (fun x => { x with discharged := true, openedAt := none, fbp := false, fbn := fbn }))

/-- STO_DISCHARGE_TIMEOUT (R274). -/
def stoDischargeTimeoutEff : Mach → Mach := whenLanes (fun m =>
  let x := m.safety.sto
  match x.openedAt with
  | some t => if !x.hs ∧ !x.ls ∧ t + ms (m.n Key.stoDischargeTime) ≤ m.ns then stoFault m else m
  | none => m)

/-- STO_RELEASE_STEP: the reading at the end of a step against the expected one, then the next switch state (R273). -/
def stoReleaseStepEff (fbp fbn : Bool) : Mach → Mach := whenLanes (fun m =>
  let m := m.modSto (fun x => { x with fbp := fbp, fbn := fbn })
  let x := m.safety.sto
  match x.step with
  | none => m
  | some k =>
    if m.ns < x.stepEnd then m
    else if !m.stoReleaseOk then stoOpen m
    else if k = 1 then
      if fbp ∧ fbn then m.modSto (fun x => { x with step := some 2, hs := false, ls := true, stepEnd := m.ns + ms 10 }) else stoFault m
    else if k = 2 then
      if !fbp ∧ !fbn then m.modSto (fun x => { x with step := some 3, hs := true, ls := true, stepEnd := m.ns + ms 5 }) else stoFault m
    else if fbp ∧ !fbn then
      m.modSto (fun x => { x with step := none, fault := false, uplinkEnd := some (m.ns + ms 50) })
    else stoFault m)

/-- STO_FEEDBACK_DEVIATION: for 1 ms, since an instant, with both switches closed (R275). -/
def stoFeedbackDeviationEff (fbp fbn : Bool) (since : Time) : Mach → Mach := whenLanes (fun m =>
  let m := m.modSto (fun x => { x with fbp := fbp, fbn := fbn })
  let x := m.safety.sto
  if x.hs ∧ x.ls ∧ !(fbp ∧ !fbn) ∧ since + 1000000000 ≤ m.now then stoFault m else m)

/-! ### The pulse enable (R175, R179, R484) -/

/-- The sets a start or a quick release of a drive enables: the healthy one in limp (R209), otherwise all but those locked out (R249). -/
def Mach.startSets (m : Mach) (d : Fin 2) : List (Fin 2) :=
  match m.drives[d].limp with | some h => [h] | none => (m.setsOf d).filter (fun s => m.gate[s].retry != 3)
/-- A safe brake test of a drive is in progress (R286). -/
def Mach.brakeTesting (m : Mach) (d : Fin 2) : Bool := (m.brakesOf d).any (fun k => m.safety.sbt[k].isSome)

/-- The flux build of an induction machine lasts FluxBuildTime, or 3 τ_r where it is 0 (R179), ns. -/
def Mach.fluxBuild (m : Mach) (s : Fin 2) : Nat :=
  let k := m.machSet s
  if m.n (Key.startFluxBuildTime k) = 0 then
    fScaleNat (fmul (fRat 3 1) (fdiv (m.r (Key.machineLr k)) (m.r (Key.machineRr k)))) 1000000000
  else ms (m.n (Key.startFluxBuildTime k))

/-- A set's pulses are enabled: its dies released, its law slots started, the angle in use taken from the start's speed (R113,
R167, R175, R179). `caught` presets the first computation. -/
def enablePulses (s : Fin 2) (caught standstill : Bool) (m : Mach) : Mach :=
  let k := m.machSet s
  let m := m.each (m.setChs s) (fun c m =>
    cmdCh c 0x01 (m.modCh c (fun x => if x.latches.isEmpty then { x with mode := .release, want := false } else x)))
  let m := m.modGate s (fun g => { g with pulses := true, asc := none, scLegs := [], multiLeg := false })
  let m := m.modPwm s (fun p => { p with legs := Vector.replicate 3 {}, lows := Vector.replicate 3 {} })
  let m := (slotsFollow m).modEng s (fun e => { e with tail := 300 })
  let w := fmul (rpmToRad m.mc[s].speed) (m.poles s)
  let pulses := standstill && m.isPm s && m.b (Key.obsHfiEnable k) && !m.encValid s
  m.modMc s (fun x => { x with
    enabledAt := m.ns, enablePending := false, byObserver := false, catching := caught, omega := w, obsOmega := w,
    polarity := if pulses then 1 else 0, polarityAt := m.ns, peak1 := 0, peak2 := 0, probe := 0,
    catchW := if caught ∧ !m.isPm s then some w else none, resCount := 0, angCount := 0, fluxOut := none, omegas := [],
    ramp := if caught then some { from_ := 0, to_ := fOne, start := m.ns, dur := ms (m.n (Key.startCatchRampTime k)) } else none,
    building := !m.isPm s,
    fluxRamp := if m.isPm s then none else some { from_ := 0, to_ := fOne, start := m.ns, dur := m.fluxBuild s } })

/-! ### Starting (R186 to R189, R249, R288, R298) -/

/-- The demands, waits and tests that hold a Command 1 back until they end (R249, R288, R485). -/
def Mach.holdsStart (m : Mach) (d : Fin 2) : Bool :=
  !m.inputsKnown (some d) ||
  (m.setsOf d).any (fun s => m.gate[s].retry == 1 || m.gate[s].retry == 2) ||
  (m.brakesOf d).any (fun k => m.safety.sbt[k].isSome)

/-- A drive starts on its other set where one is locked out: limp is permitted (R249), which it is not on a member under a leader (R339). -/
def Mach.limpStart (m : Mach) (d : Fin 2) : Bool :=
  !m.follows && m.b (Key.limpEnable d.1) && (m.n (Key.shareMode 0) == 1 || m.dual) && !(m.startSets d).isEmpty

/-- A start goes on with a limp on the one set that may run. -/
def Mach.limpOf (m : Mach) (d : Fin 2) : Option (Fin 2) :=
  if (m.setsOf d).any (fun s => m.gate[s].retry == 3) then (m.startSets d).head? else none

/-- A Command 1 at a drive in Off (R187): refused while safety is not confirmed (R298), while a lock-out, an active F2 (a locked set's own events apart where limp may run without it, R249, R449) or a
demand stands (R276, R447), with a brake fault or a failed brake test (R283, R287), with an invalid payout in modes 3 and 4
(R197) and before a passed grove line test (R307); held by what `holdsStart` names; else the drive goes to Starting. -/
def startDrive (d : Fin 2) (m : Mach) : Mach :=
  if m.drives[d].st ≠ .off ∨ !m.driveConfigured d then m
  else if m.n Key.safetyState ≤ 1 then raiseD 0x52 d m
  else if m.holdsStart d then m.modDrive d (fun x => { x with held := true })
  else if (m.setsOf d).any (fun s => m.gate[s].retry == 3) ∧ !m.limpStart d then
    m.each ((m.setsOf d).filter (fun s => m.gate[s].retry == 3)) (fun s m => raiseS 0x3B s 0xFF m)
  else if m.blocked d (fun s => m.limpStart d && m.gate[s].retry == 3) ∨ m.lockedOut ∨ m.demandOn [1, 2] d ∨ m.stoDemand then m
  else if (m.brakesOf d).any (fun k => let b := m.safety.brakes[k]; b.releaseFault || b.applyFault || b.switchFault) then m
  else if two.any (fun k => m.safety.brakes[k].testFailed || m.nv.sbtMust[k]) then m
  else if m.n Key.bankLoadState = 1 then raiseM 0x6E (m.n Key.bankActive) m
  else if (m.modeOf d = 3 ∨ m.modeOf d = 4) ∧ !m.b (Key.winchPayoutValid d.1) then raiseD 0x28 d m
  else if m.n Key.groveSize ≥ 2 ∧ !m.safety.linePassed then m
  else
    let m := m.modDrive d (fun x => { x with
      st := .starting, step := .stoRelease, startAt := m.ns, held := false, limp := m.limpOf d,
      neutral := false, neutralSince := none, waitUntil := none, remeasure := none })
    let m := m.each (m.startSets d) (fun s m =>
      ((m.modMc s (fun x => { x with prevStatus := m.n (Key.startStartStatus s.1) })).modGate s (fun g => { g with duskWant := some 0 })).putN
        (Key.startStartStatus s.1) 0x01)
    let m := match m.limpOf d with | some h => raise 0x2F none (some d) h.1 m | none => m
    if m.n Key.safetyState = 3 then raise 0x53 none (some d) (m.n Key.safetyFallbackPreset) m else m

/-- Command 1 (R187): the entry reads 1; a drive that is not Off keeps its state, the write is not queued. -/
def commandRunEff (d : Fin 2) (m : Mach) : Mach := startDrive d (m.putN (Key.command d.1) 1)

/-- Command 0 (R187, R277): a held Command 1 is gone; reacquisition ends (R174); the drive begins its SS1. In quick release the
stop follows when the quick release ends (R214). -/
def commandStopEff (d : Fin 2) (m : Mach) : Mach :=
  let m := (m.putN (Key.command d.1) 0).modDrive d (fun x => { x with held := false })
  startSs1 d false (losStop raiser d m)
where
  /-- Events of a stop decision. -/
  raiser : Raiser := fun e set drv inst m => raise e set drv inst m

/-- Held commands proceed when what held them has ended (R249, R288, R485). -/
def heldProgress (m : Mach) : Mach :=
  m.each two (fun d m =>
    if m.drives[d].held ∧ !m.holdsStart d then startDrive d (m.modDrive d (fun x => { x with held := false })) else m)

/-! ### The Dusk test (R251 to R256) -/

/-- The injected switches of a set in order, as phase and slot (R252, R255). -/
def Mach.duskOrder (m : Mach) : List (Nat × Nat) :=
  [0, 1, 2].flatMap (fun p => (List.range (if m.npc then 4 else 2)).map (fun k => (p, k)))
/-- The channel of a slot: low-side and high-side switch, T4, T1, T3, T2 in topology 3 (R255). -/
def Mach.duskCh (m : Mach) (s : Fin 2) (p k : Nat) : Fin 12 :=
  if m.npc then npcCh p (if k = 0 then 1 else if k = 1 then 0 else if k = 2 then 3 else 2)
  else chan (6 * s.1 + 2 * p + (1 - k))

/-- Every current and DC-link input of a set, MDAT9 with set 0's in topology 3, is alive and without a shadow run (R75, R88). -/
def Mach.sensorsReady (m : Mach) (s : Fin 2) : Bool :=
  (m.inputsOf s).all (fun x => 3 < x.2.1 || (!m.sense[x.1].inputs[x.2].dead && m.n (Key.inputShadowRun x.1.1 x.2.1) == 0))

/-- The conditions of R251 hold. -/
def Mach.duskOk (m : Mach) (s : Fin 2) : Bool :=
  (m.setChs s).all m.available && !m.gate[s].pulses && decide (m.gate[s].removedAt + 100000000 ≤ m.now || m.gate[s].removedAt = 0) &&
  (m.inputsOf s).all (fun x => x.2.1 < 3 || !m.sense[x.1].inputs[x.2].dead)

/-- Class code of a reading (R253): 0 blocked, 1 short, 2 diode path, 3 leak. -/
def Mach.duskClass (m : Mach) (s : Fin 2) (blocked : Bool) (v0 v2 : F32) : Nat :=
  if blocked then 0
  else if flt v2 (m.r (Key.duskShortLevel s.1)) then 1
  else if fle (m.r (Key.duskDiodeLow s.1)) v0 ∧ fle v0 (m.r (Key.duskDiodeHigh s.1)) then 2
  else 3

/-- Line voltages from a phase to the two others. -/
def linesOf (p : Nat) (uv vw : F32) : F32 × F32 :=
  let wu := fneg (fadd uv vw)
  if p = 0 then (uv, wu) else if p = 1 then (uv, vw) else (vw, wu)

/-- Class of a slot of a phase, 0xF where it was not injected (R255). -/
def DuskRun.cls (r : DuskRun) (p k : Nat) : Nat :=
  match r.results.find? (fun x => x.1 == p && x.2.1 == k) with | some x => x.2.2.2.2 | none => 0xF
/-- V0 and V2 of a slot. -/
def DuskRun.volts (r : DuskRun) (p k : Nat) : F32 × F32 :=
  match r.results.find? (fun x => x.1 == p && x.2.1 == k) with | some x => (x.2.2.1, x.2.2.2.1) | none => (0, 0)
/-- The line voltages by which an open phase is judged: the shifts, or the baseline ones with the link charged (R254). -/
def DuskRun.lines (r : DuskRun) (p : Nat) : F32 × F32 :=
  if r.charged then let b := linesOf p r.baseUV r.baseVW; (fabs b.1, fabs b.2)
  else match r.shifts.find? (fun x => x.1 == p) with | some x => x.2 | none => (0, 0)

/-- Verdict of a phase after a full test: the first row of R254 that applies. -/
def Mach.duskVerdictOf (m : Mach) (s : Fin 2) (r : DuskRun) (p : Nat) : Nat :=
  let lo := r.cls p 0
  let hi := r.cls p 1
  let inner := if m.npc then [r.cls p 2, r.cls p 3] else []
  let open_ := let l := r.lines p
    let lim := m.r (if r.charged then Key.duskOpenLevelCharged s.1 else Key.duskOpenLevel s.1)
    fgt l.1 lim && fgt l.2 lim
  if r.charged && lo == 1 && hi == 1 then 0x07
  else if r.charged && lo == 1 && hi == 0 then 0x02
  else if r.charged && hi == 1 && lo == 0 then 0x03
  else if inner.contains 1 || (!r.charged && (lo == 1 || hi == 1)) then 0x01
  else if !r.charged && (lo == 0 || hi == 0) then 0x06
  else if open_ then 0x05
  else if inner.contains 3 || lo == 3 || hi == 3 || (r.charged && (lo == 2 || hi == 2)) then 0x04
  else 0x00

/-- The 48-byte record of a phase (R255). -/
def DuskRun.record (r : DuskRun) (p verdict : Nat) : List Byte :=
  let cs := [0, 1, 2, 3].map (fun k => r.cls p k)
  let leaks := [0, 1, 2, 3].filterMap (fun k => if r.cls p k = 3 then some (fdiv (r.volts p k).1 (fRat 1 2000)) else none)
  let l := r.lines p
  beBytes 1 p ++ beBytes 1 verdict ++ beBytes 1 (b2n r.charged) ++ beBytes 1 0 ++
  beBytes 2 (cs[0]! + 16 * cs[1]! + 256 * cs[2]! + 4096 * cs[3]!) ++ beBytes 2 0 ++
  [0, 1, 2, 3].flatMap (fun k => beBytes 4 (r.volts p k).1.toNat ++ beBytes 4 (r.volts p k).2.toNat) ++
  beBytes 4 (match leaks with | [] => 0 | a :: t => (t.foldl fmin a).toNat) ++ beBytes 4 (fmax l.1 l.2).toNat

/-- A set's start is broken off by a failed test: its StartStatus as before the request (R256). -/
def duskStartFails (s : Fin 2) (m : Mach) : Mach :=
  m.each (m.startSets (m.driveOf s)) (fun s m => m.putN (Key.startStartStatus s.1) m.mc[s].prevStatus)

/-- A test ends with a verdict per phase: results stored, and what the test was for goes on (R175, R230, R254 to R256, R286). -/
def duskFinish (s : Fin 2) (r : DuskRun) (vs : List Nat) (m : Mach) : Mach :=
  let recs := [0, 1, 2].flatMap (fun p => r.record p (vs[p]?.getD 0x08))
  let turning := vs.all (· == 0x09)
  let pass := turning || vs.all (· == 0x00)
  let bad := [0, 1, 2].find? (fun p => vs[p]?.getD 0x08 != 0x00 && (!turning))
  let m := (((m.put (Key.duskResult s.1) (.bytes recs)).putN (Key.duskVerdict s.1)
      (if turning then 0x09 else match bad with | some p => vs[p]?.getD 0x08 | none => 0)).putN (Key.duskLastTime s.1) m.ns)
  let m := m.modGate s (fun g => { g with dusk := none, duskWant := none })
  let m := m.each (m.setChs s) (fun c m => if m.ch[c].inject ≠ 0 then cmdCh c 0x07 (m.modCh c (fun x => { x with inject := 0 })) else m)
  if !pass then
    let m := if r.purpose = 0 then duskStartFails s m else m
    let m := if r.purpose = 2 then sbtAbort (m.driveOf s) m else m
    stoIfUnused (raiseS 0x42 s (bad.getD 0) m)
  else if r.purpose = 0 then m.modMc s (fun x => { x with measuring := true })
  else if r.purpose = 2 then m.modMc s (fun x => { x with measuring := true })
  else if r.purpose = 3 then
    -- an enable with a sensor that is not ready is refused (R88)
    if !m.sensorsReady s then stoIfUnused (m.putN (Key.startStartStatus s.1) 0x14)
    else (enablePulses s false false m).modGate s (fun g => { g with direct := true })
  else stoIfUnused m

/-- A wanted test begins: with the baseline, or at once with verdict 0x08 for every phase where R251 is not met. -/
def duskBegin (s : Fin 2) (purpose : Nat) (m : Mach) : Mach :=
  let r : DuskRun := { purpose := purpose, due := m.ns + ms 2 }
  if m.duskOk s then m.modGate s (fun g => { g with dusk := some r, duskWant := none })
  else duskFinish s r [0x08, 0x08, 0x08] m

/-- The injection of a step: odd steps 0.5 mA, even ones 2 mA, the last none. -/
def duskInject (s : Fin 2) (step : Nat) (m : Mach) : Mach :=
  let stop := m.each (m.setChs s) (fun c m => if m.ch[c].inject ≠ 0 then cmdCh c 0x07 (m.modCh c (fun x => { x with inject := 0 })) else m)
  match m.duskOrder[(step - 1) / 2]? with
  | some (p, k) =>
    let c := m.duskCh s p k
    if step % 2 = 1 then cmdCh c 0x05 (stop.modCh c (fun x => { x with inject := 1 }))
    else cmdCh c 0x06 (m.modCh c (fun x => { x with inject := 2 }))
  | none => stop

/-- DUSK_STEP_END (R252): the step's readings, then the next injection or the verdicts. -/
def duskStepEndEff (s : Fin 2) (rd : DuskReading) : Mach → Mach := whenLanes (fun m =>
  match m.gate[s].dusk with
  | none => m
  | some r =>
    if m.ns < r.due then m
    else if !rd.alive ∨ !m.duskOk s then duskFinish s r [0x08, 0x08, 0x08] m
    else
      let next := fun (r : DuskRun) (m : Mach) =>
        duskInject s (r.step + 1) (m.modGate s (fun g => { g with dusk := some { r with step := r.step + 1, due := m.ns + ms 2 } }))
      if r.step = 0 then
        let r := { r with charged := fge (m.dcLink s) (m.r (Key.duskChargedLevel s.1)), baseUV := rd.uUV, baseVW := rd.uVW }
        if fgt rd.span (m.r (Key.duskRotationSpan s.1)) then duskFinish s r [0x09, 0x09, 0x09] m else next r m
      else match m.duskOrder[(r.step - 1) / 2]? with
        | none => duskFinish s r ([0, 1, 2].map (m.duskVerdictOf s r)) m
        | some (p, k) =>
          let c := m.duskCh s p k
          let v := fun (amps : F32) => fsub (fsub rd.vsen (m.r (Key.gSenseDiodeDrop c.1))) (fmul amps (m.r (Key.gSenseResistance c.1)))
          if r.step % 2 = 1 then
            next { r with v0 := v (fRat 1 2000), blocked := fge rd.vsen (fsub rd.rail (fRat 3 2)) } m
          else
            let v2 := v (fRat 1 500)
            let now := linesOf p rd.uUV rd.uVW
            let base := linesOf p r.baseUV r.baseVW
            next { r with
              results := r.results ++ [(p, k, r.v0, v2, m.duskClass s r.blocked r.v0 v2)],
              shifts := if k = 0 then r.shifts ++ [(p, fabs (fsub now.1 base.1), fabs (fsub now.2 base.2))] else r.shifts } m)

/-- DUSK_RUN is permitted (R251): pulses removed, no test of the set in progress, the set not starting. -/
def Mach.duskRunOk (m : Mach) (s : Fin 2) : Bool :=
  !m.gate[s].pulses && m.gate[s].dusk.isNone && m.gate[s].duskWant.isNone && m.drives[m.driveOf s].st != .starting &&
  !(m.mc[s].measuring || m.mc[s].enablePending)
/-- Dusk.Run written (R251): the STO release first where the switches are open. -/
def duskRunEff (s : Fin 2) (m : Mach) : Mach := m.modGate s (fun g => { g with duskWant := some 1 })

/-- Tests that are wanted begin once the gate supply stands and every channel is available, or 50 ms after the release at the
latest (R175, R251, R444). -/
def duskProgress (m : Mach) : Mach :=
  m.each two (fun s m =>
    match m.gate[s].duskWant with
    | none => m
    | some p =>
      let x := m.safety.sto
      let waits : Bool := match x.uplinkEnd with | some t => decide (m.ns < t) | none => false
      if m.gate[s].dusk.isSome then m
      else if !(x.hs ∧ x.ls ∧ x.step.isNone) then
        -- a requested test whose gate supply is kept off is not tested (R251)
        if p = 1 ∧ !m.stoReleaseOk then duskFinish s { purpose := 1, due := m.ns } [0x08, 0x08, 0x08] m else m
      else if !(m.setChs s).all m.ready ∧ waits then m
      else
        let d := m.driveOf s
        duskBegin s p (if p = 0 then m.modDrive d (fun x => { x with step := .dusk }) else m))

/-! ### The start decision (R176 to R178, R180) -/

/-- A start is refused: StartStatus, "start refused", the drive to Off, a brake test aborted (R178, R187, R288). A drive that waits
measures again and stays (R180). -/
def startRefused (s : Fin 2) (status : Nat) (m : Mach) : Mach :=
  let d := m.driveOf s
  let m := m.putN (Key.startStartStatus s.1) status
  if m.drives[d].st = .waiting then m else
  let m := sbtAbort d (raise 0x24 (some s) none status m)
  if m.drives[d].st = .starting then driveEnd d .off m else m

/-- REVERSE_TOO_FAST (R178, R180): the drive waits, the brake of ReverseAction 1 applied, a re-measurement every period. -/
def startWaits (s : Fin 2) (m : Mach) : Mach :=
  let d := m.driveOf s
  let k := m.machSet s
  let was := m.drives[d].st
  let m := m.putN (Key.startStartStatus s.1) 0x10
  let m := if was = .waiting then m else raise 0x24 (some s) none 0x10 m
  if m.drives[d].st ≠ .starting ∧ m.drives[d].st ≠ .waiting then sbtAbort d m else
  let m := m.each (m.setsOf d) (fun s m => m.modMc s (fun x => { x with enablePending := false, measuring := false }))
  let m := m.modDrive d (fun x => { x with
    st := .waiting, step := .idle, remeasure := some (m.ns + ms (m.n (Key.startRemeasurePeriod k))),
    waitUntil := some (x.startAt + 1000000000 * m.n (Key.startStartWaitTime k)) })
  if m.n (Key.startReverseAction k) = 1 then brakesApply d m else m

/-- A start proceeds with a status of R178: the enable waits for the next valley; a drive that waited starts again with its brake
released where ReverseAction applied it (R180), its other sets measured again. -/
def startProceeds (s : Fin 2) (status : Nat) (m : Mach) : Mach :=
  let d := m.driveOf s
  let waited := m.drives[d].st == .waiting
  let m := (m.putN (Key.startStartStatus s.1) status).modMc s (fun x => { x with enablePending := true })
  let m := if waited then
      let m := m.each ((m.startSets d).filter (· != s)) (fun o m => m.modMc o (fun x => { x with measuring := true }))
      let m := m.modDrive d (fun x => { x with st := .starting, remeasure := none, waitUntil := none, neutral := false, neutralSince := none })
      if m.n (Key.startReverseAction (m.machSet s)) = 1 then m.each (m.brakesOf d) (brakeRelease false) else m
    else m
  if m.drives[d].st = .starting then m.modDrive d (fun x => { x with step := .enable }) else m

/-- The start decision at a measured speed in rpm, forward positive; none where it is not determined (R178). -/
def startDecision (s : Fin 2) (n : Option F32) (m : Mach) : Mach :=
  let k := m.machSet s
  match n with
  | none => startRefused s 0x12 m
  | some n =>
    let m := (m.putR (Key.startMeasuredSpeed s.1) n).modMc s (fun x => { x with speed := n, speedAt := m.ns })
    let p := fdiv (fmul (fabs n) (fRat 100 1)) (m.r (Key.machineRatedSpeed k))
    if flt p (m.r (Key.startStandstillSpeed k)) then startProceeds s 0x02 m
    else if !fSign n then
      if fle p (m.r (Key.startMaxCatchSpeed k)) then startProceeds s 0x03 m else startRefused s 0x11 m
    else if fle p (m.r (Key.startReverseCatchLimit k)) then startProceeds s 0x04 m
    else startWaits s m

/-- The speed of a terminal measurement, backward where the sequence is U-W-V (R176); not measurable is standstill. -/
def Mach.terminalSpeed (m : Mach) (s : Fin 2) : F32 :=
  let x := m.sense[s]
  if x.termValid then
    let n := fdiv (fmul (fRat 60 1) x.termFreq) (m.poles s)
    if x.termRev then fneg n else n
  else 0

/-- The measurement of R176 or R177 without a scan: SPEED_MISMATCH, a speed, or nothing for an induction machine that has to be
scanned. -/
def measureSpeed (s : Fin 2) (m : Mach) : Mach :=
  let k := m.machSet s
  let m := m.modMc s (fun x => { x with measuring := false })
  let enc := match m.piOf s with | some i => m.pos[i].speed | none => 0
  if m.isPm s then
    if m.encValid s then
      let t := m.terminalSpeed s
      let lim := fPercent (m.r (Key.startSpeedMismatchLimit k)) (m.r (Key.machineRatedSpeed k))
      if m.sense[s].termValid ∧ fgt (fabs (fsub enc t)) lim then startRefused s 0x13 m else startDecision s (some enc) m
    else startDecision s (some (m.terminalSpeed s)) m
  else if m.encValid s then startDecision s (some enc) m
  else m.modMc s (fun x => { x with
    measuring := true, probeAt := m.ns, probe := fPercent (m.r (Key.startProbeCurrent k)) (m.r (Key.machineRatedCurrent k)) })

/-- SPEED_MEASUREMENT_DONE. -/
def speedMeasurementDoneEff (s : Fin 2) : Mach → Mach := whenLanes (fun m =>
  let d := m.driveOf s
  if m.mc[s].measuring && (m.drives[d].st == .starting || m.brakeTesting d) then measureSpeed s m else m)

/-- The place of the first sign change in samples of the active-power component, as a fraction of the sweep. -/
def signChange (xs : List F32) : Option F32 :=
  match ((xs.zip (xs.drop 1)).zipIdx).find? (fun p => (flt p.1.1 0 && fge p.1.2 0) || (fgt p.1.1 0 && fle p.1.2 0)) with
  | some ((a, b), j) => some (fdiv (fadd (fNat j) (fdiv a (fsub a b))) (fNat (xs.length - 1)))
  | none => none

/-- PROBE_SCAN_DONE (R177): the active-power component of the probe current over the sweep in the first direction and over the one in
the other, each from the frequency of MaxCatchSpeed down to zero in ProbeTime, and the largest back-EMF seen. The scan ends at the
first sign change; the time it took has passed. Rated voltage is ψ_n times the rated electrical speed (DESIGN CHOICE, log entry 107). -/
def probeScanDoneEff (s : Fin 2) (first second : List F32) (emf : F32) : Mach → Mach := whenLanes (fun m =>
  let st := m.drives[m.driveOf s].st
  let k := m.machSet s
  if !(m.mc[s].measuring && !m.isPm s && !m.encValid s && (st == .starting || st == .waiting || m.brakeTesting (m.driveOf s))) then m else
  let sweep := ms (m.n (Key.startProbeTime k))
  let top := fPercent (m.r (Key.startMaxCatchSpeed k)) (m.r (Key.machineRatedSpeed k))
  let fwd := !(m.n (Key.windmillSource s.1) != 0 && fSign (m.r (Key.windmillSpeed s.1)))
  let at_ := fun (x : F32) (pos : Bool) => let n := fmul top (fsub fOne x); if pos then n else fneg n
  let (took, n) : Nat × Option F32 :=
    match signChange first, signChange second with
    | some x, _ => (fScaleNat x sweep, some (at_ x fwd))
    | none, some x => (sweep + fScaleNat x sweep, some (at_ x (!fwd)))
    | none, none =>
      (2 * sweep, if flt emf (fPercent fOne (fmul (m.r (Key.machineNominalFlux k)) (fmul (rpmToRad (m.r (Key.machineRatedSpeed k))) (m.poles s))))
        then some 0 else none)
  if m.ns < m.mc[s].probeAt + took then m
  else startDecision s n (m.modMc s (fun x => { x with measuring := false, probe := 0 })))

/-- REMEASURE (R180). -/
def remeasureEff (s : Fin 2) : Mach → Mach := whenLanes (fun m =>
  let d := m.driveOf s
  if m.drives[d].st = .waiting ∧ due m m.drives[d].remeasure then
    measureSpeed s (m.modDrive d (fun x => { x with remeasure := some (m.ns + ms (m.n (Key.startRemeasurePeriod (m.machSet s)))) }))
  else m)

/-- START_WAIT_EXPIRED (R180): the request is cancelled. -/
def startWaitExpiredEff (s : Fin 2) : Mach → Mach := whenLanes (fun m =>
  let d := m.driveOf s
  if m.drives[d].st = .waiting ∧ due m m.drives[d].waitUntil then
    driveEnd d .off (raiseS 0x25 s 0xFF (m.each (m.startSets d) (fun s m => m.putN (Key.startStartStatus s.1) 0x15)))
  else m)

/-! ### Enable, pre-torque, brake release (R88, R175, R188) -/

/-- The torque ramp of a brake test begins once the drive's sets have their pulses, with the movement measured from there (R286). -/
def sbtEnabled (d : Fin 2) (m : Mach) : Mach :=
  if !(m.startSets d).all (fun s => m.gate[s].pulses) then m else
  let th := match m.piOf (m.firstSet d) with | some i => m.pos[i].angle | none => 0
  m.each ((m.brakesOf d).filter (fun k => m.safety.sbt[k].isSome)) (fun k m =>
    (m.putN (Key.sbtLastMovement k.1) 0).modSafety (fun x => { x with
      sbt := vmod x.sbt k (fun t => t.map (fun t => { t with phase := 2, start := m.ns, theta0 := th })) }))

/-- PULSE_ENABLE: at a valley the pending enable of a set takes effect; a measurement older than 50 ms is repeated (R175), a set
whose sensors are not ready is refused (R88). The enable of a quick release needs neither measurement nor decision (R212); refused, it
is tried again at the next valley while its demand lasts (DESIGN CHOICE, log entry 126). -/
def pulseEnableEff (s : Fin 2) : Mach → Mach := whenLanes (fun m =>
  let d := m.driveOf s
  let x := m.mc[s]
  if !x.enablePending ∨ m.gate[s].pulses then m
  else if m.drives[d].st = .quickRelease then
    if !m.sensorsReady s then (m.putN (Key.startStartStatus s.1) 0x14).modMc s (fun x => { x with enablePending := false })
    else if (m.setChs s).all m.ready then enablePulses s false false (m.modMc s (fun x => { x with speed := m.setSpeed s }))
    else m
  else if m.drives[d].st ≠ .starting ∧ !m.brakeTesting d then m.modMc s (fun x => { x with enablePending := false })
  else if x.speedAt + ms 50 < m.ns then m.modMc s (fun x => { x with enablePending := false, measuring := true })
  else if !m.sensorsReady s then
    let m := (m.putN (Key.startStartStatus s.1) 0x14).modMc s (fun x => { x with enablePending := false })
    if m.drives[d].st = .starting then driveEnd d .off m else sbtAbort d m
  else
    let st := m.n (Key.startStartStatus s.1)
    sbtEnabled d (enablePulses s (st == 0x03 || st == 0x04) (st == 0x02) m))

/-- POLARITY_PULSE_END (R167): a pulse lasts 2 ms; after the second the larger peak marks the north pole. -/
def polarityPulseEndEff (s : Fin 2) : Mach → Mach := whenLanes (fun m =>
  let x := m.mc[s]
  if m.ns < x.polarityAt + ms 2 then m
  else if x.polarity = 1 then m.modMc s (fun x => { x with polarity := 2, polarityAt := m.ns })
  else if x.polarity = 2 then
    let turn := fgt x.peak2 x.peak1
    m.modMc s (fun x => { x with
      polarity := 0, theta := (if turn then wrapDeg (fadd x.theta (fRat 180 1)) else x.theta),
      obsTheta := (if turn then wrapDeg (fadd x.obsTheta (fRat 180 1)) else x.obsTheta) })
  else m)

/-- The motor torque equal to the measured tension. -/
def Mach.tensionTorque (m : Mach) (d : Fin 2) : F32 :=
  fdiv (fmul (fmul (fRat 1000 1) (m.r (Key.tensionMeasured d.1))) (m.r (Key.winchEffectiveRadius d.1))) (m.r (Key.winchGearRatio d.1))

/-- The holding torque a winch takes before its brake releases: the recorded one, or the measured tension's (R188). -/
def Mach.preTorque (m : Mach) (d : Fin 2) : F32 :=
  match m.drives[d].holdTorque with
  | some t => t
  | none => if m.n (Key.tensionSource d.1) = 1 then m.tensionTorque d else 0

/-- A start is complete: Running once every brake of the drive is released and verified (R187, R188). -/
def startComplete (d : Fin 2) (m : Mach) : Mach :=
  if (m.brakesOf d).all (fun k => m.safety.brakes[k].released) then m.modDrive d (fun x => { x with st := .running, step := .idle, preOk := none })
  else m

/-- After the pulse enable: pre-torque in the winch application, the brake release otherwise (R188); quick release pre-loads and
releases at once, paying out once the brake is verified (R212, R214). -/
def enableProgress (m : Mach) : Mach :=
  m.each two (fun d m =>
    let x := m.drives[d]
    let on := !(m.startSets d).isEmpty && (m.startSets d).all (fun s => m.gate[s].pulses && m.mc[s].polarity == 0)
    if x.st = .starting ∧ on then
      if x.step = .enable then
        if m.n (Key.application d.1) = 1 then m.modDrive d (fun x => { x with step := .preTorque, preOk := none })
        else startComplete d ((m.each (m.brakesOf d) (brakeRelease false)).modDrive d (fun x => { x with step := .probe }))
      else if x.step = .probe then startComplete d m
      else m
    else if x.st = .quickRelease ∧ x.qrState = 1 then
      if on then
        let m := m.each (m.brakesOf d) (fun k m =>
          if m.safety.brakes[k].released then m else brakeRelease (m.b (Key.qrFallback d.1)) k m)
        if (m.brakesOf d).all (fun k => m.safety.brakes[k].released) then m.modDrive d (fun x => { x with qrState := 2, step := .idle }) else m
      else
        let s := m.safety.sto
        m.each (m.startSets d) (fun k m =>
          if s.hs ∧ s.ls ∧ s.step.isNone ∧ !m.gate[k].pulses ∧ (m.setChs k).all m.ready then
            m.modMc k (fun x => { x with enablePending := true })
          else m)
    else m)

/-- PRE_TORQUE_HELD (R188): the estimate within 10 % for 20 ms, the brake-release command follows. -/
def preTorqueHeldEff (d : Fin 2) : Mach → Mach := whenLanes (fun m =>
  let x := m.drives[d]
  let held : Bool := match x.preOk with | some t => decide (t + ms 20 ≤ m.ns) | none => false
  if x.st = .starting ∧ x.step = .preTorque ∧ held then
    startComplete d ((m.each (m.brakesOf d) (brakeRelease false)).modDrive d (fun x => { x with step := .probe }))
  else m)

/-! ### Quick release (R211 to R214) -/

/-- The quick-release demand on a drive's input (R211). -/
def Mach.qrInputDemand (m : Mach) (d : Fin 2) : Bool :=
  (List.finRange 6).any (fun i => m.n (Key.qrInput d.1) == i.1 && m.n (Key.siFunction i.1) == 3 && m.siDemand i)

/-- A reaction or demand that keeps quick release from its pulses is present (R214). -/
def Mach.qrBlocked (m : Mach) (d : Fin 2) : Bool :=
  m.stoDemand || m.demandOn [1] d || m.ev.active.any (fun a => 3 ≤ a.cls && (match a.set with
    | some s => m.driveOf s == d
    | none => match a.drv with | some x => x == d | none => true))

/-- QUICK_RELEASE_DEMAND (R187, R212, R214). -/
def quickReleaseDemandEff (d : Fin 2) : Mach → Mach := whenLanes (fun m =>
  let x := m.drives[d]
  if !m.driveExists d ∨ !m.qrInputDemand d ∨ x.qrDemand then m else
  -- no drive of a grove starts before a line test has passed (R307)
  if x.st = .off ∧ m.n Key.groveSize ≥ 2 ∧ !m.safety.linePassed then m else
  let m := m.modDrive d (fun x => { x with qrDemand := true, held := false })
  if m.qrBlocked d then qrFallback raiser d m
  else if x.st = .locked ∨ m.n Key.safetyState ≤ 1 then m
  else
    let m := startAbort d m
    let m := m.modDrive d (fun x => { x with
      st := .quickRelease, step := .stoRelease, qrState := 1, ss1 := none, waitUntil := none, remeasure := none,
      speedRef := m.speedOf d, render := false })
    raiseD 0x30 d m)
where
  /-- Events of the fallback. -/
  raiser : Raiser := fun e set drv inst m => raise e set drv inst m

/-- QUICK_RELEASE_END (R213): the drive ramps to zero speed; SS1_STANDSTILL ends it with the brake in Locked (R187). Free payout
ends with the brake applied at once. A drive whose fallback held the brake has nothing to end. -/
def quickReleaseEndEff (d : Fin 2) : Mach → Mach := whenLanes (fun m =>
  let x := m.drives[d]
  if !m.driveExists d ∨ m.qrInputDemand d ∨ !x.qrDemand then m else
  let m := (m.modDrive d (fun x => { x with qrDemand := false })).causeGone 0x30 none (some d) 0xFF
  if x.st = .quickRelease then
    if (m.setsOf d).any (fun s => m.gate[s].pulses) then
      m.modDrive d (fun x => { x with qrState := 4, ss1 := some { start := m.ns, n0 := m.speedOf d, lock := true } })
    else (driveEnd d .locked m).modDrive d (fun x => { x with qrEnded := true })
  else if x.qrState = 3 then
    (driveEnd d .locked (m.each (m.brakesOf d) brakeApply)).modDrive d (fun x => { x with qrState := 0, qrEnded := true })
  else m.modDrive d (fun x => { x with qrState := 0 }))

/-! ### Retry and direct enable (R230, R248, R249) -/

/-- RETRY_WAIT_END (R248, R249). -/
def retryWaitEndEff (s : Fin 2) : Mach → Mach := whenLanes (fun m =>
  let d := m.driveOf s
  if m.gate[s].retry = 2 ∧ due m m.gate[s].waitEnd then
    let m := m.modGate s (fun g => { g with retry := 0, waitEnd := none })
    if m.b (Key.gateRetryAutoRestart s.1) && m.drives[d].st == .off && !m.drives[d].held && m.n (Key.command d.1) == 1
    then startDrive d m else m
  else m)

/-- DIRECT_ENABLE is permitted: a direct mode, the set's pulses removed, nothing of it in progress (R230). -/
def Mach.directOk (m : Mach) (s : Fin 2) : Bool :=
  m.directMode s && m.duskRunOk s && 2 ≤ m.n Key.safetyState && m.gate[s].retry == 0 && !m.blocksStart (m.driveOf s)
/-- DIRECT_ENABLE (R230): written 1, the pulses follow the Dusk test where an enable is permitted; written 0, they are removed. The entry
holds what was written (R259). -/
def directEnableEff (s : Fin 2) (on : Bool) (m : Mach) : Mach :=
  if on then
    let m := m.putB (Key.gateDirectEnable s.1) true
    if m.directOk s then m.modGate s (fun g => { g with duskWant := some 3 }) else m
  else
    let m := m.putB (Key.gateDirectEnable s.1) false
    if m.directMode s ∧ (m.gate[s].direct ∨ m.gate[s].duskWant = some 3) then
      stoIfUnused (stopPulses s false (m.modGate s (fun g => { g with duskWant := none, dusk := none })))
    else m

/-! ### What goes on by itself (R482) -/

/-- Starts, tests, releases and held commands take the next step that nothing holds any more. -/
def progress (m : Mach) : Mach := enableProgress (duskProgress (stoProgress (heldProgress m)))

end Sys2Proof.Machine
end

