-- ==== Sys2Proof/Machine/Link.lean ====
section
/-! DEFINITION. The Canopy link: routes (R319, R320), packets with their link sequence and credits (R315 to R318), own messages
(R321), and contents on Ethernet (R22). -/

namespace Sys2Proof.Machine

/-! ### Members and routes (R313, R319, R320) -/

/-- A position by number. -/
def pos8 (n : Nat) : Fin 8 := ⟨n % 8, Nat.mod_lt _ (by decide)⟩
/-- The device's own position (R314). -/
def Mach.me (m : Mach) : Fin 8 := pos8 (m.n Key.canopyPosition)
/-- The eight positions. -/
def positions : List (Fin 8) := List.finRange 8
def Mach.modMember (m : Mach) (p : Fin 8) (f : Member → Member) : Mach :=
  { m with grove := { m.grove with members := vmod m.grove.members p f } }
def Mach.modGrove (m : Mach) (f : Grove → Grove) : Mach := { m with grove := f m.grove }
def Mach.modPort (m : Mach) (p : Fin 2) (f : CanopyPort → CanopyPort) : Mach := { m with canopy := vmod m.canopy p f }
/-- A grove of two or more is configured. -/
def Mach.inGrove (m : Mach) : Bool := decide (2 ≤ m.n Key.groveSize)

/-- The device leads its grove. -/
def Mach.leads (m : Mach) : Bool := m.inGrove && m.n Key.groveState == 3
/-- The leader's position, if there is one. -/
def Mach.leaderPos (m : Mach) : Option (Fin 8) := if m.n Key.groveLeaderPosition < 8 then some (pos8 (m.n Key.groveLeaderPosition)) else none

/-- A position is known to be fitted: heard by HELLO, LINK_STATE or as a member. -/
def Mach.known (m : Mach) (p : Fin 8) : Bool :=
  p == m.me || m.grove.members[p].hello.isSome || m.grove.members[p].joined || m.grove.members[p].links != (0, 0)
/-- The known position next to another, East upward, West downward, cyclic (R313). -/
def Mach.nextOf (m : Mach) (east : Bool) (p : Fin 8) : Fin 8 :=
  (((List.range 7).map (fun k => pos8 (if east then p.1 + k + 1 else p.1 + 7 - k))).find? m.known).getD p
/-- A position's port is up, by its LINK_STATE; the device's own by its state. -/
def Mach.portUpAt (m : Mach) (east : Bool) (p : Fin 8) : Bool :=
  if p = m.me then m.canopy[if east then (0 : Fin 2) else 1].up
  else bit (if east then m.grove.members[p].links.1 else m.grove.members[p].links.2) 2
/-- The positions met going one way, until a port is down or the ring closes. -/
def Mach.walk (m : Mach) (east : Bool) : Nat → Fin 8 → List (Fin 8)
  | 0, _ => []
  | k + 1, p =>
    if m.portUpAt east p then
      let q := if p = m.me then (m.canopy[if east then (0 : Fin 2) else 1].neighbour).getD (m.nextOf east p) else m.nextOf east p
      if q = m.me ∨ q = p then [] else q :: m.walk east k q
    else []
/-- The ways East and West. -/
def Mach.ways (m : Mach) : List (Fin 8) × List (Fin 8) := (m.walk true 7 m.me, m.walk false 7 m.me)
/-- Canopy.Reachable (R320). -/
def Mach.reachable (m : Mach) : Nat :=
  let w := m.ways
  (m.me :: w.1 ++ w.2).foldl (fun a p => setBit a p.1 true) 0
/-- Both ways lead round to the same members: the ring is closed (R319). -/
def Mach.ringClosed (m : Mach) : Bool :=
  let w := m.ways
  !w.1.isEmpty && w.1.length == w.2.length && w.1.all w.2.contains && m.canopy[0].up && m.canopy[1].up
/-- The port of the shorter path, East on a tie, the other one where that path is broken (R319). -/
def Mach.route (m : Mach) (p : Fin 8) : Option (Fin 2) :=
  let w := m.ways
  match w.1.idxOf? p, w.2.idxOf? p with
  | some e, some v => some (if e ≤ v then 0 else 1)
  | some _, none => some 0
  | none, some _ => some 1
  | none, none => none
/-- Hops of a broadcast, East and West (R319). -/
def Mach.broadcastHops (m : Mach) : Nat × Nat :=
  let w := m.ways
  if m.ringClosed then let n := w.1.length; ((n + 1) / 2, n / 2) else (w.1.length, w.2.length)

/-! ### Packets and credits (R315 to R318) -/

/-- The twelve bytes of a header as they travel (R315). -/
def headerBytes (h : PacketHeader) : List Byte :=
  beBytes 1 (h.vc.1 * 32 + h.ty.toNat) ++ beBytes 1 (h.dest.toNat * 16 + h.src.toNat) ++ beBytes 2 (h.sq.toNat * 16 + h.hops.toNat) ++
  beBytes 2 (h.ack.toNat * 16 + 8 * b2n h.nak) ++ beBytes 1 (h.crVc.1 * 32) ++ [0] ++ beBytes 2 h.credits.toNat ++ beBytes 2 h.len
/-- The link CRC-32C at the end of a packet (R315). -/
def linkCrc (h : PacketHeader) (payload : List Byte) : BitVec 32 := crc32c (headerBytes h ++ payload)
/-- The receive buffer of a virtual channel in credits (R317). -/
def vcBuffer (vc : Fin 8) : Nat := if 6 ≤ vc.1 then 32 else 16
/-- The credits of a packet (R318). -/
def creditsOf (len : Nat) : Nat := (16 + len + 63) / 64

/-- The channels in the order in which a port serves them (R317). -/
def vcOrder : List (Fin 8) := [1, 0, 3, 2, 4, 5, 6, 7]
/-- The channel whose freed credits a packet returns: the first in the order of R317 with credits not returned yet, else the packet's
own. DESIGN CHOICE (log entry 112). -/
def CanopyPort.creditVc (p : CanopyPort) (own : Fin 8) : Fin 8 := (vcOrder.find? (fun v => p.told[v] != p.freed[v])).getD own
/-- A packet leaves on a port now: link sequence, acknowledgement, returned credits, replay buffer (R315, R316, R318). -/
def transmit (port : Fin 2) (x : Packet) (m : Mach) : Mach :=
  let p := m.canopy[port]
  let v := p.creditVc x.h.vc
  let h := { x.h with sq := p.txSeq, ack := p.rxSeq, nak := p.discard, crVc := v, credits := BitVec.ofNat 16 p.freed[v] }
  let y : Packet := { x with h := h }
  (m.modPort port (fun p => { p with
    txSeq := p.txSeq + 1, replay := p.replay ++ [y], lastSent := m.now, ackAt := if p.replay.isEmpty then m.now else p.ackAt,
    told := vmod p.told v (fun _ => p.freed[v]),
    sent := vmod p.sent x.h.vc (· + creditsOf x.payload.length) })).emit (.canopy port h x.payload)

/-- The bytes of a packet in the replay buffer of 8 KB (R316). -/
def Packet.size (x : Packet) : Nat := 16 + x.payload.length
/-- A port's credits let a packet leave, a forwarded one with its own, an own one with ten free (R318), and the replay buffer has
room for it (R316). -/
def CanopyPort.mayLeave (p : CanopyPort) (x : Packet) (own : Bool) : Bool :=
  let used := p.sent[x.h.vc] - p.returned[x.h.vc]
  let free := vcBuffer x.h.vc - used
  decide (creditsOf x.payload.length ≤ free) && (!own || decide (10 ≤ free)) &&
  decide ((p.replay.map Packet.size).sum + x.size ≤ 8192)

/-- A packet goes to a port: at once, into its queue while credits lack, nowhere while the port is down. -/
def portSend (port : Fin 2) (x : Packet) (own : Bool) (m : Mach) : Mach :=
  let p := m.canopy[port]
  if !p.up then m
  else if p.queue.all (fun y => y.h.vc != x.h.vc) ∧ p.mayLeave x own then transmit port x m
  else m.modPort port (fun p => { p with queue := p.queue ++ [x] })

/-- Waiting packets leave as credits return, by the channels' priority (R317); a channel keeps its order. -/
def drainPort (port : Fin 2) (m : Mach) : Mach :=
  let q := vcOrder.flatMap (fun vc => m.canopy[port].queue.filter (fun x => x.h.vc == vc))
  let m := m.modPort port (fun p => { p with queue := [] })
  m.each q (fun x m => portSend port x (x.h.src.toNat == m.me.1) m)

/-- The payload of a voted message: zero-padded, with its CRC-32C at the end (R20, R315). -/
def votedPayload (b : List Byte) : List Byte :=
  let p := b ++ List.replicate ((4 - b.length % 4) % 4) 0
  p ++ beBytes 4 (crc32c p).toNat

/-- A header of an own message. -/
def Mach.header (m : Mach) (vc : Fin 8) (ty dest hops len : Nat) : PacketHeader :=
  { vc := vc, ty := BitVec.ofNat 5 ty, dest := BitVec.ofNat 4 dest, src := BitVec.ofNat 4 m.me.1, sq := 0,
    hops := BitVec.ofNat 4 hops, ack := 0, nak := false, crVc := vc, credits := 0, len := len }

/-- An own message to one member, or to all (R319, R321); it needs a vote, and a ring. -/
def canopySend (dest : Option (Fin 8)) (vc : Fin 8) (ty : Nat) (body : List Byte) (m : Mach) : Mach :=
  if !m.lanesAct ∨ !m.inGrove then m else
  let pl := votedPayload body
  match dest with
  | some p => match m.route p with
    | some port => portSend port { h := m.header vc ty p.1 0 pl.length, payload := pl } true m
    | none => m
  | none =>
    let h := m.broadcastHops
    let m := if 0 < h.1 ∨ m.canopy[0].up then portSend 0 { h := m.header vc ty 0xF (max 1 h.1) pl.length, payload := pl } true m else m
    if 0 < h.2 ∨ (m.canopy[1].up ∧ h.1 = 0) then portSend 1 { h := m.header vc ty 0xF (max 1 h.2) pl.length, payload := pl } true m else m

/-- The pieces of at most `n` bytes of a content; `fuel` bounds their number. -/
def chunks (n : Nat) : Nat → List Byte → List (List Byte)
  | 0, _ => []
  | fuel + 1, b => if b.length ≤ n then [b] else b.take n :: chunks n fuel (b.drop n)
/-- A PDU, image or other content for another member, or all, on a channel whose messages R321 does not lay out: its bytes in pieces that
a packet holds, under a type the spec does not give (log entry 28). -/
def serviceSend (dest : Option (Fin 8)) (vc : Fin 8) (bytes : List Byte) (m : Mach) : Mach :=
  m.each (chunks 252 (bytes.length / 252 + 1) bytes) (fun b m => canopySend dest vc (Config.openType vc.1).toNat b m)

/-! ### Ethernet contents (R22, R357, R358, R372) -/

/-- The 16-byte PDU header (R358). -/
def pduHeader (kind len handle rid status : Nat) (unit : List Byte) : List Byte :=
  beBytes 1 1 ++ beBytes 1 kind ++ beBytes 2 len ++ unit ++ beBytes 2 handle ++ beBytes 2 rid ++ beBytes 2 status
/-- The unit address that names the receiving device. -/
def anyUnit : List Byte := List.replicate 6 0xFF

/-- The device's MAC address (R357). -/
def Mach.mac (m : Mach) : List Byte := (valBytes (m.val Key.netMacAddress) ++ List.replicate 6 0).take 6
/-- A YFP PDU as an Ethernet frame up to its payload's end (R357): a cyclic frame is tagged with its priority and the VLAN, another one
where a VLAN is set. -/
def Mach.frameOf (m : Mach) (dst : List Byte) (cyclic : Bool) (pdu : List Byte) : List Byte :=
  let vlan := m.n Key.netVlanId
  dst ++ m.mac ++ (if cyclic ∨ vlan ≠ 0 then beBytes 2 0x8100 ++ beBytes 2 ((if cyclic then m.n Key.netCyclicPcp else 0) * 8192 + vlan) else []) ++
    beBytes 2 (m.n Key.netEtherType) ++ pdu
/-- The transmit queue of a port (R457). -/
def txQueue (p : Fin 2) (off : Nat) : BitVec 16 := BitVec.ofNat 16 (16 + 8 * p.1 + off)
/-- A cyclic PDU to an Ethernet address (R357, R370, R372), a voted frame for the scheduled queue of each of the given ports. -/
def sendCyclic (ports : List (Fin 2)) (mac : List Byte) (pdu : List Byte) (m : Mach) : Mach :=
  m.each ports (fun p m => m.emit (.content 4 (txQueue p 0) (m.frameOf mac true pdu)))
/-- A PDU without connection to an Ethernet address, on both ports: where a partner is reached no entry says (log entry 88). -/
def sendPdu (mac : List Byte) (kind : Nat) (body : List Byte) : Mach → Mach :=
  sendCyclic two mac (pduHeader kind (16 + body.length) 0 0 0 anyUnit ++ body)

/-- The shaft-group and stand bytes of the device's addresses: a grove in no stand has 0xFF in both (R343). -/
def Mach.shaftByte (m : Mach) : Nat := if m.n Key.unitStandNumber = 0xFF then 0xFF else m.n Key.unitShaftGroupNumber
/-- The address of a unit of this device: `set` and `leg` 0xFF name the levels above (R343). -/
def Mach.address (m : Mach) (member set leg : Nat) : List Byte :=
  [m.shaftByte, m.n Key.unitStandNumber, m.n Key.unitGroveNumber, member, set, leg].map (BitVec.ofNat 8)

/-- The body of a session PDU (R375). -/
def sessBody (sid : BitVec 32) (op sq off : Nat) (data : List Byte) : List Byte :=
  beBytes 4 sid.toNat ++ beBytes 1 op ++ [0] ++ beBytes 2 sq ++ beBytes 4 off ++ beBytes 2 data.length ++ data

end Sys2Proof.Machine
end

