-- ==== Sys2Proof/Machine/Valid.lean ====
section
/-! DEFINITION. Validation of a domain's shadow bank as a whole: the cross-entry rules of every chapter (R71 item 4). -/

namespace Sys2Proof.Machine

/-- A cross-entry rule: the entries it binds, and whether the configuration that a commit would put in force breaks it. A rule is
checked at commits of every domain that holds one of its entries (log entry 18). -/
structure Check where
  keys : List Nat
  bad  : Bool
  deriving Repr

/-! ### Who may write an entry (R363, R394) -/

/-- The role a write of an entry needs: 1 viewer, 2 operator, 3 commissioning engineer, 4 safety engineer. -/
def writeRole (k : Nat) : Nat :=
  let i := k / 256
  let sub := k % 256
  if k = Key.safetySealConfirm then 4
  else if i = 0x1851 then sub
  else if i = 0x6000 ∨ i = 0x6010 then 3
  else if k = Key.fwActivate ∨ k = Key.fwConfirm then 3
  else if i = 0x1E00 ∧ 2 ≤ sub ∧ sub ≤ 5 then 3
  else if i = 0x1F00 ∧ (sub ≤ 3 ∨ sub = 6) then 3
  else match rowOf k with
    | none => 4
    | some r => if safetyFlag k then 4 else match r.dom with | .none => 2 | _ => 3

/-- The operator role may write the entry. -/
def opWrites (k : Nat) : Bool :=
  (match rowOf k with | some r => r.acc == .rw || r.acc == .wo | none => false) && writeRole k ≤ 2

/-! ### Sets (R60, R76, R80, R82, R143 to R150, R165 to R180) -/

/-- Carrier, sensing and topology of a set (R60, R76, R80, R82, R143, R145, R155); set 1's are ignored in topology 3 (R143). -/
def carrierChecks (old c : Mach) (s : Fin 2) : List Check :=
  let k := s.1
  let dts := [c.n (Key.deadTime k 0), c.n (Key.deadTime k 1), c.n (Key.deadTime k 2)]
  let half := halfOf (c.swFreq s)
  let n := mclkDiv (c.n (Key.senseModClock k))
  if c.npc ∧ s = 1 then [] else
  [{ keys := [Key.minPulse k, Key.deadTime k 0, Key.deadTime k 1, Key.deadTime k 2],
     bad := c.n (Key.minPulse k) < dts.foldl max 0 + 200 },
   { keys := [Key.senseWindow k, Key.switchingFrequency k], bad := 2000 * c.n (Key.senseWindow k) > half },
   { keys := [Key.senseMinWindow k, Key.senseWindow k, Key.senseModClock k],
     bad := c.n (Key.senseMinWindow k) > c.n (Key.senseWindow k) || 2 * c.n (Key.senseMinWindow k) < 60 * n },
   { keys := [Key.senseCaptureDelay k, Key.senseModClock k], bad := n ≤ c.n (Key.senseCaptureDelay k) },
   { keys := [Key.modMethod k, Key.topology], bad := c.n (Key.modMethod k) == 1 && c.npc },
   { keys := [Key.gateCommandMode k, Key.topology],
     bad := (c.n (Key.gateCommandMode k) != 0 && c.dual) ||
       (c.n (Key.gateCommandMode k) != old.n (Key.gateCommandMode k) && old.gate[s].pulses) }] ++
  (if s = 1 then
    [{ keys := [Key.switchingFrequency 1, Key.sampleMode 1],
       bad := c.dual && ((c.n (Key.switchingFrequency 1) != old.n (Key.switchingFrequency 1) &&
           c.n (Key.switchingFrequency 1) != c.n (Key.switchingFrequency 0)) ||
         (c.n (Key.sampleMode 1) != old.n (Key.sampleMode 1) && c.n (Key.sampleMode 1) != c.n (Key.sampleMode 0))) },
     { keys := [Key.sampleMode 0, Key.carrierPhase 1, Key.topology],
       bad := c.dual &&
         !(fIsZero (c.r (Key.carrierPhase 1)) || (c.r (Key.carrierPhase 1) == fRat 180 1 && c.n (Key.sampleMode 0) == 2)) }]
   else [])

/-- Points of an MTPA table (R150): torque, i_d, i_q. -/
def mtpaRow (tbl : List Byte) (j : Nat) : F32 × F32 × F32 :=
  let w := fun i => BitVec.ofNat 32 (beNat ((tbl.drop (12 * j + 4 * i)).take 4))
  (w 0, w 1, w 2)
/-- The table rises strictly from 0 with i_d at or below 0 (R150). -/
def mtpaOk (tbl : List Byte) (n : Nat) : Bool :=
  fIsZero (mtpaRow tbl 0).1 &&
  (List.range n).all (fun j => fle (mtpaRow tbl j).2.1 0 && (j == 0 || flt (mtpaRow tbl (j - 1)).1 (mtpaRow tbl j).1))

/-- A slot by number, if a role names one. -/
def slotNum (n : Nat) : Option (Fin 32) := if h : n < 32 then some ⟨n, h⟩ else none

/-- Role entries of a set in order: d, q, field weakening, flux, x, y (R148). -/
def roleKeys (k : Nat) : List Nat :=
  [Key.roleCurrentD k, Key.roleCurrentQ k, Key.roleFieldWeakening k, Key.roleFlux k, Key.roleCurrentX k, Key.roleCurrentY k]

/-- Machine data, roles, observer and start of a set (R146, R148 to R150, R165 to R167, R180); those of set 1 are ignored outside
topology 0 (R143). The MTPA table binds an interior PM machine (log entry 18). -/
def machineChecks (old c : Mach) (s : Fin 2) : List Check :=
  let k := s.1
  if c.topo ≠ 0 ∧ s = 1 then [] else
  let ty := c.n (Key.machineMachineType k)
  let ld := c.r (Key.machineLd k)
  let lq := c.r (Key.machineLq k)
  let roles := (roleKeys k).map c.n
  let named := roles.filterMap slotNum
  let need := [0, 1] ++ (if ty = 2 then [3] else []) ++ (if c.dual then [4, 5] else [])
  let pi := c.n (Key.obsPositionSource k)
  [{ keys := [Key.machineMachineType k],
     bad := ty != old.n (Key.machineMachineType k) && (old.gate[s].pulses || (c.dual && old.gate[1].pulses)) },
   { keys := [Key.machineMachineType k, Key.machineLm k, Key.machineLs k, Key.machineLr k],
     bad := ty == 2 && !(flt (c.r (Key.machineLm k)) (c.r (Key.machineLs k)) && flt (c.r (Key.machineLm k)) (c.r (Key.machineLr k))) },
   { keys := [Key.machineMachineType k, Key.machineLd k, Key.machineLq k],
     bad := ty == 0 && fgt (fabs (fsub ld lq)) (fPercent (fRat 5 1) (fmax ld lq)) },
   { keys := [Key.machineMachineType k, Key.mtpaPoints k, Key.mtpaTable k],
     bad := ty == 1 && !mtpaOk (valBytes (c.val (Key.mtpaTable k))) (c.n (Key.mtpaPoints k)) },
   { keys := roleKeys k ++ [Key.machineMachineType k, Key.topology] ++ named.flatMap (fun i => [Key.slotOrder i.1, Key.slotAssignment i.1]),
     bad := c.configured s &&
       (named.any (fun i => c.n (Key.slotAssignment i.1) != k || c.n (Key.slotOrder i.1) == 0) ||
        named.any (fun i => 1 < (named.filter (· == i)).length) || need.any (fun j => roles[j]?.getD 0xFF == 0xFF)) },
   { keys := [Key.roleFieldWeakening k, Key.roleFlux k] ++
       ([c.n (Key.roleFieldWeakening k), c.n (Key.roleFlux k)].filterMap slotNum).flatMap (fun i => [Key.slotRefSource i.1, Key.slotMeasSource i.1]),
     bad := ([c.n (Key.roleFieldWeakening k), c.n (Key.roleFlux k)].filterMap slotNum).any
       (fun i => c.n (Key.slotRefSource i.1) != 0 || c.n (Key.slotMeasSource i.1) != 0) },
   { keys := [Key.obsPositionSource k] ++ (if pi = 0 then [] else [Key.piMode (pi - 1), Key.piAssignedSet (pi - 1)]),
     bad := (pi == 1 || pi == 2) && (c.n (Key.piMode (pi - 1)) == 0 || c.n (Key.piAssignedSet (pi - 1)) != k) },
   { keys := [Key.obsHfiExitSpeed k, Key.obsObserverMinSpeed k],
     bad := flt (c.r (Key.obsHfiExitSpeed k)) (fadd (c.r (Key.obsObserverMinSpeed k)) fOne) },
   { keys := [Key.obsHfiEnable k, Key.machineLd k, Key.machineLq k],
     bad := c.b (Key.obsHfiEnable k) && flt (fdiv lq ld) (fRat 115 100) },
   { keys := [Key.startReverseCatchLimit k, Key.startMaxCatchSpeed k],
     bad := fgt (c.r (Key.startReverseCatchLimit k)) (c.r (Key.startMaxCatchSpeed k)) },
   { keys := [Key.startStandstillSpeed k, Key.obsObserverMinSpeed k],
     bad := !flt (c.r (Key.startStandstillSpeed k)) (c.r (Key.obsObserverMinSpeed k)) }]

/-! ### Inputs (R92, R101) -/

/-- Position interfaces: no change under pulses, resolver pole pairs (R92, R95). -/
def piChecks (old c : Mach) (i : Fin 2) : List Check :=
  let ks := [Key.piMode i.1, Key.piAssignedSet i.1, Key.piLinesPerRev i.1]
  [{ keys := ks, bad := ks.any (fun k => old.n k != c.n k) && old.gate[fin2 (old.n (Key.piAssignedSet i.1))].pulses },
   { keys := ks, bad := c.n (Key.piMode i.1) == 3 && 16 < c.n (Key.piLinesPerRev i.1) }]

/-- Slow analog inputs (R101). -/
def ainChecks (c : Mach) (n : Nat) : List Check :=
  [{ keys := [Key.ainValidHigh n, Key.ainValidLow n], bad := fle (c.r (Key.ainValidHigh n)) (c.r (Key.ainValidLow n)) },
   { keys := [Key.ainPairMode n, Key.ainEnable n, Key.ainEnable (n + 1)],
     bad := c.n (Key.ainPairMode n) != 0 && (n % 2 == 1 || !c.b (Key.ainEnable n) || !c.b (Key.ainEnable (n + 1))) }]

/-! ### Law slots (R112, R164, R230) -/

/-- The entries of a slot that a commit checks. -/
def slotKeys (i : Nat) : List Nat := (List.range 0x14).map (fun j => Key.slotOrder i + j)

/-- One law slot. -/
def slotChecks (old c : Mach) (i : Fin 32) : List Check :=
  let k := i.1
  let on := c.n (Key.slotOrder k) != 0
  let a := c.n (Key.slotAssignment k)
  let fin := [Key.slotB k 0, Key.slotB k 1, Key.slotB k 2, Key.slotB k 3, Key.slotA k 0, Key.slotA k 1, Key.slotA k 2, Key.slotFfGain k,
    Key.slotLimHigh k, Key.slotLimLow k].all (fun x => fFinite (c.r x))
  let srcs := [Key.slotRefSource k, Key.slotMeasSource k, Key.slotFfSource k, Key.slotLimHighSource k].all (fun x => signalCode (c.n x))
  let lo := c.n (Key.slotLimLowSource k)
  let g := c.n (Key.slotSwapGroup k)
  let mates := (List.finRange 32).filter (fun j => g != 0 && c.n (Key.slotSwapGroup j.1) == g)
  [{ keys := slotKeys k ++ mates.flatMap (fun j => [Key.slotSwapGroup j.1, Key.slotAssignment j.1]),
     bad := on && (!fin || !srcs || !(signalCode lo || lo == 0xFFFF) ||
       (c.n (Key.slotLimHighSource k) == 0 && lo == 0 && fgt (c.r (Key.slotLimLow k)) (c.r (Key.slotLimHigh k))) ||
       !(c.n (Key.slotDirection k) == 1 || c.n (Key.slotDirection k) == 0xFF) ||
       mates.any (fun j => c.domOf (Key.slotOrder j.1) != c.domOf (Key.slotOrder k))) },
   { keys := [Key.slotAssignment k], bad := a != old.n (Key.slotAssignment k) && old.n (Key.slotOrder k) != 0 },
   { keys := [Key.slotAssignment k, Key.topology], bad := c.dual && a == 1 },
   { keys := [Key.slotAssignment k, Key.slotOrder k, Key.gateCommandMode 0, Key.gateCommandMode 1],
     bad := on && a ≤ 1 && c.n (Key.gateCommandMode a) != 0 }]

/-! ### Drives (R185, R189, R202, R216) -/

/-- The mode pairs that may be committed while Running (R189). -/
def modePair (a b : Nat) : Bool :=
  (a, b) ∈ [(1, 2), (2, 1), (1, 3), (2, 3), (3, 1), (1, 4), (2, 4), (3, 4), (4, 1), (4, 3), (0, 1), (1, 0)]

/-- The outer roles a mode needs, by place among speed, tension, position, regeneration (R184). -/
def modeNeeds : Nat → List Nat
  | 1 => [0] | 2 => [1, 0] | 3 => [2, 0] | 4 => [2, 0] | _ => []

/-- One drive. -/
def driveChecks (old c : Mach) (d : Fin 2) : List Check :=
  let k := d.1
  let rk := [Key.roleSpeed k, Key.roleTension k, Key.rolePosition k, Key.roleRegeneration k]
  let roles := rk.map c.n
  let named := roles.filterMap slotNum
  let st := old.drives[d].st
  let a := old.n (Key.mode k)
  let b := c.n (Key.mode k)
  if !c.driveExists d then [] else
  [{ keys := rk ++ [Key.mode k] ++ named.flatMap (fun i => [Key.slotAssignment i.1, Key.slotOrder i.1, Key.slotRefSource i.1,
        Key.slotMeasSource i.1, Key.slotLimHighSource i.1, Key.slotLimLowSource i.1]) ++ roleKeys 0 ++ roleKeys 1,
     bad := c.driveConfigured d &&
       (named.any (fun i => c.n (Key.slotAssignment i.1) != 2 || c.n (Key.slotOrder i.1) == 0 ||
          c.n (Key.slotRefSource i.1) != 0 || c.n (Key.slotMeasSource i.1) != 0 ||
          c.n (Key.slotLimHighSource i.1) != 0 || c.n (Key.slotLimLowSource i.1) != 0) ||
        named.any (fun i => 1 < (named.filter (· == i)).length) || (modeNeeds b).any (fun j => roles[j]?.getD 0xFF == 0xFF)) },
   { keys := [Key.mode k], bad := a != b && st != .off && !(st == .running && modePair a b) },
   { keys := [Key.application k], bad := c.n (Key.application k) != old.n (Key.application k) && st != .off },
   { keys := [Key.mode k, Key.application k], bad := 2 ≤ b && c.n (Key.application k) == 0 },
   { keys := [Key.tensionTensionMax k, Key.tensionRenderTension k],
     bad := !flt (c.r (Key.tensionTensionMax k)) (c.r (Key.tensionRenderTension k)) },
   { keys := [Key.chopOffVoltage k, Key.chopOnVoltage k], bad := d == 0 && !flt (c.r (Key.chopOffVoltage k)) (c.r (Key.chopOnVoltage k)) }]

/-! ### Gate channels (R228, R239, R250, R259) -/

/-- One channel. -/
def channelChecks (c : Mach) (ch : Fin 12) : List Check :=
  let k := ch.1
  let within := fun (x lo hi : Nat) => c.n lo ≤ c.n x && c.n x ≤ c.n hi
  let ls := c.r (Key.gScStrayInductance k)
  let thr := fun (x : Nat) => fdiv (fmul ls (c.r x)) (fRat 1000 1)
  let s := c.setOfCh ch
  let p := c.partner ch
  let dt := Key.deadTime s.1 (c.legOfCh ch).1
  [{ keys := [Key.gAdaptMode k, Key.gOnN1 k, Key.gOnN2 k, Key.gOffN1 k, Key.gOffN2 k],
     bad := c.n (Key.gAdaptMode k) == 2 && (c.n (Key.gOnN1 k) == c.n (Key.gOnN2 k) || c.n (Key.gOffN1 k) == c.n (Key.gOffN2 k)) },
   { keys := [Key.gOnN1 k, Key.gOffN1 k, Key.gOnT1 k, Key.gOffT1 k, Key.gAdaptN1Min k, Key.gAdaptN1Max k, Key.gAdaptT1Min k, Key.gAdaptT1Max k],
     bad := !(within (Key.gOnN1 k) (Key.gAdaptN1Min k) (Key.gAdaptN1Max k) && within (Key.gOffN1 k) (Key.gAdaptN1Min k) (Key.gAdaptN1Max k) &&
       within (Key.gOnT1 k) (Key.gAdaptT1Min k) (Key.gAdaptT1Max k) && within (Key.gOffT1 k) (Key.gAdaptT1Min k) (Key.gAdaptT1Max k)) ||
       c.n (Key.gAdaptN1Min k) > c.n (Key.gAdaptN1Max k) || c.n (Key.gAdaptT1Min k) > c.n (Key.gAdaptT1Max k) },
   { keys := [Key.gAdaptMode k, dt, Key.gAdaptTargetOff k, Key.gAdaptTargetOff p.1],
     bad := c.n (Key.gAdaptMode k) != 0 && c.n dt < max (c.n (Key.gAdaptTargetOff k)) (c.n (Key.gAdaptTargetOff p.1)) + 200 },
   { keys := [Key.gScStrayInductance k, Key.gScDiDtLimit k, Key.gScDiDtLimitRamp k],
     bad := flt (thr (Key.gScDiDtLimit k)) fOne || fgt (thr (Key.gScDiDtLimit k)) (fRat 35 1) ||
       flt (thr (Key.gScDiDtLimitRamp k)) fOne || fgt (thr (Key.gScDiDtLimitRamp k)) (fRat 35 1) ||
       flt (c.r (Key.gScDiDtLimitRamp k)) (c.r (Key.gScDiDtLimit k)) }]

/-- Switch temperatures and Dusk levels of a set (R259). -/
def gateChecks (c : Mach) (k : Nat) : List Check :=
  [{ keys := [Key.gateSwitchTempWarn k, Key.gateSwitchTempTrip k],
     bad := !flt (c.r (Key.gateSwitchTempWarn k)) (c.r (Key.gateSwitchTempTrip k)) },
   { keys := [Key.duskDiodeLow k, Key.duskDiodeHigh k], bad := !flt (c.r (Key.duskDiodeLow k)) (c.r (Key.duskDiodeHigh k)) },
   { keys := [Key.duskShortLevel k, Key.duskDiodeLow k], bad := !flt (c.r (Key.duskShortLevel k)) (c.r (Key.duskDiodeLow k)) }]

/-! ### Safety (R271, R295, R304, R311) -/

/-- Safe inputs (R271). -/
def siChecks (c : Mach) (i : Nat) : List Check :=
  let f := c.n (Key.siFunction i)
  let qr := [Key.qrInput 0, Key.qrInput 1]
  [{ keys := [Key.siFunction i, Key.siTarget i], bad := f != 0 && c.n (Key.siTarget i) == 0 },
   { keys := Key.siFunction i :: qr,
     bad := (f == 3 && qr.all (fun k => c.n k != i)) || (f != 3 && qr.any (fun k => c.n k == i)) },
   { keys := [Key.siDiscrepancy i, Key.siInputFilter i], bad := 1000 * c.n (Key.siDiscrepancy i) < c.n (Key.siInputFilter i) + 1000 }]

/-- Brakes and their tests (R311); a test is configured where HoldTorque is not 0 (log entry 18). -/
def brakeChecks (c : Mach) (k : Nat) : List Check :=
  [{ keys := [Key.brakeCurrentMax k, Key.brakeHoldCurrentMin k], bad := !flt (c.r (Key.brakeHoldCurrentMin k)) (c.r (Key.brakeCurrentMax k)) },
   { keys := [Key.brakeApplyCurrent k, Key.brakeHoldCurrentMin k], bad := !flt (c.r (Key.brakeApplyCurrent k)) (c.r (Key.brakeHoldCurrentMin k)) },
   { keys := [Key.brakeDrive k, Key.sbtHoldTorque k], bad := c.n (Key.brakeDrive k) == 0xFF && !fIsZero (c.r (Key.sbtHoldTorque k)) }]

/-- ISF connections and virtual inputs (R304, R311). -/
def isfChecks (c : Mach) (i : Nat) : List Check :=
  let others := (List.range 4).filter (· != i)
  { keys := [Key.isfRole i, Key.isfCycle i, Key.isfTimeExpectation i],
    bad := c.n (Key.isfRole i) == 2 && 2 * c.n (Key.isfCycle i) > c.n (Key.isfTimeExpectation i) } ::
  others.map (fun j =>
    { keys := [Key.isfConnId i, Key.isfConnId j, Key.isfPath i, Key.isfPath j, Key.isfRole i, Key.isfRole j],
      bad := c.n (Key.isfRole i) != 0 && c.n (Key.isfRole j) != 0 && c.n (Key.isfConnId i) == c.n (Key.isfConnId j) &&
        c.n (Key.isfPath i) == c.n (Key.isfPath j) })
/-- A virtual input names a consumer connection (R311). -/
def vsiChecks (c : Mach) (v : Nat) : List Check :=
  let k := c.n (Key.vsiConnection v)
  [{ keys := [Key.vsiFunction v, Key.vsiConnection v, Key.isfRole k], bad := c.n (Key.vsiFunction v) != 0 && c.n (Key.isfRole k) != 1 }]

/-! ### Network and grove (R348, R356, R367, R424, R453) -/

/-- The guard band of the best-effort gate, ns: 1,542 bytes at the link speed (R356); the slowest port that is up decides. -/
def Mach.guardBand (m : Mach) : Nat :=
  two.foldl (fun g p => if m.net.ports[p].up then max g (match m.net.ports[p].speed with | 0 => 1233600 | 1 => 123360 | _ => 12336) else g) 0

/-- A mapped entry, and whether it is a number (R367). -/
def mapEntry (w : Nat) : Nat := w / 65536 * 256 + w / 256 % 256
/-- The entry may be mapped at all: it exists and is no DOMAIN or string. -/
def mappable (k : Nat) : Bool :=
  match rowOf k with | some r => (match r.ty with | .dom _ | .str _ | .oct _ => false | _ => true) | none => false

/-- Schedule and process-data maps (R356, R367). -/
def netChecks (c : Mach) : List Check :=
  let rx := (List.range (c.n Key.pdRxMapCount)).map (fun i => mapEntry (c.n (Key.pdRxMapEntry i)))
  let tx := (List.range (c.n Key.pdTxMapCount)).map (fun i => mapEntry (c.n (Key.pdTxMapEntry i)))
  [{ keys := [Key.schedEnable, Key.schedWindowOffset, Key.schedWindowLength, Key.pdCycleTime],
     bad := c.b Key.schedEnable && c.n Key.schedWindowOffset + c.n Key.schedWindowLength + c.guardBand > 1000 * c.n Key.pdCycleTime },
   { keys := Key.pdRxMapCount :: (List.range 32).map Key.pdRxMapEntry, bad := rx.any (fun k => !mappable k || !opWrites k || safetyFlag k) },
   { keys := Key.pdTxMapCount :: (List.range 32).map Key.pdTxMapEntry, bad := tx.any (fun k => !mappable k) }]

/-- Groves and their members (R348), and topology (R143), under pulses. -/
def pulseChecks (old c : Mach) : List Check :=
  let on := old.gate[0].pulses || old.gate[1].pulses
  [{ keys := [Key.groveId, Key.groveSize], bad := on && (c.n Key.groveId != old.n Key.groveId || c.n Key.groveSize != old.n Key.groveSize) },
   { keys := [Key.topology], bad := on && c.topo != old.topo }]

/-! ### A domain as a whole -/

/-- Every cross-entry rule on a candidate configuration. -/
def allChecks (old c : Mach) : List Check :=
  two.flatMap (fun s => carrierChecks old c s ++ machineChecks old c s ++ piChecks old c s ++ driveChecks old c s ++ gateChecks c s.1 ++ brakeChecks c s.1) ++
  (List.range 8).flatMap (ainChecks c) ++ (List.finRange 32).flatMap (slotChecks old c) ++ (List.finRange 12).flatMap (channelChecks c) ++
  (List.range 6).flatMap (siChecks c) ++ (List.range 4).flatMap (isfChecks c) ++ (List.range 16).flatMap (vsiChecks c) ++
  netChecks c ++ pulseChecks old c

/-- The entries of a domain that its swap would change. -/
def Mach.changedOf (m : Mach) (d : Dom) : List Nat := m.changed (fun k => m.domOf k == some d)

/-- The configuration a commit of a domain would put in force, given the machine with its shadow values taken. -/
def Mach.candidate (m : Mach) (d : Dom) : Mach := m.swapKeys (m.changedOf d)

/-- The live state of a configuration is read in less than a control period (R45's limit on LiveBytes). -/
def Mach.liveFits (m : Mach) : Bool := (64 * m.maskBlocks.length * 125 + 1000000 : Nat) ≤ m.controlPeriod

/-- The shadow bank of a domain is valid (R71): its values lie in their ranges, no rule that binds one of its entries is broken,
and the live state fits. -/
def validDomain (d : Dom) (m : Mach) : Bool :=
  let c := m.candidate d
  (m.changedOf d).all (fun k => match rowOf k with | some r => c.inRange k r (c.val k) | none => false) &&
  (allChecks m c).all (fun r => !(r.bad && r.keys.any (fun k => m.domOf k == some d))) &&
  c.liveFits

/-- A commit of a domain changes safety entries (R295). -/
def Mach.safetyCommit (m : Mach) (d : Dom) : Bool := (m.changedOf d).any safetyFlag

end Sys2Proof.Machine
end

