-- ==== Sys2Proof/Machine/Nv.lean ====
section
/-! DEFINITION. Non-volatile memory: areas and their copies, records and the journal (R434 to R438, R456), bank images (R404 to
R410), the commissioning record (R486) and stored entries (R393). -/

namespace Sys2Proof.Machine

/-! ### Areas (R434) -/

/-- Start of a bank copy. -/
def bankAddr (n : Fin 4) (c : Fin 2) : Nat := 0x400000 + n.1 * 0x40000 + c.1 * 0x20000
/-- Start of a commissioning copy. -/
def comAddr (c : Fin 2) : Nat := 0x600000 + c.1 * 8192
/-- Start of a firmware slot. -/
def fwAddr (s : Fin 2) : Nat := s.1 * 0x200000
/-- A bank by number. -/
def bank4 (n : Nat) : Fin 4 := ⟨n % 4, Nat.mod_lt _ (by decide)⟩
/-- What an area holds now. -/
def Nv.areaNow (nv : Nv) : NvArea → Option NvCopy
  | .bank n => nv.bank[n]
  | .commissioning => nv.com
  | .firmware => nv.slot[0]
/-- The area's new content. -/
def Nv.setArea (nv : Nv) (a : NvArea) (c : Option NvCopy) : Nv :=
  match a with
  | .bank n => { nv with bank := vmod nv.bank n (fun _ => c) }
  | .commissioning => { nv with com := c }
  | .firmware => match c with | some x => { nv with slot := vmod nv.slot x.copy (fun _ => c) } | none => nv
/-- Start of a copy of an area. -/
def areaAddr (a : NvArea) (c : Fin 2) : Nat :=
  match a with | .bank n => bankAddr n c | .commissioning => comAddr c | .firmware => fwAddr c
/-- The image a bank holds (R404). -/
def Mach.bankBytes (m : Mach) (n : Fin 4) : Option (List Byte) := m.nv.bank[n].map (fun c => m.nvGet (bankAddr n c.copy) c.len)
/-- The commissioning record (R486). -/
def Mach.comBytes (m : Mach) : Option (List Byte) := m.nv.com.map (fun c => m.nvGet (comAddr c.copy) c.len)

/-! ### Writing (R393, R436) -/

/-- Content in pieces of 4,064 bytes (R436). -/
def pieces : Nat → Nat → List Byte → List NvJob
  | 0, _, _ => []
  | k + 1, a, b => if b.isEmpty then [] else .content a (b.take 4064) :: pieces k (a + 4064) (b.drop 4064)

/-- An image goes to the copy that is not in force, then its area commit (R434, R436). -/
def writeArea (a : NvArea) (b : List Byte) (w : NvWaiter) (m : Mach) : Mach :=
  let c : Fin 2 := match m.nv.areaNow a with | some x => other x.copy | none => 0
  let m := (pieces (b.length / 4064 + 1) (areaAddr a c) b).foldl (fun m j => m.nvJob j) m
  m.nvJob (.area a (some { copy := c, len := b.length, crc := crc32c b }) w)

/-- A counter that is kept in NV memory, increased (R393). -/
def Mach.incDevice (m : Mach) (k : Nat) : Mach := let m' := m.inc k; m'.nvJob (.entry k (m'.val k) .nobody)

/-- Bytes of a stored entry in its record: index, sub-index, value (R436). -/
def entryPayload (k : Nat) (v : Val) : List Byte :=
  beBytes 2 (k / 256) ++ beBytes 1 (k % 256) ++ (match rowOf k with | some r => carryVal r.ty v | none => [])
/-- Bytes of an area commit: area, copy or slot, length, CRC-32C (R436; the layout is the model's, log entry 19). -/
def areaPayload (a : NvArea) (c : Option NvCopy) : List Byte :=
  let code := match a with | .bank n => n.1 | .commissioning => 4 | .firmware => 5
  beBytes 2 code ++ (match c with
    | some x => beBytes 2 x.copy.1 ++ beBytes 4 x.len ++ beBytes 4 x.crc.toNat
    | none => beBytes 2 0xFFFF ++ beBytes 4 0 ++ beBytes 4 0)

/-- The journal: 65,536 bytes from 0x604000 (R434). -/
def journalSize : Nat := 65536

/-- A record enters the journal: `held` bytes of payload stand in it, `sum` is what its CRC covers beside the header (R436). A
record that would pass the end begins at the head (log entry 19). -/
def journalPut (ty tgt : Nat) (payload : List Byte) (held : Bool) (w : JWhat) (m : Mach) : Mach :=
  let head := beBytes 2 ty ++ beBytes 2 payload.length ++ beBytes 4 m.nv.seq ++ beBytes 4 tgt ++ beBytes 4 0
  let crc := beBytes 4 (crc32c (head ++ payload)).toNat
  let mark := beBytes 4 m.nv.seq ++ beBytes 4 (0xFFFFFFFF - m.nv.seq % 2 ^ 32)
  let rec_ := head ++ (if held then payload else []) ++ crc ++ beBytes 4 0 ++ mark
  let off := if m.nv.jOff + rec_.length ≤ journalSize then m.nv.jOff else 0
  let m := m.nvPut (0x604000 + off) rec_
  { m with nv := { m.nv with
    seq := m.nv.seq + 1, jOff := off + rec_.length,
    journal := (m.nv.journal.filter (fun j => j.off + j.len ≤ off || off + rec_.length ≤ j.off)) ++ [{ off := off, len := rec_.length, what := w }] } }

/-- Whether a record supersedes another. -/
def JWhat.same : JWhat → JWhat → Bool
  | .entry k _, .entry l _ => k == l
  | .area (.bank a) _, .area (.bank b) _ => a == b
  | .area .commissioning _, .area .commissioning _ => true
  | .area .firmware (some a), .area .firmware (some b) => a.copy == b.copy
  | _, _ => false

/-- The latest record of each entry and area, oldest first (R437). -/
def latest (l : List JRec) : List JRec :=
  l.foldr (fun r acc => match r.what with | .content => acc | w => if acc.any (fun x => x.what.same w) then acc else r :: acc) []

/-- Bytes of the journal that records occupy. -/
def Nv.used (nv : Nv) : Nat := nv.journal.foldl (fun a r => a + r.len) 0

/-- Compaction at 75 % (R436): the latest record of every entry and area again as type 0x04 at the head, the space before them
freed. -/
def compact (m : Mach) : Mach :=
  if 4 * m.nv.used < 3 * journalSize then m else
  let keep := latest m.nv.journal
  let m : Mach := { m with nv := { m.nv with journal := [] } }
  keep.foldl (fun m r => match r.what with
    | .entry k v => journalPut 4 0 (entryPayload k v) true r.what m
    | .area a c => journalPut 4 0 (areaPayload a c) true r.what m
    | .content => m) m

/-- NV.JournalFill, percent (R441). -/
def Mach.journalFill (m : Mach) : F32 := fRat (100 * m.nv.used) journalSize

/-! ### Retention (R435) -/

/-- Number of an area in the table of ages: banks 0 to 3, the commissioning record, the firmware slots. -/
def areaCode (a : NvArea) (c : Option NvCopy) : Nat :=
  match a with | .bank n => n.1 | .commissioning => 4 | .firmware => (match c with | some x => 5 + x.copy.1 | none => 5)
/-- Areas that hold something. -/
def Nv.present (nv : Nv) : List Nat :=
  ((List.finRange 4).filter (fun n => nv.bank[n].isSome)).map (·.1) ++ (if nv.com.isSome then [4] else []) ++
  ((List.finRange 2).filter (fun s => nv.slot[s].isSome)).map (fun s => 5 + s.1)

/-- How much faster than at 95 °C retention is used up: 2^((Tj − 95) / 10) above it. -/
def Mach.ageFactor (m : Mach) : F32 :=
  let x := fdiv (fsub (m.r Key.tempMainDieTj) (fRat 95 1)) (fRat 10 1)
  if fgt x 0 then Config.exp (fmul (Config.ln (fRat 2 1)) x) else fOne
/-- Every area's age up to now, at the temperature as it stands; the time off is not counted. -/
def ageTick (m : Mach) : Mach :=
  if m.up.isNone then m else
  let dt := m.ns - m.nv.ageAt
  let f := m.ageFactor
  { m with nv := { m.nv with
    ageAt := m.ns, age := m.nv.present.foldl (fun l c => putAt (fun _ => 0) c ((look c l).getD 0 + fScaleNat f dt) l) m.nv.age } }
/-- NV.RetentionUsed, percent: the share of 40 years that the area written longest ago has used. -/
def Nv.retention (nv : Nv) : F32 :=
  fRat ((100 * (nv.present.foldl (fun a c => max a ((look c nv.age).getD 0)) 0) : Nat) : Int) 1262304000000000000

/-! ### Bank images (R404 to R410) -/

/-- The entry is stored in banks. -/
def bankKey (k : Nat) : Bool := match rowOf k with | some r => r.pers == .bank | none => false
/-- Every entry stored in banks, in order. -/
def bankKeys : List Nat := allKeys.filter bankKey

/-- One record of an image. -/
def bankRecord (k : Nat) (v : Val) : List Byte :=
  match rowOf k with
  | none => []
  | some r => let b := carryVal r.ty v
    beBytes 2 (k / 256) ++ beBytes 1 (k % 256) ++ beBytes 1 r.ty.code ++ beBytes 2 b.length ++ b

/-- The image of a machine's live values (R407, R410). -/
def Mach.bankImage (m : Mach) : List Byte :=
  let body := bankKeys.flatMap (fun k => bankRecord k (m.val k))
  let head := beBytes 4 0x59565042 ++ beBytes 2 1 ++ beBytes 2 0 ++ beBytes 4 0x2212A101 ++
    beBytes 4 (m.n Key.identityFirmwareVersion) ++ beBytes 4 bankKeys.length ++ beBytes 4 m.seal ++ beBytes 4 (body.length + 36) ++ beBytes 4 0
  let b := head ++ body
  b ++ beBytes 4 (crc32c b).toNat

/-- A big-endian number of an image. -/
def imgNat (b : List Byte) (off len : Nat) : Nat := beNat ((b.drop off).take len)

/-- The frame of an image is good: CRC, magic, version, hardware code, length (R405 step 1, R410). -/
def imageFrameOk (b : List Byte) : Bool :=
  36 ≤ b.length && crc32c (b.take (b.length - 4)) == BitVec.ofNat 32 (imgNat b (b.length - 4) 4) &&
  imgNat b 0 4 == 0x59565042 && imgNat b 4 2 == 1 && imgNat b 8 4 == 0x2212A101 && imgNat b 24 4 == b.length

/-- Records of an image body: entry, type code, value bytes; `fuel` bounds their number. -/
def imageRecords : Nat → List Byte → List (Nat × Nat × List Byte)
  | 0, _ => []
  | fuel + 1, b =>
    if b.length < 6 then [] else
    let len := imgNat b 4 2
    (imgNat b 0 2 * 256 + imgNat b 2 1, imgNat b 3 1, (b.drop 6).take len) :: imageRecords fuel (b.drop (6 + len))
/-- The records between header and trailer. -/
def recordsOf (b : List Byte) : List (Nat × Nat × List Byte) := imageRecords (imgNat b 16 4) ((b.drop 32).take (b.length - 36))

/-- The value of a record, where this firmware has its entry, type, length and range (R405 step 2). -/
def Mach.recordVal (m : Mach) (r : Nat × Nat × List Byte) : Option (Nat × Val) :=
  match rowOf r.1 with
  | none => none
  | some row =>
    if row.pers != .bank || row.ty.code != r.2.1 then none
    else match parseVal row.ty r.2.2 with
      | .ok v => if m.inRange r.1 row v then some (r.1, v) else none
      | .error _ => none

/-- The values an image gives, and how many of its records are skipped. -/
def Mach.imageValues (m : Mach) (b : List Byte) : List (Nat × Val) × Nat :=
  let rs := recordsOf b
  let vs := rs.filterMap m.recordVal
  (vs, rs.length - vs.length)

/-- The values of a safety parameter image (R293): index, sub-index, value of the entry's width. -/
def safetyImageVals : Nat → List Byte → List (Nat × Val)
  | 0, _ => []
  | fuel + 1, b =>
    if b.length < 3 then [] else
    let k := imgNat b 0 2 * 256 + imgNat b 2 1
    match rowOf k with
    | none => []
    | some r =>
      match r.ty with
      | .dom _ => let n := imgNat b 3 4; (k, .bytes ((b.drop 7).take n)) :: safetyImageVals fuel (b.drop (7 + n))
      | .oct n => (k, .bytes ((b.drop 3).take n)) :: safetyImageVals fuel (b.drop (3 + n))
      | ty => (k, .num (imgNat b 3 ty.width)) :: safetyImageVals fuel (b.drop (3 + ty.width))

/-- The safety values of the commissioning record (R406, R486). -/
def Mach.comVals (m : Mach) : Option (List (Nat × Val)) :=
  m.comBytes.map (fun b => safetyImageVals b.length ((b.drop 48).take (imgNat b 40 4)))

/-- The commissioning record of a confirmation (R486). -/
def Mach.comRecord (m : Mach) (cred : List Byte) (src : Source) : List Byte :=
  let img := m.safetyImage
  let tr := match src with | .eth p _ => p.1 | .udp .. => 2 | .usb => 3 | .canopy _ => 0
  let from_ := match src with
    | .eth _ mac => beBytes 6 mac.toNat
    | .udp ip p _ => beBytes 4 ip.toNat ++ beBytes 2 p.toNat
    | .usb | .canopy _ => List.replicate 6 0
  let b := beBytes 4 0x5956434D ++ beBytes 2 1 ++ beBytes 2 0 ++ beBytes 4 m.seal ++ beBytes 8 m.netTime ++
    beBytes 4 (m.n Key.identityBootCount) ++ (cred ++ List.replicate 8 0).take 8 ++ beBytes 1 tr ++ [0] ++ from_ ++
    beBytes 4 img.length ++ beBytes 4 0 ++ img
  b ++ beBytes 4 (crc32c b).toNat

/-- A bank store begins: the live values as a new image (R407). -/
def storeBank (n : Fin 4) (m : Mach) : Mach :=
  let m := m.putN Key.bankStatus (if m.nv.stopped then 0x17 else 0x01)
  writeArea (.bank n) m.bankImage .bankStore m

/-! ### Fallback presets (R299, R300) -/

/-- The safety entries of preset P; every other safety entry takes its default. -/
def Mach.presetVals (m : Mach) (p : Nat) : List (Nat × Val) :=
  let ss1 := p % 4
  let f := if ss1 = 0 then 1 else 2
  let si := fun (i : Nat) => [(Key.siFunction i, Val.num f), (Key.siTarget i, .num 3), (Key.siRestart i, .num 1), (Key.siSource i, .num 0),
    (Key.siInputFilter i, .num 1000), (Key.siDiscrepancy i, .num 100)]
  let time := match ss1 with | 1 => 2000 | 2 => 10000 | _ => 30000
  let dec := fun (d : Fin 2) => (fdiv (m.r (Key.machineRatedSpeed (m.machSet (m.firstSet d)))) (fRat 10 1)).toNat
  si 0 ++ (if bit p 3 then si 1 else []) ++
  two.flatMap (fun d => (Key.ss1Decel d.1, Val.num (dec d)) ::
    (if ss1 = 0 then [] else [(Key.ss1Kind d.1, Val.num 0), (Key.ss1Time d.1, Val.num time)])) ++
  (if bit p 2 then [(Key.brakeDrive 0, Val.num 0), (Key.sbtInterval 0, .num 8), (Key.sbtFactor 0, .num (fRat 13 10).toNat),
    (Key.sbtHoldTorque 0, .num (m.n (Key.machineRatedTorque 0)))] else [])

/-- The safety entries take given values, live and shadow, the others their defaults. -/
def setSafety (vs : List (Nat × Val)) (m : Mach) : Mach :=
  let m := ((allKeys.filter safetyFlag).filter (fun k => m.val k != dfltOf k || m.shVal k != dfltOf k)).foldl (fun m k => m.putBoth k (dfltOf k)) m
  vs.foldl (fun m p => m.putBoth p.1 p.2) m

/-- Without a commissioning record the DIP switches decide (R299): Fallback under preset P, or Unconfigured. -/
def fallbackSafety (m : Mach) : Mach :=
  let p := m.n Key.safetyFallbackPreset
  if p = 0xFF then (setSafety [] m).putN Key.safetyState 0
  else (setSafety (m.presetVals p) m).putN Key.safetyState 3

end Sys2Proof.Machine
end

