-- ==== Sys2Proof/Machine/Restart.lean ====
section
/-! DEFINITION. Resets of the main domain (R43, R385, R414, R416, R445), the fault reset (R449) and the deliberate reset (R289,
R292). -/

namespace Sys2Proof.Machine

/-- Journal records that a reset tears: the one in progress (R437). -/
def torn : List NvJob → Nat | [] => 0 | .log _ :: _ => 0 | _ :: _ => 1

/-- What the Lantern takes over of PI0 as the main domain stops running (R419, R423, R425): its count, whether it is referenced, and
its settings. -/
def Lantern.takeOver (m : Mach) : Lantern :=
  if !m.running then m.lantern else
  { m.lantern with
    count := m.pos[0].count, referenced := m.pos[0].referenced, zCount := m.pos[0].zCount, lines := m.n (Key.piLinesPerRev 0),
    invert := m.b (Key.piInvert 0), set := fin2 (m.n (Key.piAssignedSet 0)) }

/-- The Lantern's instants when the time counter starts again (R53, R265): what remains of the hold, the dark pulses in their phase. -/
def Lantern.rebase (l : Lantern) (now : Time) : Lantern :=
  { l with holdUntil := l.holdUntil - now / 1000, darkAt := vmap l.darkAt (fun _ x => x.map (fun t => t - now)) }

/-- The main domain enters reset (R445). What lives on VLAN or in the MRAM stays: the Lantern and its entries, the NV contents, the
firmware slots; a position lost earlier is no loss of the time to come (R423). The time counter starts again from 0 with the next POWER_UP_RESET_END (R53, log entry 20). -/
def mainReset (source : Nat) (m : Mach) : Mach :=
  let r : Mach := {
    now := 0, live := m.live.filter (fun p => 0x2020 ≤ p.1 / 256 && p.1 / 256 ≤ 0x204F),
    lantern := { (Lantern.takeOver m).rebase m.now with source := source, enAt := 0 },
    -- switches that the reset opens must be seen to discharge (R274)
    safety := { sto := { openedAt := if m.safety.sto.hs || m.safety.sto.ls || m.safety.sto.openedAt.isSome then some 0 else none } },
    nv := { (ageTick m).nv with jobs := [], stopped := false, activating := none, discarded := torn m.nv.jobs },
    mram := m.mram, fw := m.fw, sent := m.sent, free := m.free }
  if m.running then r.putN Key.lanternStatus (setBit (r.n Key.lanternStatus) 1 false) else r

/-- Causes of condition events that satisfy a test are gone (R487): F1 clears with its cause (R446). -/
def causesGone (p : Active → Bool) (m : Mach) : Mach :=
  let m := m.modEv (fun x => { x with active := x.active.map (fun a => if p a then { a with gone := true } else a) })
  m.clearEvents (fun a => p a && a.cls == 1 && conditionEvents.contains a.ev)

/-- The latches of a position interface end (R98): an incremental or sin/cos interface is unreferenced until its next Z pulse and
its turns restart from 0. -/
def piUnlatch (i : Fin 2) (m : Mach) : Mach :=
  let m := m.modPos i (fun p => { p with countErr := false })
  let p := m.pos[i]
  if !(p.wireBreak || p.excOpen || p.trackLoss) then m else
  let inc := m.n (Key.piMode i.1) == 1 || m.n (Key.piMode i.1) == 2
  let m := m.modPos i (fun p => { p with
    wireBreak := false, excOpen := false, trackLoss := false,
    referenced := p.referenced && !inc, turns := if inc then 0 else p.turns, zSeen := p.zSeen && !inc })
  causesGone (fun a => (a.ev == 0x10 || a.ev == 0x13 || a.ev == 0x14) && a.inst == i.1) m

/-- A fault reset (R449): latches that events of class F1 to F3 leave behind, then every such event whose cause is gone. -/
def faultResetNow (m : Mach) : Mach :=
  ((m.each two piUnlatch).each two (fun s m => m.modInput s 3 (fun x => { x with tripped := false }))).clearEvents faultResettable

/-- The exit condition of active short circuit (R173), at the speed and DC-link voltage as they stand. -/
def Mach.ascExit (m : Mach) (s : Fin 2) : Bool :=
  let w := (m.genOmega s).getD m.mc[s].obsOmega
  flt (m.backEmf s w) (fmul (m.r (Key.losAscExitRatio (m.machSet s))) (m.udc s))

/-- A discrepancy or test fault whose cycle is complete ends (R269), and with it the demand it has kept up and the disagreement, since both
channels are out of demand. -/
def siReset (i : Fin 6) (m : Mach) : Mach :=
  let x := m.safety.si[i]
  if (x.discrep || x.ch[0].testFault || x.ch[1].testFault) && x.cycle == 2 then
    let m := (m.modSi i (fun x => { x with
      discrep := false, cycle := 0, disagree := none, acted := false, ch := vmap x.ch (fun _ c => { c with testFault := false }) })).clearEvents
      (fun a => (a.ev == 0x44 || a.ev == 0x45) && a.inst == i.1)
    causesGone (fun a => a.ev == 0x43 && a.inst == i.1) m
  else m

/-- The demand of a safe input, a virtual input or the grove stop no longer waits for a reset once it has ended (R270). -/
def waitsEnd (m : Mach) : Mach :=
  m.modSafety (fun s => { s with
    si := vmap s.si (fun i x => if m.siDemand i then x else { x with awaitReset := false }),
    vsi := vmap s.vsi (fun v x => if m.vsiDemand v then x else { x with awaitReset := false }),
    gstopWait := s.gstopWait && s.gstopActed })

/-- A set's lock-outs end: retry state 3 with both histories cleared and command 0x08, on which a cause still present trips again, a
wait without them (R248); the states of
R173 at their exit condition. -/
def setReset (s : Fin 2) (m : Mach) : Mach :=
  let g := m.gate[s]
  let m := if g.retry = 3 then
      let m := (m.each (m.setChs s) (cmdCh · 0x08)).modGate s (fun g => { g with retry := 0, scHist := [], otherHist := [], waitEnd := none, scLegs := [] })
      let mine := fun (a : Active) => a.ev == 0x3B && a.set == some s
      let m := (causesGone mine m).clearEvents (fun a => mine a && a.cls ≤ 3)
      clearTripped s (m.setChs s) [] m
    else if g.retry = 2 then m.modGate s (fun g => { g with retry := 0, waitEnd := none })
    else m
  let los := m.mc[s].losState
  if (los = 2 ∨ los = 3) ∧ m.gate[s].asc.isNone ∧ m.ascExit s then
    (m.modMc s (fun x => { x with losState := 0 })).clearEvents (fun a => a.set == some s && (a.cls == 5 || a.ev == 0x21))
  else m

/-- A deliberate reset (R289, R292): out of the Clearing's safe state the device restarts (R43); otherwise a fault reset, and each
state of R289 whose condition is met ends; a cause that is still present is logged. It never starts a drive. -/
def deliberateReset (m : Mach) : Mach :=
  if !m.running then m else
  if m.clr.safeState then mainReset 0x04 m else
  let m := waitsEnd ((faultResetNow m).each (List.finRange 6) siReset)
  let m := m.each two setReset
  let m := m.modSafety (fun s => { s with
    sto := { s.sto with fault := false },
    brakes := vmap s.brakes (fun _ b => { b with
      releaseFault := false, applyFault := false, switchFault := false, testFailed := false }) })
  let m := m.clearEvents (fun a => a.ev == 0x46 || a.ev == 0x49 || a.ev == 0x4A || a.ev == 0x4B || a.ev == 0x4C)
  let m := m.clearEvents (fun a => a.cls == 4 && a.gone)
  let m := m.each two (fun d m =>
    let x := m.drives[d]
    let m := if !x.qrDemand then m.modDrive d (fun x => { x with qrEnded := false }) else m
    if m.drives[d].st = .locked ∧ !m.drives[d].qrEnded ∧ !m.demandOn [1, 2] d ∧ !m.ev.active.any (fun a => a.cls == 4) then
      m.modDrive d (fun x => { x with st := .off })
    else m)
  let m := if m.inGrove then m.modSafety (fun s => { s with linePassed := false, lineTest := some 0, lineAt := m.ns }) else m
  m.each ((List.range 9).filter (fun b => bit m.lockoutCause b)) (fun b m => raiseM 0x4F b m)

end Sys2Proof.Machine
end

