-- ==== Sys2Proof/Machine/Inputs.lean ====
section
/-! DEFINITION. Safe inputs, virtual inputs and the grove stop (R264 to R271, R305 to R307, R485), the reset button (R290 to R292)
and the Ifeo Safe Frame (R301 to R304). -/

namespace Sys2Proof.Machine

/-- Events raised from within a reaction of this file. -/
def rz : Raiser := fun e set drv inst m => raise e set drv inst m

/-! ### Demands act (R260, R268, R270) -/

/-- An STO demand (R260, R261): reacquisition is decided, brake tests end; the device's STO where the target covers every drive, a
pulse block on the named ones otherwise. -/
def demandSto (target : Nat) (lock : Bool) (m : Mach) : Mach :=
  let ds := m.theDrives.filter (targets target)
  let st := if lock then DriveState.locked else .off
  let m := m.each ds (fun d m => driveKill rz d st (losStop rz d (sbtAbort d m)))
  if m.targetsAll target then stoAct rz m else m

/-- An SS1 demand on each drive it names (R268, R277); a drive that stands is locked at once under Restart 1 (R270). -/
def demandSs1 (target : Nat) (lock : Bool) (m : Mach) : Mach :=
  m.each (m.theDrives.filter (targets target)) (fun d m =>
    let m := losStop rz d (sbtAbort d m)
    if m.drives[d].st = .off ∧ lock then m.modDrive d (fun x => { x with st := .locked, held := false })
    else if m.drives[d].st = .quickRelease then m.modDrive d (fun x => { x with ss1 := x.ss1.map (fun r => { r with lock := r.lock || lock }) })
    else startSs1 d lock m)

/-- A demand of a function acts (R268). -/
def demandActs (f target : Nat) (lock : Bool) (inst : Nat) (m : Mach) : Mach :=
  let m := raiseM 0x43 inst m
  if f = 1 then demandSto target lock m else if f = 2 then demandSs1 target lock m else m

/-- A safe input's demand begins or ends (R268, R270, R485): only once its state is known. -/
def siUpdate (i : Fin 6) (m : Mach) : Mach :=
  let x := m.safety.si[i]
  let f := m.n (Key.siFunction i.1)
  let dem := f != 0 && x.known && m.siDemand i
  if dem = x.acted then m
  else if dem then
    let lock := m.b (Key.siRestart i.1) && f != 3
    demandActs f (m.n (Key.siTarget i.1)) lock i.1 (m.modSi i (fun x => { x with acted := true, awaitReset := x.awaitReset || lock }))
  else (m.modSi i (fun x => { x with acted := false })).causeGone 0x43 none none i.1

/-- A virtual input's demand begins or ends (R304). -/
def vsiUpdate (v : Fin 16) (m : Mach) : Mach :=
  let x := m.safety.vsi[v]
  let f := m.n (Key.vsiFunction v.1)
  let dem := f != 0 && m.vsiDemand v
  if dem = x.acted then m
  else if dem then
    let lock := m.b (Key.vsiRestart v.1)
    demandActs f (m.n (Key.vsiTarget v.1)) lock (16 + v.1)
      (m.modVsi v (fun x => { x with acted := true, awaitReset := x.awaitReset || lock }))
  else (m.modVsi v (fun x => { x with acted := false })).causeGone 0x43 none none (16 + v.1)

/-- Every input's demand as it stands. -/
def inputsUpdate (m : Mach) : Mach := (m.each (List.finRange 6) siUpdate).each (List.finRange 16) vsiUpdate

/-! ### Channels (R265 to R269, R485) -/

/-- What follows a change of a channel: the disagreement's start, the clearing cycle of a fault (R269), the input's demand. -/
def siChanged (i : Fin 6) (m : Mach) : Mach :=
  let m := m.modSi i (fun x =>
    let a := x.ch[0].demand || x.ch[0].testFault
    let b := x.ch[1].demand || x.ch[1].testFault
    let fault := x.discrep || x.ch[0].testFault || x.ch[1].testFault
    { x with
      disagree := if a = b then none else some (x.disagree.getD m.ns),
      cycle := if !fault then 0
        else if x.ch[0].demand && x.ch[1].demand then 1
        else if !x.ch[0].demand && !x.ch[1].demand && 1 ≤ x.cycle then 2
        else x.cycle })
  if m.lanesAct then siUpdate i m else m

/-- The time of unmasked readings of a channel between an instant and now (R266): with Source 0 the mask of its own TP's last dark pulse,
to 200 µs after its end, counts neither way. -/
def Mach.readTime (m : Mach) (i : Fin 6) (c : Fin 2) (since : Time) : Time :=
  let whole := m.now - since
  if m.n (Key.siSource i.1) ≠ 0 then whole else
  match m.lantern.darkAt[c] with
  | none => whole
  | some a => whole - (min (m.now : Int) (a + 700000000) - max (since : Int) a).toNat
/-- A channel has read one level for InputFilter, not counting masked readings (R266). -/
def Mach.filtered (m : Mach) (i : Fin 6) (c : Fin 2) (since : Time) : Bool := decide (1000000 * m.n (Key.siInputFilter i.1) ≤ m.readTime i c since)

/-- SAFE_INPUT_CHANNEL_DEMAND (R266): it reads low since an instant. -/
def safeInputChannelDemandEff (i : Fin 6) (c : Fin 2) (since : Time) : Mach → Mach := whenUp (fun m =>
  if m.filtered i c since then siChanged i (m.modSi i (fun x => { x with ch := vmod x.ch c (fun y => { y with demand := true }) })) else m)
/-- SAFE_INPUT_CHANNEL_CLEAR (R266): it reads high since an instant. -/
def safeInputChannelClearEff (i : Fin 6) (c : Fin 2) (since : Time) : Mach → Mach := whenUp (fun m =>
  if m.filtered i c since then siChanged i (m.modSi i (fun x => { x with ch := vmod x.ch c (fun y => { y with demand := false }) })) else m)

/-- SAFE_INPUT_DISCREPANCY (R269): a disagreement has lasted for Discrepancy. -/
def safeInputDiscrepancyEff (i : Fin 6) : Mach → Mach := whenLanes (fun m =>
  let x := m.safety.si[i]
  let long : Bool := match x.disagree with | some t => decide (t + ms (m.n (Key.siDiscrepancy i.1)) ≤ m.ns) | none => false
  if m.n (Key.siFunction i.1) ≠ 0 ∧ long ∧ !x.discrep then
    let m := (m.modSi i (fun x => { x with discrep := true, cycle := 0 })).inc (Key.siDiscrepancyCount i.1)
    siUpdate i (raiseM 0x44 i.1 m)
  else m)

/-- SAFE_INPUT_STATE_KNOWN (R485): each channel has a first full InputFilter of readings since the start; with Source 0 not before the
A1 hold has ended. -/
def safeInputStateKnownEff (i : Fin 6) : Mach → Mach := whenUp (fun m =>
  if (m.n (Key.siSource i.1) = 0 ∧ m.ns < m.lantern.holdUntil) ∨ !two.all (m.filtered i · 0) then m
  else siChanged i (m.modSi i (fun x => { x with known := true, ch := vmap x.ch (fun _ c => { c with known := true }) })))

/-- A dark pulse of a test-pulse output is due (R265): 100 ms after its last one, TP1's first 50 ms after TP0's. -/
def Lantern.darkDue (l : Lantern) (tp : Fin 2) (now : Time) : Bool :=
  match l.darkAt[tp] with
  | some t => decide (t + 100000000000 ≤ now)
  | none => tp == 0 || (match l.darkAt[(0 : Fin 2)] with | some t => decide (t + 50000000000 ≤ now) | none => false)

/-- DARK_PULSE_START (R265): a Lantern output; none before the A1 hold has ended. -/
def darkPulseStartEff (tp : Fin 2) (m : Mach) : Mach :=
  if m.ns < m.lantern.holdUntil ∨ !m.lantern.darkDue tp m.now then m
  else { m with lantern := { m.lantern with dark := vmod m.lantern.dark tp (fun _ => true), darkAt := vmod m.lantern.darkAt tp (fun _ => some (m.now : Int)) } }

/-- A channel fails its test-pulse check and is latched in demand (R267). -/
def testFault (i : Fin 6) (c : Fin 2) (m : Mach) : Mach :=
  let m := m.modSi i (fun x => { x with cycle := 0, ch := vmod x.ch c (fun y => { y with testFault := true }) })
  siChanged i (raiseM 0x45 i.1 m)

/-- DARK_PULSE_END (R265, R267), 500 µs after its start: a channel out of demand must read low at the end of its own TP's pulse, and high in the other's. -/
def darkPulseEndEff (tp : Fin 2) (rd : List DarkReading) (m : Mach) : Mach :=
  if (match m.lantern.darkAt[tp] with | some t => decide ((m.now : Int) < t + 500000000) | none => false) then m else
  let was := m.lantern.dark[tp]
  let m := { m with lantern := { m.lantern with dark := vmod m.lantern.dark tp (fun _ => false) } }
  if !was ∨ !m.lanesAct then m else
  m.each rd (fun r m =>
    let x := m.safety.si[r.si].ch[r.ch]
    if m.n (Key.siFunction r.si.1) = 0 ∨ m.n (Key.siSource r.si.1) ≠ 0 ∨ x.demand ∨ x.testFault then m
    else if r.ch = tp then (if r.lowAtEnd then m else testFault r.si r.ch m)
    else if r.lowAtEnd && r.highAround then testFault r.si r.ch m else m)

/-! ### Grove stop (R305 to R307) -/

/-- The lines as read, and since when they disagree. -/
def linesRead (a b : Bool) (m : Mach) : Mach :=
  m.modSafety (fun s => { s with gstopA := a, gstopB := b, gstopSince := if a = b then none else some (s.gstopSince.getD m.ns) })

/-- GROVE_STOP_DEMAND (R306): either line low for 20 µs, since an instant. During a line test the lines carry the test (R307, log
entry 21). -/
def groveStopDemandEff (a b : Bool) (since : Time) : Mach → Mach := whenUp (fun m =>
  let m := linesRead a b m
  if m.now < since + 20000000 then m else
  if !m.lanesAct ∨ m.safety.lineTest.isSome ∨ m.safety.gstopActed ∨ !(a || b) then m
  else
    let lock := m.b Key.groveStopRestart
    let m := raiseM 0x57 0xFF (m.modSafety (fun s => { s with gstopActed := true, gstopWait := s.gstopWait || lock }))
    if m.n Key.groveStopAction = 0 then demandSto 3 lock m else demandSs1 3 lock m)

/-- GROVE_STOP_LINES_RELEASED (R306). -/
def groveStopLinesReleasedEff : Mach → Mach := whenUp (fun m =>
  causesGone (fun a => a.ev == 0x57 || a.ev == 0x58)
    ((linesRead false false m).modSafety (fun s => { s with gstopActed := false })))

/-- GROVE_STOP_LINE_FAULT (R306): the lines disagree for 100 ms. -/
def groveStopLineFaultEff (line : Fin 2) : Mach → Mach := whenLanes (fun m =>
  let long : Bool := match m.safety.gstopSince with | some t => decide (t + ms 100 ≤ m.ns) | none => false
  if long ∧ m.safety.lineTest.isNone then raiseM 0x58 line.1 (m.modSafety (fun s => { s with lineFault := true })) else m)

/-- Members of the grove, by its map. -/
def Mach.memberCount (m : Mach) : Nat := (positions.filter (fun p => bit (m.n Key.groveMemberMap) p.1)).length

/-- GROVE_STOP_LINE_TEST_STEP (R307): GSTOP_A and then GSTOP_B of each member in turn, 1 ms each, with what every member read on the two
lines (low): the asserted one low, the other high; the test passes with the last good step. -/
def groveStopLineTestStepEff (reads : List (Bool × Bool)) : Mach → Mach := whenLanes (fun m =>
  if !m.inGrove ∨ (m.safety.lineTest.isSome ∧ m.ns < m.safety.lineAt + ms 1) then m else
  let k := m.safety.lineTest.getD 0
  let ok := m.memberCount ≤ reads.length && reads.all (fun r => r == (k % 2 == 0, k % 2 == 1))
  let m := m.modSafety (fun s => { s with lineAt := m.ns })
  if !ok then raiseM 0x58 (k % 2) (m.modSafety (fun s => { s with lineTest := none, linePassed := false, lineFault := true }))
  else if k + 1 < 2 * m.memberCount then m.modSafety (fun s => { s with lineTest := some (k + 1), linePassed := false })
  else causesGone (fun a => a.ev == 0x58) (m.modSafety (fun s => { s with lineTest := none, linePassed := true, lineFault := false })))

/-! ### The reset button (R290) -/

/-- RSTBTN_DEBOUNCED (R290): a press of 100 ms to 5 s resets when the open state is reached. -/
def rstbtnDebouncedEff (closed : Bool) : Mach → Mach := whenUp (fun m =>
  let b := m.safety.button
  if closed then
    if b.closed then m else m.modSafety (fun s => { s with button := { s.button with closed := true, since := m.ns, held := false } })
  else
    let valid := b.closed && !b.blocked && !b.held && decide (b.since + ms 100 ≤ m.ns ∧ m.ns ≤ b.since + ms 5000)
    let m := m.modSafety (fun s => { s with button := { closed := false, since := m.ns, held := false, blocked := false } })
    if valid then deliberateReset m else m)

/-- RESET_HELD (R290, R291): a press that has lasted more than 5 s, of the button or of a connection's reset bit. -/
def resetHeldEff : Mach → Mach := whenLanes (fun m =>
  let b := m.safety.button
  let m := if b.closed ∧ !b.held ∧ !b.blocked ∧ b.since + ms 5000 < m.ns then
      raiseM 0x4E 0 (m.modSafety (fun s => { s with button := { s.button with held := true } })) else m
  m.each (List.finRange 4) (fun c m =>
    let x := m.safety.isf[c]
    let long : Bool := match x.pressed with | some t => decide (t + ms 5000 < m.ns) | none => false
    if long ∧ !x.held then raiseM 0x4E (1 + c.1) (m.modIsf c (fun x => { x with held := true })) else m))

/-! ### Ifeo Safe Frame (R301 to R304) -/

/-- Every virtual input of a connection takes the connection's data. -/
def vsiOf (c : Fin 4) (m : Mach) : Mach :=
  m.each ((List.finRange 16).filter (fun v => m.n (Key.vsiConnection v.1) == c.1)) vsiUpdate

/-- A consumer connection goes to fail-safe with its event (R303); a press in progress ends without a reset (R291). -/
def isfFailSafe (c : Fin 4) (ev : Nat) (m : Mach) : Mach :=
  let m := m.modIsf c (fun x => { x with failSafe := true, accepted := 0, lastSeq := none, data := [], deadline := none, pressed := none, held := false })
  vsiOf c (raiseM ev c.1 m)

/-- A discarded frame breaks a run of consecutive accepted ones (R303). -/
def isfDiscard (c : Fin 4) (m : Mach) : Mach := m.modIsf c (fun x => if x.accepted < 3 then { x with accepted := 0 } else x)

/-- The reset bit of an accepted frame (R291). -/
def isfResetBit (c : Fin 4) (on : Bool) (m : Mach) : Mach :=
  let x := m.safety.isf[c]
  if !m.b Key.safetyRemoteReset then m.modIsf c (fun x => { x with pressed := none, held := false })
  else if on then m.modIsf c (fun x => { x with pressed := some (x.pressed.getD m.ns) })
  else
    let valid : Bool := match x.pressed with | some t => !x.held && decide (t + ms 100 ≤ m.ns ∧ m.ns ≤ t + ms 5000) | none => false
    let m := m.modIsf c (fun x => { x with pressed := none, held := false })
    if valid then deliberateReset m else m

/-- ISF_FRAME (R303): check value, identity, length, sequence; what an accepted frame does. -/
def isfFrameEff (c : Fin 4) (f : List Byte) : Mach → Mach := whenUp (fun m =>
  let k := c.1
  if m.n (Key.isfRole k) ≠ 1 then m else
  let l := imgNat f 6 1
  if f.length < 12 ∨ f.length ≠ 12 + l ∨ crcIsf (f.take (8 + l)) ≠ BitVec.ofNat 32 (imgNat f (8 + l) 4) then
    (isfDiscard c m).inc (Key.isfErrorCount k)
  else if imgNat f 0 4 ≠ m.n (Key.isfConnId k) then (if m.lanesAct then isfFailSafe c 0x56 m else m)
  else if l ≠ m.n (Key.isfDataLength k) then (isfDiscard c m).inc (Key.isfErrorCount k)
  else
    let sq := imgNat f 4 2
    let x := m.safety.isf[c]
    let fresh : Bool := match x.lastSeq with
      | none => true
      | some last => let d := (sq + 65535 - last.toNat) % 65535; 1 ≤ d && d ≤ m.n (Key.isfSeqWindow k)
    if sq = 0 ∨ !fresh then isfDiscard c m
    else
      let n := min 3 (x.accepted + 1)
      let m := m.modIsf c (fun x => { x with
        lastSeq := some (BitVec.ofNat 16 sq), accepted := n, failSafe := x.failSafe && n < 3, data := (f.drop 8).take l,
        deadline := some (m.ns + ms (m.n (Key.isfTimeExpectation k))) })
      let m := if 3 ≤ n then causesGone (fun a => a.ev == 0x55 && a.inst == k) m else m
      let m := if m.lanesAct then vsiOf c m else m
      isfResetBit c (bit (imgNat f 7 1) 0) m)

/-- ISF_TIMEOUT (R303): the time expectation of a consumer connection has run out. -/
def isfTimeoutEff (c : Fin 4) : Mach → Mach := whenLanes (fun m =>
  if m.n (Key.isfRole c.1) = 1 ∧ due m m.safety.isf[c].deadline then isfFailSafe c 0x55 m else m)

/-- STO of a drive is in force: the switches are not both closed, or a set of it is pulse-blocked. -/
def Mach.stoOn (m : Mach) (d : Fin 2) : Bool :=
  !(m.safety.sto.hs && m.safety.sto.ls) || (m.setsOf d).any m.blockWanted

/-- The data of a producer's frame (R304). -/
def Mach.isfData (m : Mach) (len : Nat) : List Byte :=
  let b0 := b2n (m.stoOn 0) + 2 * b2n (m.stoOn 1) + 4 * b2n m.drives[0].ss1.isSome + 8 * b2n m.drives[1].ss1.isSome +
    16 * b2n (!(m.safety.brakes[0].hs || m.safety.brakes[0].ls)) + 32 * b2n (!(m.safety.brakes[1].hs || m.safety.brakes[1].ls)) +
    64 * b2n (m.lockoutCause != 0) + 128 * b2n m.clr.safeState
  (beBytes 1 b0 ++ beBytes 1 (m.n Key.safetyState) ++ List.replicate 32 0).take len

/-- ISF_PRODUCER_CYCLE (R304, R372): over Ethernet to the peer, or to broadcast where it is all zeros; on Canopy to every member,
with a message type that the spec does not give: a free value (log entry 22). -/
def isfProducerCycleEff (c : Fin 4) : Mach → Mach := whenLanes (fun m =>
  let k := c.1
  let x := m.safety.isf[c]
  if m.n (Key.isfRole k) ≠ 2 ∨ !(x.nextTx.isNone || due m x.nextTx) then m else
  let l := m.n (Key.isfDataLength k)
  let body := beBytes 4 (m.n (Key.isfConnId k)) ++ beBytes 2 x.txSeq.toNat ++ beBytes 1 l ++ [0] ++ m.isfData l
  let f := body ++ beBytes 4 (crcIsf body).toNat
  let m := m.modIsf c (fun x => { x with
    txSeq := if x.txSeq = 0xFFFF then 1 else x.txSeq + 1, nextTx := some (m.ns + ms (m.n (Key.isfCycle k))) })
  if m.n (Key.isfPath k) = 0 then
    let mac := valBytes (m.val (Key.isfPeer k))
    sendPdu (if mac.all (· == 0) then anyUnit else mac) 0x08 f m
  else canopySend none 4 (m.freeNow.toNat % 32) f m.drew)

end Sys2Proof.Machine
end

