-- ==== Sys2Proof/Machine/Brakes.lean ====
section
/-! DEFINITION. SS1 (R277 to R280), the brakes and their checks (R281 to R284), the safe brake test (R285 to R288), the seal and its
confirmation (R293 to R300). -/

namespace Sys2Proof.Machine

/-! ### SS1 (R277 to R280) -/

/-- An SS1 is over (R260, R280): pulses removed, brakes applied, the drive to Off, or to Locked under R270, and STO of the device, which
takes a second drive to Off. The ramp that ends a quick release is no SS1: it ends in Locked, the switches opening once unused (R187,
R213). -/
def ss1End (d : Fin 2) (m : Mach) : Mach :=
  let x := m.drives[d]
  let lock : Bool := match x.ss1 with | some r => r.lock | none => false
  let qr := x.st == .quickRelease
  let m := driveEnd d (if lock then .locked else .off) m
  if qr then m.modDrive d (fun x => { x with qrEnded := true })
  else stoAct rz (m.each (m.theDrives.filter (fun e => e != d && m.drives[e].st != .off && m.drives[e].st != .locked)) (driveKill rz · .off))

/-- SS1_STANDSTILL (R277, R280), the speed at or below StandstillSpeed for StandstillTime: the winch applies its brake and holds its torque for ApplyTime, the thruster ends at once. -/
def ss1StandstillEff (d : Fin 2) : Mach → Mach := whenLanes (fun m =>
  let x := m.drives[d]
  match x.ss1 with
  | none => m
  | some r =>
    let still : Bool := match x.slowSince with | some t => decide (t + ms (m.n (Key.ss1StandstillTime d.1)) ≤ m.ns) | none => false
    if r.braking ∨ !still then m
    else if m.n (Key.application d.1) = 1 ∧ !(m.brakesOf d).isEmpty then
      let wait := ((m.brakesOf d).map (fun k => m.n (Key.brakeApplyTime k.1))).foldl max 0
      (m.each (m.brakesOf d) brakeApply).modDrive d (fun x => { x with ss1 := some { r with braking := true, brakeEnd := some (m.ns + ms wait) } })
    else ss1End d m)

/-- SS1_TIME_ELAPSED (R278 to R280). -/
def ss1TimeElapsedEff (d : Fin 2) : Mach → Mach := whenLanes (fun m =>
  let x := m.drives[d]
  match x.ss1 with
  | some r => if x.st = .stopping ∧ r.start + ms (m.n (Key.ss1Time d.1)) ≤ m.ns then ss1End d m else m
  | none => m)

/-- BRAKE_APPLY_TIME_END (R280): the held torque is removed. -/
def brakeApplyTimeEndEff (d : Fin 2) : Mach → Mach := whenLanes (fun m =>
  match m.drives[d].ss1 with
  | some r => if r.braking ∧ due m r.brakeEnd then ss1End d m else m
  | none => m)

/-! ### Brake checks (R283, R284) -/

/-- The drive of a brake output. -/
def Mach.driveOfBrake (m : Mach) (k : Fin 2) : Option (Fin 2) := if m.n (Key.brakeDrive k.1) ≤ 1 then some (fin2 (m.n (Key.brakeDrive k.1))) else none

/-- A coil current as it is read: stepping A1 saturates at 3.0 A (R281). -/
def coilRead (isns : F32) : F32 := fmin isns (fRat 3 1)

/-- A brake release fault applies the brake and stops the drive through STO, whatever its class (R283). -/
def brakeReleaseFault (k : Fin 2) (isns lim : F32) (m : Mach) : Mach :=
  let m := brakeApply k (m.modBrake k (fun b => { b with releaseFault := true }))
  let m := raiseV 0x49 none (m.driveOfBrake k) k.1 isns lim m
  match m.driveOfBrake k with
  | some d => if m.drives[d].st.active ∨ m.drives[d].st = .waiting then driveKill rz d .off m else m
  | none => m

/-- BRAKE_RELEASE_CHECK (R283). -/
def brakeReleaseCheckEff (k : Fin 2) (isns : F32) (fbp fbn : Bool) : Mach → Mach := whenLanes (fun m =>
  let isns := coilRead isns
  let b := m.safety.brakes[k]
  if !(b.hs ∧ b.ls ∧ due m b.checkEnd) ∨ b.released then m else
  let m := (m.putR (Key.brakeCoilCurrent k.1) isns).modBrake k (fun b => { b with checkEnd := none, fbp := fbp, fbn := fbn })
  if fge isns (m.r (Key.brakeHoldCurrentMin k.1)) ∧ fbp ∧ !fbn then
    m.modBrake k (fun b => { b with
      released := true, verified := true, lsNext := false, testBase := m.ns,
      nextTest := some (m.ns + 1000000000 * m.n (Key.brakeTestPeriod k.1)) })
  else brakeReleaseFault k isns (m.r (Key.brakeHoldCurrentMin k.1)) m)

/-- BRAKE_HOLD_FAULT (R283): the coil current of a released brake outside its window for 20 ms, since an instant. -/
def brakeHoldFaultEff (k : Fin 2) (isns : F32) (since : Time) : Mach → Mach := whenLanes (fun m =>
  let isns := coilRead isns
  let b := m.safety.brakes[k]
  let lo := m.r (Key.brakeHoldCurrentMin k.1)
  let hi := m.r (Key.brakeCurrentMax k.1)
  if b.released ∧ since + 20000000000 ≤ m.now ∧ (flt isns lo ∨ fgt isns hi) then
    brakeReleaseFault k isns (if flt isns lo then lo else hi) (m.putR (Key.brakeCoilCurrent k.1) isns)
  else m)

/-- BRAKE_OVERCURRENT (R283): both switches open at once. -/
def brakeOvercurrentEff (k : Fin 2) (isns : F32) : Mach → Mach := whenLanes (fun m =>
  let isns := coilRead isns
  let b := m.safety.brakes[k]
  let hi := m.r (Key.brakeCurrentMax k.1)
  if (b.hs ∨ b.ls) ∧ fgt isns hi then brakeReleaseFault k isns hi (m.putR (Key.brakeCoilCurrent k.1) isns) else m)

/-- BRAKE_APPLY_CHECK (R283). -/
def brakeApplyCheckEff (k : Fin 2) (isns : F32) (fbp : Bool) : Mach → Mach := whenLanes (fun m =>
  let isns := coilRead isns
  let b := m.safety.brakes[k]
  if b.hs ∨ b.ls ∨ !due m b.checkEnd then m else
  let m := (m.putR (Key.brakeCoilCurrent k.1) isns).modBrake k (fun b => { b with checkEnd := none, fbp := fbp })
  let lim := m.r (Key.brakeApplyCurrent k.1)
  if fle isns lim ∧ !fbp then m.modBrake k (fun b => { b with verified := true })
  else raiseV 0x4A none (m.driveOfBrake k) k.1 isns lim (m.modBrake k (fun b => { b with applyFault := true })))

/-- BRAKE_SWITCH_TEST (R284): the high-side switch opens alone for TestPulse, the low-side one a second later. -/
def brakeSwitchTestEff (k : Fin 2) : Mach → Mach := whenLanes (fun m =>
  let b := m.safety.brakes[k]
  if !b.released ∨ b.test ≠ .idle ∨ !due m b.nextTest then m else
  let end_ := some (m.ns + us (m.n (Key.brakeTestPulse k.1)))
  if b.lsNext then m.modBrake k (fun b => { b with test := .ls, ls := false, pulseEnd := end_ })
  else m.modBrake k (fun b => { b with test := .hs, hs := false, pulseEnd := end_, testBase := m.ns }))

/-- BRAKE_TEST_PULSE_END (R284): FBP must have read low, or FBN high, before the pulse ends. -/
def brakeTestPulseEndEff (k : Fin 2) (fbp fbn : Bool) : Mach → Mach := whenLanes (fun m =>
  let b := m.safety.brakes[k]
  if b.test = .idle ∨ !due m b.pulseEnd then m else
  let ok := if b.test = .hs then !fbp else fbn
  let m := m.modBrake k (fun b => { b with fbp := fbp, fbn := fbn })
  if ok then
    m.modBrake k (fun b => { b with
      hs := true, ls := true, test := .idle, pulseEnd := none, lsNext := b.test == .hs,
      nextTest := some (if b.test = .hs then b.testBase + 1000000000 else b.testBase + 1000000000 * m.n (Key.brakeTestPeriod k.1)) })
  else
    let m := brakeApply k (m.modBrake k (fun b => { b with switchFault := true }))
    raise 0x4B none (m.driveOfBrake k) k.1 m)

/-! ### Safe brake test (R285 to R288) -/

/-- The test torque (R285). -/
def Mach.sbtTorque (m : Mach) (k : Fin 2) : F32 := fmul (m.r (Key.sbtFactor k.1)) (m.r (Key.sbtHoldTorque k.1))
/-- The MTPA currents at a torque magnitude (R150). -/
def mtpaAt (tbl : List Byte) (n : Nat) (t : F32) : F32 × F32 :=
  let rows := (List.range n).map (mtpaRow tbl)
  match (rows.zip (rows.drop 1)).find? (fun p => fle p.1.1 t && fle t p.2.1) with
  | some (a, b) =>
    let w := fdiv (fsub t a.1) (fsub b.1 a.1)
    (fadd a.2.1 (fmul w (fsub b.2.1 a.2.1)), fadd a.2.2 (fmul w (fsub b.2.2 a.2.2)))
  | none => match rows.getLast? with | some r => r.2 | none => (0, 0)
/-- The largest torque of an MTPA table, to 32 halvings, whose currents stay within a limit (R150, R151). -/
def mtpaMost (tbl : List Byte) (n : Nat) (lim : F32) : F32 :=
  let fits := fun (t : F32) => let i := mtpaAt tbl n t; fle (fadd (fmul i.1 i.1) (fmul i.2 i.2)) (fmul lim lim)
  let top := (mtpaRow tbl (n - 1)).1
  if fits top then top else
  ((List.range 32).foldl (fun (b : F32 × F32) _ =>
    let mid := fdiv (fadd b.1 b.2) (fRat 2 1)
    if fits mid then (mid, b.2) else (b.1, mid)) ((0 : F32), top)).1
/-- The torque that CurrentLimit allows a set (R150, R151): a surface PM machine's, an interior one's by its table, an induction machine's
with what its nominal flux leaves the q axis. -/
def Mach.torqueAtLimit (m : Mach) (s : Fin 2) : F32 :=
  let k := m.machSet s
  let p := fmul (fRat 3 2) (m.poles s)
  let i := m.r (Key.machineCurrentLimit k)
  match m.n (Key.machineMachineType k) with
  | 0 => fmul (fmul p (m.r (Key.machinePsiPM k))) i
  | 1 => mtpaMost (valBytes (m.val (Key.mtpaTable k))) (m.n (Key.mtpaPoints k)) i
  | _ =>
    let d := fclamp (fneg i) i (fdiv (m.r (Key.machineNominalFlux k)) (m.r (Key.machineLm k)))
    let q := fsqrt (fmax 0 (fsub (fmul i i) (fmul d d)))
    fmul (fmul (fmul p (fdiv (m.r (Key.machineLm k)) (m.r (Key.machineLr k)))) (m.r (Key.machineNominalFlux k))) q

/-- The result code that refuses a test (R285); none where it may run. An output without a drive has no drive that is Off. -/
def Mach.sbtRefusal (m : Mach) (k : Fin 2) : Option Nat :=
  match m.driveOfBrake k with
  | none => some 0x05
  | some d =>
    if m.drives[d].st ≠ .off ∨ !m.driveConfigured d then some 0x05
    else if !(m.setsOf d).any m.encValid then some 0x04
    else if fgt (m.sbtTorque k) (fsum ((m.setsOf d).map m.torqueAtLimit)) then some 0x06
    else if !m.safety.brakes[k].verified ∨ m.safety.brakes[k].hs ∨ m.safety.brakes[k].ls then some 0x07
    else none

/-- A stop demand, reaction or lock-out keeps a test from starting (R276, R288). -/
def Mach.sbtBlocked (m : Mach) (d : Fin 2) : Bool :=
  m.stoDemand || m.demandOn [1, 2] d || m.lockedOut || m.blocksStart d || !m.inputsKnown none || m.n Key.safetyState ≤ 1

/-- A test starts: the STO release, then the Dusk test of the drive's sets (R286). -/
def sbtStart (k : Fin 2) (m : Mach) : Mach :=
  match m.driveOfBrake k with
  | none => m
  | some d =>
    let m := m.modSafety (fun s => { s with sbt := vmod s.sbt k (fun _ => some { phase := 0, torque := m.sbtTorque k, start := m.ns }) })
    m.each (m.setsOf d) (fun s m => m.modGate s (fun g => { g with duskWant := some 2 }))

/-- Sbt.Run written (R285, R288): refused with its result, aborted at once by a demand that stands, or started. -/
def sbtRunEff (k : Fin 2) (m : Mach) : Mach :=
  match m.sbtRefusal k with
  | some c => m.putDevice (Key.sbtResult k.1) (.num c)
  | none =>
    if (match m.driveOfBrake k with | some d => m.sbtBlocked d | none => true) then m.putDevice (Key.sbtResult k.1) (.num 0x03)
    else sbtStart k m

/-- Automatic tests start at the first moment at which their drive is Off and nothing stands against them (R288). -/
def sbtProgress (m : Mach) : Mach :=
  m.each two (fun k m =>
    let free : Bool := match m.driveOfBrake k with | some d => !m.sbtBlocked d | none => false
    if m.nv.sbtDue[k] ∧ m.b (Key.sbtAuto k.1) ∧ m.safety.sbt[k].isNone ∧ (m.sbtRefusal k).isNone ∧ free then sbtStart k m else m)

/-- Sbt.TimeSincePass (R288, R311), s. -/
def Mach.sincePass (m : Mach) (k : Fin 2) : Nat := m.n (Key.sbtTimeSincePass k.1) + (m.ns - m.safety.brakes[k].passAt) / 1000000000

/-- A test has ended with a result: pulses removed, STO once unused (R276, R286). -/
def sbtEnd (k : Fin 2) (result : Nat) (m : Mach) : Mach :=
  let m := m.modSafety (fun s => { s with sbt := vmod s.sbt k (fun _ => none) })
  let m := match m.driveOfBrake k with
    | some d => m.each (m.setsOf d) (fun s m => if m.gate[s].pulses then stopPulses s false m else m)
    | none => m
  stoIfUnused (m.putDevice (Key.sbtResult k.1) (.num result))

/-- A test has passed (R286 to R288). -/
def sbtPass (k : Fin 2) (m : Mach) : Mach :=
  let m := (sbtEnd k 0x01 m).putDevice (Key.sbtTimeSincePass k.1) (.num 0)
  let m := m.modBrake k (fun b => { b with passAt := m.ns, overdue := false })
  let m := { m with nv := { m.nv with sbtDue := vmod m.nv.sbtDue k (fun _ => false), sbtMust := vmod m.nv.sbtMust k (fun _ => false) } }
  causesGone (fun a => a.ev == 0x4D && a.inst == k.1) m

/-- A test has failed by movement (R286, R287): torque gone at once, the brake applied, the device locked out. -/
def sbtFail (k : Fin 2) (m : Mach) : Mach :=
  let m := brakeApply k (sbtEnd k 0x02 m)
  raiseV 0x4C none none k.1 (m.r (Key.sbtLastMovement k.1)) (m.r (Key.sbtMaxMovement k.1))
    { m.modBrake k (fun b => { b with testFailed := true }) with
      nv := { m.nv with sbtDue := vmod m.nv.sbtDue k (fun _ => true), sbtMust := vmod m.nv.sbtMust k (fun _ => true) } }

/-- Length of a torque phase, ms (R286). -/
def sbtPhaseMs : Nat → Nat | 2 => 200 | 3 => 2000 | 4 => 400 | 5 => 2000 | 6 => 200 | _ => 0

/-- The torque a running test asks for (R286). -/
def Mach.sbtRef (m : Mach) (k : Fin 2) : Option F32 :=
  match m.safety.sbt[k] with
  | none => none
  | some r =>
    let t := r.torque
    let f := fun (a b : F32) => ({ from_ := a, to_ := b, start := r.start, dur := ms (sbtPhaseMs r.phase) } : Fade).at_ m.ns
    match r.phase with
    | 2 => some (f 0 t) | 3 => some t | 4 => some (f t (fneg t)) | 5 => some (fneg t) | 6 => some (f (fneg t) 0) | _ => some 0

/-- SBT_PHASE_END (R286). -/
def sbtPhaseEndEff (k : Fin 2) : Mach → Mach := whenLanes (fun m =>
  match m.safety.sbt[k] with
  | none => m
  | some r =>
    if r.phase < 2 ∨ m.ns < r.start + ms (sbtPhaseMs r.phase) then m
    else if r.phase = 6 then sbtPass k m
    else m.modSafety (fun s => { s with sbt := vmod s.sbt k (fun _ => some { r with phase := r.phase + 1, start := m.ns }) }))

/-- The movement of a test in its torque phases, judged at every outer-loop computation (R286). -/
def sbtWatch (k : Fin 2) (m : Mach) : Mach :=
  match m.safety.sbt[k], m.driveOfBrake k with
  | some r, some d =>
    if r.phase < 2 then m else
    let th := match m.piOf (m.firstSet d) with | some i => m.pos[i].angle | none => 0
    let mv := fabs (wrapDiff (fsub th r.theta0))
    let m := m.putR (Key.sbtLastMovement k.1) (fmax mv (m.r (Key.sbtLastMovement k.1)))
    if fgt mv (m.r (Key.sbtMaxMovement k.1)) then sbtFail k m else m
  | _, _ => m

/-- The test of a brake is configured (R311). -/
def Mach.sbtConfigured (m : Mach) (k : Fin 2) : Bool := (m.driveOfBrake k).isSome && !fIsZero (m.r (Key.sbtHoldTorque k.1))

/-- SBT_DUE (R288). -/
def sbtDueEff (k : Fin 2) : Mach → Mach := whenLanes (fun m =>
  if m.sbtConfigured k ∧ m.b (Key.sbtAuto k.1) ∧ 3600 * m.n (Key.sbtInterval k.1) ≤ m.sincePass k then
    { m with nv := { m.nv with sbtDue := vmod m.nv.sbtDue k (fun _ => true) } } else m)

/-- BRAKE_TEST_OVERDUE (R288). -/
def brakeTestOverdueEff (k : Fin 2) : Mach → Mach := whenLanes (fun m =>
  if m.sbtConfigured k ∧ !m.safety.brakes[k].overdue ∧ 3600 * (m.n (Key.sbtInterval k.1) + 1) ≤ m.sincePass k then
    raise 0x4D none (m.driveOfBrake k) k.1 (m.modBrake k (fun b => { b with overdue := true })) else m)

/-! ### The seal (R293 to R300) -/

/-- A connection by its handle. -/
def Mach.conn? (m : Mach) (h : BitVec 16) : Option Conn := m.net.conns.find? (fun c => c.handle == h)

/-- SEAL_CONFIRM (R295, R296): the answer's status, and what the write does. -/
def sealConfirmEff (rq : Req) (value : BitVec 32) (m : Mach) : Mach × Nat :=
  let open_ : Bool := match m.safety.sealEnd with | some e => decide (m.ns ≤ e) | none => false
  if m.n Key.safetyState ≠ 1 ∨ !open_ then (m, 0x0003)
  else if value.toNat ≠ m.seal then (raiseM 0x50 0xFF m, 0)
  else
    let cred := match m.conn? (ownerOf rq) with | some c => c.credId | none => []
    let m := (m.putN Key.safetyState 2).modSafety (fun s => { s with sealEnd := none })
    let m := m.putDevice Key.safetyConfirmedSeal (.num m.seal)
    let m := writeArea .commissioning (m.comRecord cred rq.src) .nobody m
    (storeBank (bank4 (m.n Key.bankActive)) m, 0)

/-- SEAL_CONFIRMATION_EXPIRED (R296): 120 s without a match; the device acts at its next control-cycle boundary. -/
def sealConfirmationExpiredEff : Mach → Mach := whenLanes (fun m =>
  if m.n Key.safetyState = 1 ∧ due m m.safety.sealEnd then m.modSafety (fun s => { s with sealOver := true }) else m)

/-- What the boundary after it does (R296): the confirmed image comes back, or Fallback or Unconfigured under R299. -/
def sealExpiry (m : Mach) : Mach :=
  if !m.safety.sealOver then m else
  let m := m.modSafety (fun s => { s with sealOver := false })
  if m.n Key.safetyState ≠ 1 then m else
  let m := m.modSafety (fun s => { s with sealEnd := none })
  let m := match m.comVals with
    | some vs => (setSafety vs m).putN Key.safetyState 2
    | none => fallbackSafety m
  let m := applyMask m.maskBlocks (m.putN Key.safetySealValue m.seal)
  inputsUpdate (raiseM 0x51 0xFF m)

/-- FALLBACK_SWITCHES_CHANGED (R299): ignored but for its event. -/
def fallbackSwitchesChangedEff : Mach → Mach := whenLanes (raiseM 0x54 0xFF)

end Sys2Proof.Machine
end

