-- ==== Sys2Proof/Machine/Sensing.lean ====
section
/-! DEFINITION. Sensing: the sampling windows (R80 to R83), trips and dead streams (R79, R89, R90), the terminal measurement (R91),
the position interfaces (R92 to R98), the slow analog inputs and lever pairs (R99 to R101). -/

namespace Sys2Proof.Machine

/-! ### Modulator inputs (R75 to R90) -/

/-- The exclusion zones an input heeds at a sample instant (R81): a command counts when its legs meet EdgeMask; while the set's
pulses are removed there are none (R88). -/
def Mach.zones (m : Mach) (s : Fin 2) (n : Fin 6) (ts : Time) : List (Time × Time) :=
  let k := m.inputSet s
  if !m.gate[k].pulses && decide (m.gate[k].removedAt ≤ ts) then [] else
  let mask := m.n (Key.inputEdgeMask k.1 n.1)
  let settle := 1000 * m.n (Key.inputSettleTime k.1 n.1)
  (m.sense[s].edges.filter (fun e => e.2 &&& mask != 0)).map (fun e => (e.1, e.1 + settle))

/-- The longest part of an interval that meets no zone, the later of equally long ones (R82): it starts at the interval's start or
at a zone's end, and ends at the next zone or at the interval's end. -/
def cleanWindow (lo hi : Time) (zs : List (Time × Time)) : Time × Time :=
  let starts := (lo :: zs.map (·.2)).filter (fun a => lo ≤ a && a ≤ hi && !zs.any (fun z => z.1 < a && a < z.2))
  let gaps := starts.map (fun a =>
    (a, (zs.filter (fun z => (a < z.1 || (a == z.1 && z.1 < z.2)) && z.1 < hi)).foldl (fun e z => min e z.1) hi))
  gaps.foldl (fun b g => if g.2 - g.1 > b.2 - b.1 ∨ (g.2 - g.1 = b.2 - b.1 ∧ g.2 ≥ b.2) then g else b) (lo, lo)

/-- How many ways three numbers below `l` add up to `n`: the weight of a sinc3 of length `l`. -/
def sincWeight (l n : Nat) : Nat :=
  let tri := fun (k : Nat) => (k + 1) * (k + 2) / 2
  tri n + (if 2 * l ≤ n then 3 * tri (n - 2 * l) else 0) - (if l ≤ n then 3 * tri (n - l) else 0) -
    (if 3 * l ≤ n then tri (n - 3 * l) else 0)
/-- x of a sinc3 of length `l` over 3 `l` bits (R77, R83). Its 3 `l` − 2 weights stand in their middle. -/
def sincOf (l : Nat) (bits : List Bool) : F32 :=
  let ones := (bits.zipIdx.map (fun b => if b.1 ∧ 1 ≤ b.2 ∧ b.2 < 3 * l - 1 then sincWeight l (b.2 - 1) else 0)).sum
  fRat (2 * (ones : Int) - (l ^ 3 : Nat)) (max 1 (l ^ 3))

/-- One bit enters a decimating sinc3 chain (R78); an output leaves every `osr` bits. -/
def sincStep (osr : Nat) (x : Sinc) (b : Bool) : Sinc :=
  let a := x.acc.1 + (if b then 1 else 0)
  let c := x.acc.2.1 + a
  let d := x.acc.2.2 + c
  let x := { x with acc := (a, c, d), bits := x.bits + 1 }
  if x.bits < osr then x else
  let d1 : Int := d - x.prev.1
  let d2 := d1 - x.prev.2.1
  let d3 := d2 - x.prev.2.2
  { x with
    prev := (d, d1, d2), bits := 0, filled := min 3 (x.filled + 1),
    out := if 2 ≤ x.filled then fRat (2 * d3 - (osr ^ 3 : Nat)) (max 1 (osr ^ 3)) else x.out }

/-- The bit grid in force at an instant: its start and its bit period (R76). -/
def Mach.gridOf (m : Mach) (k : Fin 2) (ts : Time) : Option (Time × Time) :=
  match m.sense[k].mclk with
  | none => none
  | some o => if ts ≤ o then m.sense[k].before else some (o, max 1 (m.bitPeriod k))

/-- What the front end finds for one input at a sample instant (R82, R83, R89, R90): measured or not, x, the centre of the kernel,
the whole bit periods and the length of the clean window, and whether the window rule skipped it. -/
structure WindowResult where
  ok     : Bool
  x      : F32
  tm     : Time
  n      : Nat
  clean  : Time
  skip   : Bool

/-- The window sample of an input at an instant, from the bits clocked up to it. -/
def Mach.windowAt (m : Mach) (s : Fin 2) (n : Fin 6) (ts : Time) (bits : List Bool) : WindowResult :=
  let k := m.inputSet s
  let w := cleanWindow (ts - 1000 * m.n (Key.senseWindow k.1)) ts (m.zones s n ts)
  let len := w.2 - w.1
  let skip := decide (len < 1000 * m.n (Key.senseMinWindow k.1))
  match m.gridOf k ts with
  | none => { ok := false, x := 0, tm := ts, n := 0, clean := len, skip := skip }
  | some (o, p) =>
    let last := (w.2 - o) / p
    let whole := last - (w.1 - o + p - 1) / p
    let l := whole / 3
    let ker := (bits.reverse.drop ((ts - o) / p - last)).take (3 * l)
    let i := m.sense[s].inputs[n]
    { ok := !skip && !i.dead && ker.length == 3 * l && decide (i.aliveAt + 3 * l * p ≤ o + last * p),
      x := sincOf l ker, tm := w.2 - 3 * l * p / 2, n := whole, clean := len, skip := skip }

/-- A sample's bits enter the inputs: their chains, run and skip counters, over-range flags and events, the shadow limit (R77, R78,
R82, R86); a phase current missing alone in a star is reconstructed, a DC-link value held, a line-to-line one not measured (R85). A
dead current that R88 reports as zero keeps the Status form that R85 gives it (DESIGN CHOICE, log entry 119). -/
def takeWindows (s : Fin 2) (ts : Time) (bits : Vector (List Bool) 6) (m : Mach) : Mach :=
  let k := m.inputSet s
  let rs := Vector.ofFn (fun n => m.windowAt s n ts bits[n])
  let missing := ([0, 1, 2] : List (Fin 6)).filter (fun n => !rs[n].ok)
  let star := m.b (Key.senseStarNoNeutral k.1)
  let ctl := m.n (Key.senseControlOSR k.1)
  let dc := m.n (Key.senseDcOSR k.1)
  m.each ((List.finRange 6).filter (m.inputUsed s)) (fun n m =>
    let r := rs[n]
    let ovr := r.ok && fgt (fabs r.x) (fRat 9 10)
    let sh := if r.ok then 0 else if n.1 < 3 then (if star ∧ missing.length = 1 then 1 else 2) else if n = 3 then 3 else 4
    let m := m.modInput s n (fun i => { i with
      x := if r.ok then r.x else i.x, tm := r.tm, n := r.n, shadow := sh, overRange := ovr,
      ctl := bits[n].foldl (sincStep ctl) i.ctl, dc := bits[n].foldl (sincStep dc) i.dc })
    let m := m.putN (Key.inputCleanWindow s.1 n.1) (r.clean / 1000)
    let m := if ovr then raiseS 0x0C k n.1 m else m
    let m := if r.skip then m.inc (Key.inputSkipCount s.1 n.1) else m
    if 3 < n.1 then m
    else if r.ok then
      let m := m.putN (Key.inputShadowRun s.1 n.1) 0
      m.causeGone 0x0F (some k) none n.1
    else
      let run := min 16 (m.n (Key.inputShadowRun s.1 n.1) + 1)
      let m := (m.inc (Key.inputShadowCount s.1 n.1)).putN (Key.inputShadowRun s.1 n.1) run
      if m.n (Key.senseShadowLimit k.1) ≤ run ∧ !m.ev.active.any (fun a => a.is 0x0F (some k) none n.1) then raiseS 0x0F k n.1 m else m)

/-- The ones among the latest `osr` of a list of bits, newest first. -/
def onesOf (osr : Nat) (bits : List Bool) : Nat := ((bits.take osr).filter id).length
/-- A comparator meets or passes a threshold (R79): x_fast over OvcOSR bits against the threshold rounded towards zero to a step of
2 / OvcOSR. -/
def fastMeets (osr : Nat) (high : Bool) (thr : F32) (bits : List Bool) : Bool :=
  let steps : Int := (fScaleNat (fabs thr) osr / 2 : Nat)
  let steps := if fSign thr then -steps else steps
  let x : Int := 2 * onesOf osr bits - osr
  bits.length ≥ osr && (if high then decide (2 * steps ≤ x) else decide (x ≤ 2 * steps))

/-- FAST_COMPARATOR_TRIP (R79, R102, R240, R247): on each of TripConfirm consecutive bits the threshold is met or passed. -/
def fastComparatorTripEff (s : Fin 2) (n : Fin 6) (high : Bool) (bits : List Bool) : Mach → Mach := whenLanes (fun m =>
  if !m.inputUsed s n ∨ 3 < n.1 then m else
  let k := m.inputSet s
  let thr := m.r (if high then Key.inputTripHigh k.1 n.1 else Key.inputTripLow k.1 n.1)
  let osr := m.n (Key.senseOvcOSR k.1)
  let new := bits.reverse
  if !(List.range (max 1 (m.n (Key.inputTripConfirm k.1 n.1)))).all (fun j => fastMeets osr high thr (new.drop j)) then m
  else if n = 3 ∧ !high ∧ !m.gate[k].pulses then m else
  let m := m.modInput s n (fun x => { x with tripped := true })
  let x := fRat (2 * (onesOf osr new : Int) - osr) (max 1 osr)
  if n.1 < 3 then tripSet k 0x09 n.1 none x thr m
  else raiseV (if high then 0x0A else 0x0B) (some k) none n.1 x thr (tripTurnOff k m))

/-- MODULATOR_STREAM_DEAD (R89): 17 bit periods after the last transition, or after the detector became active, 64 bit periods after
the clock started. -/
def modulatorStreamDeadEff (s : Fin 2) (n : Fin 6) (last : Time) : Mach → Mach := whenUp (fun m =>
  let k := m.inputSet s
  match m.sense[k].mclk with
  | none => m
  | some t0 =>
    if !m.inputUsed s n ∨ m.sense[s].inputs[n].dead ∨ m.now < max last (t0 + 64 * m.bitPeriod k) + 17 * m.bitPeriod k then m
    else raiseS 0x0D k n.1 (m.modInput s n (fun x => { x with dead := true, deadAt := m.now })))

/-- The longest run of equal bits. -/
def longestRun (bits : List Bool) : Nat :=
  (bits.foldl (fun (x : Nat × Nat × Option Bool) b =>
    let r := if x.2.2 = some b then x.2.1 + 1 else 1
    (max x.1 r, r, some b)) (0, 0, none)).1

/-- MODULATOR_STREAM_RESTORED (R90): the stream has run for 3 × ControlOSR bits since its death without a run of 16. -/
def modulatorStreamRestoredEff (s : Fin 2) (n : Fin 6) (bits : List Bool) : Mach → Mach := whenUp (fun m =>
  let k := m.inputSet s
  let need := 3 * m.n (Key.senseControlOSR k.1)
  let x := m.sense[s].inputs[n]
  if !x.dead ∨ bits.length < need ∨ 16 ≤ longestRun (bits.reverse.take need) ∨ m.now < x.deadAt + need * m.bitPeriod k then m else
  let m := m.modInput s n (fun x => { x with dead := false, aliveAt := m.now })
  (raiseS 0x0E k n.1 m).causeGone 0x0D (some k) none n.1)

/-- Places at which a sampled quantity crosses zero, in samples, and whether it rises there. -/
def crossings (u : List F32) : List (F32 × Bool) :=
  ((u.zip (u.drop 1)).zipIdx).filterMap (fun p =>
    let a := p.1.1
    let b := p.1.2
    if (flt a 0 && fge b 0) || (fgt a 0 && fle b 0) then some (fadd (fNat p.2) (fdiv a (fsub a b)), flt a 0) else none)

/-- Fundamental amplitude, frequency and reversed sequence of a set's line voltages (R91): the frequency from the zero crossings of
uUV over at least two periods and 20 ms, at most 2 s, so that a record of 2 s suffices with one period; the amplitude of uUV at that frequency; the sequence from uVW against
uWU = −(uUV + uVW) where uUV rises through zero (log entry 106). -/
def Mach.terminalOf (m : Mach) (s : Fin 2) (stream : List (F32 × F32)) : Option (F32 × F32 × Bool) :=
  let us := stream.map (fun x => (m.quantity s 4 x.1, m.quantity s 5 x.2))
  let step := m.n (Key.senseControlOSR s.1) * m.bitPeriod s
  let cs := crossings (us.map (·.1))
  match cs.head?, cs.getLast?, cs.find? (·.2) with
  | some (c0, _), some (c1, _), some (cr, _) =>
    let long := decide (2000000000000 < (stream.length + 1) * step)
    if cs.length < (if long then 3 else 5) ∨ stream.length * step < 20000000000 ∨ 2000000000000 < stream.length * step then none else
    let span := fmul (fsub c1 c0) (fRat step 1000000000000)
    let f := fdiv (fRat (cs.length - 1 : Nat) 2) span
    let lo := (fFloor c0).toNat + 1
    let hi := (fFloor c1).toNat + 1
    let ang := fun (k : Nat) => fmul (fmul (fmul (fRat 360 1) f) (fRat step 1000000000000)) (fNat k)
    let win := ((us.map (·.1)).zipIdx.drop lo).take (hi - lo)
    let co := fsum (win.map (fun x => fmul x.1 (Config.cosDeg (ang x.2))))
    let si := fsum (win.map (fun x => fmul x.1 (Config.sinDeg (ang x.2))))
    let ampl := fdiv (fmul (fRat 2 1) (fsqrt (fadd (fmul co co) (fmul si si)))) (fNat (max 1 win.length))
    let at_ := (us[(fFloor cr).toNat]?).getD (0, 0)
    some (ampl, f, fgt at_.2 (fneg (fadd at_.1 at_.2)))
  | _, _, _ => none

/-- TERMINAL_MEASUREMENT_DONE (R91): valid from 0.5 % of full scale, which the model takes as the magnitude of input 4's Gain (DESIGN
CHOICE, log entry 106), and from 0.5 to 1,000 Hz, with the set's pulses removed. -/
def terminalMeasurementDoneEff (s : Fin 2) (stream : List (F32 × F32)) : Mach → Mach := whenUp (fun m =>
  if m.gate[s].pulses then m else
  let full := fabs (m.r (Key.inputGain s.1 4))
  match m.terminalOf s stream with
  | none => m.modSense s (fun x => { x with termValid := false })
  | some (ampl, freq, reverse) =>
    let ok := fge ampl (fmul (fRat 5 1000) full) && fge freq (fRat 1 2) && fle freq (fRat 1000 1)
    m.modSense s (fun x => { x with termValid := ok, termAmpl := ampl, termFreq := freq, termRev := reverse }))

/-- NEUTRAL_POINT_DEVIATION (R160): above its limit for 10 ms. -/
def neutralPointDeviationEff (s : Fin 2) : Mach → Mach := whenLanes (fun m =>
  match m.sense[s].npSince with
  | some t => if m.npc ∧ t + ms 10 ≤ m.ns then raiseS 0x23 s 0xFF m else m
  | none => m)

/-- DUTY_STALL (R127): the PWM logic alone turns the set off, softly. A set in a direct command mode takes no duty tokens and has no
stall (DESIGN CHOICE, log entry 120). -/
def dutyStallEff (s : Fin 2) : Mach → Mach := whenUp (fun m =>
  if m.gate[s].pulses ∧ !m.directMode s ∧ 16 ≤ m.eng[s].stall then
    raiseS 0x1B s 0xFF (stopPulses s true (m.inc (Key.engineStallCount s.1)))
  else m)

/-! ### Position interfaces (R92 to R98) -/

/-- The observer of a set is within its valid speed range (R166). -/
def Mach.obsValid (m : Mach) (s : Fin 2) : Bool :=
  let k := m.machSet s
  let lim := fPercent (m.r (Key.obsObserverMinSpeed k)) (fmul (rpmToRad (m.r (Key.machineRatedSpeed k))) (m.poles s))
  fge (fabs m.mc[s].obsOmega) lim

/-- A position fault with its class, F1 where the set continues on its observer (R98). -/
def piFault (e : Nat) (i : Fin 2) (fallback : Bool) (m : Mach) : Mach :=
  let s := m.piSet i
  if fallback ∧ m.b (Key.piSensorlessFallback i.1) ∧ m.obsValid s then raiseAs 3 1 e (some s) none i.1 0 0 m
  else raise e (some s) none i.1 m

/-- ENCODER_EDGE (R93, R94): in the main domain an incremental interface counts edges that have stood for GlitchFilter, a sin/cos one
its zero crossings, four to a period; the Lantern's counter, with its fixed filter of 250 ns, counts in continuous mode while the
main domain sleeps or is in reset (R423). -/
def encoderEdgeEff (i : Fin 2) (forward lantern : Bool) (stable : Nat) (m : Mach) : Mach :=
  if lantern then
    if m.up.isNone ∧ i = 0 ∧ m.n Key.lanternEncoderMode = 1 ∧ 250 ≤ stable then
      { m with lantern := { m.lantern with count := m.lantern.count + (if forward != m.lantern.invert then 1 else -1) } }
    else m
  else whenUp (fun m =>
    let mode := m.n (Key.piMode i.1)
    if (mode ≠ 1 ∧ mode ≠ 2) ∨ (mode = 1 ∧ stable < m.n (Key.piGlitchFilter i.1)) then m else
    let step : Int := if forward != m.b (Key.piInvert i.1) then 1 else -1
    m.modPos i (fun p => { p with
      count := p.count + step, edges := p.edges + 1,
      firstEdge := if p.edges = 0 then m.ns else p.firstEdge, firstCount := if p.edges = 0 then p.count + step else p.firstCount,
      prevEdge := if p.edges = 0 then p.lastEdge else p.prevEdge, lastEdge := m.ns })) m

/-- The position latched from a sample of the assigned set in modes 2 and 3 (R94 to R96): the angle within a period by atan2 to 16
bits on the period count latched at the instant, which is aligned with the signals' quadrants at the first latch; the resolver's
tracked angle on its revolutions. In mode 2 the speed is the difference of positions over the time between the instants (DESIGN CHOICE,
log entry 23). -/
def latchPos (i : Fin 2) (ts : Time) (smp : Sample) (m : Mach) : Mach :=
  let p := m.pos[i]
  let mode := m.n (Key.piMode i.1)
  let inv := m.b (Key.piInvert i.1)
  let v := smp.pair[i]
  let dt := ts - p.latchAt
  let lines : Nat := max 1 (m.n (Key.piLinesPerRev i.1))
  if mode = 2 then
    let place := (fNearest (fdiv (fmul (wrapDeg (Config.atan2Deg v.1 v.2)) (fRat 65536 1)) (fRat 360 1))).toNat % 65536
    let place := if inv then (65536 - place) % 65536 else place
    let phase : Int := p.phase.getD ((place / 16384 : Nat) - p.countPrev)
    let period : Int := ((p.countPrev + phase) * 16384 + 8192 - place + 32768) / 65536
    let posn : Int := period * 65536 + place
    let zero : Int := (p.zCount + phase) * 16384
    let rev : Nat := lines * 65536
    m.modPos i (fun q => { q with
      place := place, posn := posn, phase := some phase, latchAt := ts, angle := fRat (360 * ((posn - zero) % rev)) rev,
      turns := if p.phase.isNone then p.turns else p.turns + ((posn - zero) / rev - (p.posn - zero) / rev),
      speed := if dt = 0 ∨ p.phase.isNone then p.speed else fmul (fRat (posn - p.posn) rev) (fRat 60000000000000 dt) })
  else if mode = 3 then
    let (th, w) := Config.trackResolver (if inv then fneg v.1 else v.1) v.2 (m.n (Key.piTrackingBandwidth i.1)) p.track p.speed dt
    let jump := fsub th p.track
    let revs := if fgt jump (fRat 180 1) then p.elecRevs - 1 else if fgt (fneg jump) (fRat 180 1) then p.elecRevs + 1 else p.elecRevs
    let elec := fdiv (fmul (fabs w) (fNat lines)) (fRat 60 1)
    m.modPos i (fun q => { q with
      track := th, elecRevs := revs, latchAt := ts, speed := w, turns := p.turns + (revs / lines - p.elecRevs / lines),
      angle := fdiv (fadd th (fRat (360 * (revs % lines)) 1)) (fNat lines),
      overSpeed := fgt elec (fdiv (fNat (m.n (Key.piExcitationFrequency i.1))) (fRat 8 1)) })
  else m

/-- INDEX_PULSE (R93, R97): the counts since the index pulse before, quadrature counts in mode 1, periods in mode 2. -/
def indexPulseEff (i : Fin 2) : Mach → Mach := whenUp (fun m =>
  let mode := m.n (Key.piMode i.1)
  if mode ≠ 1 ∧ mode ≠ 2 then m else
  let p := m.pos[i]
  let unit : Int := if mode = 1 then 1 else 4
  let per : Nat := if mode = 1 then m.piCounts i else m.n (Key.piLinesPerRev i.1)
  let tol := m.n (Key.piZTolerance i.1)
  let d := ((p.count - p.zCount) / unit).natAbs
  let bad := p.zSeen && tol != 0 && decide (d + tol < per ∨ per + tol < d)
  let m := m.modPos i (fun p => { p with
    referenced := p.referenced || !(p.wireBreak || p.excOpen), zSeen := true, zCount := p.count })
  if bad then raise 0x12 (some (m.piSet i)) none i.1 (m.modPos i (fun p => { p with countErr := true })) else m)

/-- A sine and cosine pair's radius against its reference lies outside RadiusLow to RadiusHigh (R97). -/
def Mach.radiusBad (m : Mach) (i : Fin 2) (ref : F32) (v : F32 × F32) : Bool :=
  let r := fdiv (fsqrt (fadd (fmul v.1 v.1) (fmul v.2 v.2))) ref
  flt r (m.r (Key.piRadiusLow i.1)) || fgt r (m.r (Key.piRadiusHigh i.1))

/-- POSITION_WIRE_BREAK (R97, R98): below 200 mV for longer than 1 µs on A or B, or on Z once an index pulse has been seen; the radius
of three consecutive samples, or of three excitation periods against its value at commissioning. -/
def positionWireBreakEff (i : Fin 2) (pair : Fin 3) (volts : F32) (dur : Nat) (samples : Vector (F32 × F32) 3) : Mach → Mach := whenUp (fun m =>
  let broken := match m.n (Key.piMode i.1) with
    | 1 => (pair != 2 || m.pos[i].zSeen) && flt (fabs volts) (fRat 2 10) && decide (1000 < dur)
    | 2 => samples.toList.all (m.radiusBad i (fRat 1 2))
    | 3 => samples.toList.all (m.radiusBad i (Config.resolverRadius m.live i.1))
    | _ => false
  if broken then piFault 0x10 i true (referenceLost i (m.modPos i (fun p => { p with wireBreak := true }))) else m)

/-- POSITION_COUNT_ERROR (R97): A and B change inside one glitch-filter interval; the quadrant of the sampled angle disagrees with
the period counter. -/
def positionCountErrorEff (i : Fin 2) (gap : Nat) : Mach → Mach := whenUp (fun m =>
  let p := m.pos[i]
  let bad := match m.n (Key.piMode i.1) with
    | 1 => decide (gap ≤ m.n (Key.piGlitchFilter i.1))
    | 2 => match p.phase with
      | some ph => (p.place / 16384 : Int) != (p.countPrev + ph) % 4
      | none => false
    | _ => false
  if bad then piFault 0x11 i false ((m.modPos i (fun p => { p with countErr := true })).inc (Key.piCountErrors i.1)) else m)

/-- RESOLVER_EXCITATION_OPEN (R97, R98): below 2 mA rms for 1 ms. -/
def resolverExcitationOpenEff (i : Fin 2) (rms : F32) (dur : Nat) : Mach → Mach := whenUp (fun m =>
  if m.n (Key.piMode i.1) = 3 ∧ flt rms (fRat 2 1) ∧ ms 1 ≤ dur then piFault 0x13 i true (m.modPos i (fun p => { p with excOpen := true })) else m)

/-- RESOLVER_TRACKING_LOSS (R97): the tracked angle, run on at the tracked speed from its last sample instant, lies more than 30° from
the demodulated one. -/
def resolverTrackingLossEff (i : Fin 2) (pair : F32 × F32) : Mach → Mach := whenUp (fun m =>
  let p := m.pos[i]
  let run := fmul (fmul p.speed (fNat (6 * m.n (Key.piLinesPerRev i.1)))) (fRat (m.now - p.latchAt : Nat) 1000000000000)
  let err := wrapDiff (fsub (Config.atan2Deg (if m.b (Key.piInvert i.1) then fneg pair.1 else pair.1) pair.2) (wrapDeg (fadd p.track run)))
  if m.n (Key.piMode i.1) = 3 ∧ fgt (fabs err) (fRat 30 1) then piFault 0x14 i false (m.modPos i (fun p => { p with trackLoss := true })) else m)

/-- EXCITATION_SETTLE_END (R95): 20 ms after EXC is enabled, in stepping A1. -/
def excitationSettleEndEff (i : Fin 2) : Mach → Mach := whenUp (fun m =>
  if m.pos[i].excAt + ms 20 ≤ m.ns then m.modPos i (fun p => { p with settling := false }) else m)

/-! ### Slow analog inputs and lever pairs (R99 to R101) -/

/-- The even and odd input of a pair. -/
def pairEven (k : Fin 4) : Nat := 2 * k.1
/-- An input by number. -/
def ain8 (n : Nat) : Fin 8 := ⟨n % 8, Nat.mod_lt _ (by decide)⟩

/-- A track as the fraction of its own window (R101). -/
def Mach.ainFraction (m : Mach) (n : Nat) : F32 :=
  let lo := m.r (Key.ainValidLow n)
  fdiv (fsub m.ain[ain8 n].raw lo) (fsub (m.r (Key.ainValidHigh n)) lo)
/-- The second track as compared: mirrored in mode 2. -/
def Mach.pairB (m : Mach) (k : Fin 4) : F32 :=
  let f := m.ainFraction (pairEven k + 1)
  if m.n (Key.ainPairMode (pairEven k)) = 2 then fsub fOne f else f
/-- A pair's tracks disagree (R101). -/
def Mach.pairDisagrees (m : Mach) (k : Fin 4) : Bool :=
  fgt (fabs (fsub (m.ainFraction (pairEven k)) (m.pairB k))) (fdiv (m.r (Key.ainPairTolerance (pairEven k))) (fRat 100 1))
/-- A pair's lever fraction: the mean of both tracks; an input without a partner stands for itself. -/
def Mach.leverFraction (m : Mach) (k : Fin 4) : F32 :=
  let a := m.ainFraction (pairEven k)
  if m.n (Key.ainPairMode (pairEven k)) = 0 then a else fdiv (fadd a (m.pairB k)) (fRat 2 1)

/-- A pair's comparison at a conversion. -/
def pairUpdate (k : Fin 4) (m : Mach) : Mach :=
  if m.n (Key.ainPairMode (pairEven k)) = 0 then m else
  let bad := m.pairDisagrees k
  m.modPair k (fun x => { x with
    disagree := if bad then some (x.disagree.getD m.ns) else none, agree := if bad then none else some (x.agree.getD m.ns) })

/-- The input whose conversion is next: the enabled ones take turns (R99). -/
def Mach.ainNext (m : Mach) : Option (Fin 8) :=
  let last : Nat := match m.ainLast with | some x => x.1.1 | none => 7
  ((List.range 8).map (fun k => ain8 (last + 1 + k))).find? (fun n => m.b (Key.ainEnable n.1))
/-- The voltage of the converter's 16-bit code, 0 to 3.0 V at the ball (R99); the value of a code is the model's (DESIGN CHOICE, log
entry 125). -/
def ainCode (v : F32) : F32 :=
  let code := (fNearest (fdiv (fmul (fclamp 0 (fRat 3 1) v) (fRat 65535 1)) (fRat 3 1))).toNat
  fRat (3 * code : Nat) 65535

/-- AIN_CONVERSION (R99, R100) of the input whose turn it is, 100 µs after the one before at the earliest; no value is taken while VANA
is out of range (R416). -/
def ainConversionEff (n : Fin 8) (volts : F32) : Mach → Mach := whenUp (fun m =>
  let early : Bool := match m.ainLast with | some x => decide (m.ns < x.2 + 100000) | none => false
  if m.ainNext ≠ some n ∨ early ∨ bit (m.n Key.supplyStatus) 5 then m else
  let m : Mach := { m with ainLast := some (n, m.ns) }
  let raw := ainCode volts
  let x := m.ain[n]
  let tau := m.n (Key.ainFilterTime n.1)
  let y := if tau = 0 ∨ !x.seen then raw else
    let a := fsub fOne (Config.exp (fneg (fdiv (fSeconds (m.ns - x.last)) (fRat tau 1000))))
    fadd x.filtered (fmul a (fsub raw x.filtered))
  let out := flt raw (m.r (Key.ainValidLow n.1)) || fgt raw (m.r (Key.ainValidHigh n.1))
  let cnt := if out then min 3 (x.outside + 1) else 0
  let m := m.modAin n (fun x => { x with
    raw := raw, filtered := y, seen := true, last := m.ns, outside := cnt,
    value := fadd (fmul (m.r (Key.ainScale n.1)) y) (m.r (Key.ainOffset n.1)) })
  let m := pairUpdate ⟨n.1 / 2 % 4, Nat.mod_lt _ (by decide)⟩ m
  if cnt = 3 ∧ x.outside < 3 then raiseM 0x15 n.1 m
  else if !out then m.causeGone 0x15 none none n.1 else m)

/-- The drives that take their reference from a pair (R190). -/
def Mach.leverDrives (m : Mach) (k : Fin 4) : List (Fin 2) :=
  m.theDrives.filter (fun d => m.byLever d && m.n (Key.refLeverPair d.1) == pairEven k)

/-- LEVER_TRACK_DISCREPANCY (R101): a pair that no drive uses is only recorded. -/
def leverTrackDiscrepancyEff (k : Fin 4) : Mach → Mach := whenLanes (fun m =>
  let late := match m.pairs[k].disagree with | some t => decide (t + ms (m.n (Key.ainPairTime (pairEven k))) < m.ns) | none => false
  if m.n (Key.ainPairMode (pairEven k)) = 0 ∨ !late ∨ m.pairs[k].invalid then m else
  let m := m.modPair k (fun x => { x with invalid := true })
  let ds := m.leverDrives k
  if ds.isEmpty then m.note_ 0x16 (m.classOf 0x16) none none (pairEven k) 0 0
  else m.each ds (fun d m => raise 0x16 none (some d) (pairEven k) m))

/-- LEVER_PAIR_AGREED (R101, R191). -/
def leverPairAgreedEff (k : Fin 4) : Mach → Mach := whenLanes (fun m =>
  let long := match m.pairs[k].agree with | some t => decide (t + ms (m.n (Key.ainPairTime (pairEven k))) ≤ m.ns) | none => false
  if !m.pairs[k].invalid ∨ !long then m else
  let m := m.modPair k (fun x => { x with invalid := false })
  let m := m.each (m.leverDrives k) (fun d m => m.modDrive d (fun x => { x with neutral := false, neutralSince := none }))
  causesGone (fun a => a.ev == 0x16 && a.inst == pairEven k) m)

/-- HISTORY_RESET (R113): a running slot's histories, at the next control boundary of its owner. -/
def historyResetEff (i : Fin 32) (m : Mach) : Mach := m.modSlot i (fun x => if x.running then { x with clear := true } else x)

/-! ### Temperature sensors of the main die (R416, R430) -/

/-- Main-die sensors that are not valid: the broken ones, and all of them while VANA is out of range (R416). -/
def Mach.dieSensorsLost (m : Mach) : Bool :=
  bit (m.n Key.supplyStatus) 5 || decide (4 < ((List.range 16).filter (bit (m.n Key.tempSensorBroken))).length)
/-- "main-die temperature sensing lost": fewer than 12 of the sensors are valid (R430). -/
def sensingLost (m : Mach) : Mach := if m.dieSensorsLost then raiseM 0x79 0xFF m else m

end Sys2Proof.Machine
end

