-- ==== Sys2Proof/Machine/Echo.lean ====
section
/-! DEFINITION. Signals as sources (R109), Echo runs (R132 to R138) and the capture buffer (R137). -/

namespace Sys2Proof.Machine

/-- The value of a signal code (R109); a reserved code has none. -/
def Mach.src (m : Mach) (code : Nat) : F32 :=
  if h : 0x0100 ≤ code ∧ code < 0x0120 then m.slots[code - 0x0100].out
  else if h : 0x0120 ≤ code ∧ code < 0x0140 then m.slots[code - 0x0120].err
  else if 0x0500 ≤ code ∧ code < 0x0508 then m.ain[ain8 (code - 0x0500)].value
  else m.sig code

/-! ### Capture (R137) -/

/-- Rows the buffer holds. -/
def Mach.captureTotal (m : Mach) : Nat := 262144 / (4 * m.n Key.captureChannelCount + 4)
/-- The rows kept before a trigger. -/
def Mach.capturePre (m : Mach) : Nat := m.captureTotal * m.n Key.capturePreTrigger / 100
/-- The trigger: rows before it are kept up to PreTrigger, then the buffer fills; a step run waits for it (R134). -/
def captureTrigger (m : Mach) : Mach :=
  if m.capture.state ≠ 1 then m else
  let kept := m.capture.rows.drop (m.capture.rows.length - m.capturePre)
  let left := m.captureTotal - kept.length
  let m : Mach := { m with capture := { m.capture with state := if left = 0 then 3 else 2, trigTime := m.ns, rows := kept, after := left } }
  if m.echo.state = 1 then m.modEcho (fun e => { e with state := 2, n := 0 }) else m

/-- A captured row: the low 32 bits of the time counter and the channels. -/
def Mach.captureRow (m : Mach) : List Byte :=
  beBytes 4 m.ns ++ (List.range (m.n Key.captureChannelCount)).flatMap (fun k => beBytes 4 (m.src (m.n (Key.captureSignal k))).toNat)

/-- A computation of a control domain has ended: its row, and the triggers on channel 1. The rule does not say whether triggers 2
and 3 compare at every computation: they compare the rows that are written (log entry 107). -/
def captureComp (d : Dom) (m : Mach) : Mach :=
  let c := m.capture
  if (c.state ≠ 1 ∧ c.state ≠ 2) ∨ m.n Key.captureCaptureDomain ≠ domCode d then m
  else if c.skip + 1 < m.n Key.captureDecimation then { m with capture := { c with skip := c.skip + 1 } }
  else
    let x := m.src (m.n (Key.captureSignal 0))
    let lvl := m.r Key.captureTriggerLevel
    let had := !c.rows.isEmpty
    let m : Mach := { m with capture := { c with skip := 0, last1 := x } }
    let m := if had ∧ m.n Key.captureTrigger = 2 ∧ flt c.last1 lvl ∧ fge x lvl then captureTrigger m
      else if had ∧ m.n Key.captureTrigger = 3 ∧ fgt c.last1 lvl ∧ fle x lvl then captureTrigger m else m
    let row := m.captureRow
    if m.capture.state = 3 then m
    else if m.capture.state = 1 then
      { m with capture := { m.capture with rows := (m.capture.rows ++ [row]).drop (m.capture.rows.length + 1 - max 1 m.capturePre) } }
    else
      let left := m.capture.after - 1
      { m with capture := { m.capture with rows := m.capture.rows ++ [row], after := left, state := if left = 0 then 3 else 2 } }

/-- The trigger on an event that has been raised since the arming. -/
def captureProgress (m : Mach) : Mach := if m.capture.state = 1 ∧ m.capture.hit then captureTrigger m else m

/-- Shade 2 and above suspend Echo and capture (R138). -/
def Mach.shadeStops (m : Mach) : Bool := decide (2 ≤ m.n Key.shadeLevel)

/-- CAPTURE_ARM by a connection: the buffer starts empty. -/
def captureArmEff (owner : BitVec 16) (m : Mach) : Mach :=
  let m : Mach := { m with capture := { state := 1, owner := some owner } }
  let m := if m.n Key.captureTrigger = 0 then captureTrigger m else m
  if m.shadeStops then { m with capture := { m.capture with was := m.capture.state, state := 4 } } else m

/-! ### Echo (R132 to R138) -/

/-- A run is in progress. -/
def Echo.active (e : Echo) : Bool := e.state == 1 || e.state == 2 || e.state == 3 || e.state == 6
/-- A run injects. -/
def Echo.injects (e : Echo) : Bool := e.state == 1 || e.state == 2 || e.state == 3

/-- The owner of the injection point (R133): 0 and 1 the sets, 2 the outer loops. -/
def Mach.echoOwner (m : Mach) : Nat :=
  let t := m.n Key.echoInjectTarget
  if m.n Key.echoInjectKind ≤ 1 then m.n (Key.slotAssignment t) else if t / 256 = 2 then 0 else if t / 256 = 3 then 1 else 2

/-- A slot of the injection point's owner froze during a measurement (R136, flag 0). -/
def echoFrozen (i : Fin 32) (m : Mach) : Mach :=
  if m.n (Key.slotAssignment i.1) = m.echoOwner then echoFlag 0 m else m

/-- The owner is running (R113); an injected slot needs its own law too. -/
def Mach.echoOwnerRuns (m : Mach) : Bool :=
  let t := m.n Key.echoInjectTarget
  if m.n Key.echoInjectKind ≤ 1 then (if h : t < 32 then m.slots[t].running else false)
  else if m.echoOwner = 0 then m.gate[0].pulses else if m.echoOwner = 1 then m.gate[1].pulses
  else m.gate[0].pulses || m.gate[1].pulses

/-- The injection rate f_s, Hz (R133). -/
def Mach.echoRate (m : Mach) : F32 :=
  let t := m.n Key.echoInjectTarget
  let dv := if m.n Key.echoInjectKind ≤ 1 then m.n (Key.slotDivider t) else 1
  let own := m.echoOwner
  if own = 2 then fRat 1000000000000 (max 1 (m.controlPeriod * (if m.n Key.echoInjectKind ≤ 1 ∧ 1 ≤ m.n Key.shadeLevel then 2 * dv else dv)))
  else fRat 1000000000000 (max 1 (m.samplePeriod (m.dataSet (fin2 own)) * dv))

/-- The largest number of periods, at most `M`, whose N is at most 65,536, with that N (R135). -/
def sweepN (fs f : F32) : Nat → Nat × Nat
  | 0 => (0, 1)
  | k + 1 =>
    let n := (fNearest (fdiv (fmul (fNat (k + 1)) fs) f)).toNat
    if n ≤ 65536 then (k + 1, max 1 n) else sweepN fs f k

/-- A sweep point begins with its settling (R135). -/
def echoPoint (i : Nat) (redo : Bool) (m : Mach) : Mach :=
  let f0 := m.r Key.echoStartFreq
  let p := m.n Key.echoPoints
  let f := fmul f0 (Config.exp (fmul (Config.ln (fdiv (m.r Key.echoStopFreq) f0)) (fRat i (max 1 (p - 1)))))
  let (pm, n) := sweepN m.echoRate f (m.n Key.echoMeasurePeriods)
  m.modEcho (fun e => { e with
    state := 2, point := i, n := 0, base := 0, len := n, periods := pm, value := 0, repeated := redo, flags := 0,
    accX := (0, 0), accY := (0, 0) })

/-- The settings of R135 and R132 that refuse a run. -/
def Mach.echoRefused (m : Mach) : Bool :=
  let t := m.n Key.echoInjectTarget
  let bad := if m.n Key.echoInjectKind = 2 then !injectable t else decide (32 ≤ t)
  let fs := m.echoRate
  bad || (m.n Key.echoType == 1 && (fgt (m.r Key.echoStopFreq) (fmul (fRat 45 100) fs) ||
    fge (m.r Key.echoStartFreq) (m.r Key.echoStopFreq) || flt (m.r Key.echoStartFreq) (fdiv fs (fRat 65536 1))))

/-- Shade suspends a run (R138): nothing is injected in that state, the point in progress is discarded. -/
def echoSuspend (m : Mach) : Mach :=
  let m := if m.echo.injects then m.modEcho (fun e => { e with was := e.state, state := 6 }) else m
  if m.capture.state = 1 ∨ m.capture.state = 2 then { m with capture := { m.capture with was := m.capture.state, state := 4 } } else m

/-- Below Shade 2 a sweep resumes at its discarded point, a capture where it stood (R138). -/
def echoResume (m : Mach) : Mach :=
  let m := if m.echo.state = 6 then
      (if m.n Key.echoType = 1 then echoPoint m.echo.point true m else m.modEcho (fun e => { e with state := e.was }))
    else m
  if m.capture.state = 4 then { m with capture := { m.capture with state := m.capture.was } } else m

/-- ECHO_START by a connection (R132, R135). A step run waits for an armed capture's trigger. The rules do not say what a start does
whose owner is not running: the run ends at once as R138 has it for an owner that stopped (log entry 107). -/
def echoStartEff (owner : BitVec 16) (m : Mach) : Mach :=
  let ty := m.n Key.echoType
  let m : Mach := { m with echo := {
    owner := some owner, endAt := m.ns + ms (m.n Key.echoDuration), state := 3 } }
  if m.echoRefused then echoEnd 0x05 m
  else if !m.echoOwnerRuns then echoEnd 0x04 m
  else
    let m := if m.n Key.captureTrigger = 1 then captureTrigger m else m
    let m := if ty = 0 then m.modEcho (fun e => { e with state := 4 })
      else if ty = 1 then echoPoint 0 false m
      else if ty = 4 then m.modEcho (fun e => { e with state := if m.capture.state = 1 then 1 else 2 })
      else m
    if m.shadeStops then echoSuspend m else m

/-- ECHO_ABORT (R138). -/
def echoAbortEff (m : Mach) : Mach := echoEnd 0x01 m

/-- What the present computation injects at a point, and the run's progress by one computation (R133, R134), at the rate the owner now
has. The bits of a PRBS run repeat after 2ⁿ − 1; which they are is free (log entry 23). -/
def echoTick (kind target : Nat) (m : Mach) : Mach :=
  let e := m.echo
  if !e.injects ∨ m.n Key.echoInjectKind ≠ kind ∨ m.n Key.echoInjectTarget ≠ target then m else
  let a := m.r Key.echoAmplitude
  let m := m.modEcho (fun e => { e with n := e.n + 1, ticked := true })
  match m.n Key.echoType with
  | 1 => m.modEcho (fun e => { e with value := fmul a (Config.sinDeg (fRat (360 * (e.periods * (e.n - 1) % e.len) : Nat) (max 1 e.len))) })
  | 2 => m.modEcho (fun e => { e with
      value := Config.chirp a (m.r Key.echoStartFreq) (m.r Key.echoStopFreq) (m.n Key.echoDuration) (e.n - 1) m.echoRate })
  | 3 => m.modEcho (fun e =>
      let order := m.n Key.echoPrbsOrder
      let k := (e.n - 1) / max 1 (m.n Key.echoBitSamples) % (2 ^ order - 1)
      { e with value := if Config.prbsBit order k then a else fneg a })
  | _ => m

/-- What is added at a point (R133). -/
def Mach.injectAt (m : Mach) (kind target : Nat) (x : F32) : F32 :=
  if m.echo.injects ∧ m.n Key.echoInjectKind = kind ∧ m.n Key.echoInjectTarget = target then fadd x m.echo.value else x

/-- A term of the single-bin DFT (R135). -/
def dftAdd (acc : F32 × F32) (x ang : F32) : F32 × F32 :=
  (fadd acc.1 (fmul x (Config.cosDeg ang)), fsub acc.2 (fmul x (Config.sinDeg ang)))

/-- The end of an owner's computation: a sweep accumulates its signals (R135). -/
def echoComp (m : Mach) : Mach :=
  let e := m.echo
  if !e.ticked then m else
  let m := m.modEcho (fun e => { e with ticked := false })
  if e.state ≠ 3 ∨ m.n Key.echoType ≠ 1 ∨ e.len ≤ e.n - 1 - e.base then m else
  let ang := fRat (360 * (e.periods * (e.n - 1 - e.base) % e.len) : Nat) (max 1 e.len)
  m.modEcho (fun e => { e with
    accX := dftAdd e.accX (m.src (m.n Key.echoSignalX)) ang, accY := dftAdd e.accY (m.src (m.n Key.echoSignalY)) ang })

/-- ECHO_SETTLE_END (R135). -/
def echoSettleEndEff : Mach → Mach := whenLanes (fun m =>
  let e := m.echo
  let need := (m.n Key.echoSettlePeriods * e.len + e.periods - 1) / max 1 e.periods
  if m.n Key.echoType = 1 ∧ e.state = 2 ∧ need ≤ e.n then
    m.modEcho (fun e => { e with state := 3, base := e.n, accX := (0, 0), accY := (0, 0), flags := if e.repeated then 32 else 0 })
  else m)

/-- H = Y / X of a point (R135): the quotient, its magnitude in dB and its argument in degrees (R136), with the lanes' logarithm and
arc tangent (log entry 4). -/
def sweepH (x y : F32 × F32) : F32 × F32 :=
  let den := fadd (fmul x.1 x.1) (fmul x.2 x.2)
  let re := fdiv (fadd (fmul y.1 x.1) (fmul y.2 x.2)) den
  let im := fdiv (fsub (fmul y.2 x.1) (fmul y.1 x.2)) den
  let a := fsqrt (fadd (fmul re re) (fmul im im))
  (fmul (fRat 20 1) (fdiv (Config.ln a) (Config.ln (fRat 10 1))), Config.atan2Deg im re)

/-- ECHO_POINT_COMPLETE (R135, R136). -/
def echoPointCompleteEff : Mach → Mach := whenLanes (fun m =>
  let e := m.echo
  if m.n Key.echoType ≠ 1 ∨ e.state ≠ 3 ∨ e.n - e.base < e.len then m else
  let sc := fdiv (fRat 2 1) (fNat e.len)
  let xr := fmul sc e.accX.1
  let xi := fmul sc e.accX.2
  let weak := flt (fsqrt (fadd (fmul xr xr) (fmul xi xi))) (fdiv (m.r Key.echoAmplitude) (fRat 100 1))
  let y := (fmul sc e.accY.1, fmul sc e.accY.2)
  let h := sweepH (xr, xi) y
  let row := ([fdiv (fmul (fNat e.periods) m.echoRate) (fNat e.len), xr, xi, y.1, y.2, h.1, h.2].flatMap (fun v => beBytes 4 v.toNat)) ++
    beBytes 4 (if weak then setBit e.flags 4 true else e.flags)
  let m := m.modEcho (fun e => { e with table := e.table ++ [row], valid := e.valid + 1 })
  if e.point + 1 < m.n Key.echoPoints then echoPoint (e.point + 1) false m
  else m.modEcho (fun e => { e with state := 4, value := 0 }))

/-- ECHO_STEP (R134). -/
def echoStepEff : Mach → Mach := whenLanes (fun m =>
  if m.n Key.echoType = 4 ∧ m.echo.state = 2 ∧ 10 ≤ m.echo.n then
    m.modEcho (fun e => { e with state := 3, value := m.r Key.echoAmplitude })
  else m)

/-- ECHO_DURATION_END (R134). -/
def echoDurationEndEff : Mach → Mach := whenLanes (fun m =>
  if m.n Key.echoType = 2 ∧ m.echo.state = 3 ∧ m.echo.endAt ≤ m.ns then m.modEcho (fun e => { e with state := 4, value := 0 }) else m)

/-- A run ends when its point's owner stops running (R138). -/
def echoProgress (m : Mach) : Mach := if m.echo.active && !m.echoOwnerRuns then echoEnd 0x04 m else m

end Sys2Proof.Machine
end

