-- ==== Sys2Proof/Machine/Engine.lean ====
section
/-! DEFINITION. The control engine: law slots (R104 to R115), the currents of a sample with their shadow values (R84 to R88), the
angle in use (R165 to R169), the control structure of a set (R118 to R121, R149 to R163, R179), loss of synchronism (R170 to
R174), the sample queue (R122 to R126). -/

namespace Sys2Proof.Machine

/-! ### Law slots (R105 to R115) -/

/-- A slot by number, none for 0xFF (R148). -/
def Mach.slotIn (m : Mach) (key : Nat) : Option (Fin 32) := slotNum (m.n key)

/-- The fixed or live limits of a slot: high, low (R111). -/
def Mach.slotLimits (m : Mach) (i : Fin 32) : F32 × F32 :=
  let hi := if m.n (Key.slotLimHighSource i.1) = 0 then m.r (Key.slotLimHigh i.1) else m.src (m.n (Key.slotLimHighSource i.1))
  let lo := if m.n (Key.slotLimLowSource i.1) = 0 then m.r (Key.slotLimLow i.1)
    else if m.n (Key.slotLimLowSource i.1) = 0xFFFF then fneg hi else m.src (m.n (Key.slotLimLowSource i.1))
  (hi, lo)

/-- r and m by the slot's sources (R105). -/
def Mach.slotInputs (m : Mach) (i : Fin 32) : F32 × F32 :=
  (m.src (m.n (Key.slotRefSource i.1)), if m.n (Key.slotMeasSource i.1) = 0 then 0 else m.src (m.n (Key.slotMeasSource i.1)))

/-- u[k] of R105, each operation rounded once, from left to right (R106). -/
def Mach.slotLaw (m : Mach) (i : Fin 32) (e : F32) (x : SlotSt) : F32 :=
  let n := m.n (Key.slotOrder i.1)
  let at0 := fun (l : List F32) (k : Nat) => (l[k]?).getD 0
  let b := (List.range n).foldl (fun u k => fadd u (fmul (m.r (Key.slotB i.1 (k + 1))) (at0 x.e k))) (fmul (m.r (Key.slotB i.1 0)) e)
  (List.range n).foldl (fun u k => fsub u (fmul (m.r (Key.slotA i.1 k)) (at0 x.y k))) b

/-- The set of a slot's events; none for the outer loops. -/
def Mach.slotSet (m : Mach) (i : Fin 32) : Option (Fin 2) :=
  if m.n (Key.slotAssignment i.1) ≤ 1 then some (fin2 (m.n (Key.slotAssignment i.1))) else none

/-- A computation of a running slot with its r, m and limits (R105 to R111). A hold of R107 leaves its flags and error as they stand,
of which the rule says nothing (DESIGN CHOICE, log entry 107). -/
def slotCompute (i : Fin 32) (r0 mm hi lo : F32) (m : Mach) : Mach :=
  if !m.slots[i].running then m else
  let m := echoTick 1 i.1 (echoTick 0 i.1 m)
  let x := m.slots[i]
  let r := m.injectAt 0 i.1 r0
  let e := fsub r mm
  let u := m.slotLaw i e x
  let f := m.injectAt 1 i.1 (fmul (m.r (Key.slotFfGain i.1)) (m.src (m.n (Key.slotFfSource i.1))))
  if !([r, mm, f, hi, lo, u].all fFinite) then
    raise 0x17 (m.slotSet i) none i.1 (m.modSlot i (fun x => { x with nonFin := true }))
  else if flt hi lo then
    let m := m.modSlot i (fun x => { x with
      out := fdiv (fadd lo hi) (fRat 2 1), err := e, ff := f, sat := 0, frozen := true, nonFin := false })
    raise 0x18 (m.slotSet i) none i.1 (echoFrozen i m)
  else
    let v := fadd u f
    let sat : Nat := if fgt v hi then 1 else if flt v lo then 2 else 0
    let out := if sat = 1 then hi else if sat = 2 then lo else v
    let pulls := if m.n (Key.slotDirection i.1) = 1 then e else fneg e
    let frz := (sat == 1 && fgt pulls 0) || (sat == 2 && flt pulls 0)
    let m := m.modSlot i (fun x => { x with
      out := out, err := e, ff := f, sat := sat, frozen := frz, nonFin := false,
      e := if frz then x.e else (e :: x.e).take 3, y := if frz then x.y else (fsub out f :: x.y).take 3 })
    if frz then echoFrozen i m else m

/-- A slot is due at a boundary count (R114); outer slots at half rate from Shade 1. -/
def Mach.slotDue (m : Mach) (i : Fin 32) (count : Nat) : Bool :=
  let dv := m.n (Key.slotDivider i.1)
  let dv := if m.n (Key.slotAssignment i.1) = 2 ∧ 1 ≤ m.n Key.shadeLevel then 2 * dv else dv
  m.n (Key.slotOrder i.1) != 0 && count % (max 1 dv) == 0

/-- A slot computed by its own sources and limits, where it is due. -/
def slotGeneric (i : Fin 32) (count : Nat) (m : Mach) : Mach :=
  if !m.slotDue i count then m else
  let x := m.slotInputs i
  let l := m.slotLimits i
  slotCompute i x.1 x.2 l.1 l.2 m

/-- Slots of an owner outside its structure, in ascending order (R108). -/
def slotsRest (a count : Nat) (roles : List Nat) (m : Mach) : Mach :=
  m.each ((List.finRange 32).filter (fun i => m.n (Key.slotAssignment i.1) == a && !roles.contains i.1)) (slotGeneric · count)

/-! ### Vectors in a plane -/

/-- A vector turned by an angle in degrees. -/
def turn (a : F32) (v : F32 × F32) : F32 × F32 :=
  let c := Config.cosDeg a
  let s := Config.sinDeg a
  (fsub (fmul v.1 c) (fmul v.2 s), fadd (fmul v.1 s) (fmul v.2 c))
/-- Degrees of a phase: 0, 120, 240. -/
def phaseDeg (p : Nat) : F32 := fRat (120 * p) 1
/-- Amplitude-invariant Park transform of three phase quantities at an angle (R9). -/
def park (a : F32) (x : Nat → F32) : F32 × F32 :=
  let t := fRat 2 3
  let al := fmul t (fsum ((List.range 3).map (fun p => fmul (x p) (Config.cosDeg (phaseDeg p)))))
  let be := fmul t (fsum ((List.range 3).map (fun p => fmul (x p) (Config.sinDeg (phaseDeg p)))))
  turn (fneg a) (al, be)
/-- A phase quantity of a dq vector at an angle. -/
def unpark (a : F32) (v : F32 × F32) (p : Nat) : F32 :=
  let w := turn a v
  fadd (fmul w.1 (Config.cosDeg (phaseDeg p))) (fmul w.2 (Config.sinDeg (phaseDeg p)))
/-- Magnitude. -/
def mag (v : F32 × F32) : F32 := fsqrt (fadd (fmul v.1 v.1) (fmul v.2 v.2))

/-! ### Sample values (R77, R84 to R88) -/

/-- First signal code of a set (R109). -/
def base (s : Fin 2) : Nat := 0x0200 + 0x100 * s.1
/-- Angle of a physical set's own frame against the machine's (R161). -/
def Mach.frame (m : Mach) (p : Fin 2) : F32 :=
  if m.topo = 2 ∧ p = 1 then wrapDeg (fsub m.mc[0].theta (fRat 30 1)) else m.mc[m.dataSet p].theta

/-- The slip of an induction machine at a rotor flux (R147). Its quotient has no value at ψ_r = 0: there it is a free, finite one (log
entry 121). -/
def Mach.slipAt (m : Mach) (k : Nat) (iq psi : F32) : F32 :=
  let num := fmul (m.r (Key.machineLm k)) iq
  let tau := fdiv (m.r (Key.machineLr k)) (m.r (Key.machineRr k))
  if fIsZero psi then (let w := Config.slipNoFlux num tau; if fFinite w then w else 0) else fdiv num (fmul tau psi)
/-- Stator frequency of the model at a rotor flux (R147): the rotor's speed, with the slip of an induction machine; the caught speed
while a catch builds the flux (R179); without an encoder it is kept at or above 1 % of the rated one while torque is produced (R169). -/
def Mach.statorSpeed (m : Mach) (s : Fin 2) (iq psi : F32) : F32 :=
  let k := m.machSet s
  let x := m.mc[s]
  if m.isPm s then x.omega
  else match x.catchW with
  | some w => w
  | none =>
    let floor_ := fPercent fOne (fmul (rpmToRad (m.r (Key.machineRatedSpeed k))) (m.poles s))
    let keep := fun (w : F32) =>
      if m.encValid s || fIsZero (m.sig (base s + 0x10)) || fge (fabs w) floor_ then w
      else if fSign w then fneg floor_ else floor_
    keep <| fadd x.omega (m.slipAt k iq psi)
/-- Stator frequency of the model at the flux in use. -/
def Mach.omegaS (m : Mach) (s : Fin 2) (iq : F32) : F32 := m.statorSpeed s iq m.mc[s].psiR
/-- σ L_s. -/
def Mach.sigmaLs (m : Mach) (k : Nat) : F32 :=
  let lm := m.r (Key.machineLm k)
  fmul (fsub fOne (fdiv (fmul lm lm) (fmul (m.r (Key.machineLs k)) (m.r (Key.machineLr k))))) (m.r (Key.machineLs k))

/-- A leg's level summed over an interval, in half links × ps, from the level at its start and the changes (R85). A leg whose
switches are all off is taken at the neutral level (log entry 23). -/
def levelTime : Nat → List (Time × Nat) → Time → Time → Nat
  | l, [], a, b => (if l = 3 then 1 else l) * (b - a)
  | l, (t, l') :: r, a, b =>
    if t ≤ a then levelTime l' r a b
    else if b ≤ t then (if l = 3 then 1 else l) * (b - a)
    else (if l = 3 then 1 else l) * (t - a) + levelTime l' r t b

/-- The changes of a leg's level. -/
def Mach.legLevels (m : Mach) (p : Fin 2) (leg : Fin 3) : List (Time × Nat) :=
  (m.sense[p].poles.filter (fun e => e.leg == leg)).map (fun e => (e.at_, e.level))
/-- The mean voltage of a set's phases over an interval, common mode removed (R84, R85): from the recorded edge times and a DC-link
value. -/
def Mach.meanVolts (m : Mach) (p : Fin 2) (udc : F32) (a b : Time) (k : Nat) : F32 :=
  let v := fun (k : Nat) =>
    let leg : Fin 3 := if k = 0 then 0 else if k = 1 then 1 else 2
    fmul udc (fRat (levelTime m.sense[p].pole0[leg] (m.legLevels p leg) a b) (max 1 (2 * (b - a))))
  fsub (v k) (fdiv (fsum ((List.range 3).map v)) (fRat 3 1))
/-- Some leg of a set has had every switch off in an interval: nothing is applied to it. -/
def Mach.legsOff (m : Mach) (p : Fin 2) (a b : Time) : Bool :=
  three.any (fun leg =>
    let l := m.legLevels p leg
    let start := ((l.filter (fun e => e.1 ≤ a)).getLast?.map (·.2)).getD m.sense[p].pole0[leg]
    start == 3 || l.any (fun e => a < e.1 && e.1 < b && e.2 == 3))

/-- The rates of i_d and i_q in the machine model at a voltage and current (R147). -/
def Mach.slope (m : Mach) (p : Fin 2) (u i : F32 × F32) : F32 × F32 :=
  let s := m.dataSet p
  let k := m.machSet s
  let x := m.mc[s]
  let rs := m.r (Key.machineRs k)
  if m.isPm s then
    let ld := m.r (Key.machineLd k)
    let lq := m.r (Key.machineLq k)
    (fdiv (fadd (fsub u.1 (fmul rs i.1)) (fmul (fmul x.omega lq) i.2)) ld,
     fdiv (fsub (fsub u.2 (fmul rs i.2)) (fmul x.omega (fadd (fmul ld i.1) (m.r (Key.machinePsiPM k))))) lq)
  else
    let lm := m.r (Key.machineLm k)
    let lr := m.r (Key.machineLr k)
    let rr := m.r (Key.machineRr k)
    let sl := m.sigmaLs k
    let ws := m.omegaS s i.2
    let c := fdiv (fmul lm rr) (fmul lr lr)
    (fdiv (fadd (fadd (fsub u.1 (fmul (fadd rs (fmul c lm)) i.1)) (fmul (fmul ws sl) i.2)) (fmul c x.psiR)) sl,
     fdiv (fsub (fsub u.2 (fmul rs i.2)) (fmul ws (fadd (fmul sl i.1) (fmul (fdiv lm lr) x.psiR)))) sl)

/-- One forward-Euler step of the machine model from the last current estimate (R85, R147): the mean voltage applied since the sample
instant before, from the edge times and that instant's DC-link value, turned at the angle half way between the instants (log entry
23); with no voltage applied the estimate stands. -/
def Mach.predict (m : Mach) (p : Fin 2) (t0 t1 : Time) : F32 × F32 :=
  let i0 : F32 × F32 := if m.sense[p].allSeen then m.sense[p].own else (0, 0)
  if m.legsOff p t0 t1 then i0 else
  let dt := fRat (t1 - t0 : Nat) 1000000000000
  let mid := fadd (m.frame p) (radToDeg (fdiv (fmul m.mc[m.dataSet p].omega dt) (fRat 2 1)))
  let d := m.slope p (park mid (m.meanVolts p (m.udc p) t0 t1)) i0
  (fadd i0.1 (fmul dt d.1), fadd i0.2 (fmul dt d.2))

/-- The prediction for a machine (R85, R170): a dual machine's is the mean of both sets', or the healthy one's in limp. -/
def Mach.predicted (m : Mach) (s : Fin 2) (t0 t1 : Time) : F32 × F32 :=
  if !m.dual then m.predict s t0 t1
  else match m.drives[0].limp with
    | some h => m.predict h t0 t1
    | none =>
      let a := m.predict 0 t0 t1
      let b := m.predict 1 t0 t1
      (fmul (fRat 1 2) (fadd a.1 b.1), fmul (fRat 1 2) (fadd a.2 b.2))

/-- The machine model's current slope of a phase, integrated from t_m to t_s (R84): the leg states in force, the DC-link sample, the
back-EMF of the model at the last current estimate; with every switch of a leg off no voltage drives it. -/
def Mach.centreStep (m : Mach) (p : Fin 2) (n : Nat) (tm ts : Time) : F32 :=
  if ts ≤ tm ∨ m.legsOff p tm ts then 0 else
  let s := m.dataSet p
  let i := m.sense[p].own
  let d := m.slope p (park (m.frame p) (m.meanVolts p (m.udc p) tm ts)) i
  let w := m.omegaS s i.2
  fmul (fRat (ts - tm : Nat) 1000000000000) (unpark (m.frame p) (fsub d.1 (fmul w i.2), fadd d.2 (fmul w i.1)) n)

/-- A measured quantity: Gain × x + Offset, phase currents with their centre correction (R77, R84). -/
def Mach.measured (m : Mach) (p : Fin 2) (n : Fin 6) (ts : Time) : F32 :=
  let x := m.sense[p].inputs[n]
  let v := m.quantity p n x.x
  if n.1 < 3 ∧ m.b (Key.senseCentreCorrection (m.inputSet p).1) then fadd v (m.centreStep p n.1 x.tm ts) else v

/-- A value put into an input. -/
def setValue (p : Fin 2) (n : Fin 6) (v : F32) (m : Mach) : Mach := m.modInput p n (fun x => { x with value := v })

/-- The quantities of a physical set's sample (R85, R88): measured ones, then the DC link held, then phase currents by Kirchhoff or
the prediction `pr`; with pulses removed a dead current is zero. -/
def formValues (p : Fin 2) (pr : F32 × F32) (ts : Time) (m : Mach) : Mach :=
  let s := m.inputSet p
  let m := m.each (([3, 4, 5] : List (Fin 6)).filter (m.inputUsed p)) (fun n m =>
    if m.sense[p].inputs[n].shadow = 0 then setValue p n (m.measured p n ts) m else m)
  if m.npc ∧ p = 1 then m else
  let cs : List (Fin 6) := [0, 1, 2]
  let gone := cs.filter (fun n => m.sense[p].inputs[n].shadow != 0)
  let m := m.each (cs.filter (fun n => m.sense[p].inputs[n].shadow == 0)) (fun n m => setValue p n (m.measured p n ts) m)
  if gone.isEmpty then m.modSense p (fun x => { x with allSeen := x.allSeen || m.gate[p].pulses })
  else if !m.gate[p].pulses then m.each gone (fun n m => setValue p n 0 m)
  else
    let star := m.b (Key.senseStarNoNeutral s.1)
    let kept := (cs.filter (fun n => !gone.contains n)).map (fun n => m.sense[p].inputs[n].value)
    let of := fun (n : Fin 6) => unpark (m.frame p) pr n.1
    match gone with
    | [n] => setValue p n (if star then fneg (fsum kept) else of n) m
    | [a, b] =>
      let sh := if star then fdiv (fsum (kept ++ [of a, of b])) (fRat 2 1) else 0
      setValue p b (fsub (of b) sh) (setValue p a (fsub (of a) sh) m)
    | _ => m.each gone (fun n m => setValue p n (of n) m)

/-- The levels of the legs up to a computed sample instant are folded into the one at their start. -/
def foldPoles (p : Fin 2) (ts : Time) (m : Mach) : Mach :=
  m.modSense p (fun x => { x with
    pole0 := vmap x.pole0 (fun leg l => (((x.poles.filter (fun e => e.leg == leg && e.at_ ≤ ts)).getLast?).map (·.level)).getD l),
    poles := x.poles.filter (fun e => ts < e.at_) })

/-- A sample current is a model shadow (R87). -/
def Mach.modelShadow (m : Mach) (p : Fin 2) : Bool := ([0, 1, 2] : List (Fin 6)).any (fun n => m.sense[p].inputs[n].shadow == 2)

/-! ### The angle in use (R98, R165 to R169, R171) -/

/-- Rated electrical speed, rad/s. -/
def Mach.ratedOmega (m : Mach) (s : Fin 2) : F32 := fmul (rpmToRad (m.r (Key.machineRatedSpeed (m.machSet s)))) (m.poles s)

/-- The source of a PM machine without an encoder's angle: 1 PLL, 2 HFI, 3 I-f (R166); a source that was an encoder's or an
extrapolation becomes the PLL while that is valid (R171, R174). The first computation after an enable below HfiExitSpeed takes HFI or
I-f, also above ObserverMinSpeed, of which the rule says nothing (DESIGN CHOICE, log entry 107). -/
def Mach.pmSource (m : Mach) (s : Fin 2) (first : Bool) : Nat :=
  let k := m.machSet s
  let x := m.mc[s]
  let w := fabs x.obsOmega
  let low := if m.b (Key.obsHfiEnable k) then 2 else 3
  let exit := fPercent (m.r (Key.obsHfiExitSpeed k)) (m.ratedOmega s)
  let min_ := fPercent (m.r (Key.obsObserverMinSpeed k)) (m.ratedOmega s)
  if first then (if fge w exit then 1 else low)
  else if x.source = 2 ∨ x.source = 3 then (if fge w exit then 1 else x.source)
  else if flt w min_ then low else 1

/-- The weight of the voltage model of an induction machine (R169). -/
def Mach.blend (m : Mach) (s : Fin 2) : F32 :=
  let k := m.machSet s
  let p := fdiv (fmul (fabs (m.setSpeed s)) (fRat 100 1)) (m.r (Key.machineRatedSpeed k))
  fclamp 0 fOne (fdiv (fsub p (m.r (Key.obsBlendStart k))) (m.r (Key.obsBlendBand k)))

/-- The encoder's electrical angle and speed (R165). -/
def Mach.encAngle (m : Mach) (s : Fin 2) : F32 × F32 :=
  match m.piOf s with
  | some i => (wrapDeg (fadd (fmul m.pos[i].angle (m.poles s)) (m.r (Key.obsEncoderOffset (m.machSet s)))), fmul (rpmToRad m.pos[i].speed) (m.poles s))
  | none => (0, 0)

/-- Angle, speed and source in use at a sample instant. A new source starts from the old one's angle, run on to the instant, and speed;
I-f follows the speed reference from its second computation on (R166). After a reacquisition the observer's own angle is taken (R171). -/
def angleInUse (s : Fin 2) (t0 ts : Time) (m : Mach) : Mach :=
  let x := m.mc[s]
  let m := m.modMc s (fun x => { x with last := (x.theta, x.omega, t0) })
  let run := fun (th w : F32) (t : Time) => wrapDeg (fadd th (radToDeg (fmul w (fRat (ts - t : Nat) 1000000000000))))
  let enc := m.encAngle s
  if x.losState = 1 then m.modMc s (fun x => { x with theta := run x.base.1 x.base.2.1 x.base.2.2, omega := x.base.2.1, source := 7 })
  else if !m.isPm s then
    let w := m.blend s
    m.modMc s (fun x => { x with
      theta := x.obsTheta, omega := if m.encValid s then enc.2 else x.obsOmega,
      source := if fIsZero w then 4 else if fge w fOne then 5 else 6 })
  else if m.encValid s && !x.byObserver then m.modMc s (fun x => { x with theta := enc.1, omega := enc.2, source := 0 })
  else
    let first := decide (t0 ≤ 1000 * x.enabledAt)
    let src := m.pmSource s first
    if src = 3 then
      let w := if x.source = 3 then fmul (rpmToRad m.drives[m.driveOf s].speedRef) (m.poles s) else x.omega
      let th := run (if x.source = 3 then x.ifAngle else x.theta) w t0
      m.modMc s (fun x => { x with theta := th, ifAngle := th, omega := w, source := 3 })
    else if x.source = src ∨ x.source = 7 ∨ first then
      m.modMc s (fun x => { x with theta := x.obsTheta, omega := x.obsOmega, source := src })
    else
      let th := run x.theta x.omega t0
      m.modMc s (fun x => { x with obsTheta := th, obsOmega := x.omega, theta := th, source := src })

/-- The line voltages of the sample as a vector in the stationary frame. -/
def Mach.terminalVector (m : Mach) (s : Fin 2) (a : F32) : F32 × F32 :=
  let uv := m.sense[s].inputs[4].value
  let vw := m.sense[s].inputs[5].value
  park a (fun p =>
    if p = 0 then fdiv (fadd (fmul (fRat 2 1) uv) vw) (fRat 3 1)
    else if p = 1 then fdiv (fsub vw uv) (fRat 3 1) else fneg (fdiv (fadd uv (fmul (fRat 2 1) vw)) (fRat 3 1)))

/-- The first computation of a catch presets the observer to the measured angle and speed (R179): the encoder's, or the angle whose
back-EMF the terminals show, a quarter period behind it in the direction of rotation. -/
def catchPreset (s : Fin 2) (t0 ts : Time) (m : Mach) : Mach :=
  if !m.mc[s].catching then m else
  let m := m.each ([4, 5] : List (Fin 6)) (fun n m => if m.sense[s].inputs[n].shadow = 0 then setValue s n (m.measured s n ts) m else m)
  let v := m.terminalVector s 0
  let back := Config.atan2Deg v.2 v.1
  let w := m.mc[s].obsOmega
  let th := if m.encValid s then (m.encAngle s).1 else wrapDeg (if fSign w then fadd back (fRat 90 1) else fsub back (fRat 90 1))
  -- the models step on from the computation before
  let was := wrapDeg (fsub th (radToDeg (fmul w (fRat (ts - t0 : Nat) 1000000000000))))
  m.modMc s (fun x => { x with obsTheta := th, cmTheta := was, vmTheta := was })

/-! ### Current references (R150, R151) -/

/-- The flux floor of an induction machine, Wb. -/
def Mach.fluxFloor (m : Mach) (k : Nat) : F32 := fmul (m.r (Key.fwFluxFloor k)) (m.r (Key.machineNominalFlux k))

/-- i_d from the flux slot and i_q of an induction machine, or both of a PM machine, at a torque (R150). -/
def Mach.currentRefs (m : Mach) (s : Fin 2) (t did idFlux : F32) : F32 × F32 :=
  let k := m.machSet s
  let p := fmul (fRat 3 2) (m.poles s)
  match m.n (Key.machineMachineType k) with
  | 0 => (did, fdiv t (fmul p (m.r (Key.machinePsiPM k))))
  | 1 =>
    let r := mtpaAt (valBytes (m.val (Key.mtpaTable k))) (m.n (Key.mtpaPoints k)) (fabs t)
    (fadd r.1 did, if fSign t then fneg r.2 else r.2)
  | _ =>
    let l := fdiv (m.r (Key.machineLm k)) (m.r (Key.machineLr k))
    (idFlux, fdiv t (fmul (fmul p l) (fmax m.mc[s].psiR (m.fluxFloor k))))

/-- The d axis first (R151). -/
def limitCurrents (lim : F32) (v : F32 × F32) : F32 × F32 :=
  let d := fclamp (fneg lim) lim v.1
  let q := fsqrt (fmax 0 (fsub (fmul lim lim) (fmul d d)))
  (d, fclamp (fneg q) q v.2)

/-- The decoupling terms (R118, R152). The i_q inside ω_s is the measured one whichever currents DecouplingMode selects (DEDUCED, log
entry 109: ω_s is a quantity of the model, not one of the term's currents). -/
def Mach.decoupling (m : Mach) (s : Fin 2) (ref meas : F32 × F32) : F32 × F32 :=
  let k := m.machSet s
  let x := m.mc[s]
  if m.n (Key.engineDecouplingMode s.1) = 0 then (0, 0) else
  let i := if m.n (Key.engineDecouplingMode s.1) = 1 then ref else meas
  if m.isPm s then
    (fneg (fmul (fmul x.omega (m.r (Key.machineLq k))) i.2), fmul x.omega (fadd (fmul (m.r (Key.machineLd k)) i.1) (m.r (Key.machinePsiPM k))))
  else
    let lm := m.r (Key.machineLm k)
    let lr := m.r (Key.machineLr k)
    let sl := m.sigmaLs k
    let ws := m.omegaS s meas.2
    (fsub (fneg (fmul (fmul ws sl) i.2)) (fmul (fdiv (fmul lm (m.r (Key.machineRr k))) (fmul lr lr)) x.psiR),
     fmul ws (fadd (fmul sl i.1) (fmul (fdiv lm lr) x.psiR)))

/-! ### Modulation (R116, R153 to R159) -/

/-- The DC-link value of normalisation (R116). -/
def Mach.udcNorm (m : Mach) (p : Fin 2) : F32 := fmax (m.r (Key.engineDcNormFloor p.1)) (m.udc p)
/-- U_max from a DC-link value (R153). -/
def Mach.uMaxOf (m : Mach) (s : Fin 2) (u : F32) : F32 := fdiv (fmul (m.r (Key.modOvermodLimit s.1)) u) fSqrt3

/-- The sign of a number: 1, 0, −1. -/
def fsgn (x : F32) : F32 := if fIsZero x then 0 else if fSign x then fneg fOne else fOne

/-- The offset of R154 for three normalised references. Of phases that share the largest magnitude the first is clamped (DESIGN CHOICE, log
entry 107). -/
def offsetOf (dpwm : Bool) (n : Nat → F32) : F32 :=
  if dpwm then
    let k := if fge (fabs (n 0)) (fabs (n 1)) ∧ fge (fabs (n 0)) (fabs (n 2)) then n 0 else if fge (fabs (n 1)) (fabs (n 2)) then n 1 else n 2
    fsub (fsgn k) k
  else fneg (fdiv (fadd (fmax (n 0) (fmax (n 1) (n 2))) (fmin (n 0) (fmin (n 1) (n 2)))) (fRat 2 1))

/-- The balancing offset of topology 3 added to the SVPWM offset, kept where every level command stays within 0 to 1 (R159). -/
def Mach.npOffset (m : Mach) (n : Nat → F32) (n0 : F32) : F32 :=
  let g := fneg (fsum ((List.range 3).map (fun x => fmul (fsgn (fadd (n x) n0)) (m.sense[0].inputs[(if x = 0 then 0 else if x = 1 then 1 else 2 : Fin 6)].value))))
  let dev := fsub m.sense[0].inputs[3].value m.sense[1].inputs[3].value
  let bal := if fIsZero g then 0 else fneg (fmul (fmul (m.r (Key.modNpBalanceGain 0)) (fdiv dev (m.udcNorm 0))) (fsgn g))
  let lo := fsub (fneg fOne) (fmin (n 0) (fmin (n 1) (n 2)))
  let hi := fsub fOne (fmax (n 0) (fmax (n 1) (n 2)))
  fclamp lo hi (fadd n0 bal)

/-- The narrow-pulse clamp of R156: the duty, and whether it acted. A duty that is 0 or 1 already has no pulse to clamp and is not counted
(DEDUCED, log entry 109). -/
def Mach.clampPulse (m : Mach) (p : Fin 2) (d : F32) : F32 × Bool :=
  let two_ := fmul (fRat 2 1) (fRat m.pwm[p].half 1000)
  let mp := fNat (m.n (Key.minPulse p.1))
  if !fIsZero d && flt (fmul two_ d) mp then (0, true)
  else if !feq d fOne && flt (fmul two_ (fsub fOne d)) mp then (fOne, true)
  else (d, false)

/-- The fundamental of the clipped phase voltage over U_dc, of sinusoidal references with a pre-clip gain and the offset in force (R155),
as the mean over 360 places of a period. -/
def clippedFundamental (dpwm : Bool) (idx g : F32) : F32 :=
  let a := fmul (fmul (fdiv (fRat 2 1) fSqrt3) idx) g
  let one := fun (j : Nat) =>
    let n := fun (x : Nat) => fmul a (Config.cosDeg (fRat ((j : Int) - 120 * x) 1))
    let d := fclamp 0 fOne (fdiv (fadd (fadd fOne (n 0)) (offsetOf dpwm n)) (fRat 2 1))
    fmul (fsub d (fRat 1 2)) (Config.cosDeg (fRat j 1))
  fdiv (fsum ((List.range 360).map one)) (fRat 180 1)
/-- The smallest gain of 1 to 100, to 32 halvings, at which that fundamental reaches a share of m U_dc / √3. -/
def gainFor (dpwm : Bool) (idx share : F32) : F32 :=
  let goal := fdiv (fmul share idx) fSqrt3
  ((List.range 32).foldl (fun (b : F32 × F32) _ =>
    let mid := fdiv (fadd b.1 b.2) (fRat 2 1)
    if fge (clippedFundamental dpwm idx mid) goal then (b.1, mid) else (mid, b.2)) (fOne, fRat 100 1)).2
/-- The pre-clip gain in use (R155): the firmware's table is not published, but its gain gives the fundamental within 0.2 %, and lies
between 1 and 100. -/
def preClip (dpwm : Bool) (idx : F32) : F32 :=
  if fgt idx fOne then
    fclamp fOne (fRat 100 1) (fclamp (gainFor dpwm idx (fRat 998 1000)) (gainFor dpwm idx (fRat 1002 1000)) (Config.preClipGain idx))
  else fOne

/-- A physical set's phase voltages become duties (R153 to R159), with its own offset (R163), its index and gain reported. -/
def modulate (p : Fin 2) (absU : F32) (v : Nat → F32) (m : Mach) : Mach :=
  let u := m.udcNorm p
  let idx := fdiv (fmul fSqrt3 absU) u
  let g := preClip m.mc[p].dpwm idx
  let n := fun (x : Nat) => fdiv (fmul (fRat 2 1) (fmul g (v x))) u
  let n0 := offsetOf m.mc[p].dpwm n
  let n0 := if m.npc then m.npOffset n n0 else n0
  let ds := (List.range 3).map (fun x => m.clampPulse p (fclamp 0 fOne (fdiv (fadd (fadd fOne (n x)) n0) (fRat 2 1))))
  let m := (m.putR (Key.modIndex p.1) idx).putR (Key.modPreClipGain p.1) g
  let m := m.add (Key.modNarrowPulseClampCount p.1) (ds.filter (·.2)).length
  m.modEng p (fun e => { e with duties := Vector.ofFn (fun k => ((ds[k.1]?).map (·.1)).getD 0) })

/-- A dq vector reduced radially to a magnitude (R155). -/
def radial (lim : F32) (v : F32 × F32) : F32 × F32 :=
  let a := mag v
  if fgt a lim then (fmul v.1 (fdiv lim a), fmul v.2 (fdiv lim a)) else v

/-! ### Loss of synchronism (R170 to R174) -/

/-- The physical sets of a machine. -/
def Mach.setsWith (m : Mach) (s : Fin 2) : List (Fin 2) := if m.dual then [0, 1] else [s]
/-- The sets whose currents and voltages a machine is computed from: the healthy one of a dual machine in limp (R209). -/
def Mach.setsUsed (m : Mach) (s : Fin 2) : List (Fin 2) :=
  if m.dual then (match m.drives[0].limp with | some h => [h] | none => [0, 1]) else [s]

/-- A declaration (R170, R171, R174); `c` names the criterion. The angle is extrapolated from the computation before. -/
def losDeclare (s : Fin 2) (c : Nat) (m : Mach) : Mach :=
  let recent := m.mc[s].losTimes.filter (fun t => m.ns < t + 60000000000)
  let m := (m.inc (Key.losLosCount s.1)).putN (Key.losLastCriterion s.1) c
  let m := m.modMc s (fun x => { x with losTimes := recent ++ [m.ns] })
  let lost : Raised := { ev := 0x1E, set := some s, drv := none, inst := c }
  if 2 ≤ recent.length then
    raiseAll [lost, { ev := 0x22, set := some s, drv := none, inst := 0xFF }] (m.each (m.setsWith s) (losDecide rz))
  else (raiseAll [lost] m).modMc s (fun x => { x with losState := 1, losAt := m.ns, obsSince := none, base := x.last })

/-- REACQUIRE_TIMEOUT (R171). -/
def reacquireTimeoutEff (s : Fin 2) : Mach → Mach := whenLanes (fun m =>
  if m.mc[s].losState = 1 ∧ m.mc[s].losAt + ms (m.n (Key.losReacquireTime (m.machSet s))) ≤ m.ns then
    m.each (m.setsWith s) (losDecide rz)
  else m)

/-- The reference flux by which criterion (b) judges (R170): ψ_PM, or ψ_ref of R150. -/
def Mach.fluxRef (m : Mach) (s : Fin 2) : F32 :=
  let dw := match m.slotIn (Key.roleFieldWeakening s.1) with | some i => m.slots[i].out | none => 0
  if m.isPm s then m.r (Key.machinePsiPM (m.machSet s))
  else fmax (m.fluxFloor (m.machSet s)) (fadd (m.r (Key.machineNominalFlux (m.machSet s))) dw)
/-- The observer's flux lies within FluxLow to FluxHigh. -/
def Mach.fluxIn (m : Mach) (s : Fin 2) : Bool :=
  let k := m.machSet s
  let f := m.mc[s].obsFlux
  fge f (fmul (m.r (Key.losFluxLow k)) (m.fluxRef s)) && fle f (fmul (m.r (Key.losFluxHigh k)) (m.fluxRef s))

/-- The criteria at step 9: the first one that is met, with the bookkeeping of their persistence (R170). The change over the last 8
computed samples is taken over 8 intervals, from the speed 8 samples ago to the present one (DESIGN CHOICE, log entry 107). -/
def losJudge (s : Fin 2) (resid : F32) (shadow : Bool) (m : Mach) : Mach × Option Nat :=
  let k := m.machSet s
  let x := m.mc[s]
  let tmax := fmax (fabs x.mot) (fabs x.reg)
  let j := m.r (Key.machineShaftInertia k)
  let amax := fdiv (fmul (fmul (m.r (Key.losAlphaMargin k)) (m.poles s)) tmax) j
  let acc := match x.omegas.head?, x.omegas.getLast? with
    | some (w0, t0), some (w1, t1) => fdiv (fabs (fsub w1 w0)) (fRat (t1 - t0 : Nat) 1000000000000)
    | _, _ => 0
  let a := fgt j 0 && x.omegas.length == 9 && decide (x.enabledAt + ms 20 ≤ m.ns) && fgt acc amax
  let fast := m.obsValid s
  let out := fast && !x.building && !m.fluxIn s
  let fluxOut := if out then some (x.fluxOut.getD m.ns) else none
  let b : Bool := match fluxOut with | some t => fgt (fRat (m.ns - t : Nat) 1000000) (m.r (Key.losFluxTime k)) | none => false
  let res := if shadow then x.resCount
    else if fgt resid (fPercent (m.r (Key.losResidualLimit k)) (m.r (Key.machineRatedCurrent k))) then x.resCount + 1 else 0
  let c := !shadow && decide (m.n (Key.losResidualCount k) ≤ res)
  let dis := match m.piOf s with
    | some i => wrapDiff (fsub (wrapDeg (fadd (fmul m.pos[i].angle (m.poles s)) (m.r (Key.obsEncoderOffset k)))) x.obsTheta)
    | none => 0
  let ang := if m.encValid s && fast && fgt (fabs dis) (m.r (Key.losAngleLimit k)) then x.angCount + 1 else 0
  let m := (m.putR (Key.obsAngleDisagreement s.1) dis).modMc s (fun x => { x with fluxOut := fluxOut, resCount := res, angCount := ang })
  (m, if a then some 1 else if b then some 2 else if c then some 3 else if 2 ≤ ang then some 4 else none)

/-- Reacquisition at a computation (R171): a valid observer for 20 ms. -/
def losReacquire (s : Fin 2) (m : Mach) : Mach :=
  let x := m.mc[s]
  let ok := m.obsValid s && flt (fabs x.obsPhase) (fRat 5 1) && m.fluxIn s
  if !ok then m.modMc s (fun x => { x with obsSince := none })
  else
    let since := x.obsSince.getD m.ns
    if since + ms 20 ≤ m.ns then
      let m := m.modMc s (fun x => { x with
        losState := 0, byObserver := true, obsSince := none, resCount := 0, angCount := 0, fluxOut := none, omegas := [],
        ramp := some { from_ := 0, to_ := fOne, start := m.ns, dur := ms (m.n (Key.losTorqueRestoreTime (m.machSet s))) } })
      raiseS 0x1F s 0xFF m
    else m.modMc s (fun x => { x with obsSince := some since })

/-- A set leaves active short circuit at a computation (R173), and its brakes are applied, with a deferred STO where one waits (R262,
R282). -/
def ascLeave (p : Fin 2) (m : Mach) : Mach :=
  if m.gate[p].asc.isNone ∨ !m.ascExit (m.dataSet p) then m else
  let m := stopPulses p false (m.modMc p (fun x => { x with losState := 3 }))
  let d := m.driveOf p
  let m := if (m.drives[d].st = .off ∨ m.drives[d].st = .locked) ∧ !m.safety.sto.deferred then brakesApply d m else m
  if m.safety.sto.deferred then m else stoIfUnused m

/-- The uncontrolled-generation condition of a computation (R172, R173), on every set of the machine. -/
def generationCheck (s : Fin 2) (m : Mach) : Mach :=
  let g := m.generates s (m.genOmega s)
  m.each (m.setsWith s) (fun p m =>
    let m := m.modSafety (fun x => { x with ascReq := x.ascReq.set p.1 g p.2 })
    let m := ascLeave p m
    if g ∧ m.mc[p].losState = 3 ∧ m.gate[p].asc.isNone then raiseS 0x21 p 0xFF (m.modMc p (fun x => { x with losState := 2 })) else m)

/-! ### The computation of a set (R149) -/

/-- The factor of the torque limits while they ramp (R171, R179); 0 while an induction machine builds its flux. -/
def Mach.limitFactor (m : Mach) (s : Fin 2) : F32 :=
  if m.mc[s].building then 0 else match m.mc[s].ramp with | some f => f.at_ m.ns | none => fOne

/-- The torque reference between its limits: motoring where torque and speed have one sign, regeneration otherwise (R149 step 3). -/
def Mach.torqueIn (m : Mach) (s : Fin 2) (t : F32) : F32 :=
  let same := fSign t == fSign m.mc[s].omega || fIsZero m.mc[s].omega
  let lim := m.sig (base s + (if same then 0x11 else 0x12))
  fclamp (fneg lim) lim t

/-- Slot histories as a catch presets them (R179): no error, and an output history. -/
def presetHistory (i : Option (Fin 32)) (y : F32) (m : Mach) : Mach :=
  match i with
  | none => m
  | some i => m.modSlot i (fun x => { x with e := [0, 0, 0], y := [y, y, y] })
/-- A history that makes the slot's output a value: that value less the feed-forward of the computation (R179). -/
def presetSlot (i : Option (Fin 32)) (out : F32) (m : Mach) : Mach :=
  match i with
  | none => m
  | some j => presetHistory i (fsub out (fmul (m.r (Key.slotFfGain j.1)) (m.src (m.n (Key.slotFfSource j.1))))) m

/-- The roles of a set (R148). -/
def Mach.roles (m : Mach) (s : Fin 2) : List Nat :=
  (roleKeys s.1).filterMap (fun k => if m.n k = 0xFF then none else some (m.n k))

/-- A role's slot computed with its own sources where it is due; its output, zero without one. -/
def roleGeneric (i : Option (Fin 32)) (count : Nat) (m : Mach) : Mach := match i with | some i => slotGeneric i count m | none => m
/-- A role's slot computed with r and m from the structure. -/
def roleWith (i : Option (Fin 32)) (count : Nat) (r mm : F32) (m : Mach) : Mach :=
  match i with
  | some i => if m.slotDue i count then (let l := m.slotLimits i; slotCompute i r mm l.1 l.2 m) else m
  | none => m
/-- Output of a role's slot. -/
def Mach.roleOut (m : Mach) (i : Option (Fin 32)) : F32 := match i with | some i => m.slots[i].out | none => 0

/-- The currents of a machine in dq, with the x/y ones of a dual machine (R149 step 1, R161, R162), and each set's own signals;
set 0's i_d and i_q are those of a dual machine. -/
def formCurrents (s : Fin 2) (m : Mach) : Mach :=
  let cur := fun (m : Mach) (p : Fin 2) (k : Nat) => m.sense[p].inputs[(if k = 0 then 0 else if k = 1 then 1 else 2 : Fin 6)].value
  let m := m.each (m.setsWith s) (fun p m =>
    let i := park (m.frame p) (cur m p)
    let m := (m.modSense p (fun x => { x with own := i })).setSig (base p + 6) (m.udcNorm p)
    let m := ((m.setSig (base p) i.1).setSig (base p + 1) i.2).setSig (base p + 8) (m.frame p)
    m.each [0, 1, 2] (fun k m => m.setSig (base p + 0x0D + k) (cur m p k)))
  let m := m.each (m.setsWith s) (fun p m => m.setSig (base p + 7) m.mc[s].omega)
  if !m.dual then m.modMc s (fun x => { x with idEst := m.sig (base s), iqEst := m.sig (base s + 1) })
  else
    let th := m.mc[0].theta
    let limp := m.drives[0].limp
    let dq0 := (m.sig 0x0200, m.sig 0x0201)
    let dq1 := (m.sig 0x0300, m.sig 0x0301)
    let half := fRat 1 2
    let mean := (fmul half (fadd dq0.1 dq1.1), fmul half (fadd dq0.2 dq1.2))
    let dif := (fmul half (fsub dq0.1 dq1.1), fmul half (fsub dq0.2 dq1.2))
    let six := fun (q : Nat) (f : F32 → F32) => fmul (fRat 1 3) (fsum (((List.range 3).map (fun k => fmul (cur m 0 k) (f (fRat (120 * k * q) 1)))) ++
      ((List.range 3).map (fun k => fmul (cur m 1 k) (f (fRat ((30 + 120 * k) * q) 1))))))
    let dq := match limp with
      | some h => if h = 0 then dq0 else dq1
      | none => if m.topo = 1 then mean else turn (fneg th) (six 1 Config.cosDeg, six 1 Config.sinDeg)
    let xy := if m.topo = 1 then dif else turn th (six 5 Config.cosDeg, six 5 Config.sinDeg)
    ((((m.setSig 0x0200 dq.1).setSig 0x0201 dq.2).setSig 0x0213 xy.1).setSig 0x0214 xy.2).modMc 0 (fun x => { x with idEst := dq.1, iqEst := dq.2 })

/-- The voltage limits of a set (R111, R153, R163, R209). -/
def Mach.circle (m : Mach) (s : Fin 2) : F32 :=
  if !m.dual then m.uMaxOf s (m.udcNorm s)
  else match m.drives[0].limp with
    | some h => m.uMaxOf 0 (m.udcNorm h)
    | none => fmul (fsub fOne (fdiv (m.r Key.xyVoltageShare) (fRat 100 1))) (m.uMaxOf 0 (fmin (m.udcNorm 0) (m.udcNorm 1)))

/-- The share s₀ of set 0 (R206). -/
def Mach.share0 (m : Mach) : F32 :=
  let sum := fadd m.grove.refs[0] m.grove.refs[1]
  if (m.follows || m.leads) ∧ !fIsZero sum then fdiv m.grove.refs[0] sum else fdiv (m.r (Key.shareWeight0 0)) (fRat 100 1)

/-- Steps 2 to 7: references and slots, up to the voltages in dq (R149 to R152, R163, R179). -/
def controlSteps (s : Fin 2) (count : Nat) (m : Mach) : Mach :=
  let k := m.machSet s
  let fw := m.slotIn (Key.roleFieldWeakening s.1)
  let fl := if m.isPm s then none else m.slotIn (Key.roleFlux s.1)
  let sd := m.slotIn (Key.roleCurrentD s.1)
  let sq := m.slotIn (Key.roleCurrentQ s.1)
  let x := m.mc[s]
  let caught := x.catching
  let umax := m.circle s
  let m := m.setSig (base s + 0x0B) umax
  let m := if caught then
      let ut := m.terminalVector s x.theta
      let dc := m.decoupling s (0, 0) (m.sig (base s), m.sig (base s + 1))
      let m := (m.setSig (base s + 9) dc.1).setSig (base s + 0x0A) dc.2
      let dpsi := fneg (fdiv (fsub (m.r (Key.machinePsiPM k)) (fdiv umax (fabs x.omega))) (m.r (Key.machineLd k)))
      let m := if m.isPm s ∧ flt dpsi 0 then presetHistory fw dpsi m else m
      presetSlot (m.slotIn (Key.roleSpeed (m.driveOf s).1)) 0 (presetSlot sq ut.2 (presetSlot sd ut.1 m))
    else m
  -- step 2
  let prev := mag (m.sig (base s + 4), m.sig (base s + 5))
  let m := roleWith fw count (fmul (m.r (Key.fwVoltageRatio s.1)) umax) prev m
  let dw := m.roleOut fw
  -- step 3
  let lf := m.limitFactor s
  let m := (m.setSig (base s + 0x11) (fmul lf x.mot)).setSig (base s + 0x12) (fmul lf x.reg)
  let m := echoTick 2 (base s + 0x10) m
  let t := m.torqueIn s (m.injectAt 2 (base s + 0x10) (if x.losState = 1 then 0 else x.tref))
  let m := m.setSig (base s + 0x10) t
  -- step 4
  let psiN := m.r (Key.machineNominalFlux k)
  let ramp := match x.fluxRamp with | some f => f.at_ m.ns | none => fOne
  let psiRef := fmul ramp (fmax (m.fluxFloor k) (fadd psiN dw))
  let m := if x.losState = 1 then m else roleWith fl count psiRef x.psiR m
  let refs := m.currentRefs s t dw (m.roleOut fl)
  let refs :=
    if x.losState = 1 then (if m.isPm s then ((0 : F32), (0 : F32)) else (m.sig (base s + 2), 0))
    else if caught then (0, 0)
    else if x.polarity = 1 then (fPercent (fRat 50 1) (m.r (Key.machineRatedCurrent k)), 0)
    else if x.polarity = 2 then (fneg (fPercent (fRat 50 1) (m.r (Key.machineRatedCurrent k))), 0)
    else if x.source = 3 then (0, fPercent (m.r (Key.obsIfCurrent k)) (m.r (Key.machineRatedCurrent k)))
    else refs
  let m := echoTick 2 (base s + 3) (echoTick 2 (base s + 2) m)
  let refs := (m.injectAt 2 (base s + 2) refs.1, m.injectAt 2 (base s + 3) refs.2)
  -- step 5
  let lim := fmul x.curScale (m.r (Key.machineCurrentLimit k))
  -- an unequal share makes one set of a dual machine carry more than the machine's own currents (R206, R207)
  let lim := if m.dual ∧ m.drives[0].limp.isNone then fdiv lim (fmul (fRat 2 1) (fmax m.share0 (fsub fOne m.share0))) else lim
  let refs := limitCurrents lim refs
  let m := (m.setSig (base s + 2) refs.1).setSig (base s + 3) refs.2
  -- step 6
  let dc := m.decoupling s refs (x.idEst, x.iqEst)
  let m := (m.setSig (base s + 9) dc.1).setSig (base s + 0x0A) dc.2
  let m := roleGeneric sd count m
  let ud := m.roleOut sd
  let m := (m.setSig (base s + 4) ud).setSig (base s + 0x0C) (fsqrt (fmax 0 (fsub (fmul umax umax) (fmul ud ud))))
  let m := roleGeneric sq count m
  let m := m.setSig (base s + 5) (m.roleOut sq)
  -- step 7
  if !m.dual then m else
  let xs := m.slotIn (Key.roleCurrentX 0)
  let ys := m.slotIn (Key.roleCurrentY 0)
  if m.drives[0].limp.isSome then m.each [xs, ys] (fun i m => match i with | some i => m.modSlot i (fun _ => {}) | none => m) else
  let dsh := fsub (fmul (fRat 2 1) m.share0) fOne
  -- set 1's own references and decoupling terms in its own frame (R161; log entry 109)
  let own1 := fun (r : F32) => fmul r (fsub fOne dsh)
  let ref1 := (own1 refs.1, own1 refs.2)
  let dc1 := m.decoupling 0 ref1 (m.sig 0x0300, m.sig 0x0301)
  let m := (((m.setSig 0x0302 ref1.1).setSig 0x0303 ref1.2).setSig 0x0309 dc1.1).setSig 0x030A dc1.2
  let ux := fmul (fdiv (m.r Key.xyVoltageShare) (fRat 100 1)) (m.uMaxOf 0 (fmin (m.udcNorm 0) (m.udcNorm 1)))
  let m := m.setSig 0x030B ux
  let m := roleWith xs count (fmul dsh refs.1) (m.sig 0x0213) m
  let u := m.roleOut xs
  let m := m.setSig 0x030C (fsqrt (fmax 0 (fsub (fmul ux ux) (fmul u u))))
  roleWith ys count (fmul dsh refs.2) (m.sig 0x0214) m

/-- The angle of the inverse transform for a physical set (R119, R120, R164): one stamp, set 0's in topologies 1 and 2, whose three
least significant bits are cleared in stepping A1; the set's own tail and advance entries. -/
def angleOut (p : Fin 2) (rec_ : SampleRec) (m : Mach) : Mach × F32 :=
  let x := m.mc[m.dataSet p]
  let st := rec_.data.stamp / 1000 / 8 * 8
  let m := m.modEng p (fun e => { e with stamp := st })
  if !m.b (Key.engineAdvanceEnable p.1) then (m.putR (Key.engineAdvanceAngle p.1) 0, x.theta) else
  let ns : Int := ((st : Int) - (rec_.at_ / 1000 : Nat)) + m.eng[p].tail + toSigned 32 (m.n (Key.engineAdvanceTrim p.1))
  let tp := fdiv (fRat 1 2) (m.r (Key.actualFrequency p.1))
  let adv := radToDeg (fmul x.omega (fadd (fRat ns 1000000000) tp))
  (m.putR (Key.engineAdvanceAngle p.1) adv, wrapDeg (fadd x.theta adv))

/-- Step 8: the voltages of every phase become duties (R153, R155, R161 to R163, R167), and the duty tokens are due, U, V, W of set 0
before those of set 1, for the half-period the sample opens (R57, R164). -/
def outputSteps (s : Fin 2) (rec_ : SampleRec) (m : Mach) : Mach :=
  let slotOf := fun (p : Fin 2) => rec_.peak != (p != s && m.r (Key.carrierPhase 1) == fRat 180 1)
  let m := m.modEng s (fun e => { e with expect := (m.setsWith s).flatMap (fun p => three.map (fun l => (p, l, slotOf p))) })
  let (m, th) := angleOut s rec_ m
  let (m, th1) := if m.dual then angleOut 1 rec_ m else (m, th)
  let x := m.mc[s]
  let hfi := x.source == 2 && m.isPm s
  let inj := if hfi then fPercent (m.r (Key.obsHfiVoltage (m.machSet s))) (m.udcNorm s) else 0
  let m := m.modMc s (fun x => { x with hfiSign := if hfi then !x.hfiSign else x.hfiSign })
  let u0 : F32 × F32 := (m.sig (base s + 4), m.sig (base s + 5))
  let full : F32 × F32 := (if hfi then (if x.hfiSign then fsub u0.1 inj else fadd u0.1 inj) else u0.1, u0.2)
  let u := radial (m.circle s) full
  -- the largest amplitude of a set of a dual machine (R153, R163)
  let most := fun (p : Fin 2) => m.uMaxOf 0 (m.udcNorm p)
  let ownU := fun (p : Fin 2) (v : F32 × F32) (m : Mach) => m.modSense p (fun x => { x with ownU := v })
  if !m.dual then modulate s (mag u) (unpark th u) (ownU s u0 m)
  else match m.drives[0].limp with
    | some h => ownU h u0 <| modulate h (mag u) (unpark (if h = 0 then th else if m.topo = 2 then fsub th1 (fRat 30 1) else th1) u) m
    | none =>
      let xy : F32 × F32 := (m.roleOut (m.slotIn (Key.roleCurrentX 0)), m.roleOut (m.slotIn (Key.roleCurrentY 0)))
      if m.topo = 1 then
        let a := radial (most 0) (fadd full.1 xy.1, fadd full.2 xy.2)
        let b := radial (most 1) (fsub full.1 xy.1, fsub full.2 xy.2)
        let m := ownU 0 a (ownU 1 b ((m.setSig 0x0304 b.1).setSig 0x0305 b.2))
        modulate 1 (mag b) (unpark th1 b) (modulate 0 (mag a) (unpark th a) m)
      else
        let v := fun (k0 : Nat) (k : Nat) =>
          let t := if k0 = 0 then th else th1
          let ab := turn t full
          let x0 := turn (fneg t) xy
          let a := fRat (k0 + 120 * k) 1
          let a5 := fRat (5 * (k0 + 120 * k)) 1
          fadd (fadd (fmul ab.1 (Config.cosDeg a)) (fmul ab.2 (Config.sinDeg a)))
               (fadd (fmul x0.1 (Config.cosDeg a5)) (fmul x0.2 (Config.sinDeg a5)))
        let a := radial (most 0) (park th (v 0))
        let b := radial (most 1) (park (fsub th1 (fRat 30 1)) (v 30))
        let m := ownU 0 a (ownU 1 b ((m.setSig 0x0304 b.1).setSig 0x0305 b.2))
        modulate 1 (mag b) (unpark (fsub th1 (fRat 30 1)) b) (modulate 0 (mag a) (unpark th a) m)

/-- The voltage vector applied to a machine over an interval, in the stationary frame (R85, R161, R162): a dual machine's is the mean of
its sets', set 1 of topology 2 at 30°. -/
def Mach.statorVolts (m : Mach) (s : Fin 2) (t0 t1 : Time) : F32 × F32 :=
  let ps := m.setsUsed s
  let of := fun (p : Fin 2) =>
    if m.legsOff p t0 t1 then ((0 : F32), (0 : F32))
    else turn (if m.topo = 2 ∧ p = 1 then fRat 30 1 else 0) (park 0 (m.meanVolts p (m.udc p) t0 t1))
  let n := fNat (max 1 ps.length)
  (fdiv (fsum (ps.map (fun p => (of p).1))) n, fdiv (fsum (ps.map (fun p => (of p).2))) n)

/-- The flux models of an induction machine, stepped from the computation before to the sample instant (R126, R147, R169): the current
model in its rotor-flux frame, the stator flux from u − R_s i with a 0.5 Hz high-pass, and their blend; sensorless, the speed is the
derivative of the voltage model's angle less the slip. Step 9 predicts the angle for the next instant, one such interval on at the
stator frequency (R149); while a catch builds the flux its angle runs at the caught speed (R179). -/
def fluxModels (s : Fin 2) (t0 ts : Time) (m : Mach) : Mach :=
  let k := m.machSet s
  let x := m.mc[s]
  let dt := fRat (ts - t0 : Nat) 1000000000000
  let lm := m.r (Key.machineLm k)
  let lr := m.r (Key.machineLr k)
  let tau := fdiv lr (m.r (Key.machineRr k))
  let i := turn x.theta (x.idEst, x.iqEst)
  let i0 := x.alphaBeta
  let ic := turn (fneg x.cmTheta) i0
  let ws := m.statorSpeed s ic.2 x.cmPsi
  let cmPsi := fadd x.cmPsi (fmul dt (fdiv (fsub (fmul lm ic.1) x.cmPsi) tau))
  let cmTheta := wrapDeg (fadd x.cmTheta (radToDeg (fmul ws dt)))
  let u := m.statorVolts s t0 ts
  let hp := fmul fPi x.psiS.1
  let hq := fmul fPi x.psiS.2
  let rs := m.r (Key.machineRs k)
  let ps := (fadd x.psiS.1 (fmul dt (fsub (fsub u.1 (fmul rs i0.1)) hp)), fadd x.psiS.2 (fmul dt (fsub (fsub u.2 (fmul rs i0.2)) hq)))
  let sl := m.sigmaLs k
  let g := fdiv lr lm
  let vm := (fmul g (fsub ps.1 (fmul sl i.1)), fmul g (fsub ps.2 (fmul sl i.2)))
  let vmTheta := wrapDeg (Config.atan2Deg vm.2 vm.1)
  let w := m.blend s
  let cv := turn cmTheta (cmPsi, 0)
  let mix := fun (a b : F32) => fadd (fmul (fsub fOne w) a) (fmul w b)
  let v := (mix cv.1 vm.1, mix cv.2 vm.2)
  let psi := mag v
  let th := wrapDeg (Config.atan2Deg v.2 v.1)
  let iq := (turn (fneg th) i).2
  let slip := m.slipAt k iq psi
  let om := fsub (fdiv (fdiv (fmul (wrapDiff (fsub vmTheta x.vmTheta)) fPi) (fRat 180 1)) dt) slip
  m.modMc s (fun x => { x with
    cmPsi := cmPsi, cmTheta := cmTheta, psiS := ps, vmTheta := vmTheta, psiR := psi, obsFlux := psi, obsPhase := 0, obsOmega := om,
    alphaBeta := i,
    obsTheta := wrapDeg (fadd (if x.catchW.isSome then cmTheta else th) (radToDeg (fmul (m.statorSpeed s iq psi) dt))) })

/-- The observer of a PM machine (R166, R167): its structure and gains are the firmware's, so its angle, speed, flux and phase error
are free values (log entry 3); on a model shadow it propagates without correction (R87). -/
def pmObserver (s : Fin 2) (t0 ts : Time) (shadow : Bool) (m : Mach) : Mach :=
  if shadow then
    m.modMc s (fun x => { x with obsTheta := wrapDeg (fadd x.obsTheta (radToDeg (fmul x.obsOmega (fRat (ts - t0 : Nat) 1000000000000)))) })
  else
    let a := m.freeNow
    let m := m.drew
    let b := m.freeNow
    m.drew.modMc s (fun x => { x with
      obsTheta := a.extractLsb' 0 32, obsOmega := a.extractLsb' 32 32, obsFlux := b.extractLsb' 0 32, obsPhase := b.extractLsb' 32 32,
      psiR := 0 })

/-- The observer's update (R165, R166, R169), with what else step 9 brings up to date: the speeds of criterion (a), the torque estimate,
the flux build and the torque-limit ramp of a catch (R179), the peaks of the polarity pulses (R167). -/
def observerUpdate (s : Fin 2) (t0 ts : Time) (shadow : Bool) (m : Mach) : Mach :=
  let m := if m.isPm s then pmObserver s t0 ts shadow m else fluxModels s t0 ts m
  let m := m.modMc s (fun x =>
    let building := x.building && flt x.psiR (fmul (fRat 9 10) (m.fluxRef s))
    { x with
      omegas := (x.omegas ++ [(x.omega, ts)]).drop (x.omegas.length - 8), torque := Config.torqueEstimate m.live s.1 x.idEst x.iqEst x.obsFlux,
      building := building, catchW := if building then x.catchW else none,
      -- the limits ramp once the flux is built
      ramp := if x.building then x.ramp.map (fun f => { f with start := m.ns })
        else if (match x.ramp with | some f => f.over_ m.ns | none => false) then none else x.ramp,
      catching := false,
      peak1 := if x.polarity = 1 then fmax x.peak1 (fabs x.idEst) else x.peak1,
      peak2 := if x.polarity = 2 then fmax x.peak2 (fabs x.idEst) else x.peak2 })
  let x := m.mc[s]
  (m.putR (Key.obsObserverSpeed s.1) (fdiv (radToRpm x.obsOmega) (m.poles s))).putR (Key.obsFluxEstimate s.1) x.obsFlux

/-- The neutral-point deviation and its persistence (R159, R160). -/
def npTrack (m : Mach) : Mach :=
  if !m.npc then m else
  let dev := fsub m.sense[0].inputs[3].value m.sense[1].inputs[3].value
  let hot := fgt (fabs dev) (fPercent (m.r (Key.modNpDeviationLimit 0)) (m.udc 0))
  let m := (m.putR (Key.modNpDeviation 0) dev).modSense 0 (fun x => { x with npSince := if hot then some (x.npSince.getD m.ns) else none })
  if hot then m else m.causeGone 0x23 (some 0) none 0xFF

/-- The computation of one sample of a set (R149). A dual machine is computed while either of its sets has its pulses (R164). -/
def computeSample (s : Fin 2) (rec_ : SampleRec) (m : Mach) : Mach :=
  let t0 := m.eng[s].lastComputed
  let ts := rec_.at_
  let pre := m.predicted s t0 ts
  let own : Vector (F32 × F32) 2 := Vector.ofFn (fun p => m.predict p t0 ts)
  let m := angleInUse s t0 ts (catchPreset s t0 ts m)
  let m := if m.npc then formValues 1 (0, 0) ts m else m
  let m := npTrack (m.each (m.setsWith s) (fun p m => formValues p own[p] ts m))
  let shadow := (m.setsUsed s).any m.modelShadow
  let m := if (m.setsUsed s).any (fun p => ([0, 1, 2, 3] : List (Fin 6)).any (fun n => m.sense[p].inputs[n].shadow != 0)) then echoFlag 1 m else m
  let m := formCurrents s m
  let m := m.modMc s (fun x => { x with idPred := pre.1, iqPred := pre.2 })
  let runs := (m.setsWith s).any (fun p => m.gate[p].pulses) && m.configured s && !m.directMode s
  let m := if runs then outputSteps s rec_ (controlSteps s rec_.count m) else m
  let x := m.mc[s]
  let resid := mag (fsub x.idEst x.idPred, fsub x.iqEst x.iqPred)
  let m := (observerUpdate s t0 ts shadow m).each (m.setsWith s) (fun p m => foldPoles p ts m)
  let m :=
    if !runs then m
    else if m.mc[s].losState = 1 then losReacquire s m
    else if m.mc[s].losState = 0 then
      let (m, c) := losJudge s resid shadow m
      match c with | some c => losDeclare s c m | none => m
    else m
  let m := generationCheck s m
  let m := slotsRest s.1 rec_.count (m.roles s) m
  captureComp (.ctl s) (echoComp (m.modEng s (fun e => { e with samples := e.samples + 1 })))

/-! ### The sample queue (R122 to R126) -/

/-- A sample is started, with the live bank of its instant (R68). -/
def startSample (s : Fin 2) (rec_ : SampleRec) (m : Mach) : Mach :=
  withOld rec_.old (computeSample s rec_)
    (m.modEng s (fun e => { e with cur := some { rec_ with old := [] }, done := [], dropRun := 0, limitRaised := false }))

/-- SAMPLE_ARRIVAL (R83, R85, R96, R123, R124): the front end's results enter the inputs and position interfaces, then the sample
its queue. Set 1 has no queue of its own in topologies 1 to 3 (R143, R164). -/
def sampleArrivalEff (s : Fin 2) (smp : Sample) : Mach → Mach := whenLanes (fun m =>
  if s = 1 ∧ m.topo ≠ 0 then m else
  let ts := m.eng[s].lastSample
  let m := takeWindows s ts smp.bits m
  let m := if m.topo ≠ 0 then takeWindows 1 ts smp.bits1 m else m
  let m := m.each (two.filter (fun i => m.piSet i == s || m.dual)) (fun i m => latchPos i ts smp m)
  let rec_ : SampleRec := { at_ := ts, data := smp, count := m.doms[domIx (.ctl s)].count, peak := m.eng[s].lastPeak, old := m.eng[s].since }
  match m.eng[s].cur, m.eng[s].queued with
  | none, _ => startSample s rec_ m
  | some _, none => m.modEng s (fun e => { e with queued := some rec_ })
  | some _, some _ =>
    let m := echoFlag 2 ((m.inc (Key.engineOverrunCount s.1)).modEng s (fun e => { e with queued := some rec_, dropRun := e.dropRun + 1 }))
    if m.n (Key.engineDropLimit s.1) ≤ m.eng[s].dropRun ∧ !m.eng[s].limitRaised then
      raiseS 0x19 s 0xFF (m.modEng s (fun e => { e with limitRaised := true }))
    else m)

/-- A lane's report of completion: one it still owes for an earlier sample counts for that one (R122). -/
def reportOf (l : Lane) (done owe : List Lane) : List Lane × List Lane :=
  if owe.contains l then (done, owe.erase l) else if done.contains l then (done, owe) else (done ++ [l], owe)

/-- COMPUTATION_COMPLETE (R122, R123). -/
def computationCompleteEff (s : Fin 2) (l : Lane) : Mach → Mach := whenLanes (fun m =>
  if !m.laneActive l then m else
  let e := m.eng[s]
  match e.cur with
  | none => m.modEng s (fun e => { e with owe := e.owe.erase l })
  | some r =>
    let (done, owe) := reportOf l e.done e.owe
    if done.length < 2 then m.modEng s (fun e => { e with done := done, owe := owe })
    else
      let late := m.activeLanes.filter (fun l => !done.contains l)
      let m := m.modEng s (fun e => { e with
        cur := none, queued := none, done := [], owe := owe ++ late, lastComputed := r.at_ })
      let m := latchFrozen s.1 m
      match e.queued with
      | none => m
      | some q => startSample s q m)

end Sys2Proof.Machine
end

