-- ==== Sys2Proof/Machine/Outer.lean ====
section
/-! DEFINITION. The outer loops: winch geometry and tension (R197, R198), references and ramps (R190 to R194, R202, R204), torque
limits (R193, R195, R199 to R201, R209, R213, R215, R432), shock (R200), power (R196), the chopper (R216), the share of a torque
reference among sets and members (R206, R339, R340), the outer queue (R122), and the commands of the drive modes. -/

namespace Sys2Proof.Machine

/-- 2π. -/
def twoPi : F32 := fmul (fRat 2 1) fPi

/-! ### Winch geometry (R197) -/

/-- The layer at a number of wraps (R197); at no wraps and below, of which the rule says nothing, the first one (DESIGN CHOICE, log entry
123). -/
def Mach.layerAt (m : Mach) (d : Fin 2) (w : F32) : Nat :=
  if fgt w 0 then (fFloor (fdiv w (fNat (m.n (Key.winchWrapsPerLayer d.1))))).toNat + 1 else 1
/-- The effective radius of a layer, m. -/
def Mach.radiusOf (m : Mach) (d : Fin 2) (k : Nat) : F32 :=
  fdiv (fadd (m.r (Key.winchDrumCoreDiameter d.1)) (fmul (fNat (2 * k - 1)) (m.r (Key.winchRopeDiameter d.1)))) (fRat 2 1)
/-- r_eff as last formed. -/
def Mach.rEff (m : Mach) (d : Fin 2) : F32 := m.r (Key.winchEffectiveRadius d.1)
/-- Rope wound on the layers up to `n` between two wrap counts, m. -/
def Mach.ropeBetween (m : Mach) (d : Fin 2) (a b : F32) : Nat → F32
  | 0 => 0
  | k + 1 =>
    let wpl := fNat (m.n (Key.winchWrapsPerLayer d.1))
    let lo := fmax a (fmul (fNat k) wpl)
    let hi := fmin b (fmul (fNat (k + 1)) wpl)
    fadd (m.ropeBetween d a b k) (if fgt hi lo then fmul (fmul twoPi (m.radiusOf d (k + 1))) (fsub hi lo) else 0)

/-- Payout length: the rope unwound since payout 0, each wrap at its layer (R197). -/
def Mach.payoutOf (m : Mach) (d : Fin 2) (w : F32) : F32 :=
  let full := m.r (Key.winchWrapsFull d.1)
  if fle w full then m.ropeBetween d w full (m.layerAt d full) else fneg (m.ropeBetween d full w (m.layerAt d w))

/-- W follows the drum, hauling in being forward (R11, R197), with the layer, radius and payout length. -/
def geometry (d : Fin 2) (m : Mach) : Mach :=
  if m.n (Key.application d.1) ≠ 1 then m else
  let t := m.motorTurns d
  let w := m.wrapsAt d t
  let k := m.layerAt d w
  let m := m.modDrive d (fun x => { x with wraps := w, turnsAt := t })
  let m := (m.putN (Key.winchLayer d.1) k).putR (Key.winchEffectiveRadius d.1) (m.radiusOf d k)
  m.putR (Key.winchPayoutLength d.1) (m.payoutOf d w)

/-- WRAPS_SET (R197). -/
def wrapsSetEff (d : Fin 2) (w : F32) (m : Mach) : Mach :=
  if !m.driveExists d then m else
  let m := (m.modDrive d (fun x => { x with wraps := w, turnsAt := m.motorTurns d })).putB (Key.winchPayoutValid d.1) true
  causesGone (fun a => a.ev == 0x28 && a.drv == some d) m

/-- Rope speed in m/s as motor speed in rpm. -/
def Mach.toRpm (m : Mach) (d : Fin 2) (v : F32) : F32 :=
  fdiv (fmul (fmul v (fRat 60 1)) (m.r (Key.winchGearRatio d.1))) (fmul twoPi (m.rEff d))
/-- Motor speed in rpm as rope speed in m/s. -/
def Mach.toRope (m : Mach) (d : Fin 2) (n : F32) : F32 :=
  fdiv (fmul (fmul n twoPi) (m.rEff d)) (fmul (fRat 60 1) (m.r (Key.winchGearRatio d.1)))

/-! ### Tension and shock (R198, R200) -/

/-- The friction term of the speed feed-forward at a speed (R117, R198). -/
def Mach.friction (m : Mach) (n : F32) : F32 :=
  fmul (m.r Key.speedFfCoulombTorque) (fclamp (fneg fOne) fOne (fdiv n (m.r Key.speedFfFrictionBand)))
/-- The viscous term. -/
def Mach.viscous (m : Mach) (n : F32) : F32 := fmul (m.r Key.speedFfViscousCoeff) n

/-- Measured tension, kN (R198). -/
def measureTension (d : Fin 2) (n alpha : F32) (m : Mach) : Mach :=
  if m.n (Key.application d.1) ≠ 1 then m else
  let f := if m.n (Key.tensionSource d.1) = 1 then m.ain[ain8 (m.n (Key.tensionAin d.1))].value
    else
      let t := fsub (fsub (fsub (m.driveTorque d) (fmul (m.r Key.speedFfInertia) alpha)) (m.friction n)) (m.viscous n)
      fdiv (fmul (fdiv (m.r (Key.winchGearRatio d.1)) (m.rEff d)) t) (fRat 1000 1)
  m.putR (Key.tensionMeasured d.1) f

/-- The shock factor s in force (R200). -/
def Drive.shockNow (x : Drive) (ns : Nat) : F32 := match x.shockRec with | some f => f.at_ ns | none => x.shock

/-- Shock detection at an outer computation (R200). -/
def shockDetect (d : Fin 2) (m : Mach) : Mach :=
  let x := m.drives[d]
  let win := ms (m.n (Key.tensionShockWindow d.1))
  let f := m.r (Key.tensionMeasured d.1)
  let old := x.tensionHist.filter (fun p => p.1 + win ≤ m.ns)
  let keep := (match old.getLast? with | some p => [p] | none => []) ++ x.tensionHist.filter (fun p => m.ns < p.1 + win)
  let m := m.modDrive d (fun x => { x with tensionHist := keep ++ [(m.ns, f)] })
  if m.n (Key.application d.1) ≠ 1 ∨ x.st = .quickRelease ∨ fIsZero (m.r (Key.tensionShockRate d.1)) then m else
  match old.getLast? with
  | none => m
  | some p =>
    let rate := fdiv (fsub f p.2) (fSeconds win)
    if fge rate (m.r (Key.tensionShockRate d.1)) ∧ fge f (fPercent (m.r (Key.tensionShockArmFraction d.1)) (m.r (Key.tensionRenderTension d.1))) then
      let s := if x.shockHold.isNone ∧ x.shockRec.isNone then m.r (Key.tensionShockTorqueFraction d.1) else x.shockNow m.ns
      raiseD 0x2A d (m.modDrive d (fun x => { x with
        shock := s, shockRec := none, shockHold := some (m.ns + ms (m.n (Key.tensionShockHoldTime d.1))) }))
    else m

/-- SHOCK_HOLD_END (R200). -/
def shockHoldEndEff (d : Fin 2) : Mach → Mach := whenLanes (fun m =>
  if due m m.drives[d].shockHold then
    m.modDrive d (fun x => { x with
      shockHold := none, shockRec := some { from_ := x.shock, to_ := fOne, start := m.ns, dur := ms (m.n (Key.tensionShockRecoverTime d.1)) } })
  else m)
/-- SHOCK_RECOVERY_END (R200). -/
def shockRecoveryEndEff (d : Fin 2) : Mach → Mach := whenLanes (fun m =>
  match m.drives[d].shockRec with
  | some f => if f.over_ m.ns then m.modDrive d (fun x => { x with shockRec := none, shock := fOne }) else m
  | none => m)

/-! ### References (R190 to R194) -/

/-- The lever pair of a drive. -/
def Mach.leverPair (m : Mach) (d : Fin 2) : Fin 4 := ⟨m.n (Key.refLeverPair d.1) / 2 % 4, Nat.mod_lt _ (by decide)⟩

/-- The neutral rule's timer (R191). -/
def leverTrack (d : Fin 2) (m : Mach) : Mach :=
  let k := m.leverPair d
  let off := fmul (fabs (fsub (m.leverFraction k) (fRat 1 2))) (fRat 100 1)
  let near := m.byLever d && !m.pairs[k].invalid && fle off (m.r (Key.refNeutralBand d.1))
  m.modDrive d (fun x => { x with neutralSince := if near then some (x.neutralSince.getD m.ns) else none })

/-- LEVER_NEUTRAL_ACCEPTED (R191). -/
def leverNeutralAcceptedEff (d : Fin 2) : Mach → Mach := whenLanes (fun m =>
  match m.drives[d].neutralSince with
  | some t => if t + ms (m.n (Key.refNeutralTime d.1)) ≤ m.ns then m.modDrive d (fun x => { x with neutral := true }) else m
  | none => m)

/-- REFERENCE_TIMEOUT (R193). -/
def referenceTimeoutEff (d : Fin 2) : Mach → Mach := whenLanes (fun m =>
  let t := m.n (Key.refRefTimeout d.1)
  if m.driveExists d ∧ !m.byLever d ∧ t ≠ 0 ∧ m.drives[d].lastRef + ms t ≤ m.ns ∧ !m.drives[d].refTimeout then
    raiseD 0x26 d (m.modDrive d (fun x => { x with refTimeout := true }))
  else m)

/-- A timeout ends where its rule no longer applies: another source, or RefTimeout 0 (R193). -/
def refTrack (d : Fin 2) (m : Mach) : Mach :=
  if m.drives[d].refTimeout ∧ (m.byLever d ∨ m.n (Key.refRefTimeout d.1) = 0) then
    (m.modDrive d (fun x => { x with refTimeout := false })).causeGone 0x26 none (some d) 0xFF
  else m

/-- A winch whose lever pair is invalid, or waits for its neutral, stands at zero speed with its load held on torque, whatever the mode
(R191, R192; log entry 109); in heave compensation it is the operator's hoist speed that is zero. -/
def Mach.leverDown (m : Mach) (d : Fin 2) : Bool :=
  m.byLever d && m.n (Key.application d.1) == 1 && m.modeOf d != 4 && (m.pairs[m.leverPair d].invalid || !m.drives[d].neutral)

/-- NetReference written (R193): the timeout ends. -/
def netReferenceEff (d : Fin 2) (m : Mach) : Mach :=
  let m := m.modDrive d (fun x => { x with lastRef := m.ns, refTimeout := false })
  m.causeGone 0x26 none (some d) 0xFF

/-- The reference in the mode's unit (R190 to R193). -/
def Mach.reference (m : Mach) (d : Fin 2) : F32 :=
  let x := m.drives[d]
  if m.byLever d then
    if m.pairs[m.leverPair d].invalid ∨ !x.neutral then 0
    else fmul (fsub (fmul (fRat 2 1) (m.leverFraction (m.leverPair d))) fOne) (m.r (Key.refLeverFullScale d.1))
  else if x.refTimeout then 0 else m.r (Key.refNetReference d.1)

/-- A ramp step (R193): rising magnitudes at `up`, falling ones at `down`, both per second. -/
def rampTo (cur target up down : F32) (dt : F32) : F32 :=
  let falls := (fSign cur != fSign target && !fIsZero cur && !fIsZero target) || flt (fabs target) (fabs cur)
  let goal := if falls ∧ fSign cur ≠ fSign target ∧ !fIsZero target then 0 else target
  let st := fmul (if falls then down else up) dt
  if fle (fabs (fsub goal cur)) st then goal else if flt cur goal then fadd cur st else fsub cur st

/-! ### Torque limits (R193, R195, R199, R201, R209, R213, R215) -/

/-- Shade 4's factor (R432). -/
def Mach.shadeFactor (m : Mach) : F32 :=
  if 4 ≤ m.n Key.shadeLevel then fclamp 0 fOne (fdiv (fsub (fRat 150 1) (m.r Key.tempMainDieTj)) (fRat 10 1)) else fOne
/-- The tokens a device may use: none without a valid lease in a grove (R332, R335), and less what a release asks for (R196). -/
def Mach.tokens (m : Mach) : Nat :=
  if m.inGrove && m.grove.lapsed then 0
  else m.grove.holding - (match m.grove.release with | some r => if r.asked then r.amount else 0 | none => 0)
/-- Limp's factor on a drive's limits (R209). -/
def Mach.limpScale (m : Mach) (d : Fin 2) : F32 :=
  if m.drives[d].limp.isSome then fdiv (m.r (Key.limpTorqueLimit d.1)) (fRat 100 1) else fOne
/-- The sets that carry a drive's torque: the healthy one in limp. -/
def Mach.carrying (m : Mach) (d : Fin 2) : List (Fin 2) := match m.drives[d].limp with | some h => [h] | none => m.setsOf d
/-- The machines a drive's torque is divided over: a dual machine is one. -/
def Mach.motorSets (m : Mach) (d : Fin 2) : List (Fin 2) := if m.dual then [0] else m.carrying d
/-- The configured motoring limit of a drive (log entry 24). -/
def Mach.motoringCfg (m : Mach) (d : Fin 2) : F32 := fmul (m.limpScale d) (fsum ((m.motorSets d).map (fun s => Config.motoringLimit m.live s.1)))
/-- The configured regeneration limit of a drive (log entry 24). -/
def Mach.regenCfg (m : Mach) (d : Fin 2) : F32 := fmul (m.limpScale d) (fsum ((m.motorSets d).map (fun s => Config.regenerationLimit m.live s.1)))

/-- Power.Limit of a drive, W: the tokens in the ratio of the drives' configured motoring limits (R195). -/
def Mach.powerShare (m : Mach) (d : Fin 2) : F32 :=
  let p := fmul (fNat m.tokens) (fRat 1000 1)
  let ds := m.theDrives.filter m.driveConfigured
  if ds.length ≤ 1 then p else fdiv (fmul p (m.motoringCfg d)) (fsum (ds.map m.motoringCfg))

/-- The motoring limit of a drive at a mechanical speed (R195, R432). -/
def Mach.motoringNow (m : Mach) (d : Fin 2) (w : F32) : F32 :=
  let rated := rpmToRad (m.ratedSpeed d)
  fmul m.shadeFactor (fmin (m.motoringCfg d) (fdiv (m.powerShare d) (fmax (fabs w) (fmul (fRat 1 10) rated))))

/-- A role's slot of the outer loops computed with its r, m and live limits, its fixed limits clamping them (R185). -/
def outerRole (i : Option (Fin 32)) (count : Nat) (r mm hi lo : F32) (m : Mach) : Mach :=
  match i with
  | some i => if m.slotDue i count then
      slotCompute i r mm (fmin hi (m.r (Key.slotLimHigh i.1))) (fmax lo (m.r (Key.slotLimLow i.1))) m
    else m
  | none => m

/-- The regeneration limit of a drive (R215, R432): a thruster's also by its regeneration slot. -/
def regenNow (d : Fin 2) (count : Nat) (m : Mach) : Mach :=
  let cfg := m.regenCfg d
  let sl := m.slotIn (Key.roleRegeneration d.1)
  let m := outerRole sl count (m.r (Key.regenDcLimit 0)) (m.udc (m.firstSet d)) cfg 0 m
  let lim := if m.n (Key.application d.1) = 0 then
      fmul m.shadeFactor (if sl.isSome then fmin cfg (m.roleOut sl) else cfg)
    else cfg
  m.modDrive d (fun x => { x with regen := lim })

/-- The limits of the speed slot: high, low (R193), cut to the haul limit (R199, R201) or those of a quick release (R213). -/
def speedLimits (d : Fin 2) (n w : F32) (m : Mach) : Mach × F32 × F32 :=
  let x := m.drives[d]
  let fwd := !fSign w || fIsZero w
  let hi := if fwd then x.motor else x.regen
  let lo := fneg (if fwd then x.regen else x.motor)
  if m.n (Key.application d.1) ≠ 1 then (m, hi, lo) else
  let per := fdiv (m.rEff d) (m.r (Key.winchGearRatio d.1))
  if x.st = .quickRelease then
    let h := fmul (fmul (fRat 1000 1) (m.r (Key.qrMaxTension d.1))) per
    let l := fneg (fPercent (m.r (Key.qrPayoutTorque d.1)) (m.r (Key.machineRatedTorque (m.machSet (m.firstSet d)))))
    (m.modDrive d (fun x => { x with haul := h }), h, l)
  else
    let v := if fSign n then fabs (m.toRope d n) else 0
    let fast := x.render && fgt v (m.r (Key.tensionRenderSpeedMax d.1))
    let stiff := m.r (Key.tensionRenderStiffness d.1)
    let add := if fast then fmul stiff (fsub v (m.r (Key.tensionRenderSpeedMax d.1))) else 0
    let h := fmin hi (fadd (fmul (fmul (fmul (fRat 1000 1) (m.r (Key.tensionRenderTension d.1))) per) (x.shockNow m.ns)) add)
    let m := if fast ∧ fIsZero stiff then raiseD 0x2B d m else m
    (m.modDrive d (fun x => { x with haul := h }), h, lo)

/-- Render (R199): the speed slot stands at the haul limit while the drum pays out; raised once per render. -/
def renderTrack (d : Fin 2) (n : F32) (m : Mach) : Mach :=
  let x := m.drives[d]
  let sat := match m.slotIn (Key.roleSpeed d.1) with | some i => m.slots[i].sat == 1 && feq m.slots[i].out x.haul | none => false
  let on := m.n (Key.application d.1) == 1 && x.st != .quickRelease && x.st.active && sat && fSign n && !fIsZero n
  let m := m.modDrive d (fun x => { x with render := on })
  if on ∧ !x.render then raiseD 0x29 d m else if !on ∧ x.render then m.causeGone 0x29 none (some d) 0xFF else m

/-! ### Speed reference (R193, R202, R204, R205) -/

/-- Extrapolated motion at a time: z, v, a (R204). -/
def Mach.motionAt (m : Mach) (d : Fin 2) : Option (F32 × F32 × F32) :=
  m.drives[d].motion.map (fun r =>
    let dt := fRat ((m.ns : Int) + ms (m.n (Key.heaveLead d.1)) - r.time) 1000000000
    (fadd (fadd r.pos (fmul r.vel dt)) (fmul (fmul (fmul (fRat 1 2) r.acc) dt) dt), fadd r.vel (fmul r.acc dt), r.acc))

/-- The payout reference as the position slot takes it, signal 0x0406 (R109, R133, R185). -/
def payoutReference (d : Fin 2) (m : Mach) : Mach × F32 :=
  let r := m.drives[d].posRef
  if d ≠ 0 then (m, r) else
  let m := echoTick 2 0x0406 m
  let r := m.injectAt 2 0x0406 r
  (m.setSig 0x0406 r, r)

/-- What the mode asks of the drum (R184, R189, R202, R204): a speed before limits and ramp, rpm, and the acceleration the heave
mode commands. -/
def modeSpeed (d : Fin 2) (count : Nat) (n dt : F32) (m : Mach) : Mach × F32 × Option F32 :=
  let ref := m.reference d
  let vmax := m.toRpm d (m.r (Key.payoutSpeedMax d.1))
  match m.modeOf d with
  | 2 =>
    let r := rampTo m.drives[d].tensionRef ref (m.r (Key.refTensionRamp d.1)) (m.r (Key.refTensionRamp d.1)) dt
    let m := m.modDrive d (fun x => { x with tensionRef := r })
    let m := if d = 0 then echoTick 2 0x0404 m else m
    let r := if d = 0 then m.injectAt 2 0x0404 r else r
    let m := if d = 0 then m.setSig 0x0404 r else m
    let sl := m.slotIn (Key.roleTension d.1)
    let m := outerRole sl count r (m.r (Key.tensionMeasured d.1)) vmax (fneg vmax) m
    (m, m.roleOut sl, none)
  | 3 =>
    let m := m.modDrive d (fun x => { x with posRef := if x.starts then x.posRef else ref, starts := false })
    let (m, r) := payoutReference d m
    let sl := m.slotIn (Key.rolePosition d.1)
    let m := outerRole sl count r (m.r (Key.winchPayoutLength d.1)) vmax (fneg vmax) m
    (m, m.roleOut sl, none)
  | 4 =>
    let g := m.drives[d].gainNow m.ns
    let mo := (m.motionAt d).getD (0, 0, 0)
    let m := if d = 0 then echoTick 2 0x0408 m else m
    let m := if d = 0 then m.setSig 0x0408 (m.injectAt 2 0x0408 mo.1) else m
    let v := fadd (fmul g (fneg mo.2.1)) ref
    let m := m.modDrive d (fun x => { x with posRef := fsub x.posRef (fmul v dt) })
    let (m, r) := payoutReference d m
    let sl := m.slotIn (Key.rolePosition d.1)
    let m := outerRole sl count r (m.r (Key.winchPayoutLength d.1)) vmax (fneg vmax) m
    let a := fneg (fdiv (fmul (fmul g mo.2.2) (m.r (Key.winchGearRatio d.1))) (m.rEff d))
    (m, fadd (m.toRpm d v) (m.roleOut sl), some a)
  | 0 => (m, n, none)
  | _ => (m, ref, none)

/-- A ramped speed reference against the payout limits of a winch (R202): what is left of it, and the limit that clamps it to zero, 1
paying out, 2 hauling in. -/
def Mach.payoutLimit (m : Mach) (d : Fin 2) (v : F32) : F32 × Nat :=
  if m.n (Key.application d.1) ≠ 1 ∨ m.modeOf d = 0 then (v, 0) else
  let len := m.r (Key.winchPayoutLength d.1)
  let vmax := m.toRpm d (m.r (Key.payoutSpeedMax d.1))
  if fSign v ∧ !fIsZero v ∧ fge len (m.r (Key.payoutMax d.1)) then (0, 1)
  else if !fSign v ∧ !fIsZero v ∧ fle len (m.r (Key.payoutMin d.1)) then (0, 2)
  else (fclamp (fneg vmax) vmax v, 0)

/-- The events of a payout limit (R202): raised as it begins; "heave stroke limit" where it is the compensation that reaches it, the
operator's speed alone not running that way (R205). -/
def payoutEvents (d : Fin 2) (hit : Nat) (m : Mach) : Mach :=
  let x := m.drives[d]
  let op := m.reference d
  let stroke := m.modeOf d == 4 && hit != 0 && (fIsZero op || (fSign op != (hit == 1)))
  let m := m.modDrive d (fun y => { y with clamped := hit != 0, stroke := stroke })
  let m := if hit ≠ 0 ∧ !x.clamped then raise 0x2C none (some d) (hit - 1) m else m
  if stroke ∧ !x.stroke then raiseD 0x2E d m
  else if x.stroke ∧ !stroke then m.causeGone 0x2E none (some d) 0xFF else m

/-- The target of the speed reference with its ramps, rpm/s, and the acceleration the heave mode commands (R193, R204, R212, R213,
R277); no ramp where torque is the reference. -/
def speedTarget (d : Fin 2) (count : Nat) (n dt : F32) (m : Mach) : Mach × F32 × Option (F32 × F32) × Option F32 :=
  let x := m.drives[d]
  let up := m.r (Key.refSpeedRampUp d.1)
  let down := m.r (Key.refSpeedRampDown d.1)
  if x.st = .quickRelease then
    let a := m.toRpm d (m.r (Key.qrAccel d.1))
    (m, if x.qrState = 2 then fneg (m.toRpm d (m.r (Key.qrSpeed d.1))) else if x.qrState = 4 then 0 else x.speedRef, some (a, a), none)
  else if x.st = .stopping then (m, 0, some (up, m.r (Key.ss1Decel d.1)), none)
  else if x.st = .running ∧ !m.leverDown d then
    let (m, v, a) := modeSpeed d count n dt m
    (m, v, if m.modeOf d = 0 then none else some (up, down), a)
  else (m, 0, some (up, down), none)

/-- The speed reference, ramped, with Echo's injection, and held by the payout limits; the commanded acceleration, the slope of what the
limits leave of the ramp, 0 while they clamp it to zero (DESIGN CHOICE, log entry 124); the torque feed-forward, its terms summed in the
order of R117 (R133, R193, R202). -/
def speedReference (d : Fin 2) (count : Nat) (n dt : F32) (m : Mach) : Mach :=
  let x := m.drives[d]
  let (m, target, ramp, acc) := speedTarget d count n dt m
  let r := match ramp with | some (up, down) => rampTo x.speedRef target up down dt | none => target
  let m := if d = 0 then echoTick 2 0x0400 m else m
  let inj := if d = 0 then m.injectAt 2 0x0400 r else r
  let held := fun v => if x.st = .running then m.payoutLimit d v else (v, 0)
  let (ref, hit) := held inj
  let kept := (held r).1
  let slope := rpmToRad (fdiv (fsub kept x.speedRef) dt)
  let a := if hit ≠ 0 ∨ fIsZero dt then 0 else if kept = r then acc.getD slope else slope
  let m := payoutEvents d hit (m.modDrive d (fun x => { x with speedRef := kept }))
  if d = 0 then
    let ff := fadd (fadd (fmul (m.r Key.speedFfInertia) a) (m.friction ref)) (m.viscous ref)
    (((m.setSig 0x0400 ref).setSig 0x0402 a).setSig 0x0403 ff).putR Key.speedFfTorque ff
  else m

/-! ### Sharing (R206, R209, R339, R340) -/

/-- The weight of a set of a member (R340). -/
def Mach.weightOf (m : Mach) (p : Fin 8) (s : Fin 2) : F32 := m.r (Key.shareWeight (2 * p.1 + s.1))
/-- A set samples as the leader's set 0 does (R326), which a member knows by no message of the spec (log entry 25); a set of weight 0
need not. -/
def Mach.sharesGrid (m : Mach) (s : Fin 2) : Bool :=
  let own := fun (s : Fin 2) => (m.r (Key.actualFrequency s.1), m.smpMode s)
  fIsZero (m.weightOf m.me s) ||
  own s == (match m.follows, m.leaderPos with | true, some p => Config.leaderGrid p.1 (m.n Key.groveBoundaryNumber) | _, _ => own 0)
/-- An event of class F2 or higher is active for a set, by its own scope, its drive's or the device's (R328). -/
def Mach.setBlocked (m : Mach) (s : Fin 2) : Bool :=
  m.ev.active.any (fun a => 2 ≤ a.cls && (match a.set with
    | some x => x == s
    | none => match a.drv with | some d => d == m.driveOf s | none => true))

/-- A set carries its share (R326, R328, R339, R340): its pulses enabled, its drive running without an event of class F2 or
higher; in a grove it is one of drive 0's sets on the shared grid, and grove time is valid (R322). -/
def Mach.inServiceSet (m : Mach) (s : Fin 2) : Bool :=
  (!m.inGrove || (m.driveOf s == 0 && m.sharesGrid s && (m.n Key.groveState == 3 || 4 ≤ m.grove.aligned))) &&
  !m.setBlocked s && m.gate[s].pulses && m.configured s && m.drives[m.driveOf s].st == .running && !m.directMode s &&
  (match m.drives[m.driveOf s].limp with | some h => h == s | none => true)

/-- An exact weight in units of 2⁻¹⁵⁰. -/
def wNat (x : F32) : Nat := fMan x <<< fExp x

/-- A set of a member is in service (R328, R329). -/
def Mach.memberSet (m : Mach) (p : Fin 8) (s : Fin 2) : Bool :=
  if p = m.me then m.inServiceSet s
  else let x := m.grove.members[p]; x.joined && !x.suspended && (match x.status with | some st => st.inService.getLsbD s.1 | none => false)
/-- Sum of the weights of a member's sets in service (R332). -/
def Mach.memberWeight (m : Mach) (p : Fin 8) : Nat :=
  (two.map (fun s => if m.memberSet p s then wNat (m.r (Key.shareWeight (2 * p.1 + s.1))) else 0)).sum

/-- A configured set's part of what its device makes or may make, by the weights of its sets (R340; log entry 113). -/
def Mach.weightPart (m : Mach) (s : Fin 2) : F32 :=
  let ws := two.map (fun k => if m.configured k then m.weightOf m.me k else 0)
  let w := if m.configured s then m.weightOf m.me s else 0
  if fIsZero (fsum ws) then fRat 1 2 else fdiv w (fsum ws)
/-- Motoring limit, regeneration limit and torque estimate of a set, as STATUS gives them (R328): a dual machine's are divided by the
weights of its two sets. -/
def Mach.setReport (m : Mach) (s : Fin 2) : F32 × F32 × F32 :=
  if m.dual then (fmul (m.weightPart s) m.mc[0].mot, fmul (m.weightPart s) m.mc[0].reg, fmul (m.weightPart s) m.mc[0].torque)
  else (m.mc[s].mot, m.mc[s].reg, m.mc[s].torque)

/-- A set of the shaft for the split: its number 2p + s, weight and limit. -/
structure ShareSet where
  j     : Nat
  w     : F32
  lim   : F32
  t     : F32
  done  : Bool

/-- One round of R340; none where no set exceeds its limit. -/
def shareRound (pos_ : Bool) (xs : List ShareSet) : Option (List ShareSet) :=
  if !xs.any (fun x => !x.done && fgt (fabs x.t) x.lim) then none else
  let sg := fun (v : F32) => if pos_ then v else fneg v
  let over_ := fun (x : ShareSet) => !x.done && fgt (fabs x.t) x.lim
  let excess := sg (fsum ((xs.filter over_).map (fun x => fsub (fabs x.t) x.lim)))
  let ys := xs.map (fun x => if over_ x then { x with t := sg x.lim, done := true } else x)
  let sum := fsum ((ys.filter (fun x => !x.done)).map (·.w))
  some (ys.map (fun x => if x.done then x else { x with t := fadd x.t (fdiv (fmul excess x.w) sum) }))
/-- At most 16 rounds (R340). -/
def shareRounds (pos_ : Bool) : Nat → List ShareSet → List ShareSet
  | 0, xs => xs
  | k + 1, xs => match shareRound pos_ xs with | none => xs | some ys => shareRounds pos_ k ys

/-- The sets in service of the grove with their weights and limits in a torque's direction (R340). -/
def Mach.shareSets (m : Mach) (t : F32) : List ShareSet :=
  let motoring := fSign t == fSign (m.speedOf 0) || fIsZero (m.speedOf 0)
  positions.flatMap (fun p => two.filterMap (fun s =>
    let j := 2 * p.1 + s.1
    let w := m.weightOf p s
    let mk := fun (lim : F32) => some ({ j := j, w := w, lim := lim, t := 0, done := false } : ShareSet)
    if p = m.me then
      (if m.inServiceSet s then mk (if motoring then (m.setReport s).1 else (m.setReport s).2.1) else none)
    else
      let x := m.grove.members[p]
      match x.status with
      | some st => if x.joined ∧ !x.suspended ∧ st.inService.getLsbD s.1 then
          mk (if motoring then (if s = 0 then st.limits[0] else st.limits[3]) else (if s = 0 then st.limits[1] else st.limits[4])) else none
      | none => none))

/-- The instant (ns) of the device's next control-cycle boundary, on the grid of the last one (R25). -/
def Mach.nextBoundary (m : Mach) : Nat :=
  let b := m.clr.boundaryAt
  (b + ((m.now - b) / max 1 m.controlPeriod + 1) * m.controlPeriod) / 1000

/-! #### Stands (R344, R345) -/

/-- The device is a grove leader in a stand (R344). -/
def Mach.inStand (m : Mach) : Bool := (!m.inGrove || m.leads) && m.n Key.unitStandNumber != 0xFF
/-- The groves present in the stand, the own one with its weights in service and its bookings among them, in order of their numbers. -/
def Mach.standGroves (m : Mach) (stand : Nat) : List Config.GroveSeen :=
  let own : Config.GroveSeen := {
    shaft := m.n Key.unitShaftGroupNumber, stand := m.n Key.unitStandNumber, grove := m.n Key.unitGroveNumber,
    mac := BitVec.ofNat 48 (beNat m.mac), weight := (positions.map m.memberWeight).sum,
    audited := (positions.map (fun p => m.grove.members[p].booked)).sum + m.grove.holding }
  let all := (own :: m.grove.seen.filter (fun g => !(g.stand == own.stand && g.grove == own.grove) && g.shaft == own.shaft)).filter (fun g => g.stand == stand)
  (List.range 256).filterMap (fun n => all.find? (fun g => g.grove == n))
/-- The stands present in the shaft group, in order of their numbers (R345). -/
def Mach.shaftStands (m : Mach) : List Nat := (List.range 255).filter (fun n => !(m.standGroves n).isEmpty)
/-- Unit.StandRole (R348): 1 a grove in a stand that another grove leads, 2 the stand's leader, the grove with the lowest number present
(R344), 3 the leader of the shaft group, the stand leader with the lowest number (R345). -/
def Mach.standRole (m : Mach) : Nat :=
  let stand := m.n Key.unitStandNumber
  if !m.inStand then 0
  else if (m.standGroves stand).any (fun g => decide (g.grove < m.n Key.unitGroveNumber)) then 1
  else if m.n Key.unitShaftGroupNumber = 0xFF ∨ m.shaftStands.any (fun n => decide (n < stand)) then 2
  else 3
/-- Σ of the weights in service of some groves. -/
def weightSum (l : List Config.GroveSeen) : Nat := (l.map (·.weight)).sum
/-- The groves whose shaft torque the device's drive 0 computes: its stand's, or its shaft group's (R344, R345). -/
def Mach.ledGroves (m : Mach) : List Config.GroveSeen :=
  match m.standRole with
  | 2 => m.standGroves (m.n Key.unitStandNumber)
  | 3 => m.shaftStands.flatMap m.standGroves
  | _ => []
/-- A part of a shaft torque in proportion to weights in service (R344). -/
def Mach.torquePart (m : Mach) (t : F32) (part : List Config.GroveSeen) : F32 :=
  let sum := weightSum m.ledGroves
  if sum = 0 then 0 else fmul t (fRat (weightSum part) sum)
/-- The own grove's part of the shaft torque that its drive 0 has computed (R344). -/
def Mach.groveTorque (m : Mach) (t : F32) : F32 :=
  if m.standRole < 2 then t
  else m.torquePart t (m.ledGroves.filter (fun g => g.stand == m.n Key.unitStandNumber && g.grove == m.n Key.unitGroveNumber))

/-- SHARE_SPLIT (R340): the references of all sixteen sets, sent with their apply time, the leader's next control-cycle boundary. -/
def shareSplit (t : F32) (m : Mach) : Mach :=
  let xs := m.shareSets t
  let sum := fsum (xs.map (·.w))
  let xs := shareRounds (!fSign t) 16 (xs.map (fun x => { x with t := fdiv (fmul t x.w) sum }))
  let refs := (List.range 16).map (fun j => match xs.find? (fun x => x.j == j) with | some x => x.t | none => 0)
  let apply_ := m.nextBoundary
  let m := (m.modGrove (fun g => { g with share := some (apply_, refs), torques := refs })).putR Key.shareGroveTorqueRef t
  let m := m.putN Key.shareInService (xs.foldl (fun a x => setBit a x.j true) 0)
  canopySend none 3 1 (beBytes 8 apply_ ++ beBytes 4 t.toNat ++ refs.flatMap (fun r => beBytes 4 r.toNat)) m

/-- References whose apply time has come are the device's own (R340). -/
def shareApply (m : Mach) : Mach :=
  match m.grove.share with
  | some (at_, refs) =>
    if at_ ≤ m.ns then
      m.modGrove (fun g => { g with share := none, refs := Vector.ofFn (fun s => (refs[2 * m.me.1 + s.1]?).getD 0) })
    else m
  | none => m

/-- The references of SHARE become the sets'; a dual machine makes the sum of its two sets' (R340). -/
def shareTake (m : Mach) : Mach :=
  if m.dual then m.modMc 0 (fun x => { x with tref := fadd m.grove.refs[0] m.grove.refs[1] })
  else m.each (m.setsOf 0) (fun s m => m.modMc s (fun x => { x with tref := m.grove.refs[s] }))

/-- A drive's torque reference becomes its sets' (R206, R209, R339, R344). A shared shaft with a single configured set gives that set
the whole reference (DESIGN CHOICE, log entry 114: R206 states the shares of two sets). -/
def distribute (d : Fin 2) (t : F32) (m : Mach) : Mach :=
  let m := m.modDrive d (fun x => { x with torqueRef := t })
  let t := if d = 0 then m.groveTorque t else t
  if m.follows ∧ d = 0 then
    shareTake (m.modDrive d (fun x => { x with torqueRef := fadd m.grove.refs[0] m.grove.refs[1] }))
  else if m.leads ∧ d = 0 then shareTake (shareSplit t m)
  else match m.drives[d].limp with
    | some h => if m.dual then m.modMc 0 (fun x => { x with tref := t }) else m.modMc h (fun x => { x with tref := t })
    | none =>
      if m.topo = 0 ∧ m.n (Key.shareMode 0) = 1 ∧ (m.setsOf d).length = 2 then
        let s0 := m.share0
        (m.modMc 0 (fun x => { x with tref := fmul s0 t })).modMc 1 (fun x => { x with tref := fmul (fsub fOne s0) t })
      else m.each (m.motorSets d) (fun s m => m.modMc s (fun x => { x with tref := t }))

/-- The limits a drive hands to its sets (R195, R206, R209, R215): a drive's limit is divided by share, in a grove by weight (R339). -/
def setLimits (d : Fin 2) (m : Mach) : Mach :=
  let x := m.drives[d]
  let two_ := decide (m.topo = 0 ∧ (m.setsOf d).length = 2 ∧ x.limp.isNone)
  m.each (m.motorSets d) (fun s m =>
    let f := if !two_ then fOne else if m.follows || m.leads then m.weightPart s else if s = 0 then m.share0 else fsub fOne m.share0
    m.modMc s (fun y => { y with mot := fmul f x.motor, reg := fmul f x.regen, curScale := m.limpScale d }))

/-! ### Power (R196) -/

/-- Active power of a set, W (R196). -/
def Mach.setPower (m : Mach) (s : Fin 2) : F32 :=
  let x := m.sense[s]
  if m.gate[s].pulses then fmul (fRat 3 2) (fadd (fmul x.ownU.1 x.own.1) (fmul x.ownU.2 x.own.2)) else 0
/-- Power.Measured, kW (R196). -/
def measurePower (d : Fin 2) (m : Mach) : Mach :=
  (m.putR (Key.powerMeasured d.1) (fdiv (fsum ((m.setsOf d).map m.setPower)) (fRat 1000 1))).putR (Key.powerLimit d.1) (fdiv (m.powerShare d) (fRat 1000 1))
/-- Measured power of the device, kW. -/
def Mach.devicePower (m : Mach) : F32 := fsum (m.theDrives.map (fun d => m.r (Key.powerMeasured d.1)))

/-! ### SS1-r (R279) -/

/-- The speed against standstill (R277) and, in SS1-r, against its envelope, at every outer computation. -/
def ss1Watch (d : Fin 2) (n : F32) (m : Mach) : Mach :=
  let slow := fle (fabs n) (fPercent (m.r (Key.ss1StandstillSpeed d.1)) (m.ratedSpeed d))
  let m := m.modDrive d (fun x => { x with slowSince := if slow && x.ss1.isSome then some (x.slowSince.getD m.ns) else none })
  match m.drives[d].ss1 with
  | none => m
  | some r =>
    if m.n (Key.ss1Kind d.1) ≠ 1 ∨ m.drives[d].st ≠ .stopping then m else
    let tol := m.r (Key.ss1Tolerance d.1)
    let t := fRat ((m.ns - r.start) - ms (m.n (Key.ss1MonitorDelay d.1)) : Nat) 1000000000
    let env := fmax tol (fsub (fadd (fabs r.n0) tol) (fmul (m.r (Key.ss1Decel d.1)) t))
    if !fgt (fabs n) env then m.modDrive d (fun x => { x with ss1 := some { r with above := 0 } })
    else if r.above = 0 then m.modDrive d (fun x => { x with ss1 := some { r with above := 1 } })
    else
      let m := raiseV 0x48 none (some d) 0xFF n env m
      if m.drives[d].ss1.isSome then ss1End d m else m

/-! ### An outer-loop computation (R184 to R216) -/

/-- A regeneration shortfall's timer (R215). -/
def shortfallTrack (d : Fin 2) (w t : F32) (m : Mach) : Mach :=
  match m.slotIn (Key.roleRegeneration d.1) with
  | none => m
  | some i =>
    let gen := m.n (Key.application d.1) == 1 && fSign t != fSign w && !fIsZero w && !fIsZero t
    let short := gen && flt m.slots[i].out (fabs t)
    m.modDrive d (fun x => { x with shortfall := if short then some (x.shortfall.getD m.ns) else none })

/-- REGENERATION_SHORTFALL (R215). -/
def regenerationShortfallEff (d : Fin 2) : Mach → Mach := whenLanes (fun m =>
  match m.drives[d].shortfall with
  | some t => if t + ms (m.n (Key.regenShortfallTime 0)) ≤ m.ns then
      raiseD 0x32 d (m.modDrive d (fun x => { x with shortfall := none })) else m
  | none => m)

/-- The torque reference of a drive by its state (R184, R188, R212, R193, R194, R280, R286). -/
def torqueReference (d : Fin 2) (count : Nat) (n w : F32) (m : Mach) : Mach × F32 :=
  let x := m.drives[d]
  let test := (m.brakesOf d).findSome? m.sbtRef
  let (m, hi, lo) := speedLimits d n w m
  let braking : Bool := match x.ss1 with | some r => r.braking | none => false
  match test with
  | some t => (m, t)
  | none =>
    if braking then (m, x.torqueRef)
    else if x.st = .starting ∧ m.n (Key.application d.1) = 1 then
      (outerRole (m.slotIn (Key.roleSpeed d.1)) count x.speedRef n hi lo m, m.preTorque d)
    else if x.st = .quickRelease ∧ x.qrState = 1 then (m, m.tensionTorque d)
    else if x.st = .running ∧ m.modeOf d = 0 ∧ !m.leverDown d then
      let lim := fPercent (m.r (Key.refTorqueModeSpeedLimit d.1)) (m.ratedSpeed d)
      let band := fPercent (fRat 5 1) (m.ratedSpeed d)
      let f := fclamp 0 fOne (fdiv (fsub (fadd lim band) (fabs n)) band)
      let t := if x.starts then m.roleOut (m.slotIn (Key.roleSpeed d.1)) else m.reference d
      (m.modDrive d (fun x => { x with starts := false }), fclamp lo hi (fmul f t))
    else
      let sl := m.slotIn (Key.roleSpeed d.1)
      let m := outerRole sl count (if d = 0 then m.sig 0x0400 else x.speedRef) n hi lo m
      (m, m.roleOut sl)

/-- The pre-torque's persistence (R188): the estimate within 10 % of the reference. -/
def preTorqueTrack (d : Fin 2) (m : Mach) : Mach :=
  let x := m.drives[d]
  if x.st ≠ .starting ∨ x.step ≠ .preTorque then m else
  let t := m.preTorque d
  let near := fle (fabs (fsub (m.driveTorque d) t)) (fmul (fRat 1 10) (fabs t))
  m.modDrive d (fun x => { x with preOk := if near then some (x.preOk.getD m.ns) else none })

/-- The outer loops of one drive. -/
def driveOuter (d : Fin 2) (count : Nat) (m : Mach) : Mach :=
  if !m.driveConfigured d then m else
  let x := m.drives[d]
  let dt := fSeconds (m.ns - x.lastOuter)
  let n := m.speedOf d
  let w := rpmToRad n
  let alpha := if fIsZero dt then 0 else fdiv (fsub w x.omega) dt
  let m := measurePower d (measureTension d n alpha (geometry d m))
  let m := if d = 0 then ((m.setSig 0x0401 n).setSig 0x0405 (m.r (Key.tensionMeasured 0))).setSig 0x0407 (m.r (Key.winchPayoutLength 0)) else m
  let m := if d = 0 then m.setSig 0x0409 (fNat m.tokens) else m
  let m := shockDetect d (refTrack d (leverTrack d m))
  let m := regenNow d count (m.modDrive d (fun y => { y with motor := m.motoringNow d w, lastOuter := m.ns, omega := w }))
  let m := speedReference d count n dt m
  let (m, t) := torqueReference d count n w m
  let m := preTorqueTrack d (shortfallTrack d w t (renderTrack d n m))
  distribute d t (setLimits d (ss1Watch d n m))

/-- One outer-loop computation: every drive, brake tests in progress, then the slots that hold no role (R108, R185, R286). -/
def outerCompute (count : Nat) (m : Mach) : Mach :=
  let m := (shareApply m).each m.theDrives (driveOuter · count)
  let m := m.each two sbtWatch
  let roles := m.theDrives.flatMap (fun d => [m.n (Key.roleSpeed d.1), m.n (Key.roleTension d.1), m.n (Key.rolePosition d.1), m.n (Key.roleRegeneration d.1)])
  captureComp .device (echoComp (slotsRest 2 count roles m))

/-- Histories of outer slots that wait for their reset (R113). -/
def outerHistories (m : Mach) : Mach :=
  { m with slots := vmap m.slots (fun i x =>
      if x.clear ∧ m.n (Key.slotAssignment i.1) = 2 then { x with clear := false, e := [0, 0, 0], y := [0, 0, 0] } else x) }

/-- A queued boundary is computed (R122, R123), with the live bank of its instant (R68). -/
def outerStart (b : OuterRec) (m : Mach) : Mach :=
  withOld b.old (outerCompute b.count)
    { m with outer := { m.outer with busy := true, queued := none, done := [], dropRun := 0, limitRaised := false, start := b.at_ } }

/-- An outer-loop slot is due at a boundary count (R114, R122). -/
def Mach.outerDue (m : Mach) (count : Nat) : Bool :=
  (List.finRange 32).any (fun i => m.n (Key.slotAssignment i.1) == 2 && m.slotDue i count)

/-- A control-cycle boundary at the outer-loop datapath: one at which an outer slot is due enters the queue (R122, R123), where it is
computed at once, queued, or takes the place of the queued one; at the others the drive modes' work is done with the sample. -/
def outerArrive (m : Mach) : Mach :=
  let b : OuterRec := { count := m.doms[domIx .device].count, at_ := m.ns }
  let o := m.outer
  if !m.outerDue b.count then outerCompute b.count m
  else if !o.busy then outerStart b m
  else if o.queued.isNone then { m with outer := { o with queued := some b } }
  else
    let m : Mach := { (m.inc Key.engineOuterOverrunCount) with outer := { o with queued := some b, dropRun := o.dropRun + 1 } }
    if m.n Key.engineOuterDropLimit ≤ m.outer.dropRun ∧ !m.outer.limitRaised then
      raiseM 0x19 0xFF { m with outer := { m.outer with limitRaised := true } }
    else m

/-- OUTER_COMPUTATION_COMPLETE (R122, R125): a computation complete more than a boundary period after its boundary counts as late. -/
def outerComputationCompleteEff (l : Lane) : Mach → Mach := whenLanes (fun m =>
  if !m.laneActive l then m else
  let o := m.outer
  if !o.busy then { m with outer := { o with owe := o.owe.erase l } } else
  let (done, owe) := reportOf l o.done o.owe
  if done.length < 2 then { m with outer := { o with done := done, owe := owe } }
  else
    let late := m.activeLanes.filter (fun l => !done.contains l)
    let m := if m.controlPeriod < 1000 * (m.ns - o.start) then raiseM 0x1A 0xFF (m.inc Key.engineOuterLateOutputCount) else m
    let m : Mach := latchFrozen 2 { m with outer := { o with busy := false, queued := none, done := [], owe := owe ++ late } }
    match o.queued with | some b => outerStart b m | none => m)

/-! ### The chopper (R216) -/

/-- The chopper request and its energy model, at every control-cycle boundary. -/
def chopper (m : Mach) : Mach :=
  let s := m.safety
  let u := match m.n (Key.chopSource 0) with | 0 => m.udc 0 | 1 => m.udc 1 | _ => fmax (m.udc 0) (m.udc 1)
  let dt := fSeconds (m.ns - s.chopAt)
  let e0 := m.r (Key.chopEnergy 0)
  let gain := if s.chop then fdiv (fmul (fdiv (fmul u u) (m.r (Key.chopResistance 0))) dt) (fRat 1000 1) else 0
  let e := fmax 0 (fsub (fadd e0 gain) (fdiv (fmul e0 dt) (m.r (Key.chopCoolTime 0))))
  let lim := m.r (Key.chopEnergyLimit 0)
  let forced := if s.chopForced then !flt e (fmul (fRat 8 10) lim) else fge e lim
  let want := if fge u (m.r (Key.chopOnVoltage 0)) then true else if fle u (m.r (Key.chopOffVoltage 0)) then false else s.chop
  let m := (m.putR (Key.chopEnergy 0) e).modSafety (fun x => { x with chop := want && !forced, chopForced := forced, chopAt := m.ns })
  if forced ∧ !s.chopForced then raiseM 0x33 0xFF m
  else if !forced ∧ s.chopForced then m.causeGone 0x33 none none 0xFF else m

/-! ### Commands of the drive modes -/

/-- MOTION_RECORD (R203, R205, R354, R355): discarded while gPTP is unsynchronised; later in both sequence and time; converted to
timebase time. A fresh one ends a fall of the gain, ten in a row raise it. -/
def motionRecordEff (d : Fin 2) (time : Nat) (pos vel acc : F32) (sq : BitVec 16) : Mach → Mach := whenLanes (fun m =>
  let x := m.drives[d]
  let newer : Bool := match x.motion with
    | none => true
    | some r => decide (r.netTime < time) && (sq != r.sq && (sq - r.sq).toNat < 32768)
  if !newer ∨ m.n Key.gptpState < 2 then m else
  let t : Int := m.timebaseOf time
  let m := m.modDrive d (fun x => { x with motion := some { time := t, netTime := time, pos := pos, vel := vel, acc := acc, sq := sq } })
  let fresh := !m.motionStale d
  let m := m.modDrive d (fun x => { x with
    fresh := if fresh then x.fresh + 1 else 0, lossSeen := x.lossSeen && !fresh,
    gain := if fresh && !x.risen then x.gainNow m.ns else x.gain, fade := if fresh && !x.risen then none else x.fade })
  let m := ((((m.putN (Key.heaveMotionTime d.1) time).putR (Key.heaveMotionPosition d.1) pos).putR (Key.heaveMotionVelocity d.1) vel).putR
    (Key.heaveMotionAcceleration d.1) acc).putN (Key.heaveMotionSequence d.1) sq.toNat
  if 10 ≤ m.drives[d].fresh ∧ !m.drives[d].risen ∧ m.modeOf d = 4 then heaveRise d m else m)

/-- MOTION_REFERENCE_LOST (R205): once for each loss; the gain falls from where it stands while the record is stale. -/
def motionReferenceLostEff (d : Fin 2) : Mach → Mach := whenLanes (fun m =>
  if !m.driveExists d ∨ m.modeOf d ≠ 4 ∨ !m.motionStale d ∨ m.drives[d].lossSeen then m else
  raiseD 0x2D d (m.modDrive d (fun x => { x with
    fresh := 0, risen := false, lossSeen := true,
    fade := some { from_ := x.gainNow m.ns, to_ := 0, start := m.ns, dur := ms (m.n (Key.heaveFadeTime d.1)) } })))

/-- HEAVE_FADE_END (R205). -/
def heaveFadeEndEff (d : Fin 2) : Mach → Mach := whenLanes (fun m =>
  match m.drives[d].fade with
  | some f => if f.over_ m.ns then m.modDrive d (fun x => { x with gain := f.to_, fade := none }) else m
  | none => m)

end Sys2Proof.Machine
end

