-- ==== Sys2Proof/Machine/Canopy.lean ====
section
/-! DEFINITION. The Canopy ports: packets received and forwarded, replay, credits, ports that go down and come up (R312 to R320),
and the link delays (R325). -/

namespace Sys2Proof.Machine

/-! ### Status and LINK_STATE (R320, R321, R348) -/

/-- Canopy.EastStatus, WestStatus (R348). -/
def CanopyPort.status (p : CanopyPort) : Nat :=
  b2n p.lanes[0] + 2 * b2n p.lanes[1] + 4 * b2n p.up + 8 * b2n p.selfOk + 16 * b2n (p.neighbour.isSome && !p.orderFault) +
  32 * b2n p.orderFault

/-- LINK_STATE is broadcast at every change of a port (R320). -/
def linkStateSend (m : Mach) : Mach :=
  canopySend none 0 5 (beBytes 1 m.canopy[0].status ++ beBytes 1 m.canopy[1].status ++ [0, 0]) m

/-- Less than a period has passed since the last time. -/
def tooSoon (last : Option Nat) (period now : Nat) : Bool := match last with | some t => decide (now < t + period) | none => false
/-- Bytes the spec leaves open (log entry 3). -/
def freeBytes : Nat → Mach → Mach × List Byte
  | 0, m => (m, [])
  | n + 1, m => let r := freeBytes n m.drew; (r.1, BitVec.ofNat 8 m.freeNow.toNat :: r.2)

/-! ### Sending without the lanes (R316, R317) -/

/-- An empty packet of the port: it leaves where the credits of virtual channel 0 and the replay buffer let it (R316, R318; log entry
27). -/
def emptySend (port : Fin 2) (m : Mach) : Mach :=
  let p := m.canopy[port]
  let x : Packet := { h := m.header 0 0 ((p.neighbour.getD m.me).1) 0 0, payload := [] }
  if p.up && p.mayLeave x false then transmit port x m else m

/-- A NAK: the port discards what follows until the replay begins (R316). -/
def nakSend (port : Fin 2) (m : Mach) : Mach :=
  if m.canopy[port].discard then m else emptySend port (m.modPort port (fun p => { p with discard := true }))

/-- A message of the timebase hardware on VC 1, to the neighbour or, with hops, round the ring; its type and layout are not in the spec
(log entry 28). -/
def timeSend (port : Fin 2) (ty : Fin 3) (dest hops : Nat) (payload : List Byte) (m : Mach) : Mach :=
  if !m.canopy[port].up then m else
  portSend port { h := m.header 1 (Config.timeType ty).toNat dest hops payload.length, payload := payload } true m
/-- The neighbour of a port, as the position a message to it names. -/
def Mach.nextTo (m : Mach) (port : Fin 2) : Nat := (m.canopy[port].neighbour.getD m.me).1
/-- SYNC with t_N, on both ports, each way as far as a broadcast goes (R319, R325); its correction is 0 at the leader. -/
def syncSend (tN : Nat) (m : Mach) : Mach :=
  let h := m.broadcastHops
  timeSend 1 0 0xF (max 1 h.2) (Config.syncPayload tN 0) (timeSend 0 0 0xF (max 1 h.1) (Config.syncPayload tN 0) m)

/-! ### Ports down (R312, R318, R320) -/

/-- A packet that waited for a port that has gone down takes another way; a broadcast reaches the members of the line that is left
(R318, R319). -/
def reroute (gone : Fin 2) (x : Packet) (m : Mach) : Mach :=
  let own := x.h.src.toNat == m.me.1
  if x.h.dest = 0xF then
    let way := if gone = 0 then m.ways.2 else m.ways.1
    portSend (other gone) { x with h := { x.h with hops := BitVec.ofNat 4 (max 1 way.length) } } own m
  else match m.route (pos8 x.h.dest.toNat) with
    | some p => portSend p x own m
    | none => m

/-- A port that is up goes down: sequence numbers and credits are discarded, waiting packets rerouted. -/
def portDown (port : Fin 2) (m : Mach) : Mach :=
  let p := m.canopy[port]
  if !p.up then m else
  let m := m.modPort port (fun p => {
    lanes := p.lanes, selfOk := p.selfOk, lastSent := p.lastSent, checkedAt := p.checkedAt })
  let m := m.inc Key.canopyPortDownCount
  let m := m.each p.queue (reroute port)
  linkStateSend (raiseM 0x5A port.1 m)

/-- CANOPY_LANE_DOWN (R312): the port goes on with its other lane. -/
def canopyLaneDownEff (port lane : Fin 2) : Mach → Mach := whenUp (fun m =>
  if !m.canopy[port].lanes[lane] then m else
  linkStateSend (raiseM 0x59 port.1 (m.modPort port (fun p => { p with lanes := vmod p.lanes lane (fun _ => false) }))))

/-- A port without symbol lock on either lane is down; one that was down already shows the change of its lanes (R320). -/
def unlocked (port : Fin 2) (m : Mach) : Mach :=
  if !(m.canopy[port].lanes[0] || m.canopy[port].lanes[1]) ∧ !m.canopy[port].up then m else
  let m := m.modPort port (fun p => { p with lanes := Vector.replicate 2 false })
  if m.canopy[port].up then portDown port m else linkStateSend m

/-- CANOPY_PORT_DOWN (R320): both lanes have been without symbol lock for 2 µs. -/
def canopyPortDownEff (port : Fin 2) (since : Time) : Mach → Mach := whenUp (fun m =>
  if m.now < since + 2000000 then m else unlocked port m)

/-- The places from the device's own position to another one, East upward, West downward, round the ring. -/
def Mach.stepsTo (m : Mach) (port : Fin 2) (p : Fin 8) : Nat := (if port = 0 then p.1 + 8 - m.me.1 else m.me.1 + 8 - p.1) % 8
/-- A neighbour is the one that R313 requires: no position known to be fitted, the other port's neighbour among them, lies on the
way to it. -/
def Mach.ringRight (m : Mach) (port : Fin 2) (p : Fin 8) : Bool :=
  p != m.me && positions.all (fun k => k == m.me || k == p || !(m.known k || m.canopy[other port].neighbour == some k) ||
    decide (m.stepsTo port p < m.stepsTo port k))

/-- CANOPY_PORT_UP (R320): 1 ms without an error after alignment and deskew, and the exchange of positions. A neighbour that R313
does not require is a ring-order fault, and the port stays down; a member of Size 1 leaves its ports off (R313). -/
def canopyPortUpEff (port : Fin 2) (neighbour : Fin 8) (idleSince : Time) : Mach → Mach := whenUp (fun m =>
  let p := m.canopy[port]
  if !m.inGrove ∨ p.up ∨ !p.selfOk ∨ m.n Key.supplyStatus / 64 % 4 ≠ 0 ∨ m.now < idleSince + 1000000000 then m else
  if !m.ringRight port neighbour then linkStateSend (m.modPort port (fun p => { p with neighbour := some neighbour, orderFault := true })) else
  let m := m.modPort port (fun p => {
    lanes := Vector.replicate 2 true, up := true, selfOk := p.selfOk, neighbour := some neighbour,
    lastSent := m.now, ackAt := m.now, checkedAt := p.checkedAt })
  let m := m.modGrove (fun g => { g with firstUp := some (g.firstUp.getD m.ns) })
  let m := causesGone (fun a => (a.ev == 0x59 || a.ev == 0x5A) && a.inst == port.1) m
  linkStateSend m)

/-- PORT_SELF_CHECK (R320): every 10 µs, whether the transmitter's monitor and the receiver's detector agree with the reference. -/
def portSelfCheckEff (port : Fin 2) (ok : Bool) : Mach → Mach := whenUp (fun m =>
  if tooSoon m.canopy[port].checkedAt 10000000 m.now then m else
  let m := m.modPort port (fun p => { p with checkedAt := some m.now })
  if m.canopy[port].selfOk = ok then m else
  let m := m.modPort port (fun p => { p with selfOk := ok })
  if ok ∨ !m.canopy[port].up then linkStateSend m else portDown port m)

/-! ### Acknowledgements, credits, replay (R316, R318) -/

/-- Packets up to an acknowledged one leave the replay buffer. -/
def CanopyPort.ackTo (a : BitVec 12) (now : Time) (p : CanopyPort) : CanopyPort :=
  match p.replay.findIdx? (fun x => x.h.sq == a) with
  | some i => { p with replay := p.replay.drop (i + 1), replays := 0, ackAt := now }
  | none => p

/-- Cumulative credits returned by the peer; a count beyond what has been sent is none. -/
def CanopyPort.creditTo (vc : Fin 8) (c : BitVec 16) (p : CanopyPort) : CanopyPort :=
  let more := (c - BitVec.ofNat 16 p.returned[vc]).toNat
  if p.returned[vc] + more ≤ p.sent[vc] then { p with returned := vmod p.returned vc (· + more) } else p

/-- Everything unacknowledged is sent again, charged once; the eighth replay of one packet takes the port down (R320). -/
def replayPort (port : Fin 2) (m : Mach) : Mach :=
  let p := m.canopy[port]
  if p.replay.isEmpty ∨ !p.up then m else
  let m := (m.modPort port (fun p => { p with replays := p.replays + 1, ackAt := m.now, lastSent := m.now })).inc Key.canopyReplayCount
  let m := m.each p.replay (fun x m => m.emit (.canopy port { x.h with ack := p.rxSeq, nak := p.discard } x.payload))
  if 8 ≤ p.replays + 1 then portDown port m else m

/-- What a received header does: acknowledgement, credits, link sequence. Answers whether the packet is accepted; one behind is a
duplicate, one ahead a gap (R316). -/
def receiveHeader (port : Fin 2) (h : PacketHeader) (m : Mach) : Mach × Bool :=
  let m := m.modPort port (fun p => (p.ackTo h.ack m.now).creditTo h.crVc h.credits)
  let m := if h.nak then replayPort port m else m
  let m := drainPort port m
  let d := (h.sq - m.canopy[port].rxSeq).toNat
  if d = 1 then
    (m.modPort port (fun p => { p with rxSeq := h.sq, discard := false, freed := vmod p.freed h.vc (· + creditsOf h.len) }), true)
  else if d = 0 ∨ 2048 ≤ d then (m, false)
  else (nakSend port m, false)

/-- EMPTY_PACKET: the header of a packet received (R316, R318). -/
def emptyPacketEff (port : Fin 2) (h : PacketHeader) : Mach → Mach := whenUp (fun m =>
  if m.canopy[port].up then (receiveHeader port h m).1 else m)

/-- EMPTY_PACKET_TIMER (R316): 1 µs without sending. -/
def emptyPacketTimerEff (port : Fin 2) : Mach → Mach := whenUp (fun m =>
  if m.canopy[port].lastSent + 1000000 ≤ m.now then emptySend port m else m)

/-- LINK_NAK (R316): the peer's NAK, or the port's own finding of a bad CRC or a gap. -/
def linkNakEff (port : Fin 2) (k : NakKind) : Mach → Mach := whenUp (fun m =>
  if !m.canopy[port].up then m else
  match k with
  | .nak a => replayPort port (m.modPort port (·.ackTo a m.now))
  | .badCrc => nakSend port (m.inc Key.canopyCrcErrorCount)
  | .gap => nakSend port m)

/-- REPLAY_TIMEOUT (R316): 2 µs without an acknowledgement. -/
def replayTimeoutEff (port : Fin 2) : Mach → Mach := whenUp (fun m =>
  let p := m.canopy[port]
  if p.ackAt + 2000000 ≤ m.now then replayPort port m else m)

/-! ### Forwarding (R319, R321) -/

/-- A message type that R321 reserves. -/
def reservedType (vc : Fin 8) (ty : Nat) : Bool :=
  match vc with
  | 0 => decide (8 ≤ ty)
  | 2 => ty == 0 || decide (7 ≤ ty)
  | 3 => ty == 0 || decide (3 ≤ ty)
  | _ => false

/-- A SYNC's payload as a forwarder sends it on: its correction field with the residence time, which the spec does not bound (a free
value), and the measured delay of the incoming link added (R325). -/
def syncOn (port : Fin 2) (payload : List Byte) (m : Mach) : Mach × List Byte :=
  match Config.syncFields payload with
  | some (tN, corr) =>
    (m.drew, Config.syncPayload tN (corr + m.freeNow.toNat + m.n (if port = 0 then Key.canopyEastLinkDelay else Key.canopyWestLinkDelay)))
  | none => (m, payload)

/-- A packet goes on: on the port of its way, or, a broadcast, on the other port. A SYNC gets its new correction field. -/
def forwardOn (port : Fin 2) (h : PacketHeader) (payload : List Byte) (good : Bool) (m : Mach) : Mach :=
  let out : Option (Fin 2) :=
    if h.dest = 0xF then (if 1 < h.hops.toNat then some (other port) else none) else m.route (pos8 h.dest.toNat)
  let h := if h.dest = 0xF then { h with hops := h.hops - 1 } else h
  match out with
  | none => m
  | some o =>
    if !m.canopy[o].up then m
    else if good then
      let r := if h.vc = 1 ∧ h.ty = Config.timeType 0 then syncOn port payload m else (m, payload)
      portSend o { h := h, payload := r.2 } false r.1
    else m.emit (.canopyBad o h payload)

/-- The voted CRC-32C at the end of a payload fits (R20, R315, R319); the timebase hardware's messages of VC 1 carry none. -/
def votedOk (h : PacketHeader) (payload : List Byte) : Bool :=
  h.vc == 1 || h.len == 0 || votedPayload (payload.take (payload.length - 4)) == payload
/-- A piece of a firmware image from the leader (R385): it joins those before it, from the image's first word on. -/
def imageTake (h : PacketHeader) (payload : List Byte) (m : Mach) : Mach :=
  let b := payload.take (payload.length - 4)
  if h.vc ≠ 7 ∨ !m.follows ∨ m.leaderPos ≠ some (pos8 h.src.toNat) ∨ (m.fw.rx.isEmpty ∧ beNat (b.take 4) ≠ 0x59564657) then m
  else { m with fw := { m.fw with rx := m.fw.rx ++ b } }
/-- FORWARDED_PACKET (R319): by cut-through, without the lanes. One whose link CRC turns out bad goes on with the inverted CRC and
is asked for again; a local delivery of a reserved type is counted (R321), one whose voted CRC does not fit is discarded. -/
def forwardedPacketEff (port : Fin 2) (h : PacketHeader) (payload : List Byte) (crc : BitVec 32) : Mach → Mach := whenUp (fun m =>
  if !m.canopy[port].up then m else
  let mine := h.dest.toNat == m.me.1
  if crc ≠ linkCrc h payload then
    let m := if mine then m else forwardOn port h payload false m
    nakSend port (m.inc Key.canopyCrcErrorCount)
  else
    let r := receiveHeader port h m
    if !r.2 then r.1 else
    let m := if (mine ∨ h.dest = 0xF) ∧ votedOk h payload ∧ reservedType h.vc h.ty.toNat then r.1.inc Key.canopyCrcErrorCount else r.1
    let m := if (mine ∨ h.dest = 0xF) ∧ votedOk h payload then imageTake h payload m else m
    if mine then m else forwardOn port h payload true m)

/-! ### Link delays (R325) -/

/-- LINK_DELAY_TIMER: every 10 ms, a delay request on every port that is up. -/
def linkDelayTimerEff : Mach → Mach := whenUp (fun m =>
  if tooSoon m.grove.delayAt 10000000 m.ns then m else
  (m.modGrove (fun g => { g with delayAt := some m.ns })).each (two.filter (fun p => m.canopy[p].up)) (fun p m =>
    timeSend p 1 (m.nextTo p) 0 (Config.delayRequest m.ns) (m.modPort p (fun x => { x with asked := some m.ns }))))

/-- DELAY_REQUEST: answered with the stamps of its arrival and of the answer, the same nanosecond here (log entry 102). -/
def delayRequestEff (port : Fin 2) : Mach → Mach := whenUp (fun m => timeSend port 2 (m.nextTo port) 0 (Config.delayResponse m.ns m.ns) m)

/-- DELAY_RESPONSE: ((t4 − t1) − (t3 − t2)) / 2. -/
def delayResponseEff (port : Fin 2) (t1 t2 t3 : Nat) : Mach → Mach := whenUp (fun m =>
  if m.canopy[port].asked ≠ some t1 then m else
  let d : Int := (((m.ns : Int) - t1) - ((t3 : Int) - t2)) / 2
  (m.modPort port (fun p => { p with asked := none })).putN (if port = 0 then Key.canopyEastLinkDelay else Key.canopyWestLinkDelay) d.toNat)

end Sys2Proof.Machine
end

