-- ==== Sys2Proof/Machine/Tokens.lean ====
section
/-! DEFINITION. Power tokens of a grove: the leader's budget and its allocation, transfers, leases and the audit (R332 to R338), and
the phase-back of a release (R196). -/

namespace Sys2Proof.Machine

/-! ### Who leads (R322, R331) -/

/-- A message comes from the leader this device follows. -/
def Mach.fromLeader (m : Mach) (src : Fin 8) : Bool := m.follows && m.leaderPos == some src
/-- BoundaryPeriod, ns. -/
def Mach.bp (m : Mach) : Nat := us (m.n Key.groveBoundaryPeriod)
/-- LeaseTime, ns (R335). -/
def Mach.leaseTime (m : Mach) : Nat := 2 * m.bp
/-- A member has been heard (R329). -/
def hear (src : Fin 8) (m : Mach) : Mach := if src = m.me then m else m.modMember src (fun x => { x with heard := m.ns })
/-- A message to the leader. -/
def toLeader (vc : Fin 8) (ty : Nat) (body : List Byte) (m : Mach) : Mach :=
  match m.leaderPos with | some p => canopySend (some p) vc ty body m | none => m

/-- Positions in a map. -/
def mapCount (map : Nat) : Nat := (positions.filter (fun p => bit map p.1)).length
/-- A member that reaches a map of positions may lead (R331). -/
def rightToLead (size reach : Nat) (selfOk : Bool) : Bool := decide (size ≤ 2 * mapCount reach) && (size != 2 || selfOk)
/-- Both ports pass their self-check. -/
def Mach.portsHealthy (m : Mach) : Bool := m.canopy[0].selfOk && m.canopy[1].selfOk
/-- The device may lead (R331). -/
def Mach.mayLead (m : Mach) : Bool := rightToLead (m.n Key.groveSize) m.reachable m.portsHealthy

/-! ### Bookings (R332, R333) -/

/-- Σ booked. -/
def Grove.bookedSum (g : Grove) : Nat := (positions.map (fun p => g.members[p].booked)).sum
/-- Σ expiring. -/
def Grove.expiringSum (g : Grove) : Nat := (positions.map (fun p => g.members[p].expiring)).sum
/-- Tokens of grants not acknowledged yet. -/
def Grove.inFlight (g : Grove) : Nat := ((g.flights.filter (·.grant)).map (·.amount)).sum
/-- A transfer of a member is in flight. -/
def Grove.busy (g : Grove) (p : Fin 8) : Bool := g.flights.any (fun f => f.pos == p)

/-- What each member is to hold: whole tokens in proportion, the remainder one by one to the lowest positions (R332). -/
def Mach.targets (m : Mach) : List (Fin 8 × Nat) :=
  let total := m.n Key.tokensTotal
  let ws := positions.map (fun p => (p, m.memberWeight p))
  let sum := (ws.map (·.2)).sum
  if sum = 0 then positions.map (fun p => (p, 0)) else
  let base := ws.map (fun x => (x.1, x.2, total * x.2 / sum))
  let rem_ := total - (base.map (fun x => x.2.2)).sum
  (base.foldl (fun (acc : List (Fin 8 × Nat) × Nat) x =>
    if 0 < acc.2 ∧ 0 < x.2.1 then (acc.1 ++ [(x.1, x.2.2 + 1)], acc.2 - 1) else (acc.1 ++ [(x.1, x.2.2)], acc.2)) ([], rem_)).1

/-! ### Transfers (R333) -/

/-- Body of GRANT, RELEASE_REQ and RELEASE (R321). -/
def transferBody (sq amt : Nat) : List Byte := beBytes 4 sq ++ beBytes 2 amt ++ [0, 0]

/-- The next transfer sequence number is taken. -/
def takeSeq (m : Mach) : Mach := (m.modGrove (fun g => { g with nextSeq := g.nextSeq + 1 })).putN Key.tokensLastTransferSeq m.grove.nextSeq

/-- A grant from the pool: the leader's own is credited at once (log entry 29). -/
def grantTo (p : Fin 8) (k : Nat) (m : Mach) : Mach :=
  let s := m.grove.nextSeq
  let m := (takeSeq m).modGrove (fun g => { g with pool := g.pool - k })
  if p = m.me then
    (m.modMember p (fun x => { x with booked := x.booked + k })).modGrove (fun g => { g with holding := g.holding + k, lastSeq := s })
  else
    canopySend (some p) 2 1 (transferBody s k)
      (m.modGrove (fun g => { g with flights := g.flights ++ [{ sq := s, amount := k, pos := p, grant := true, sentAt := m.ns }] }))

/-- A release is asked of this device: its limit falls at once; R196 lets it acknowledge. -/
def ownRelease (s k : Nat) (m : Mach) : Mach :=
  let m := m.modGrove (fun g => { g with release := some { sq := s, amount := k, pos := m.me, grant := false, asked := true, sentAt := m.ns } })
  m.each m.theDrives (fun d m => m.modDrive d (fun x => { x with phaseBack := some (k, m.ns + ms (m.n (Key.powerAckTimeout d.1))) }))

/-- The leader requests a release. -/
def releaseAsk (p : Fin 8) (k : Nat) (m : Mach) : Mach :=
  let s := m.grove.nextSeq
  let m := (takeSeq m).modGrove (fun g => { g with
    flights := g.flights ++ [{ sq := s, amount := k, pos := p, grant := false, asked := true, sentAt := m.ns }] })
  if p = m.me then ownRelease s k m else canopySend (some p) 2 3 (transferBody s k) m

/-- The allocation: every release is requested before a grant is made, and grants come from the pool alone (R333). -/
def allocate (m : Mach) : Mach :=
  if !m.leads then m else
  let ts := m.targets
  let m := m.each ts (fun x m => if m.grove.busy x.1 ∨ m.grove.members[x.1].booked ≤ x.2 then m
    else releaseAsk x.1 (m.grove.members[x.1].booked - x.2) m)
  if !m.grove.granting then m else
  m.each ts (fun x m =>
    let k := min (x.2 - m.grove.members[x.1].booked) m.grove.pool
    if m.grove.busy x.1 ∨ k = 0 then m else grantTo x.1 k m)

/-- A release is credited once: what is recalled is destroyed first (R333). -/
def creditRelease (p : Fin 8) (s k : Nat) (m : Mach) : Mach :=
  let x := m.grove.members[p]
  if s ≤ x.lastRel then m else
  let d := min m.grove.recalled k
  let m := m.modMember p (fun x => { x with lastRel := s, booked := x.booked - k })
  m.modGrove (fun g => { g with
    recalled := g.recalled - d, pool := g.pool + (k - d), flights := g.flights.filter (fun f => f.grant || f.pos != p || f.sq != s) })

/-- The device debits a release and sends it, or credits its own pool (R196, R333). -/
def releaseNow (m : Mach) : Mach :=
  match m.grove.release with
  | none => m
  | some r =>
    if !r.asked then m else
    let m := m.modGrove (fun g => { g with holding := g.holding - r.amount, release := some { r with asked := false, sentAt := m.ns } })
    let m := m.each two (fun d m => m.modDrive d (fun x => { x with phaseBack := none }))
    if m.leads then
      allocate ((creditRelease m.me r.sq r.amount m).modGrove (fun g => { g with release := none, relDone := (r.sq, r.amount) }))
    else toLeader 2 4 (transferBody r.sq r.amount) m

/-- The release is acknowledged at the first outer computation at which the power lies at or below the reduced holding (R196). -/
def phaseBackAck (m : Mach) : Mach :=
  match m.grove.release with
  | none => m
  | some r => if r.asked && fle m.devicePower (fNat (m.grove.holding - r.amount)) then releaseNow m else m

/-- PHASE_BACK_SLOW (R196): acknowledged anyway after AckTimeout. -/
def phaseBackSlowEff (d : Fin 2) : Mach → Mach := whenLanes (fun m =>
  match m.drives[d].phaseBack with
  | none => m
  | some (_, t) => if m.ns < t then m else raiseD 0x27 d (releaseNow (m.inc (Key.powerPhaseBackCount d.1))))

/-- GRANT (R333): credited once, acknowledged always. -/
def grantEff (src : Fin 8) (s k : Nat) : Mach → Mach := whenLanes (fun m =>
  if !m.fromLeader src then m else
  let m := hear src m
  let m := if m.grove.lastSeq < s then
      (m.modGrove (fun g => { g with holding := g.holding + k, lastSeq := s })).putN Key.tokensLastTransferSeq s else m
  canopySend (some src) 2 2 (beBytes 4 s) m)

/-- GRANT_ACK (R333). -/
def grantAckEff (src : Fin 8) (s : Nat) : Mach → Mach := whenLanes (fun m =>
  if !m.leads then m else
  let m := hear src m
  match m.grove.flights.find? (fun f => f.grant && f.pos == src && f.sq == s) with
  | none => m
  | some f =>
    allocate ((m.modGrove (fun g => { g with flights := g.flights.filter (fun x => x != f) })).modMember src
      (fun x => { x with booked := x.booked + f.amount })))

/-- RELEASE_REQ (R333): a duplicate of one already debited is answered with the same RELEASE. -/
def releaseReqEff (src : Fin 8) (s k : Nat) : Mach → Mach := whenLanes (fun m =>
  if !m.fromLeader src then m else
  let m := hear src m
  match m.grove.release with
  | some r => if r.sq = s ∧ !r.asked then canopySend (some src) 2 4 (transferBody r.sq r.amount) m else m
  | none =>
    if s = m.grove.relDone.1 then canopySend (some src) 2 4 (transferBody s m.grove.relDone.2) m
    else if s < m.grove.relDone.1 then m
    else ownRelease s k m)

/-- RELEASE (R333). -/
def releaseEff (src : Fin 8) (s k : Nat) : Mach → Mach := whenLanes (fun m =>
  if !m.leads then m else
  allocate (canopySend (some src) 2 5 (beBytes 4 s) (creditRelease src s k (hear src m))))

/-- RELEASE_ACK (R333). -/
def releaseAckEff (src : Fin 8) (s : Nat) : Mach → Mach := whenLanes (fun m =>
  if !m.fromLeader src then m else
  let m := hear src m
  match m.grove.release with
  | some r => if r.sq = s ∧ !r.asked then m.modGrove (fun g => { g with release := none, relDone := (s, r.amount) }) else m
  | none => m)

/-- TRANSFER_RESEND (R333): 100 µs without an acknowledgement; a release request is repeated until its release comes. -/
def transferResendEff (s : Nat) : Mach → Mach := whenLanes (fun m =>
  let late := fun (f : Transfer) => f.sq == s && decide (f.sentAt + 100000 ≤ m.ns)
  if m.leads then
    match m.grove.flights.find? (fun f => late f && f.pos != m.me) with
    | none => m
    | some f =>
      let m := (m.inc Key.tokensRetransmitCount).modGrove (fun g => { g with
        flights := g.flights.map (fun x => if x.sq = s then { x with sentAt := m.ns } else x) })
      canopySend (some f.pos) 2 (if f.grant then 1 else 3) (transferBody f.sq f.amount) m
  else match m.grove.release with
    | some r =>
      if !r.asked && late r then
        toLeader 2 4 (transferBody r.sq r.amount)
          ((m.inc Key.tokensRetransmitCount).modGrove (fun g => { g with release := some { r with sentAt := m.ns } }))
      else m
    | none => m)

/-! ### The budget (R195, R332, R333) -/

/-- Tokens.Total takes a new value: a device alone holds it; a leader's pool gives what it can of a decrease, the rest is recalled. -/
def setTotal (total : Nat) (m : Mach) : Mach :=
  let old := m.n Key.tokensTotal
  let m := m.putN Key.tokensTotal total
  if !m.inGrove then m.modGrove (fun g => { g with holding := total })
  else if !m.leads then m
  else if old ≤ total then
    let back := min (total - old) m.grove.recalled
    allocate (m.modGrove (fun g => { g with recalled := g.recalled - back, pool := g.pool + (total - old - back) }))
  else
    let take := min m.grove.pool (old - total)
    allocate (m.modGrove (fun g => { g with pool := g.pool - take, recalled := g.recalled + (old - total - take) }))

/-! ### Modes, losses and leases (R329, R335, R336) -/

/-- The token mode changes at the leader (R336). -/
def setMode (mode : Nat) (m : Mach) : Mach :=
  if m.n Key.groveTokenMode = mode then m else raiseM 0x5F mode (m.putN Key.groveTokenMode mode)

/-- A member leaves the map: its holding, and what was on its way to it, expire (R335, R338); exact mode ends at once (R336). -/
def dropMember (p : Fin 8) (m : Mach) : Mach :=
  let x := m.grove.members[p]
  let fly := ((m.grove.flights.filter (fun f => f.grant && f.pos == p)).map (·.amount)).sum
  let m := m.modMember p (fun x => { x with
    joined := false, status := none, report := none, suspended := false, missed := 0, booked := 0, expiring := x.expiring + x.booked + fly,
    expireAt := m.grove.listed + m.leaseTime + 100000 })
  let m := m.modGrove (fun g => { g with flights := g.flights.filter (fun f => f.pos != p) })
  let m := m.putN Key.groveMemberMap (setBit (m.n Key.groveMemberMap) p.1 false)
  -- a join whose peer is lost aborts (R384): the member has sent no STATUS yet
  let m := if x.joined ∧ x.status.isNone then
      raiseM 0x6A 0x0E ((m.inc Key.sessionAbortCount).putN Key.sessionLastAbortCode 0x0E) else m
  if x.joined then setMode 1 m else m

/-- EXPIRING_TOKENS_RETURN (R335). -/
def expiringTokensReturnEff (p : Fin 8) : Mach → Mach := whenLanes (fun m =>
  let x := m.grove.members[p]
  if !m.leads ∨ x.expiring = 0 ∨ m.ns < x.expireAt then m else
  allocate ((m.modMember p (fun x => { x with expiring := 0 })).modGrove (fun g => { g with pool := g.pool + x.expiring })))

/-- LEASE_EXPIRY (R335): the holding is not used any more; exact mode ends at once (R336). -/
def leaseExpiryEff : Mach → Mach := whenLanes (fun m =>
  if !m.inGrove ∨ m.grove.lapsed ∨ m.ns < m.grove.lease then m else
  raiseM 0x5E 0xFF (setMode 1 (m.modGrove (fun g => { g with lapsed := true }))))

/-- A message that lists this device renews its lease (R335). -/
def renewLease (tN : Nat) (m : Mach) : Mach :=
  causesGone (fun a => a.ev == 0x5E) (m.modGrove (fun g => { g with lease := tN + m.leaseTime, lapsed := decide (tN + m.leaseTime ≤ m.ns) }))

/-- The conditions of exact mode (R336). -/
def Mach.exactOk (m : Mach) : Bool :=
  let size := m.n Key.groveSize
  decide (size ≤ 4) && mapCount (m.n Key.groveMemberMap) == size && m.canopy[0].up && m.canopy[1].up &&
  positions.all (fun p => p == m.me || !m.grove.members[p].joined || (bit m.grove.members[p].links.1 2 && bit m.grove.members[p].links.2 2)) &&
  m.grove.expiringSum == 0 && m.grove.auditOk

/-! ### The audit (R337, R338) -/

/-- The leader's books as the boundary finds them. -/
def auditOpen (m : Mach) : Mach :=
  let g := m.grove
  let m := m.modGrove (fun g => { g with
    snap := (g.pool, m.n Key.tokensTotal, g.expiringSum, g.recalled), snapBook := Vector.ofFn (fun p => g.members[p].booked),
    snapFlights := g.flights, auditing := true, members := vmap g.members (fun _ x => { x with report := none }) })
  m.modMember m.me (fun x => { x with report := some (g.holding, g.lastSeq) })

/-- AUDIT_REPORT (R337). -/
def auditReportEff (src : Fin 8) (n holding lastSeq : Nat) : Mach → Mach := whenLanes (fun m =>
  if !m.leads then m else
  let m := hear src m
  if m.grove.auditing ∧ n = m.n Key.groveBoundaryNumber ∧ m.grove.members[src].joined then
    m.modMember src (fun x => { x with report := some (holding, lastSeq) }) else m)

/-- A member's booking as its report shows it: a grant it had credited is booked, a release it had debited is in flight (R337).
Answers the booking and the tokens in flight. -/
def Mach.auditOf (m : Mach) (p : Fin 8) : Nat × Nat :=
  let g := m.grove
  let rep := g.members[p].report
  g.snapFlights.foldl (fun acc f =>
    if f.pos ≠ p then acc
    else if f.grant then
      (match rep with
       | some (_, l) => if f.sq ≤ l then (acc.1 + f.amount, acc.2) else (acc.1, acc.2 + f.amount)
       | none => (acc.1, acc.2 + f.amount))
    else match rep with
      | some (h, _) => if h + f.amount = acc.1 then (acc.1 - f.amount, acc.2 + f.amount) else acc
      | none => acc) (g.snapBook[p], 0)

/-- AUDIT_DEADLINE (R337, R338). -/
def auditDeadlineEff : Mach → Mach := whenLanes (fun m =>
  let g := m.grove
  if !m.leads ∨ !g.auditing ∨ m.ns < g.tN + m.bp / 2 then m else
  let (pool, total, expiring, recalled) := g.snap
  let joined := fun (p : Fin 8) => p == m.me || g.members[p].joined
  let book := fun (p : Fin 8) => m.auditOf p
  let rep := fun (p : Fin 8) => (g.members[p].report).getD (0, 0)
  let flight := (positions.map (fun p => (book p).2)).sum
  let eq := total + recalled == pool + (positions.map (fun p => (book p).1)).sum + flight + expiring
  let exact_ := m.n Key.groveTokenMode == 0
  let same := fun (p : Fin 8) => (rep p).1 == (book p).1
  let bad := positions.filter (fun p => joined p && (decide ((book p).1 < (rep p).1) || (exact_ && !same p)))
  let result := !(eq && bad.isEmpty)
  let rec_ := beBytes 8 (m.n Key.groveBoundaryNumber) ++ beBytes 2 total ++ beBytes 2 pool ++ beBytes 2 flight ++ beBytes 2 expiring ++
    beBytes 1 (m.n Key.groveTokenMode) ++ beBytes 1 (b2n result) ++ beBytes 2 recalled ++
    positions.flatMap (fun p => beBytes 2 (if joined p then (book p).1 else 0xFFFF) ++ beBytes 2 (rep p).1 ++ beBytes 4 (rep p).2)
  let m := (m.put Key.tokensAuditRecord (.bytes rec_)).modGrove (fun g => { g with
    auditing := false, auditOk := eq && (positions.filter joined).all same })
  if !result then m else
  let m := raiseM 0x60 0xFF m
  let m := m.each (bad.filter (fun p => p != m.me)) dropMember
  if eq then m else m.modGrove (fun g => { g with granting := false, dropAll := true }))

/-- Every member is dropped at the boundary after an audit whose equation failed: the allocation begins anew from tokens that
expire (R338). -/
def dropEvery (m : Mach) : Mach :=
  if !m.grove.dropAll then m else
  let m := m.each (positions.filter (fun p => p != m.me && m.grove.members[p].joined)) dropMember
  let m := m.modMember m.me (fun x => { x with booked := 0, expiring := x.expiring + x.booked, expireAt := m.grove.listed + m.leaseTime + 100000 })
  m.modGrove (fun g => { g with
    holding := 0, release := none, flights := [], recalled := 0, pool := m.n Key.tokensTotal - g.expiringSum, granting := true, dropAll := false })

end Sys2Proof.Machine
end

