-- ==== Sys2Proof/Machine/Commit.lean ====
section
/-! DEFINITION. Commit requests (R70, R71, R130, R295) and commits of a whole grove (R72, R73). -/

namespace Sys2Proof.Machine

/-! ### Messages on VC 5 to 7 -/

/-- A message of the lanes on a channel whose types and layouts the spec does not give: type, length and bytes are free values
(log entry 28). -/
def openSend (dest : Option (Fin 8)) (vc : Fin 8) (m : Mach) : Mach :=
  let ty := m.freeNow.toNat % 32
  let r := freeBytes (4 * (m.drew.freeNow.toNat % 63)) m.drew.drew
  canopySend dest vc ty r.2 r.1

/-! ### The request (R70, R71, R295) -/

/-- A domain's status changed. -/
def commitStatusSet (d : Dom) (c : Nat) (m : Mach) : Mach := m.modDom (domIx d) (fun x => { x with status := c })

/-- A commit is pending for the domain, or swap groups are carried (R71). -/
def Mach.commitHeld (m : Mach) (d : Dom) : Bool := m.doms[domIx d].pending.isSome || !m.doms[domIx d].carried.isEmpty
/-- An entry takes no write: a commit of its domain is pending (R71), or it belongs to a slot of a carried group (R130). -/
def Mach.entryHeld (m : Mach) (k : Nat) : Bool :=
  (match m.domOf k with | some d => m.doms[domIx d].pending.isSome | none => false) ||
  (match slotOfKey k with
   | some i => allDoms.any (fun d => m.doms[domIx d].carried.any (fun g => g.slots.any (fun j => j.1 == i)))
   | none => false)

/-- The safety conditions of R295 and the validation of the shadow bank (R71 item 4). -/
def Mach.bankOk (m : Mach) (d : Dom) : Bool :=
  !(m.safetyCommit d && (m.gate[0].pulses || m.gate[1].pulses || m.n Key.safetyState == 1)) && validDomain d m

/-- The first refusal of R71 that applies to a request 1 or 2, whose target is given. -/
def Mach.commitRefusal (m : Mach) (d : Dom) (role : Nat) (target : Option Nat) : Option Nat :=
  let count := m.doms[domIx d].count
  if role < 3 ∨ (m.safetyCommit d ∧ role < 4) then some 0x14
  else if m.commitHeld d then some 0x13
  else if (match target with | some n => decide (n ≤ count) | none => false) then some 0x10
  else if (match target with | some n => decide (count + 2 ^ 24 < n) | none => false) then some 0x11
  else if !m.bankOk d then some 0x12
  else none

/-- Members that have joined, but for the leader itself. -/
def Mach.joinedMap (m : Mach) : BitVec 8 :=
  BitVec.ofNat 8 ((positions.filter (fun p => p != m.me && m.grove.members[p].joined)).foldl (fun a p => setBit a p.1 true) 0)

/-- Every member has prepared: the leader sends the commit, naming a grove boundary at least Commit.Lead ahead (R72 step 3). A
target of the grove domain is a count of the leader's own, which its boundary offset turns into a grove boundary. -/
def groveCommitSend (d : Dom) (target : Option Nat) (m : Mach) : Mach :=
  let lead := m.n Key.groveBoundaryNumber + m.n Key.commitLead
  let n := match d, target with
    | .grove, some t => max lead (t + m.n Key.groveBoundaryNumber - m.doms[domIx d].count)
    | _, _ => lead
  openSend none 5 { m.modDom (domIx d) (fun x => { x with pending := x.pending.map (fun p => { p with target := some n }) }) with
    gcommits := m.gcommits.filter (fun g => g.dom != d) }

/-- A commit written to the leader is prepared at every member first (R72 step 1). -/
def groveCommitStart (d : Dom) (target : Option Nat) (m : Mach) : Mach :=
  let m := m.modDom (domIx d) (fun x => { x with
    pending := some { target := none, at_ := m.ns, safety := m.safetyCommit d, grove := true }, status := 1 })
  if m.joinedMap = 0 then groveCommitSend d target m
  else openSend none 5 { m with gcommits := m.gcommits ++ [{ dom := d, target := target, awaiting := m.joinedMap, deadline := m.ns + 1000000 }] }

/-- Commit.Request 1 or 2 for the domain that Commit.Domain names, by a writer of a role (R70, R71). -/
def commitEff (atBoundary : Bool) (role : Nat) (m : Mach) : Mach :=
  match domOfCode (m.n Key.commitDomain) with
  | none => m
  | some d =>
    let target := if atBoundary then some (m.n Key.commitTargetBoundary) else none
    match m.commitRefusal d role target with
    | some c => commitStatusSet d c m
    | none =>
      if m.leads then groveCommitStart d target m
      else m.modDom (domIx d) (fun x => { x with
        pending := some { target := target, at_ := m.ns, safety := m.safetyCommit d }, status := 1 })

/-- Every shadow value of a domain takes its live value again (R70). -/
def discardShadow (d : Dom) (m : Mach) : Mach := (m.changedOf d).foldl (fun m k => m.putShadow k (m.val k)) m

/-- Commit.Request 3 (R70, R130). -/
def commitDiscardEff (m : Mach) : Mach :=
  match domOfCode (m.n Key.commitDomain) with
  | none => m
  | some d =>
    let x := m.doms[domIx d]
    if x.pending.isSome then commitStatusSet d 0x13 m
    else (discardShadow d m).modDom (domIx d) (fun x => { x with carried := [], status := if x.carried.isEmpty then x.status else 2 })

/-! ### The members (R72, R73) -/

/-- A commit passes without this member (R72 step 5). -/
def swapMissed (d : Dom) (m : Mach) : Mach :=
  raiseM 0x08 (domCode d) (m.modDom (domIx d) (fun x => { x with pending := none, prepared := none, missAt := none, status := 0x17 }))

/-- A prepare lapses: pending state cleared, shadow bank as written (R73). -/
def prepareLapse (d : Dom) (m : Mach) : Mach :=
  m.modDom (domIx d) (fun x => { x with pending := none, prepared := none, status := 0x16 })

/-- Every prepare that waits for its commit lapses when a leader hand-over begins (R73). -/
def preparesLapse (m : Mach) : Mach :=
  m.each allDoms (fun d m => if m.doms[domIx d].prepared.isSome then prepareLapse d m else m)

/-- Commits that this device prepared as the leader, and whose boundary it has not named yet, are gone with its leadership (R73). -/
def ownPreparesLapse (m : Mach) : Mach :=
  m.gcommits.foldl (fun m g => prepareLapse g.dom m) { m with gcommits := [] }

/-- GROVE_COMMIT_PREPARE (R72): a member validates its own shadow bank and answers; a good answer holds the commit, a refusal sets its
own status. -/
def groveCommitPrepareEff (d : Dom) : Mach → Mach := whenLanes (fun m =>
  if !m.follows then m else
  let ok := !m.commitHeld d && m.bankOk d
  let m := if ok then m.modDom (domIx d) (fun x => { x with
      pending := some { target := none, at_ := m.ns, safety := m.safetyCommit d, grove := true }, prepared := some (m.ns + 2000000), status := 1 })
    else commitStatusSet d 0x16 m
  openSend m.leaderPos 5 m)

/-- The leader's commit is refused: a member did not prepare (R72 step 2). -/
def groveCommitRefused (d : Dom) (m : Mach) : Mach :=
  { prepareLapse d m with gcommits := m.gcommits.filter (fun g => g.dom != d) }

/-- PREPARE_ANSWER (R72). -/
def prepareAnswerEff (p : Fin 8) (d : Dom) (ok : Bool) : Mach → Mach := whenLanes (fun m =>
  if !m.leads then m else
  let m := hear p m
  match m.gcommits.find? (fun g => g.dom == d && g.awaiting.getLsbD p.1) with
  | none => m
  | some g =>
    if !ok then groveCommitRefused d m else
    let left := BitVec.ofNat 8 (setBit g.awaiting.toNat p.1 false)
    if left = 0 then groveCommitSend d g.target m
    else { m with gcommits := m.gcommits.map (fun x => if x.dom = d then { x with awaiting := left } else x) })

/-- PREPARE_TIMEOUT (R72): a member has not answered within 1 ms. -/
def prepareTimeoutEff (p : Fin 8) (d : Dom) : Mach → Mach := whenLanes (fun m =>
  match m.gcommits.find? (fun g => g.dom == d && g.awaiting.getLsbD p.1) with
  | none => m
  | some g => if m.ns < g.deadline then m else groveCommitRefused d m)

/-- GROVE_COMMIT (R72, R73): held to grove boundary N by a member that has prepared; one that has not, or hears of N once it has
passed, misses the swap. -/
def groveCommitEff (d : Dom) (n : Nat) : Mach → Mach := whenLanes (fun m =>
  if !m.inGrove ∨ m.leads then m else
  let past := decide (n ≤ m.n Key.groveBoundaryNumber)
  if past then swapMissed d m
  else if m.doms[domIx d].prepared.isSome then
    m.modDom (domIx d) (fun x => { x with prepared := none, pending := x.pending.map (fun p => { p with target := some n }) })
  else m.modDom (domIx d) (fun x => { x with missAt := some n }))

/-- PREPARE_LAPSE (R73): 2 ms after a member's answer. -/
def prepareLapseEff (d : Dom) : Mach → Mach := whenLanes (fun m =>
  if due m m.doms[domIx d].prepared then prepareLapse d m else m)

/-- Grove boundary N has passed without the commits that name it (R72 step 5). -/
def missedSwaps (m : Mach) : Mach :=
  m.each allDoms (fun d m => match m.doms[domIx d].missAt with
    | some n => if n ≤ m.n Key.groveBoundaryNumber then swapMissed d m else m
    | none => m)

end Sys2Proof.Machine
end

