-- ==== Sys2Proof/Machine/Sleep.lean ====
section
/-! DEFINITION. Requests to sleep, of the device and of a grove (R418, R419). How MAIN_EN falls is in Lantern.lean. -/

namespace Sys2Proof.Machine

/-- A bank operation is in progress (R407 to R409). -/
def Mach.bankBusy (m : Mach) : Bool := m.n Key.bankStatus == 1 || m.nv.activating.isSome

/-- SleepStatus of the first condition that stands against sleep, the grove's own aside (R418). -/
def Mach.sleepBlocked (m : Mach) : Option Nat :=
  if m.theDrives.any (fun d => m.drives[d].st != .off) then some 2
  else if !m.sess.opened.isEmpty || m.echo.active then some 3
  else if m.doms.any (fun x => x.pending.isSome || !x.carried.isEmpty) || m.bankBusy then some 4
  else if m.n Key.safetyState = 1 then some 5
  else none

/-- Entry to sleep begins (R419): the wraps are stored (R197), new sessions, commits and bank commands are refused from here on. -/
def sleepBegin (m : Mach) : Mach :=
  let m := m.each (m.theDrives.filter (fun d => m.n (Key.application d.1) == 1)) storeWraps
  let m := m.putN Key.powerSleepStatus 1
  { m with sleep := { m.sleep with entering := true, since := m.ns, boundary := none } }

/-- A request to sleep (R418): refused with its code, carried out at once by a device alone, and in a grove at a boundary that the
leader names to every member, on a channel the spec does not give (log entry 28). -/
def sleepAsk (m : Mach) : Mach :=
  if m.sleep.entering then m else
  match m.sleepBlocked with
  | some c => m.putN Key.powerSleepStatus c
  | none =>
    if !m.inGrove then sleepBegin m
    else if !m.leads then m.putN Key.powerSleepStatus 6
    else openSend none 5 { m with sleep := { m.sleep with boundary := some (m.n Key.groveBoundaryNumber + m.n Key.commitLead) } }

/-- A request is abandoned; the status a grove's refusal leaves after entry has begun is not stated: a free value (log entry 3). -/
def sleepAbandon (m : Mach) : Mach :=
  let was := m.sleep.entering
  let m : Mach := { m with sleep := { m.sleep with entering := false, boundary := none } }
  if was then (m.putN Key.powerSleepStatus (m.freeNow.toNat % 9)).drew else m

/-- The named grove boundary has come: the member sleeps, or refuses what it can no longer accept (R418). -/
def sleepBoundary (m : Mach) : Mach :=
  match m.sleep.boundary with
  | none => m
  | some n =>
    if m.n Key.groveBoundaryNumber < n then m
    else match m.sleepBlocked with
      | none => sleepBegin m
      | some c => openSend (if m.leads then none else m.leaderPos) 5
          ({ m with sleep := { m.sleep with boundary := none } }.putN Key.powerSleepStatus c)

/-- SLEEP_REQUEST (R418). -/
def sleepRequestEff : Mach → Mach := whenLanes sleepAsk

/-- Since when every drive is Off and no connection is open (R418). -/
def idleTrack (m : Mach) : Mach :=
  let idle := m.theDrives.all (fun d => m.drives[d].st == .off) && m.net.conns.isEmpty
  { m with sleep := { m.sleep with idleSince := if idle then some (m.sleep.idleSince.getD m.ns) else none } }

/-- IDLE_SLEEP_TIMEOUT (R418). -/
def idleSleepTimeoutEff : Mach → Mach := whenLanes (fun m =>
  let t := m.n Key.powerIdleSleepTime
  match m.sleep.idleSince with
  | some s => if t ≠ 0 ∧ s + t * 60000000000 ≤ m.ns then sleepAsk m else m
  | none => m)

/-- GROVE_SLEEP_ORDER (R418): the member holds the order, or refuses it. -/
def groveSleepOrderEff (src : Fin 8) (n : Nat) : Mach → Mach := whenLanes (fun m =>
  if !m.fromLeader src then m else
  match m.sleepBlocked with
  | some c => openSend (some src) 5 (m.putN Key.powerSleepStatus c)
  | none => { m with sleep := { m.sleep with boundary := some n } })

/-- GROVE_SLEEP_REFUSAL (R418): the leader abandons the request on every member, and a member that hears so from its leader. -/
def groveSleepRefusalEff (src : Fin 8) : Mach → Mach := whenLanes (fun m =>
  if m.leads then openSend none 5 (sleepAbandon (hear src m))
  else if m.fromLeader src then sleepAbandon m else m)

end Sys2Proof.Machine
end

