-- ==== Sys2Proof/Machine/Grove.lean ====
section
/-! DEFINITION. Groves: formation, joining, boundaries and alignment, losses and hand-over, shares, the budget's writers
(R322 to R331, R340, R344). -/

namespace Sys2Proof.Machine

/-! ### Messages (R321) -/

/-- Control-cycle boundary period, µs. -/
def Mach.periodUs (m : Mach) : Nat := m.controlPeriod / 1000000
/-- HELLO and JOIN_REQ. -/
def Mach.helloBody (m : Mach) : List Byte :=
  beBytes 4 (m.n Key.groveId) ++ beBytes 1 (m.n Key.groveSize) ++ beBytes 1 (b2n m.portsHealthy) ++ beBytes 2 m.periodUs ++
  beBytes 4 (m.n Key.identityFirmwareVersion)
/-- BOUNDARY. -/
def Mach.boundaryBody (m : Mach) (n tN : Nat) : List Byte :=
  beBytes 8 n ++ beBytes 8 tN ++ beBytes 1 (m.n Key.groveMemberMap) ++ beBytes 1 (m.n Key.groveTokenMode) ++ [0, 0]
/-- STATUS (R328). -/
def Mach.statusBody (m : Mach) : List Byte :=
  beBytes 1 (b2n (m.inServiceSet 0) + 2 * b2n (m.inServiceSet 1)) ++ [0] ++ beBytes 2 m.grove.holding ++ beBytes 8 m.grove.heardN ++
  beBytes 4 m.grove.lastSeq ++
  two.flatMap (fun s => let r := m.setReport s; beBytes 4 r.1.toNat ++ beBytes 4 r.2.1.toNat ++ beBytes 4 r.2.2.toNat) ++
  beBytes 4 (m.speedOf 0).toNat
/-- CLAIM (R330). -/
def Mach.claimBody (m : Mach) : List Byte :=
  let r : Nat × Nat := match m.grove.release with | some r => if r.asked then (0, 0) else (r.sq, r.amount) | none => (0, 0)
  beBytes 1 (b2n m.portsHealthy) ++ beBytes 1 m.reachable ++ beBytes 2 m.grove.holding ++ beBytes 4 r.1 ++ beBytes 2 r.2 ++ [0, 0]

/-- The leader's SYNC on both ports and BOUNDARY, in the order of their channels' priorities (R317, R325, R327). -/
def boundarySend (m : Mach) : Mach :=
  canopySend none 0 4 (m.boundaryBody (m.n Key.groveBoundaryNumber) m.grove.tN) (syncSend m.grove.tN m)

/-- Timebase.Status bit 2 (R74). -/
def groveTimeValid (v : Bool) (m : Mach) : Mach := m.putN Key.timebaseStatus (setBit (m.n Key.timebaseStatus) 2 v)

/-! ### Formation (R322, R323, R326) -/

/-- Carriers are phased to grove time: with both sets' pulses removed they take a new grid at once, otherwise by rate alone (R54,
R324, R326). -/
def phaseCarriers (m : Mach) : Mach :=
  if m.gate[0].pulses ∨ m.gate[1].pulses then m
  else (m.modPwm 0 (fun p => { p with origin := 0, regrid := true })).modPwm 1 (fun p => { p with regrid := true })

/-- Why a HELLO's sender is refused (R323). -/
def Mach.helloCode (m : Mach) (h : Hello) : Nat :=
  if h.id.toNat ≠ m.n Key.groveId then 1
  else if h.fw.toNat ≠ m.n Key.identityFirmwareVersion then 2
  else if h.size.toNat ≠ m.n Key.groveSize then 5
  else if 250 < h.period.toNat then 6
  else 0
/-- Why a JOIN_REQ is refused (R323), in the order of its codes; a ring-order fault shows in the joiner's LINK_STATE (R321). -/
def Mach.joinCode (m : Mach) (src : Fin 8) (h : Hello) : Nat :=
  let c := m.helloCode h
  let ringFault := bit m.grove.members[src].links.1 5 || bit m.grove.members[src].links.2 5
  if c = 1 ∨ c = 2 then c
  else if m.grove.members[src].joined ∨ src = m.me then 3
  else if ringFault then 4
  else c

/-- JOIN_ANSWER. -/
def joinAnswerSend (src : Fin 8) (code : Nat) (m : Mach) : Mach :=
  canopySend (some src) 0 3 (beBytes 1 code ++ beBytes 1 (m.n Key.groveMemberMap) ++ beBytes 2 (m.n Key.groveBoundaryPeriod) ++
    beBytes 8 (m.n Key.groveBoundaryNumber) ++ beBytes 8 m.grove.tN) m

/-- The grove-stop line test begins (R307). -/
def lineTestStart (m : Mach) : Mach := m.modSafety (fun s => { s with linePassed := false, lineTest := some 0, lineAt := m.ns })

/-- The device becomes the leader of a grove that forms: the total lies in its pool, no member has joined yet. -/
def becomeLeader (m : Mach) : Mach :=
  let g := m.grove
  let m : Mach := { m with grove := { g with
    members := vmap g.members (fun _ x => { hello := x.hello, heard := x.heard, links := x.links, lastRel := 0 }),
    tN := m.ns, listed := m.ns, holding := 0, lastSeq := 0, release := none, pool := m.n Key.tokensTotal, recalled := 0, flights := [],
    granting := true, dropAll := false, auditing := false, auditOk := true, claimAt := none, retryAt := none, relDone := (0, 0) } }
  let m := ((((m.putN Key.groveState 3).putN Key.groveLeaderPosition m.me.1).putN Key.groveMemberMap (2 ^ m.me.1)).putN Key.groveTokenMode 1).putN
    Key.groveJoinRefuseCode 0
  let m := groveTimeValid true m
  allocate (boundarySend (lineTestStart (phaseCarriers (renewLease m.grove.tN m))))

/-- The lowest compatible position heard leads as soon as `go` holds (R322 step 2), if it may lead at all (R331). -/
def formNow (go : Bool) (m : Mach) : Mach :=
  let heard := positions.filter (fun p => p == m.me || m.grove.members[p].hello.isSome)
  let ok := fun (p : Fin 8) => match m.grove.members[p].hello with | some h => m.helloCode h == 0 | none => false
  let lowest := m.periodUs ≤ 250 && heard.all (fun p => m.me ≤ p || !ok p)
  if m.n Key.groveState = 1 ∧ (go ∨ m.n Key.groveSize ≤ heard.length) ∧ lowest ∧ m.mayLead then becomeLeader m else m

/-- HELLO (R322, R323). -/
def helloEff (src : Fin 8) (h : Hello) : Mach → Mach := whenLanes (fun m =>
  if !m.inGrove ∨ src = m.me then m else
  let m := hear src (m.modMember src (fun x => { x with hello := some h }))
  if m.leads then (if m.helloCode h = 0 then m else joinAnswerSend src (m.helloCode h) m)
  else formNow false m)

/-- HELLO_TIMER (R322): every 1 ms while forming. -/
def helloTimerEff : Mach → Mach := whenLanes (fun m =>
  let go : Bool := match m.grove.helloAt with | some t => decide (t + 1000000 ≤ m.ns) | none => true
  if m.inGrove ∧ m.n Key.groveState = 1 ∧ go then
    canopySend none 0 1 m.helloBody (m.modGrove (fun g => { g with helloAt := some m.ns }))
  else m)

/-- FORM_TIME_EXPIRY (R322). -/
def formTimeExpiryEff : Mach → Mach := whenLanes (fun m =>
  let over_ : Bool := match m.grove.firstUp with | some t => decide (t + ms (m.n Key.groveFormTime) ≤ m.ns) | none => false
  if m.inGrove ∧ over_ then formNow true m else m)

/-- The grove-domain live bank as the session of type 0x06 carries it: the records of R404 (R324, R373; log entry 38). -/
def Mach.groveBank (m : Mach) : List Byte :=
  (allKeys.filter (fun k => m.domOf k == some .grove)).flatMap (fun k => bankRecord k (m.val k))
/-- The leader's bank goes to a joiner in a session of type 0x06 on VC 6: OPEN, the segments, which one window holds, and FINISH; the
session's number and token are the joiner's and the leader's own, free values (R322, R373, R375, R376; log entry 38). -/
def joinSend (p : Fin 8) (m : Mach) : Mach :=
  let b := m.groveBank
  let seg := max 1 (m.n Key.sessionSegmentSize)
  let sid := m.freeNow.setWidth 32
  let token := m.drew.freeNow.setWidth 16
  let pdu := fun (id : BitVec 32) (op sq off : Nat) (data : List Byte) =>
    let body := sessBody id op sq off data
    beBytes 1 0 ++ pduHeader 9 (16 + body.length) 0 0 0 (m.address p.1 0xFF 0xFF) ++ body
  let parts := (List.range ((b.length + seg - 1) / seg)).map (fun j => pdu sid 3 j (j * seg) ((b.drop (j * seg)).take seg))
  let opening := pdu 0 1 0 0 ([6, 0, 8, 0] ++ beBytes 4 b.length ++ beBytes 4 (crc32c b).toNat ++ beBytes 2 token.toNat)
  m.drew.drew.each (opening :: parts ++ [pdu sid 6 0 0 []]) (fun x m => serviceSend (some p) 6 x m)

/-- JOIN_REQ at the leader (R322 step 3, R323). -/
def joinReqEff (src : Fin 8) (h : Hello) : Mach → Mach := whenLanes (fun m =>
  if !m.leads then m else
  let code := m.joinCode src h
  let m := hear src m
  if code ≠ 0 then joinAnswerSend src code m else
  let m := m.modMember src (fun x => { x with
    hello := some h, joined := true, missed := 0, suspended := false, status := none, report := none, booked := 0 })
  let m := m.putN Key.groveMemberMap (setBit (m.n Key.groveMemberMap) src.1 true)
  let m := joinSend src (joinAnswerSend src 0 m)
  causesGone (fun a => a.ev == 0x5C && a.inst == src.1) (lineTestStart m))

/-- The leader's grove-domain bank replaces this member's, live and shadow (R324). -/
def groveBankTake (bank : List (Nat × List Byte)) (m : Mach) : Mach :=
  let m := bank.foldl (fun m p => match rowOf p.1 with
    | none => m
    | some r =>
      if m.domOf p.1 != some .grove then m
      else match parseVal r.ty p.2 with
        | .ok v => if m.inRange p.1 r v then m.putBoth p.1 v else m
        | .error _ => m) m
  applyMask m.maskBlocks (discardShadow .grove m)

/-- JOIN_ANSWER at a joiner (R322 to R324). -/
def joinAnswerEff (code map : BitVec 8) (period n tN : Nat) (bank : List (Nat × List Byte)) : Mach → Mach := whenLanes (fun m =>
  if !m.inGrove ∨ !(m.n Key.groveState = 1 ∨ m.n Key.groveState = 4) then m
  else if code ≠ 0 then
    let m := m.modGrove (fun g => { g with holding := 0, retryAt := some (m.ns + 1000000000) })
    raiseM 0x5B code.toNat ((m.putN Key.groveState 4).putN Key.groveJoinRefuseCode code.toNat)
  else
    let m := groveBankTake bank m
    let m := m.putBoth Key.groveBoundaryPeriod (.num period)
    let m := (((m.putN Key.groveState 2).putN Key.groveJoinRefuseCode 0).putN Key.groveMemberMap map.toNat).putN Key.groveBoundaryNumber n
    let m := m.putI 64 Key.groveBoundaryOffset ((n : Int) - m.doms[domIx .grove].count)
    let m := m.modGrove (fun g => { g with
      tN := tN, heardN := n, holding := 0, lastSeq := 0, release := none, relDone := (0, 0), lapsed := true, aligned := 0, syncAt := none, wideAt := none, stepDue := true,
      claimAt := none, retryAt := none, share := none })
    groveTimeValid false (phaseCarriers (lineTestStart (causesGone (fun a => a.ev == 0x5B) m))))

/-- JOIN_RETRY (R323): every 1 s. -/
def joinRetryEff : Mach → Mach := whenLanes (fun m =>
  if !m.inGrove ∨ m.n Key.groveState ≠ 4 ∨ !due m m.grove.retryAt then m else
  let m := m.modGrove (fun g => { g with retryAt := some (m.ns + 1000000000) })
  match m.leaderPos with
  | some p => canopySend (some p) 0 2 m.helloBody m
  | none => canopySend none 0 1 m.helloBody m)

/-! ### Boundaries (R327, R331, R336, R337) -/

/-- The device gives up leading, or its leader has dropped it: it asks to join the leader it hears; what it holds runs on to the end
of its lease, and what it booked as a leader is treated as expiring (R331, R335). -/
def rejoin (src : Fin 8) (m : Mach) : Mach :=
  let led := decide (m.n Key.groveState = 3 ∨ m.n Key.groveState = 5)
  let m := m.modGrove (fun g => { g with
    release := none, flights := [], claimAt := none, auditing := false, share := none, aligned := 0,
    members := if led then vmap g.members (fun p x => { x with
        joined := false, booked := 0, expiring := x.expiring + (if p = m.me then 0 else x.booked), expireAt := g.listed + m.leaseTime + 100000 })
      else g.members })
  let m := m.each two (fun d m => m.modDrive d (fun x => { x with phaseBack := none }))
  let m := ((m.putN Key.groveState 1).putN Key.groveLeaderPosition src.1).putN Key.groveMemberMap 0
  canopySend (some src) 0 2 m.helloBody (ownPreparesLapse (groveTimeValid false m))

/-- A leader that has lost the right to lead stops leading at once (R331). -/
def leadJudge (m : Mach) : Mach := if m.leads ∧ !m.mayLead then m.putN Key.groveState 5 else m

/-- What the leader does at a grove boundary. -/
def leaderBoundary (m : Mach) : Mach :=
  if !m.mayLead then leadJudge m else
  let m := auditOpen (setMode (if m.exactOk then 0 else 1) (dropEvery m))
  let m := m.modGrove (fun g => { g with listed := g.tN })
  allocate (boundarySend (renewLease m.grove.tN m))

/-- GROVE_BOUNDARY (R66, R72, R327): one BoundaryPeriod after the last, by the device's own counter. -/
def groveBoundaryEff : Mach → Mach := whenUp (fun m =>
  if m.ns < m.grove.tN + m.bp then m else
  let m := (m.modGrove (fun g => { g with tN := g.tN + m.bp })).add Key.groveBoundaryNumber 1
  let m := boundaryOf .grove m
  if !m.lanesAct then m else
  let m := sleepBoundary (missedSwaps m)
  if !m.inGrove then m
  else match m.n Key.groveState with
    | 2 => toLeader 2 6 (beBytes 8 (m.n Key.groveBoundaryNumber) ++ beBytes 2 m.grove.holding ++ [0, 0] ++ beBytes 4 m.grove.lastSeq) m
    | 3 => leaderBoundary m
    | 5 => if m.mayLead then leaderBoundary (m.putN Key.groveState 3) else m
    | _ => m)

/-- BOUNDARY (R322, R327, R331, R335). -/
def boundaryEff (src : Fin 8) (n tN : Nat) (map mode : BitVec 8) : Mach → Mach := whenLanes (fun m =>
  if !m.inGrove ∨ src = m.me then m else
  let m := hear src m
  match m.n Key.groveState with
  | 1 => canopySend (some src) 0 2 m.helloBody (m.putN Key.groveLeaderPosition src.1)
  | 2 =>
    if m.leaderPos = some src then
      let m := m.modGrove (fun g => { g with heardN := n, listed := tN, flights := [], members := vmap g.members (fun _ x => { x with claim := none }) })
      let m := (m.putN Key.groveMemberMap map.toNat).putN Key.groveTokenMode mode.toNat
      if bit map.toNat m.me.1 then renewLease tN m else rejoin src m
    else match m.leaderPos with
      | some l => if src < l then rejoin src m else m
      | none => rejoin src m
  | 3 | 5 => if src < m.me then rejoin src m else m
  | _ => m.putN Key.groveLeaderPosition src.1)

/-- A member out of the ring's reach is suspended at once (R329). -/
def suspendNow (p : Fin 8) (m : Mach) : Mach :=
  if m.grove.members[p].suspended then m
  else (m.modMember p (fun x => { x with suspended := true })).inc Key.shareSuspendCount

/-- Suspensions as the leader's counts and its routes stand. -/
def suspensions (m : Mach) : Mach :=
  if !m.leads then m else
  let gone := positions.filter (fun p => p != m.me && m.grove.members[p].joined && !m.grove.members[p].suspended &&
    (decide (3 ≤ m.grove.members[p].missed) || !bit m.reachable p.1))
  if gone.isEmpty then m else allocate (m.each gone suspendNow)

/-- LINK_STATE (R320): every member recomputes its routes. -/
def linkStateEff (src : Fin 8) (east west : BitVec 8) : Mach → Mach := whenUp (fun m =>
  if src = m.me then m else
  let m := m.modMember src (fun x => { x with links := (east.toNat, west.toNat), heard := m.ns })
  if m.lanesAct then suspensions m else m)

/-- The time counter steps (R54): the model's instants of the carriers, samples, edges and control cycles, which the hardware counts
on, step with it; deadlines in nanoseconds stand as they were written (DESIGN CHOICE, log entry 105). -/
def stepTime (d : Int) (m : Mach) : Mach :=
  let mv := fun (t : Time) => ((t : Int) + 1000 * d).toNat
  { m with
    now := mv m.now,
    pwm := vmap m.pwm (fun _ p => { p with hStart := mv p.hStart, hEnd := mv p.hEnd, next := mv p.next, origin := mv p.origin }),
    eng := vmap m.eng (fun _ e => { e with lastSample := mv e.lastSample, lastComputed := mv e.lastComputed }),
    sense := vmap m.sense (fun _ x => { x with
      mclk := x.mclk.map mv, before := x.before.map (fun b => (mv b.1, b.2)), edges := x.edges.map (fun e => (mv e.1, e.2)),
      poles := x.poles.map (fun e => { e with at_ := mv e.at_ }), inputs := vmap x.inputs (fun _ i => { i with aliveAt := mv i.aliveAt }) }),
    clr := { m.clr with boundaryAt := mv m.clr.boundaryAt },
    net := { m.net with
      pd := { m.net.pd with cycleAt := ((m.net.pd.cycleAt : Int) + d).toNat },
      gptp := { m.net.gptp with lastSync := ((m.net.gptp.lastSync : Int) + d).toNat } } }

/-- A deviation as the dictionary holds it, within ±1,000,000 ns or ppm (R74). -/
def deviation (x : Int) : Int := max (-1000000) (min 1000000 x)

/-- SYNC (R54, R55, R325): the boundary's grove time against the counter, after the link's latency. The first one after a join steps
the counter while the pulses of both sets are removed; from then on the counter is steered, and the commands' instants are its
readings. -/
def syncEff (src : Fin 8) (port : Fin 2) (tN corr : Nat) : Mach → Mach := whenUp (fun m =>
  if !m.fromLeader src ∨ m.grove.syncAt = some tN then m else
  let delay := m.n (if port = 0 then Key.canopyEastLinkDelay else Key.canopyWestLinkDelay)
  let off : Int := (tN : Int) + corr + delay - m.ns
  let m := m.putI 32 Key.timebaseGroveDeviation (deviation off)
  if m.grove.stepDue then
    let m := m.modGrove (fun g => { g with syncAt := some tN, stepDue := false, aligned := 0, wideAt := none })
    if m.gate[0].pulses ∨ m.gate[1].pulses then m else phaseCarriers (stepTime off m)
  else
    let wide := decide (50 < off.natAbs)
    let again := wide && m.grove.wideAt == some (tN - m.bp)
    let near := decide (off.natAbs ≤ 20)
    let m := m.modGrove (fun g => { g with
      syncAt := some tN, wideAt := if wide then some tN else none,
      aligned := if 4 ≤ g.aligned then g.aligned else if near then g.aligned + 1 else 0 })
    let m := groveTimeValid (decide (4 ≤ m.grove.aligned)) m
    if again then raiseM 0x05 2 m else if wide then m else causesGone (fun a => a.ev == 0x05 && a.inst == 2) m)

/-- STATUS at the leader (R328, R332). -/
def statusEff (src : Fin 8) (st : StatusMsg) : Mach → Mach := whenLanes (fun m =>
  if !m.leads ∨ !m.grove.members[src].joined then m else
  let m := hear src m
  let was := m.memberWeight src
  let m := m.modMember src (fun x => { x with status := some st, missed := 0, suspended := false })
  if m.memberWeight src = was then m else allocate m)

/-- A control-cycle boundary of a grove member (R328, R329): STATUS to the leader; the leader judges the others. -/
def groveControl (m : Mach) : Mach :=
  if m.follows then toLeader 3 2 m.statusBody m
  else if m.leads then
    suspensions { m with grove := { m.grove with
      members := vmap m.grove.members (fun _ x => if x.joined then { x with missed := x.missed + 1 } else x) } }
  else m

/-! ### Losses and hand-over (R329 to R331) -/

/-- MEMBER_LOST (R329). -/
def memberLostEff (p : Fin 8) : Mach → Mach := whenLanes (fun m =>
  let x := m.grove.members[p]
  if !m.leads ∨ p = m.me ∨ !x.joined ∨ (bit m.reachable p.1 ∧ m.ns < x.heard + m.bp) then m else
  allocate (raiseM 0x5C p.1 (dropMember p m)))

/-- LEADER_LOST (R330): BOUNDARY N is late by half a period, or the ring no longer reaches the leader. -/
def leaderLostEff : Mach → Mach := whenLanes (fun m =>
  let late := decide (m.grove.heardN < m.n Key.groveBoundaryNumber) && decide (m.grove.tN + m.bp / 2 ≤ m.ns)
  let away : Bool := match m.leaderPos with | some p => !bit m.reachable p.1 | none => true
  if !m.follows ∨ m.grove.claimAt.isSome ∨ !(late ∨ away) then m else
  let m := canopySend none 0 6 m.claimBody m
  preparesLapse (m.modGrove (fun g => { g with claimAt := some (m.ns + 20000) })))

/-- CLAIM (R330): the claimant's right to lead, what it holds and the release it has in flight. -/
def claimEff (src : Fin 8) (selfCheck : Bool) (reach : BitVec 8) (holding relSeq relAmt : Nat) : Mach → Mach := whenLanes (fun m =>
  if !m.inGrove ∨ src = m.me then m else
  let m := hear src m
  if !m.follows then m else
  let m := m.modMember src (fun x => { x with
    claim := some (rightToLead (m.n Key.groveSize) reach.toNat selfCheck), booked := holding + relAmt })
  preparesLapse (m.modGrove (fun g => { g with
    flights := g.flights.filter (fun f => f.pos != src) ++
      (if relAmt = 0 then [] else [{ sq := relSeq, amount := relAmt, pos := src, grant := false, sentAt := m.ns }]) })))

/-- The device takes over (R330): the claimants are its members, their claims its books, and what they do not account for of the
total expires at the old leader. The total itself, held by the lost leader, reaches it by no message: a free value; so is the step
by which its sequence numbers pass every number it knows of (log entry 30). -/
def takeOver (m : Mach) : Mach :=
  let old := m.leaderPos
  let g := m.grove
  let known := (positions.map (fun p => g.members[p].lastRel)).foldl max (max g.lastSeq (max g.relDone.1 ((g.flights.map (·.sq)).foldl max 0)))
  let next := known + 1 + m.freeNow.toNat % 65536
  let total := m.drew.freeNow.toNat % 65536
  let m := m.drew.drew.putN Key.tokensTotal total
  let m := m.each two (fun d m => m.modDrive d (fun x => { x with phaseBack := none }))
  let m : Mach := ownPreparesLapse m
  let m : Mach := { m with grove := { g with
    members := vmap g.members (fun p x => { x with
      joined := x.claim.isSome && p != m.me, booked := if p = m.me then g.holding else if x.claim.isSome then x.booked else 0,
      expiring := 0, missed := 0, suspended := false, status := none, report := none, claim := none, lastRel := 0, heard := m.ns }),
    claimAt := none, release := none, nextSeq := next, pool := 0, recalled := 0, granting := true, dropAll := false, auditing := false,
    auditOk := false } }
  let sum := m.grove.bookedSum
  let m := match old with
    | some o => if sum ≤ total then m.modMember o (fun x => { x with expiring := total - sum, expireAt := g.listed + m.leaseTime + 100000 }) else m
    | none => m
  let m := m.modGrove (fun g => { g with recalled := sum - total })
  let map := (positions.filter (fun p => p == m.me || m.grove.members[p].joined)).foldl (fun a p => setBit a p.1 true) 0
  let n := m.n Key.groveBoundaryNumber + 1
  let tN := m.grove.tN + m.bp
  let m := setMode 1 ((((m.putN Key.groveState 3).putN Key.groveLeaderPosition m.me.1).putN Key.groveMemberMap map).inc Key.groveHandOverCount)
  let m := groveTimeValid true m
  let m := canopySend none 0 7 (m.boundaryBody n tN ++ beBytes 4 next) m
  let m := m.modGrove (fun g => { g with listed := tN })
  raiseM 0x5D m.me.1 (renewLease tN m)

/-- CLAIM_WINDOW_END (R330): 20 µs after the own CLAIM the lowest claimant with the right to lead becomes leader. -/
def claimWindowEndEff : Mach → Mach := whenLanes (fun m =>
  if !m.follows ∨ !due m m.grove.claimAt then m else
  let m := m.modGrove (fun g => { g with claimAt := none })
  if m.mayLead ∧ positions.all (fun p => m.me ≤ p || m.grove.members[p].claim != some true) then takeOver m else m)

/-- TAKEOVER (R330, R335). -/
def takeoverEff (src : Fin 8) (n tN : Nat) (map mode : BitVec 8) (nextSeq : Nat) : Mach → Mach := whenLanes (fun m =>
  if !m.inGrove ∨ src = m.me then m else
  let m := hear src m
  match m.n Key.groveState with
  | 2 =>
    let m := preparesLapse ((m.putN Key.groveLeaderPosition src.1).inc Key.groveHandOverCount)
    let m := raiseM 0x5D src.1 ((m.putN Key.groveMemberMap map.toNat).putN Key.groveTokenMode mode.toNat)
    let m := m.modGrove (fun g => { g with
      heardN := n, listed := tN, claimAt := none, flights := [], nextSeq := nextSeq, members := vmap g.members (fun _ x => { x with claim := none }) })
    if bit map.toNat m.me.1 then renewLease tN m else rejoin src m
  | 3 | 5 => if src < m.me then rejoin src m else m
  | 1 => canopySend (some src) 0 2 m.helloBody (m.putN Key.groveLeaderPosition src.1)
  | _ => m)

/-! ### Shares (R340) -/

/-- SHARE: applied from its apply time, or at once and counted where that has passed. -/
def shareEff (src : Fin 8) (at_ : Nat) (total : F32) (refs : List F32) : Mach → Mach := whenLanes (fun m =>
  if !m.fromLeader src then m else
  let m := ((hear src m).putR Key.shareGroveTorqueRef total).modGrove (fun g => { g with share := some (at_, refs) })
  if m.ns ≤ at_ then m else
  let m := shareTake (shareApply m)
  raiseM 0x61 0xFF (m.inc Key.shareLateShareCount))

/-! ### The budget's writers (R332, R344) -/

/-- Totals as they may be given now (R344): a lower one at once; a higher one only when every unit's audit shows Σ booked at or below
what it has been given. -/
def allot (targets audits : List (Nat × Nat)) (given : Sparse Nat) : Sparse Nat :=
  let now := fun (given : Sparse Nat) (n : Nat) => (look n given).getD 0
  let low := targets.foldl (fun g t => if t.2 < now g t.1 then ins t.1 t.2 (erase t.1 g) else g) given
  if audits.all (fun a => decide (a.2 ≤ now low a.1)) then targets.foldl (fun g t => ins t.1 t.2 (erase t.1 g)) low else low

/-- A budget in proportion to weights in service, in whole tokens, the remainder one by one to the lowest numbers (R332, R344); what a
silent unit has been given is not given again yet. -/
def parts (budget : Nat) (units : List (Nat × Nat)) (given : Sparse Nat) : List (Nat × Nat) :=
  let kept := ((given.filter (fun g => !units.any (fun u => u.1 == g.1))).map (·.2)).sum
  let total := budget - kept
  let sum := (units.map (·.2)).sum
  if sum = 0 then units.map (fun u => (u.1, 0)) else
  let base := units.map (fun u => (u.1, total * u.2 / sum))
  let rest := total - (base.map (·.2)).sum
  base.zipIdx.map (fun x => (x.1.1, x.1.2 + (if x.2 < rest then 1 else 0)))

/-- The shaft group's budget goes to its stands (R345), the stand's to its groves (R344); the own parts act here. -/
def apportion (m : Mach) : Mach :=
  let role := m.standRole
  if role < 2 then m else
  let stand := m.n Key.unitStandNumber
  let m := if role < 3 then m else
    let units := m.shaftStands.map (fun n => (n, weightSum (m.standGroves n)))
    let audits := m.shaftStands.map (fun n => (n, ((m.standGroves n).map (·.audited)).sum))
    let given := allot (parts m.grove.shaftBudget units m.grove.standGiven) audits m.grove.standGiven
    (m.modGrove (fun g => { g with standGiven := given })).putBoth Key.unitBudget (.num ((look stand given).getD 0))
  let groves := m.standGroves stand
  let given := allot (parts (m.n Key.unitBudget) (groves.map (fun g => (g.grove, g.weight))) m.grove.given)
    (groves.map (fun g => (g.grove, g.audited))) m.grove.given
  let m := m.modGrove (fun g => { g with given := given })
  let total := min 65535 ((look (m.n Key.unitGroveNumber) given).getD 0)
  if total = m.n Key.tokensTotal then m else setTotal total m

/-- The process-data frames of a stand leader, to every other grove leader of its stand with that grove's total, and one level up to
every other stand's leader with that stand's budget; each with its share of the shaft torque (R344, R345). -/
def standSend (m : Mach) : Mach :=
  let own := m.n Key.unitStandNumber
  let to_ := fun (g : Config.GroveSeen) (value : Nat) (part : List Config.GroveSeen) (m : Mach) =>
    let data := Config.standValues g.mac value (m.torquePart m.drives[0].torqueRef part)
    sendCyclic two (beBytes 6 g.mac.toNat) (pduHeader 1 (16 + data.length) 0 m.net.pd.txCount.toNat 0 anyUnit ++ data) m
  let m := m.each ((m.standGroves own).filter (fun g => g.grove != m.n Key.unitGroveNumber)) (fun g m =>
    to_ g ((look g.grove m.grove.given).getD 0) [g] m)
  if m.standRole < 3 then m else
  m.each (m.shaftStands.filter (· != own)) (fun n m => match m.standGroves n with
    | g :: _ => to_ g ((look n m.grove.standGiven).getD 0) (m.standGroves n) m
    | [] => m)

/-- A network boundary at a leader in a stand (R344): it knows the other groves as they are now, the stand leader apportions, and its
frames leave. Their weights, addresses and audits reach it by no message the spec gives (log entry 31). -/
def standCycle (m : Mach) : Mach :=
  if !m.inStand then m.modGrove (fun g => { g with seen := [] }) else
  let m := (m.modGrove (fun g => { g with seen := Config.standSeen m.free })).drew
  if m.standRole < 2 then m else standSend (apportion m)

/-- STAND_SILENT_GROVE_REASSIGN (R344): StandLeaseTime and 10 ms after a grove was last heard, its total is apportioned over the
others. -/
def standSilentGroveReassignEff (grove : BitVec 8) (heard : Nat) : Mach → Mach := whenLanes (fun m =>
  if m.standRole < 2 ∨ grove.toNat = m.n Key.unitGroveNumber ∨ m.ns < heard + ms (m.n Key.unitStandLeaseTime + 10) then m
  else apportion (m.modGrove (fun g => { g with
    seen := g.seen.filter (fun x => !(x.stand == m.n Key.unitStandNumber && x.grove == grove.toNat)), given := erase grove.toNat g.given })))

end Sys2Proof.Machine
end

