-- ==== Sys2Proof/Machine/Boundary.lean ====
section
/-! DEFINITION. The control-cycle boundary (R25) with all that is due there, and the checks of the timebase (R55). -/

namespace Sys2Proof.Machine

/-- The "limp mode" event follows the drives that run so (R209): raised at the first boundary after the fault, its cause gone with
the drive's end. -/
def limpEvents (m : Mach) : Mach :=
  m.each m.theDrives (fun d m =>
    let on := m.ev.active.any (fun a => a.ev == 0x2F && a.drv == some d)
    match m.drives[d].limp with
    | some h => if on ∨ m.drives[d].st ≠ .running then m else raise 0x2F none (some d) h.1 m
    | none => if on then causesGone (fun a => a.ev == 0x2F && a.drv == some d) m else m)

/-- A fault reset that waits for this boundary (R449). -/
def faultResetDue (m : Mach) : Mach :=
  match m.ev.resetAt with
  | some t => if t < m.ns then faultResetNow (m.modEv (fun x => { x with resetAt := none })) else m
  | none => m

/-- A deferral of STO ends at the first boundary without an active short circuit (R262): the brakes, and the switches open if a demand
or reaction for STO is still present. -/
def stoDeferred (m : Mach) : Mach :=
  if !m.safety.sto.deferred ∨ m.anyAsc then m else
  let m := m.each (m.theDrives.filter (fun d => m.drives[d].st == .off || m.drives[d].st == .locked)) brakesApply
  let m := m.modSto (fun x => { x with deferred := false })
  if m.stoDemand then stoAct rz m else stoIfUnused m

/-- What the lanes do at a control-cycle boundary: the device domain's boundary, what waited for it, the outer loops, the chopper
request, the grove's messages. -/
def lanesBoundary (m : Mach) : Mach :=
  let m := faultResetDue (sealExpiry (inputsUpdate (stoDeferred (boundaryOf .device m))))
  groveControl (phaseBackAck (chopper (limpEvents (outerArrive (outerHistories m)))))

/-- The instant of the control-cycle boundary that is due: the last sample instant of the set that gives them, if no boundary has been
taken there; without a configured set, 100 µs of timebase time after the last boundary (R25). -/
def Mach.boundaryDue (m : Mach) : Option Time :=
  let t := match m.syncSet with
    | some s => m.eng[s].lastSample
    | none => m.clr.boundaryAt + 100000000
  if m.clr.boundaryAt < t ∧ t ≤ m.now then some t else none

/-- CONTROL_CYCLE_BOUNDARY (R25): taken once for each instant that is one; the device domain's count runs on in safe state as every
domain's does (R67). -/
def controlCycleBoundaryEff (calib : Nat) (exercised : Bool) (dirty : List (Fin 4096)) : Mach → Mach := whenUp (fun m =>
  match m.boundaryDue with
  | none => m
  | some t =>
  let m := clearingBoundary calib exercised dirty (m.modClr (fun c => { c with boundaryAt := t }))
  if m.lanesAct then lanesBoundary m else boundaryOf .device m)

/-- FAULT_RESET (R449): carried out at the next control-cycle boundary. -/
def faultResetEff (m : Mach) : Mach := m.modEv (fun x => { x with resetAt := some m.ns })

/-! ### The timebase (R55, R74) -/

/-- PLL_LOCK_LOSS. -/
def pllLockLossEff : Mach → Mach := whenUp (fun m =>
  raiseM 0x05 0 (m.putN Key.timebaseStatus (setBit (m.n Key.timebaseStatus) 0 false)))

/-- 32 Lantern ticks, in 1/10000 ns. -/
def tickNominal : Nat := 9765625000

/-- LANTERN_RATE_CHECK: the deviation in ppm is reported, more than 1,000 ppm is a fault; ticks that were missing are back. -/
def lanternRateCheckEff (ticks : Nat) : Mach → Mach := whenUp (fun m =>
  let off : Int := (ticks : Int) - tickNominal
  let m := m.putI 32 Key.timebaseLanternDeviation (deviation (Int.tdiv (off * 1000000) tickNominal))
  let m := causesGone (fun a => a.ev == 0x06) (m.putN Key.timebaseStatus (setBit (m.n Key.timebaseStatus) 1 true))
  if 1000 * tickNominal < 1000000 * off.natAbs then raiseM 0x05 1 m else causesGone (fun a => a.ev == 0x05 && a.inst == 1) m)

/-- LANTERN_TICK_MISSING. -/
def lanternTickMissingEff : Mach → Mach := whenUp (fun m =>
  raiseM 0x06 0xFF (m.putN Key.timebaseStatus (setBit (m.n Key.timebaseStatus) 1 false)))

end Sys2Proof.Machine
end

