-- ==== Sys2Proof/Machine/Bank.lean ====
section
/-! DEFINITION. Commands of the parameter banks (R404 to R410). -/

namespace Sys2Proof.Machine

/-- Bank.Status changed. -/
def bankStatus (c : Nat) (m : Mach) : Mach := m.putN Key.bankStatus c

/-- Bank n is the target of an open download (R374, R407). -/
def Mach.bankTarget (m : Mach) (n : Fin 4) : Bool := m.sess.opened.any (fun s => s.ty == 1 && s.target == n.1)

/-- A commit is pending or a swap group carried, in any domain. -/
def Mach.anyCommit (m : Mach) : Bool := allDoms.any m.commitHeld

/-- Every drive of the device is Off. -/
def Mach.drivesOff (m : Mach) : Bool := m.theDrives.all (fun d => m.drives[d].st == .off)

/-- The safety values that loading an image gives: its records, defaults for the entries it has none of. -/
def Mach.imageSafety (m : Mach) (b : List Byte) : List (Nat × Val) :=
  let vs := (m.imageValues b).1
  (allKeys.filter safetyFlag).map (fun k => (k, ((vs.find? (fun p => p.1 == k)).map (·.2)).getD (dfltOf k)))

/-- Bank n holds an image whose safety values differ from the live ones (R407). -/
def Mach.bankSafetyDiffers (m : Mach) (n : Fin 4) : Bool :=
  match m.bankBytes n with
  | some b => (m.imageSafety b).any (fun p => m.val p.1 != p.2)
  | none => false

/-- BANK_STORE (R407): its refusals, else the live values go to the bank's other copy. The order among refusals is the model's
(log entry 32). -/
def bankStoreEff (role : Nat) (n : Fin 4) (m : Mach) : Mach :=
  if m.bankSafetyDiffers n ∧ role < 4 then bankStatus 0x14 m
  else if m.n Key.safetyState = 1 then bankStatus 0x15 m
  else if m.bankTarget n then bankStatus 0x18 m
  else if m.nv.stopped then raiseM 0x71 n.1 (bankStatus 0x17 m)
  else storeBank n m

/-- BANK_RESTORE_DEFAULTS (R408). -/
def bankRestoreDefaultsEff (role : Nat) (m : Mach) : Mach :=
  if !m.drivesOff then bankStatus 0x10 m
  else if m.anyCommit then bankStatus 0x11 m
  else
    let ks := bankKeys.filter (fun k => role == 4 || !safetyFlag k)
    bankStatus 2 (ks.foldl (fun m k => if (m.domOf k).isSome then m.putShadow k (dfltOf k) else m.putBoth k (dfltOf k)) m)

/-- BANK_ERASE (R409). -/
def bankEraseEff (n : Fin 4) (m : Mach) : Mach :=
  if m.n Key.bankActive = n.1 then bankStatus 0x16 m
  else if m.bankTarget n then bankStatus 0x18 m
  else if m.nv.stopped then bankStatus 0x17 m
  else (bankStatus 1 m).nvJob (.area (.bank n) none .bankErase)

/-! ### Activation (R406, R409) -/

/-- A bank's image is valid (R405 step 1). -/
def Mach.bankImageOk (m : Mach) (n : Fin 4) : Bool := match m.bankBytes n with | some b => imageFrameOk b | none => false

/-- The seal an image names. -/
def imageSeal (b : List Byte) : Nat := imgNat b 20 4

/-- The safety values that come with a bank image (R406): its own where its seal is the confirmed one, else the commissioning
record's, else none. Answers them and whether the image's were not taken. -/
def Mach.safetyWith (m : Mach) (b : List Byte) : Option (List (Nat × Val)) × Bool :=
  match m.comVals with
  | some vs => if imageSeal b = m.n Key.safetyConfirmedSeal then (some (m.imageSafety b), false) else (some vs, true)
  | none => (none, false)

/-- Every "bank" entry that a bank puts in use, with its value; safety entries under R406. -/
def Mach.bankLoad (m : Mach) (b : List Byte) : List (Nat × Val) :=
  let vs := (m.imageValues b).1
  (bankKeys.filter (fun k => !safetyFlag k)).map (fun k => (k, ((vs.find? (fun p => p.1 == k)).map (·.2)).getD (dfltOf k))) ++
  (m.safetyWith b).1.getD []

/-- Domains that an activation commits: in a grove a member leaves the grove domain to its leader (R409). -/
def Mach.activated (m : Mach) : List Dom := allDoms.filter (fun d => !(d == .grove && m.inGrove && !m.leads))

/-- The first domain whose values or rules fail in a configuration that every shadow bank would put in force (R409 step 2). -/
def Mach.failingDomain (m : Mach) : Option Dom :=
  let ks := m.changed (fun _ => true)
  let c := m.swapKeys ks
  let bad := (allChecks m c).filter (·.bad)
  allDoms.find? (fun d =>
    (ks.any (fun k => m.domOf k == some d && (match rowOf k with | some r => !c.inRange k r (c.val k) | none => true))) ||
    bad.any (fun r => r.keys.any (fun k => m.domOf k == some d)) || (d == .device && !c.liveFits))

/-- BANK_ACTIVATE (R409): load into the shadow banks, validate, commit; entries without a domain take their values with the commits. -/
def bankActivateEff (n : Fin 4) (m : Mach) : Mach :=
  if !m.drivesOff then bankStatus 0x10 m
  else if m.anyCommit then bankStatus 0x11 m
  else match m.bankBytes n with
  | none => bankStatus 0x12 m
  | some b =>
    if !imageFrameOk b then bankStatus 0x12 m else
    let vs := (m.bankLoad b).filter (fun p => match m.domOf p.1 with | some d => m.activated.contains d | none => true)
    let x := vs.foldl (fun m p => if (m.domOf p.1).isSome then m.putShadow p.1 p.2 else m) m
    match x.failingDomain with
    | some d => commitStatusSet d 0x12 (bankStatus 0x13 m)
    | none =>
      let x := vs.foldl (fun x p => if (x.domOf p.1).isSome then x else x.putBoth p.1 p.2) x
      let other_ := (m.safetyWith b).2
      let x := if other_ then raiseM 0x70 n.1 x else x
      let x : Mach := { bankStatus 1 x with nv := { x.nv with activating := some (n, if other_ then 2 else 0) } }
      x.each m.activated (fun d x =>
        if d = .grove ∧ x.leads then groveCommitStart d none x
        else x.modDom (domIx d) (fun y => { y with pending := some { target := none, at_ := x.ns }, status := 1 }))

/-- The last domain of an activation has swapped (R409 step 4); a refused grove commit leaves status 0x19. -/
def bankProgress (m : Mach) : Mach :=
  match m.nv.activating with
  | none => m
  | some (n, ls) =>
    if allDoms.any (fun d => m.doms[domIx d].pending.isSome) then m else
    let refused := m.leads && m.doms[domIx .grove].status == 0x16
    let m : Mach := { m with nv := { m.nv with activating := none } }
    let m := (m.putDevice Key.bankActive (.num n.1)).putN Key.bankLoadState ls
    causesGone (fun a => a.ev == 0x6E) (bankStatus (if refused then 0x19 else 2) m)

/-- An operation that the end of NV writing breaks off (R438): the bank keeps its previous image, an activation discards what it
loaded. -/
def bankBroken (m : Mach) : Mach :=
  if !m.bankBusy then m else
  let n := match m.nv.activating with | some (n, _) => n.1 | none => m.n Key.bankActive
  let m := if m.nv.activating.isNone then m else
    let m := m.each m.activated (fun d m => discardShadow d (m.modDom (domIx d) (fun x => { x with pending := none })))
    { m with nv := { m.nv with activating := none } }
  raiseM 0x71 n (bankStatus 0x17 m)

end Sys2Proof.Machine
end

