-- ==== Sys2Proof/Machine/View.lean ====
section
/-! DEFINITION. What a read of an entry gives (R65, R390, R396): the stored live value, or the value the device forms from its
state; the unit block (R400 to R402) and the directory (R397). -/

namespace Sys2Proof.Machine

/-! ### Addresses (R343, R411) -/

/-! ### The directory (R397) -/

/-- Every entry with its sub-index 0x00 (R390). -/
def everyKey : List Nat := allIndices.flatMap (fun i => (i * 256) :: allKeys.filter (fun k => k / 256 == i))

/-- Access code of a descriptor. -/
def accCode : Acc → Nat | .ro => 0 | .rw => 1 | .wo => 2 | .const => 3

/-- One 16-byte descriptor. -/
def Mach.descriptor (m : Mach) (k : Nat) : List Byte :=
  let head := beBytes 2 (k / 256) ++ beBytes 1 (k % 256)
  match rowOf k with
  | none => head ++ [0x20, 3, 0xFF, 0, 0] ++ beBytes 4 1 ++ beBytes 4 0
  | some r =>
    let dom := match m.domOf k with | some d => domCode d | none => 0xFF
    let pers := match r.pers with | .none => 0 | .bank => 1 | .device => 2
    let role := if r.acc == .ro || r.acc == .const then 0 else if k / 256 = 0x1851 then 4 else writeRole k - 1
    let flags := b2n (safetyFlag k) + 2 * role + 16 * b2n (mappable k && opWrites k && !safetyFlag k) + 32 * b2n (mappable k)
    let width := match r.ty with | .str n | .oct n | .dom n => n | t => t.width
    head ++ beBytes 1 r.ty.code ++ beBytes 1 (accCode r.acc) ++ beBytes 1 dom ++ beBytes 1 pers ++ beBytes 1 flags ++ beBytes 4 width ++
      beBytes 4 0

/-- Dictionary.Directory. -/
def Mach.directory (m : Mach) : List Byte := everyKey.flatMap m.descriptor

/-! ### The event log (R455, R456) -/

/-- The record in a slot of the ring. -/
def Mach.logSlotBytes (m : Mach) (s : Nat) : List Byte := m.nvGet (0x500000 + 64 * (s % 16384)) 64
/-- Valid records of the ring, oldest first; a slot whose CRC fails is skipped (R456). -/
def Mach.logRecords (m : Mach) : List (List Byte) :=
  ((List.range m.nv.logCount).map (fun j => m.logSlotBytes (m.nv.logSlot + 16384 - m.nv.logCount + j))).filter
    (fun r => crc32c (r.take 60) == BitVec.ofNat 32 (imgNat r 60 4))
/-- Sequence number of the newest record held; 0 while none is. -/
def Mach.logHead (m : Mach) : Nat := match m.logRecords.getLast? with | some r => imgNat r 0 4 | none => 0

/-! ### Values formed from the state, by group -/

/-- A REAL32 as a value. -/
def vr (x : F32) : Val := .num x.toNat

/-- Law slots. -/
def Mach.viewSlot (m : Mach) (i : Fin 32) (sub : Nat) : Option Val :=
  match sub with
  | 0x15 => some (vr m.slots[i].out)
  | 0x16 => some (vr m.slots[i].err)
  | 0x17 => some (.num (m.slotStatus i))
  | _ => none

/-- Modulator inputs. The slow DC chain's value reaches the state by no command: a free value (log entry 33). -/
def Mach.viewInput (m : Mach) (s : Fin 2) (n : Fin 6) (sub : Nat) : Option Val :=
  let x := m.sense[s].inputs[n]
  match sub with
  | 0x08 => some (vr x.value)
  | 0x09 => some (.num (inputStatus x))
  | 0x0E => some (vr (m.dcValue s n))
  | _ => none

/-- A set's groups 0x3010 to 0x30A0. -/
def Mach.viewSet (m : Mach) (s : Fin 2) (base sub : Nat) : Option Val :=
  let e := m.eng[s]
  if base = 0x3010 ∧ sub = 3 then some (.bytes (m.pwm[s].histogram.flatMap (beBytes 4)))
  else if base = 0x3030 ∧ sub = 2 then some (vr (fRat 400000000 (mclkDiv (m.n (Key.senseModClock s.1)))))
  else if base = 0x3050 ∧ sub = 6 then some (.num (min 255 e.dropRun))
  else if base = 0x3050 ∧ sub = 0x0C then some (.num (if e.queued.isSome then 2 else if e.cur.isSome then 1 else 0))
  else if base = 0x3080 ∧ sub = 0x0B then some (.num m.mc[s].source)
  else if base = 0x3090 ∧ sub = 0x0D then some (.num m.mc[s].losState)
  else if base = 0x3110 ∧ sub = 9 then some (.num m.gate[s].retry)
  else if base = 0x3110 ∧ sub = 0x0A then some (.num m.gate[s].otherHist.length)
  else if base = 0x3110 ∧ sub = 0x0B then some (.num m.gate[s].scHist.length)
  else none

/-- A drive's groups. -/
def Mach.viewDrive (m : Mach) (d : Fin 2) (base sub : Nat) : Option Val :=
  let x := m.drives[d]
  if base = 0x4800 ∧ sub = 4 then some (.num (driveCode x.st))
  else if base = 0x4801 ∧ sub = 0x0B then
    let valid := if m.byLever d then !m.pairs[m.leverPair d].invalid else !x.refTimeout
    some (.num (b2n valid + 2 * b2n (m.byLever d && !x.neutral) + 4 * b2n x.refTimeout))
  else if base = 0x4810 ∧ sub = 1 then some (.num m.grove.holding)
  else if base = 0x4821 ∧ sub = 0x0E then some (.num (b2n x.render))
  else if base = 0x4830 ∧ sub = 0x0A then
    let out := match x.fade with | some f => fIsZero f.to_ | none => false
    some (.num (b2n (!m.motionStale d) + 2 * b2n out + 4 * b2n (x.fade.isSome && !out) + 8 * b2n x.stroke))
  else if base = 0x4850 ∧ sub = 7 then some (.num x.qrState)
  else if base = 0x4860 ∧ sub = 0x0A then some (.num (if m.safety.chopForced then 2 else if m.safety.chop then 1 else 0))
  else none

/-- Isf.Status of a connection (R303, R311): off, opening, running, fail-safe; a producer runs. -/
def Mach.isfStatusOf (m : Mach) (c : Fin 4) : Nat :=
  let x := m.safety.isf[c]
  match m.n (Key.isfRole c.1) with
  | 0 => 0
  | 1 => if x.failSafe then 3 else if x.accepted < 3 then 1 else 2
  | _ => 2

/-- Safety. -/
def Mach.viewSafety (m : Mach) (i sub : Nat) : Option Val :=
  if i = 0x5000 then
    match sub with
    | 0x05 => some (.num (if m.n Key.safetyState = 1 then m.confirmLeft else 0))
    | 0x06 => some (.num m.lantern.dip)
    | 0x09 => some (.num m.lockoutCause)
    | 0x0A => some (.num (buttonCode m.safety.button))
    | 0x0B => some (.bytes (m.comBytes.getD []))
    | _ => none
  else if h : 0x5010 ≤ i ∧ i < 0x5016 then (if sub = 8 then some (.num (m.siStatus ⟨i - 0x5010, by omega⟩)) else none)
  else if i = 0x5020 ∧ sub = 2 then some (.num m.stoStatus)
  else if h : 0x5040 ≤ i ∧ i < 0x5042 then (if sub = 0x0A then some (.num (m.brakeStatus ⟨i - 0x5040, by omega⟩)) else none)
  else if h : 0x5050 ≤ i ∧ i < 0x5052 then
    (if Key.sbtTimeSincePass (i - 0x5050) = i * 256 + sub then some (.num (m.sincePass ⟨i - 0x5050, by omega⟩)) else none)
  else if h : 0x5060 ≤ i ∧ i < 0x5064 then (if sub = 8 then some (.num (m.isfStatusOf ⟨i - 0x5060, by omega⟩)) else none)
  else if i = 0x5080 ∧ sub = 3 then
    some (.num (b2n m.safety.gstopA + 2 * b2n m.safety.gstopB + 4 * b2n m.gstopAssert + 8 * b2n m.safety.lineFault + 16 * b2n m.safety.linePassed))
  else none

/-- A field of the header of the image in a firmware slot (R385); 0 while it is empty. -/
def Mach.slotNumber (m : Mach) (s : Fin 2) (off : Nat) : Nat :=
  if m.nv.slot[s].isSome then imgNat (m.nvGet (fwAddr s + off) 4) 0 4 else 0

/-- Canopy, groves, the network's derived entries, banks, firmware. -/
def Mach.viewNet (m : Mach) (i sub : Nat) : Option Val :=
  if i = 0x1C00 then
    match sub with
    | 0x02 => some (.num m.canopy[0].status)
    | 0x03 => some (.num m.canopy[1].status)
    | 0x04 => some (.num (match m.canopy[0].neighbour with | some p => p.1 | none => 0xFF))
    | 0x05 => some (.num (match m.canopy[1].neighbour with | some p => p.1 | none => 0xFF))
    | 0x0B => some (.num m.reachable)
    | _ => none
  else if i = 0x2810 then
    match sub with
    | 0x02 => some (.num m.grove.pool)
    | 0x03 => some (.num m.grove.bookedSum)
    | 0x04 => some (.num m.grove.inFlight)
    | 0x05 => some (.num m.grove.expiringSum)
    | _ => none
  else if i = 0x2830 ∧ sub = 4 then some (.num m.standRole)
  else if i = 0x1800 ∧ sub = 0x0C then some (.num m.net.conns.length)
  else if h : 0x1810 ≤ i ∧ i < 0x1812 then
    (if sub = 2 then
      let p := m.net.ports[i - 0x1810]
      some (.num (b2n p.up + 2 * p.speed.1 + 8 * b2n p.blocked))
    else none)
  else if i = 0x1860 ∧ sub = 5 then some (.num m.sess.opened.length)
  else if i = 0x1870 ∧ sub = 1 then some (.num m.fw.active.1)
  else if i = 0x1870 ∧ (sub = 2 ∨ sub = 3) then some (.num (m.slotNumber (fin2 (sub - 2)) 8))
  else if i = 0x1870 ∧ sub = 7 then some (.num (if m.fw.trial then 1 else if m.fw.rolled then 2 else 0))
  else if i = 0x1E00 ∧ sub = 7 then some (.num ((List.finRange 4).foldl (fun a n => setBit a n.1 (m.bankImageOk n)) 0))
  else if i = 0x1E00 ∧ 8 ≤ sub ∧ sub ≤ 0x0B then
    some (.num (match m.bankBytes (bank4 (sub - 8)) with | some b => imgNat b (b.length - 4) 4 | none => 0))
  else if i = 0x1E00 ∧ 0x0C ≤ sub ∧ sub ≤ 0x0F then
    some (.num (match m.bankBytes (bank4 (sub - 0x0C)) with | some b => imageSeal b | none => 0))
  else none

/-- Commits, timebase, Clearing, identity, supplies, NV memory, the log, events. -/
def Mach.viewDevice (m : Mach) (i sub : Nat) : Option Val :=
  let dom := fun (k : Nat) => match allDoms[k]? with | some d => m.doms[domIx d] | none => {}
  if i = 0x1F00 then (match sub with | 0x04 => some (.num m.commitView.status) | 0x05 => some (.num m.commitView.applied) | _ => none)
  else if i = 0x1F01 then some (.num (dom (sub - 1)).count)
  else if i = 0x1F02 then some (.num (dom (sub - 1)).status)
  else if i = 0x1F03 then some (.num (dom (sub - 1)).applied)
  else if i = 0x2100 then (match sub with | 0x03 => some (.num m.clearingState) | 0x04 => some (.num m.laneStatusWord) | _ => none)
  else if i = 0x2110 ∧ sub = 1 then some (.num m.ns)
  else if i = 0x1000 then
    (match sub with
     | 0x06 | 0x07 => some (.num 0xA1)
     | 0x08 => some (.num 0x01)
     | 0x0C => some (.bytes (m.address m.me.1 0xFF 0xFF))
     | _ => none)
  else if i = 0x1010 then
    (match sub with | 0x01 => some (.num everyKey.length) | 0x02 => some (.bytes m.directory) | _ => none)
  else if i = 0x2070 then
    (match sub with
     | 0x01 => some (.num (m.nv.seq - 1))
     | 0x02 => some (vr m.journalFill)
     | 0x05 => some (.num m.nv.discarded)
     | _ => none)
  else if i = 0x2030 ∧ sub = 0x12 then some (.bytes m.lantern.fireLog.flatten)
  else if i = 0x5810 then
    (match sub with
     | 0x02 => some (.num (m.activeWord 0))
     | 0x03 => some (.num (m.activeWord 64))
     | 0x04 => some (.num (m.highest (fun _ => true)))
     | _ => none)
  else if i = 0x5820 then
    (match sub with
     | 0x01 => some (.num m.logHead)
     | 0x02 => some (.num m.logRecords.length)
     | 0x04 => some (.bytes ((m.logRecords.find? (fun r => imgNat r 0 4 == m.n Key.logReadSeq)).getD []))
     | 0x05 => some (.bytes ((m.logRecords.filter (fun r => m.n Key.logReadSeq ≤ imgNat r 0 4)).take 1024).flatten)
     | _ => none)
  else if i = 0x6000 then
    (match sub with
     | 0x11 => some (.num m.echo.state)
     | 0x12 => some (.num m.echo.abort)
     | 0x13 => some (.num m.echo.point)
     | _ => none)
  else if i = 0x6010 then
    (match sub with
     | 0x11 => some (.num m.capture.state)
     | 0x12 => some (.num m.captureTotal)
     | 0x13 => some (.num m.capture.rows.length)
     | 0x14 => some (.num m.capture.trigTime)
     | 0x15 => some (.bytes m.capture.rows.flatten)
     | _ => none)
  else if i = 0x6020 then
    (match sub with | 0x01 => some (.bytes m.echo.table.flatten) | 0x02 => some (.num m.echo.valid) | _ => none)
  else none

/-! ### A read -/

/-- Channel dies. -/
def Mach.viewChannel (m : Mach) (c : Fin 12) (sub : Nat) : Option Val :=
  match sub with
  | 0x1A => some (.num (m.channelStatus c))
  | _ => none

/-- Position interfaces. -/
def Mach.viewPos (m : Mach) (i : Fin 2) (sub : Nat) : Option Val :=
  let p := m.pos[i]
  match sub with
  | 0x0C => some (vr p.angle)
  | 0x0D => some (vr p.speed)
  | 0x0E => some (.num (ofSigned 32 p.turns))
  | 0x0F => some (.num (posStatus p))
  | _ => none

/-- The value the device forms for an entry, where it is not one it stores. -/
def Mach.formed (m : Mach) (k : Nat) : Option Val :=
  let i := k / 256
  let sub := k % 256
  let b := baseIndex i
  if sub = 0 then some (.num (highestSub i))
  else if h : 0x4000 ≤ i ∧ i < 0x4020 then m.viewSlot ⟨i - 0x4000, by omega⟩ sub
  else if h : 0x3040 ≤ i ∧ i < 0x3046 then m.viewInput 0 ⟨i - 0x3040, by omega⟩ sub
  else if h : 0x3840 ≤ i ∧ i < 0x3846 then m.viewInput 1 ⟨i - 0x3840, by omega⟩ sub
  else if h : 0x3100 ≤ i ∧ i < 0x3106 then m.viewChannel ⟨i - 0x3100, by omega⟩ sub
  else if h : 0x3900 ≤ i ∧ i < 0x3906 then m.viewChannel ⟨i - 0x3900 + 6, by omega⟩ sub
  else if 0x3000 ≤ i ∧ i < 0x4000 then m.viewSet (if i < 0x3800 then 0 else 1) b sub
  else if h : 0x2200 ≤ i ∧ i < 0x2202 then m.viewPos ⟨i - 0x2200, by omega⟩ sub
  else if h : 0x2220 ≤ i ∧ i < 0x2228 then
    (match sub with | 0x09 => some (vr m.ain[i - 0x2220].value) | 0x0A => some (vr m.ain[i - 0x2220].raw) | _ => none)
  else if 0x4800 ≤ i ∧ i < 0x4A00 then m.viewDrive (if i < 0x4900 then 0 else 1) b sub
  else if k = Key.eventClass 0x06 then some (.num (m.classOf 0x06))
  else if 0x5000 ≤ i ∧ i < 0x5800 then m.viewSafety i sub
  else match m.viewNet i sub with
    | some v => some v
    | none => m.viewDevice i sub

/-- Entries that read 0 and take no write: the carrier phase of set 0 (R74), the pair settings of odd analog inputs (R103). -/
def idleEntry (k : Nat) : Bool :=
  k == Key.carrierPhase 0 || (0x2220 ≤ k / 256 && k / 256 < 0x2228 && k / 256 % 2 == 1 && 6 ≤ k % 256 && k % 256 ≤ 8)

/-- A class entry whose permitted range holds one class: it reads that class and ignores writes of any class (R453). -/
def fixedClass (k : Nat) : Bool :=
  k / 256 == 0x5800 && (match rowOf k with | some r => r.rng == .eventClass | none => false) &&
  (eventClassRow (k % 256 - 1)).2.1 == (eventClassRow (k % 256 - 1)).2.2
/-- What a read of an entry gives. -/
def Mach.view (m : Mach) (k : Nat) : Val := if idleEntry k then .num 0 else (m.formed k).getD (m.val k)

/-! ### The unit block (R400 to R402, R346) -/

/-- A unit of this device as a request names it: the device, a set, a leg of a set; or the grove, stand or shaft group this device
leads. -/
inductive UnitId where
  | device | set (s : Fin 2) | leg (s : Fin 2) (l : Fin 3) | grove | stand | shaft
  deriving DecidableEq, Repr

/-- Highest of some temperatures; −55 °C, the entry's least value, where there is none. -/
def hottest (l : List F32) : F32 := l.foldl fmax (fRat (-55) 1)
/-- Temperatures of a leg's channels. -/
def Mach.legTemps (m : Mach) (s : Fin 2) (l : Fin 3) : List F32 :=
  ((m.setChs s).filter (fun c => m.legOfCh c == l)).flatMap (fun c => [m.r (Key.gSwitchTemp c.1), m.r (Key.gDieTemp c.1)])
/-- Temperatures of a set. -/
def Mach.setTemps (m : Mach) (s : Fin 2) : List F32 := three.flatMap (m.legTemps s)
/-- Highest active class of some scope. -/
def Mach.classOfSet (m : Mach) (s : Fin 2) (cs : List Nat) : Nat :=
  m.highest (fun a => a.set == some s && (cs.isEmpty || cs.contains a.inst))

/-- Sum over the members of the grove that are not absent (R346, R402), from their last STATUS; own value first. -/
def Mach.membersSum (m : Mach) (f : StatusMsg → F32) (own : F32) : F32 :=
  fsum (own :: positions.filterMap (fun p =>
    let x := m.grove.members[p]
    if p = m.me ∨ !x.joined ∨ x.suspended then none else x.status.map f))
/-- Members' sets in service. -/
def Mach.serviceCount (m : Mach) : Nat :=
  (positions.map (fun p => b2n (m.memberSet p 0) + b2n (m.memberSet p 1))).sum

/-- Tokens the members hold (R346): own holding, the others' from their last STATUS. -/
def Mach.heldByMembers (m : Mach) : Nat :=
  m.grove.holding + (positions.map (fun p =>
    let x := m.grove.members[p]
    if p = m.me ∨ !x.joined ∨ x.suspended then 0 else ((x.status.map (fun st => st.holding.toNat)).getD 0))).sum

/-- Torque reference and estimate, power of the device: sums over its sets (R346). -/
def Mach.ownTorqueRef (m : Mach) : F32 := fsum (two.map (fun s => m.mc[s].tref))
def Mach.ownTorque (m : Mach) : F32 := fsum (two.map (fun s => m.mc[s].torque))

/-- A quantity of a level above the grove: this grove's and a free part of the others' each time it is read (R346; log entry 34). -/
def Mach.othersPart (m : Mach) (k : Nat) : F32 := (Config.freeValue (m.free + k)).setWidth 32
/-- A sum over units below, of which the first is this device's own part; the others' parts reach the leader by no message the spec
gives: free values (R346; log entry 34). -/
def Mach.withOthers (m : Mach) (k : Nat) (others : Bool) (own : F32) : F32 := if others then fadd own (m.othersPart k) else own
/-- A count over units below, with this device's own part. -/
def Mach.countOthers (m : Mach) (k top own : Nat) : Nat := min top (own + (m.othersPart k).toNat % (top + 1))

/-- A unit's block (R401). What a grove's members do not report in STATUS (power, fault classes, temperatures), and what the other
groves of a stand report, reaches the leader by no message the spec gives: the aggregate of R346 is formed of the own part and a free
one (log entry 34). -/
def Mach.unitView (m : Mach) (u : UnitId) (sub : Nat) : Val :=
  let d : Fin 2 := match u with | .set s | .leg s _ => m.driveOf s | _ => 0
  let groves := match u with | .stand | .shaft => true | _ => false
  let others := groves || (u == .grove && m.inGrove && decide (1 < m.memberCount))
  let groveTorque := m.membersSum (fun st => fadd st.limits[2] st.limits[5]) m.ownTorque
  let groveRef := if m.leads then fsum m.grove.torques else m.ownTorqueRef
  let groveHeld := if m.inGrove then m.heldByMembers else m.grove.holding
  match sub with
  | 0x01 => .num (match u with | .leg .. => 1 | .set _ => 2 | .device => 3 | .grove => 4 | .stand => 5 | .shaft => 6)
  | 0x02 => .bytes (match u with
    | .device => m.address m.me.1 0xFF 0xFF
    | .set s => m.address m.me.1 s.1 0xFF
    | .leg s l => m.address m.me.1 s.1 l.1
    | .grove => m.address 0xFF 0xFF 0xFF
    | .stand => ((m.address 0xFF 0xFF 0xFF).take 2) ++ List.replicate 4 0xFF
    | .shaft => ((m.address 0xFF 0xFF 0xFF).take 1) ++ List.replicate 5 0xFF)
  | 0x03 => .num (m.n (Key.command 0))
  | 0x04 => vr (m.r (Key.refNetReference 0))
  | 0x05 => .num (driveCode m.drives[d].st)
  | 0x06 =>
    (match u with
     | .leg .. => vr 0
     | .set s => vr m.mc[s].tref
     | .device => vr m.ownTorqueRef
     | _ => vr (m.withOthers 0 groves groveRef))
  | 0x07 =>
    (match u with
     | .leg .. => vr 0
     | .set s => vr m.mc[s].torque
     | .device => vr m.ownTorque
     | _ => vr (m.withOthers 1 groves groveTorque))
  | 0x08 =>
    (match u with
     | .leg s _ => vr (m.setSpeed s)
     | _ => vr (m.speedOf d))
  | 0x09 =>
    (match u with
     | .leg .. | .set _ => .num 0
     | .device => .num m.grove.holding
     | _ => .num (if groves then m.countOthers 3 (2 ^ 32 - 1) groveHeld else groveHeld))
  | 0x0A => .num (match u with | .stand => m.n Key.unitBudget | .shaft => m.grove.shaftBudget | _ => m.n Key.tokensTotal)
  | 0x0B =>
    (match u with
     | .leg .. => vr 0
     | .set s => vr (fdiv (m.setPower s) (fRat 1000 1))
     | _ => vr (m.withOthers 2 others m.devicePower))
  | 0x0C =>
    (match u with
     | .leg s l => .num (m.classOfSet s (((m.setChs s).filter (fun c => m.legOfCh c == l)).map (·.1)))
     | .set s => .num (m.classOfSet s [])
     | _ =>
       let own := m.highest (fun _ => true)
       let at_ := (m.othersPart 4).toNat % 7
       .num (if !others ∨ at_ = 6 then own else if own = 0xFF then at_ else max own at_))
  | 0x0D =>
    (match u with
     | .leg s l => vr (hottest (m.legTemps s l))
     | .set s => vr (hottest (m.setTemps s))
     | _ =>
       let own := hottest (m.setTemps 0 ++ m.setTemps 1 ++ (List.range 16).map (fun k => m.r (Key.tempMainDie k)))
       vr (if others then fmin (fRat 250 1) (fmax own (m.othersPart 5)) else own))
  | 0x0E =>
    (match u with
     | .leg s _ | .set s => .num (b2n (m.inServiceSet s))
     | .device => .num (b2n (m.inServiceSet 0) + b2n (m.inServiceSet 1))
     | .grove => .num m.serviceCount
     | _ => .num (m.countOthers 6 4080 m.serviceCount))
  | 0x0F =>
    (match u with
     | .leg .. => .num 0
     | .set _ => .num 3
     | .device => .num (two.filter m.configured).length
     | .grove => .num (if m.inGrove then m.memberCount else 1)
     | .stand => .num (max 1 (m.standGroves (m.n Key.unitStandNumber)).length)
     | .shaft => .num (max 1 m.shaftStands.length))
  | _ => .num 0x0F

end Sys2Proof.Machine
end

