-- ==== Sys2Proof/Machine/Access.lean ====
section
/-! DEFINITION. Connections and their answers (R361, R364, R365), and the checks of a read and of a write (R395). -/

namespace Sys2Proof.Machine

/-! ### Connections (R361, R364, R365) -/

/-- Two sources are one partner (R361): an Ethernet partner is known by its MAC address alone, a UDP one by its address and port. -/
def sameSource : Source → Source → Bool
  | .eth _ a, .eth _ b => a == b
  | .udp i p _, .udp j q _ => i == j && p == q
  | .usb, .usb => true
  | .canopy p, .canopy q => p == q
  | _, _ => false
/-- The connection of a request: its handle, used from the source it is bound to (R361). -/
def Mach.connOf (m : Mach) (rq : Req) : Option Conn := m.net.conns.find? (fun c => c.handle == rq.handle && sameSource c.src rq.src)
def Mach.modNet (m : Mach) (f : Net → Net) : Mach := { m with net := f m.net }
def Mach.modConn (m : Mach) (h : BitVec 16) (f : Conn → Conn) : Mach :=
  m.modNet (fun n => { n with conns := n.conns.map (fun c => if c.handle = h then f c else c) })
def Mach.modSess (m : Mach) (f : Sessions → Sessions) : Mach := { m with sess := f m.sess }

/-- Requests of a connection that are not answered yet: forwarded ones, and writes that wait for the NV memory (R365, R393). -/
def Mach.outstanding (m : Mach) (h : BitVec 16) : Nat :=
  (m.net.forwarded.filter (fun f => f.1.handle == h)).length +
  (m.nv.jobs.filter (fun j => match j with | .entry _ _ (.answer r) => r.handle == h && (match r.src with | .canopy _ => false | _ => true) | _ => false)).length

/-- An answer of a kind (R359), bit 7 set, kept as the connection's last one (R358, R365). -/
def reply (kind : Nat) (rq : Req) (status : Nat) (body : List Byte) (m : Mach) : Mach :=
  (m.modConn rq.handle (fun c => if sameSource c.src rq.src then { c with answered := some (rq.rid, status, body) } else c)).emit
    (.reply (128 + kind) rq status body)

/-- A PDU of a connection: its timeout begins anew (R364, R389); its partner answers on the port it was last heard on. -/
def touch (rq : Req) (m : Mach) : Mach :=
  m.modConn rq.handle (fun c => { c with last := m.ns, limit := m.n Key.netConnectionTimeout, src := rq.src })

/-- A UDP datagram is taken once Net.IpAddress is non-zero (R357). -/
def Mach.takes (m : Mach) (src : Source) : Bool := match src with | .udp .. => m.n Key.netIpAddress != 0 | .canopy _ => false | _ => true

/-- The boot firmware serves (R443). -/
def Mach.bootServes (m : Mach) : Bool := m.up == some false && m.fw.bootOk
/-- Something a running device does, and one in the boot state with firmware sessions. -/
def whenServes (f : Mach → Mach) (m : Mach) : Mach := if m.lanesAct || m.bootServes then f m else m

/-- A request of a connection: a handle that is not bound to its source is answered 0x000C (R361). -/
def toConn (kind : Nat) (rq : Req) (f : Conn → Mach → Mach) (m : Mach) : Mach :=
  if !m.takes rq.src then m else
  match m.connOf rq with
  | none => m.emit (.reply (128 + kind) rq 0x000C [])
  | some c => f c (touch rq m)
/-- Requests of a running device. -/
def serve (kind : Nat) (rq : Req) (f : Conn → Mach → Mach) : Mach → Mach := whenLanes (toConn kind rq f)
/-- Login and session PDUs, which the boot state serves on USB as well (R443). -/
def servePdu (kind : Nat) (rq : Req) (f : Conn → Mach → Mach) (m : Mach) : Mach :=
  if m.lanesAct || (m.bootServes && rq.src == .usb) then toConn kind rq f m else m

/-- A read or write of a connection: the last answer again for its identifier, 0x000A beyond four outstanding ones (R365). -/
def serveOnce (kind : Nat) (rq : Req) (f : Conn → Mach → Mach) : Mach → Mach := serve kind rq (fun c m =>
  match c.answered with
  | some (rid, st, b) =>
    if rid = rq.rid then m.emit (.reply (128 + kind) rq st b)
    else if 4 ≤ m.outstanding rq.handle then reply kind rq 0x000A [] m else f c m
  | none => if 4 ≤ m.outstanding rq.handle then reply kind rq 0x000A [] m else f c m)

/-! ### Checks (R395) -/

/-- The value a read gives: the shadow value where it is asked and the entry has a swap domain (R65). -/
def Mach.readVal (m : Mach) (k : Nat) (shadow : Bool) : Val :=
  if shadow && (m.domOf k).isSome && !idleEntry k then m.shVal k else m.view k

/-- A read of an entry of this device: its status and bytes. The range 0x7000 to 0x7FFF holds no entry this manual gives
(R399; log entry 35). -/
def Mach.readOf (m : Mach) (k : Nat) (shadow : Bool) (role : Nat) : Nat × List Byte :=
  if (rowsAt (k / 256)).isNone then (0x0001, [])
  else if k % 256 = 0 then (if role < 1 then (0x0004, []) else (0, beBytes 1 (highestSub (k / 256))))
  else match rowOf k with
  | none => (0x0002, [])
  | some r =>
    let b := if k / 256 = 0x2840 then carryVal r.ty (m.unitView .device (k % 256)) else carryVal r.ty (m.readVal k shadow)
    if (match r.ty with | .dom _ => decide (1400 < b.length) | _ => false) then (0x000F, [])
    else if r.acc = .wo then (0x0003, [])
    else if role < 1 then (0x0004, [])
    else (0, b)

/-- A capture is active: armed, filling or suspended. -/
def Capture.active (c : Capture) : Bool := c.state == 1 || c.state == 2 || c.state == 4
/-- An armed capture waits for its trigger. -/
def Capture.waits (c : Capture) : Bool := c.state == 1 || (c.state == 4 && c.was == 1)
/-- A capture-retrieval session is open (R384). -/
def Mach.retrieving (m : Mach) : Bool := m.sess.opened.any (fun s => s.ty == 5)
/-- Entry to sleep is under way (R419). -/
def Mach.falling (m : Mach) : Bool := m.sleep.entering

/-- Settings and commands of Echo and capture held by a run or a capture (R132, R384; log entry 36), bank commands by a bank
operation (R409) or by entry to sleep, commits by the latter (R419). -/
def Mach.held (m : Mach) (k : Nat) : Bool :=
  let i := k / 256
  let sub := k % 256
  if k = Key.echoStart then m.echo.active || (m.capture.active && !m.capture.waits) || m.retrieving
  else if k = Key.echoAbort then false
  else if k = Key.captureArm then m.echo.active || m.capture.active || m.retrieving
  else if i = 0x6000 ∨ i = 0x6010 then m.echo.active || m.capture.active
  else if i = 0x1E00 ∧ 2 ≤ sub ∧ sub ≤ 5 then m.bankBusy || m.falling
  else if k = Key.commitRequest then m.falling
  else false

/-- The seal can be confirmed (R296). -/
def Mach.sealOpen (m : Mach) : Bool := m.n Key.safetyState == 1 && (match m.safety.sealEnd with | some e => decide (m.ns ≤ e) | none => false)

/-- A write of an entry of this device, checked in the order of R395: a status, or the value. -/
def Mach.writeOf (m : Mach) (k : Nat) (b : List Byte) (role : Nat) : Except Nat Val :=
  if (rowsAt (k / 256)).isNone then .error 0x0001
  else if k % 256 = 0 then .error 0x0003
  else match rowOf k with
  | none => .error 0x0002
  | some r =>
    if (match r.ty with | .dom _ => decide (1400 < b.length) | _ => false) then .error 0x000F
    else if r.acc = .ro ∨ r.acc = .const ∨ (k = Key.safetySealConfirm ∧ !m.sealOpen) then .error 0x0003
    else if role < writeRole k then .error 0x0004
    else match parseVal r.ty b with
    | .error c => .error c
    | .ok v =>
      if !(m.inRange k r v || (fixedClass k && valNat v ≤ 5)) ∨ (k = Key.eventClass 0x06 ∧ v = .num 1 ∧ m.n Key.groveSize < 2) then .error 0x0005
      else if m.held k then .error 0x0008
      else if m.entryHeld k then .error 0x0007
      else .ok v

/-- The entry behind a writable member of the unit block (R401), at a device's own address. -/
def Mach.unitKey (m : Mach) (sub : Nat) : Except Nat Nat :=
  match sub with
  | 0x03 => .ok (Key.command 0)
  | 0x04 => .ok (Key.refNetReference 0)
  | 0x0A => if m.inGrove then .error 0x0003 else .ok Key.tokensTotal
  | _ => .ok (0x284000 + sub)

/-- A plain entry takes a value (R65, R392): its shadow value, or both where it has no swap domain; some ignore writes (R74, R103,
R453). -/
def storeEntry (k : Nat) (v : Val) (m : Mach) : Mach :=
  if idleEntry k || fixedClass k then m else if (m.domOf k).isSome then m.putShadow k v else m.putBoth k v

end Sys2Proof.Machine
end

