-- ==== Sys2Proof/Machine/Sha.lean ====
section
/-! DEFINITION. SHA-256 (FIPS 180-4) and HMAC-SHA-256 (FIPS 198-1), which the proof of a login, the credential identity and the
signature of a firmware image rest on (R362, R385, R486; log entry 6). -/

namespace Sys2Proof.Machine

/-! ### The constants: fractional parts of roots of primes -/

/-- A prime below 324: no divisor from 2 to 17 but itself. -/
def smallPrime (n : Nat) : Bool := 2 ≤ n && (List.range 18).all (fun d => d < 2 || n ≤ d || n % d != 0)
/-- The first 64 primes. -/
def shaPrimes : List Nat := (List.range 312).filter smallPrime
/-- The largest r with rᵏ at most x, its bits tried from the highest of `n` down. -/
def rootFrom (k x : Nat) : Nat → Nat → Nat
  | 0, r => r
  | n + 1, r => rootFrom k x n (if (r + 2 ^ n) ^ k ≤ x then r + 2 ^ n else r)
/-- The first 32 bits of the fractional part of the k-th root of a number below 2^15. -/
def rootFraction (k p : Nat) : BitVec 32 := BitVec.ofNat 32 (rootFrom k (p * 2 ^ (32 * k)) 40 0)

/-! ### The hash value, a list of eight words, first word first -/

/-- The hash value before the first block: square roots of the first eight primes. -/
def shaInit : List (BitVec 32) := (shaPrimes.take 8).map (rootFraction 2)
/-- The 64 round constants: cube roots. -/
def shaConstants : List (BitVec 32) := shaPrimes.map (rootFraction 3)

/-- Sum modulo 2 of rotations to the right. -/
def rotations (x : BitVec 32) (ks : List Nat) : BitVec 32 := ks.foldl (fun a k => a ^^^ x.rotateRight k) 0

/-- The words of the message schedule, newest first: `n` more of them. -/
def extendSchedule : Nat → List (BitVec 32) → List (BitVec 32)
  | 0, w => w
  | n + 1, w =>
    let old := w.getD 14 0
    let new_ := w.getD 1 0
    let next := w.getD 15 0 + (rotations old [7, 18] ^^^ (old >>> 3)) + w.getD 6 0 + (rotations new_ [17, 19] ^^^ (new_ >>> 10))
    extendSchedule n (next :: w)

/-- One round on the eight working words, with the sum of its constant and its schedule word. -/
def shaRound (words : List (BitVec 32)) (kw : BitVec 32) : List (BitVec 32) :=
  match words with
  | [a, b, c, d, e, f, g, h] =>
    let choice := g ^^^ (e &&& (f ^^^ g))
    let majority := (a &&& b) ||| (c &&& (a ||| b))
    let t := h + kw + choice + rotations e [6, 11, 25]
    [t + majority + rotations a [2, 13, 22], a, b, c, d + t, e, f, g]
  | _ => words

/-- Bytes as big-endian 32-bit words; `n` bounds their number. -/
def shaWordsOf : Nat → List Byte → List (BitVec 32)
  | 0, _ => []
  | n + 1, b => if b.isEmpty then [] else BitVec.ofNat 32 (beNat (b.take 4)) :: shaWordsOf n (b.drop 4)

/-- A block of 64 bytes changes the hash value. -/
def shaBlock (hash : List (BitVec 32)) (block : List Byte) : List (BitVec 32) :=
  let schedule := (extendSchedule 48 (shaWordsOf 16 block).reverse).reverse
  let worked := (List.zipWith (· + ·) shaConstants schedule).foldl shaRound hash
  List.zipWith (· + ·) hash worked

/-- The blocks of a padded message; `n` bounds their number. -/
def shaBlocks : Nat → List Byte → List (BitVec 32) → List (BitVec 32)
  | 0, _, s => s
  | n + 1, b, s => if b.isEmpty then s else shaBlocks n (b.drop 64) (shaBlock s (b.take 64))

/-- SHA-256 of a byte string: 32 bytes. -/
def sha256 (b : List Byte) : List Byte :=
  let zeros := (119 - b.length % 64) % 64
  let padded := b ++ [0x80] ++ List.replicate zeros 0 ++ beBytes 8 (8 * b.length)
  (shaBlocks (padded.length / 64) padded shaInit).flatMap (fun x => beBytes 4 x.toNat)

/-- HMAC-SHA-256 of a key and a message. -/
def hmacSha256 (key msg : List Byte) : List Byte :=
  let k := if 64 < key.length then sha256 key else key
  let k := k ++ List.replicate (64 - k.length) 0
  sha256 (k.map (· ^^^ 0x5C) ++ sha256 (k.map (· ^^^ 0x36) ++ msg))

end Sys2Proof.Machine
end

