-- ==== Sys2Proof/Machine/Ecdsa.lean ====
section
/-! DEFINITION. ECDSA verification on P-256 with SHA-256 (FIPS 186-5), by which a firmware image is accepted (R385; log entry 6). -/

namespace Sys2Proof.Machine

/-- The prime of P-256. -/
def p256 : Nat := 2 ^ 256 - 2 ^ 224 + 2 ^ 192 + 2 ^ 96 - 1
/-- The order of its base point. -/
def p256Order : Nat := 0xFFFFFFFF00000000FFFFFFFFFFFFFFFFBCE6FAADA7179E84F3B9CAC2FC632551
/-- The base point. -/
def p256Base : Nat × Nat :=
  (0x6B17D1F2E12C4247F8BCE6E563A440F277037D812DEB33A0F4A13945D898C296,
   0x4FE342E2FE1A7F9B8EE7EB4A7C0F9E162BCE33576B315ECECBB6406837BF51F5)
/-- The curve's constant: y² = x³ − 3 x + b. -/
def p256B : Nat := 0x5AC635D8AA3A93E7B3EBBD55769886BC651D06B0CC53B0F63BCE3C3E27D2604B

/-- A power modulo m; the first argument bounds the bits of the exponent. -/
def powMod (m : Nat) : Nat → Nat → Nat → Nat
  | 0, _, _ => 1 % m
  | k + 1, x, e =>
    let r := powMod m k (x * x % m) (e / 2)
    if e % 2 = 1 then x * r % m else r
/-- The inverse modulo a prime below 2^256. -/
def invMod (m x : Nat) : Nat := powMod m 256 (x % m) (m - 2)

/-- The point on the line of slope l through two points of the curve, mirrored. -/
def ecThird (l x1 y1 x2 : Nat) : Nat × Nat :=
  let x3 := (l * l + 2 * p256 - x1 - x2) % p256
  (x3, (l * (x1 + p256 - x3) + p256 - y1) % p256)
/-- The sum of two points; none is the point at infinity. -/
def ecAdd : Option (Nat × Nat) → Option (Nat × Nat) → Option (Nat × Nat)
  | none, q => q
  | q, none => q
  | some (x1, y1), some (x2, y2) =>
    if x1 = x2 then
      if (y1 + y2) % p256 = 0 then none
      else some (ecThird ((3 * x1 * x1 + p256 - 3) * invMod p256 (2 * y1) % p256) x1 y1 x2)
    else some (ecThird ((y2 + p256 - y1) * invMod p256 (x2 + p256 - x1) % p256) x1 y1 x2)
/-- A multiple of a point; the first argument bounds the bits of the factor. -/
def ecMul : Nat → Nat → Option (Nat × Nat) → Option (Nat × Nat)
  | 0, _, _ => none
  | k + 1, n, q =>
    let r := ecMul k (n / 2) (ecAdd q q)
    if n % 2 = 1 then ecAdd q r else r

/-- A point of the curve, other than infinity. -/
def ecOnCurve (q : Nat × Nat) : Bool :=
  decide (q.1 < p256 ∧ q.2 < p256) && (q.2 * q.2 % p256 == (q.1 * q.1 * q.1 + (p256 - 3) * q.1 + p256B) % p256)

/-- The signature (r, s) of a message verifies under a public key. -/
def ecdsaVerify (key : Nat × Nat) (msg : List Byte) (r s : Nat) : Bool :=
  if r = 0 ∨ p256Order ≤ r ∨ s = 0 ∨ p256Order ≤ s ∨ ecOnCurve key = false then false else
  let z := beNat (sha256 msg)
  let w := invMod p256Order s
  match ecAdd (ecMul 256 (z * w % p256Order) (some p256Base)) (ecMul 256 (r * w % p256Order) (some key)) with
  | none => false
  | some q => q.1 % p256Order == r

/-- A firmware image's signature, over its bytes 0 to 63 and its body, verifies with the Moluz public key of its key index (R385
step 2). -/
def signatureValid (b : List Byte) : Bool :=
  ecdsaVerify (Config.moluzKey (beNat ((b.drop 20).take 1))) (b.take 64 ++ b.drop 256)
    (beNat ((b.drop 64).take 32)) (beNat ((b.drop 96).take 32))

end Sys2Proof.Machine
end

