-- ==== Sys2Proof/Machine/Session.lean ====
section
/-! DEFINITION. Sessions (R373 to R384), firmware (R385). -/

namespace Sys2Proof.Machine

/-! ### Session PDUs (R375) -/

/-- An answer to a session PDU. -/
def say (rq : Req) (sid : BitVec 32) (op sq : Nat) (data : List Byte) : Mach → Mach := reply 9 rq 0 (sessBody sid op sq 0 data)

/-- A session PDU the device sends by itself, on the session's connection; its request identifier is a free value (log entry 3). -/
def tell (conn : BitVec 16) (body : List Byte) (m : Mach) : Mach :=
  match m.conn? conn with
  | none => m
  | some c => (m.emit (.reply 9 { handle := conn, rid := m.freeNow.setWidth 16, src := c.src } 0 body)).drew

def Mach.sessOf (m : Mach) (sid : BitVec 32) : Option Session := m.sess.opened.find? (fun s => s.sid == sid)
def modSession (sid : BitVec 32) (f : Session → Session) (m : Mach) : Mach :=
  m.modSess (fun x => { x with opened := x.opened.map (fun s => if s.sid = sid then f s else s) })
def dropSession (sid : BitVec 32) (m : Mach) : Mach := m.modSess (fun x => { x with opened := x.opened.filter (fun s => s.sid != sid) })

/-- Whether content runs from the partner to the device (R373). -/
def Session.down (s : Session) : Bool := s.ty == 1 || s.ty == 3 || s.ty == 4 || s.ty == 6 || s.ty == 7 || (s.ty == 8 && s.total != 0)
/-- Segments of the content; empty content is one empty segment of an upload. -/
def Session.segments (s : Session) : Nat := (s.total + s.seg - 1) / max 1 s.seg
def Session.parts (s : Session) : Nat := max 1 ((s.content.length + s.seg - 1) / max 1 s.seg)

/-! ### Firmware slots (R385, R434) -/

/-- The slot an update writes. -/
def Mach.spareSlot (m : Mach) : Fin 2 := other m.fw.active
/-- A slot is marked empty. -/
def emptySlot (s : Fin 2) (m : Mach) : Mach := { m with nv := { m.nv with slot := vmod m.nv.slot s (fun _ => none) } }
/-- The header of a firmware image fits this device and its security version (R385 step 2). -/
def Mach.fwCompatible (m : Mach) (b : List Byte) : Bool :=
  256 ≤ b.length && imgNat b 0 4 == 0x59564657 && imgNat b 4 4 == 0x2212A101 && m.n Key.fwSecurityVersionMin ≤ imgNat b 12 4 &&
  imgNat b 16 4 ≤ 2096896 && imgNat b 16 4 + 256 == b.length && imgNat b 20 1 ≤ 1

/-! ### Ends of a session (R382, R383) -/

/-- What an abort undoes: an area commit that has not begun, a commissioning commit that waits, a slot in the writing. -/
def undo (s : Session) (m : Mach) : Mach :=
  let m : Mach := { m with nv := { m.nv with jobs := m.nv.jobs.filter (fun j => match j with | .area _ _ (.session x) => x != s.sid | _ => true) } }
  let m := if s.ty = 4 ∧ s.committing then
      m.each allDoms (fun d m => match m.doms[domIx d].pending with
        | some p => if p.safety then discardShadow d (m.modDom (domIx d) (fun x => { x with pending := none })) else m
        | none => m)
    else m
  if s.ty = 3 then emptySlot m.spareSlot m else m

/-- A session is aborted (R383): counted, recorded, and the FINISH that waits is answered. -/
def abortSession (code detail : Nat) (s : Session) (m : Mach) : Mach :=
  let m := undo s (dropSession s.sid m)
  let m := whenUp (raiseM 0x6A code) ((m.inc Key.sessionAbortCount).putN Key.sessionLastAbortCode code)
  match s.finish with
  | some rq => say rq s.sid 7 0 ([1, BitVec.ofNat 8 code] ++ beBytes 2 detail) m
  | none => m

/-- An abort that the partner hears of. -/
def abortTell (code : Nat) (s : Session) (m : Mach) : Mach :=
  tell s.conn (sessBody s.sid 8 0 0 [BitVec.ofNat 8 code]) (abortSession code 0 s m)

/-- A session has reached its commit point (R382). -/
def completeSession (s : Session) (m : Mach) : Mach :=
  let m := (dropSession s.sid m).modSess (fun x => { x with done := x.done ++ [(s.sid, s.conn, s.down)] })
  match s.finish with
  | some rq => say rq s.sid 7 0 [0, 0, 0, 0] m
  | none => m

/-- The sessions of a connection that closes (R364): nobody is left to tell. -/
def abortAll (h : BitVec 16) (m : Mach) : Mach :=
  m.each (m.sess.opened.filter (fun s => s.conn == h)) (fun s m => abortSession 0x09 0 { s with finish := none } m)

/-! ### OPEN (R374, R376) -/

/-- Largest content by type (R373). -/
def largest : Nat → Nat
  | 1 | 2 | 4 => 131072
  | 3 => 2097152
  | 5 => 262144
  | 6 | 7 => 4096
  | 8 => 65536
  | _ => 0

/-- Type 8 runs down for an entry that is written: a write-only one, or a writable one with a length (R373; log entry 37). -/
def openDown (o : OpenArgs) : Bool :=
  let ty := o.ty.toNat
  ty == 1 || ty == 3 || ty == 4 || ty == 6 || ty == 7 || (ty == 8 && o.total != 0)

/-- The entry a domain transfer names. -/
def openKey (o : OpenArgs) : Nat := o.index.toNat * 256 + o.sub.toNat

/-- An OPEN beyond the limits of R374. -/
def Mach.sessFull (m : Mach) (o : OpenArgs) : Bool :=
  8 ≤ m.sess.opened.length ||
  ((o.ty == 3 || o.ty == 4) && m.sess.opened.any (fun s => s.ty == o.ty.toNat)) ||
  (o.ty == 1 && m.sess.opened.any (fun s => s.ty == 1 && s.target == o.target.toNat))

/-- The role a session needs (R363). -/
def openRole (o : OpenArgs) : Nat :=
  match o.ty.toNat with
  | 1 | 3 | 5 | 7 => 3
  | 4 => 4
  | 8 => if openDown o then writeRole (openKey o) else 1
  | _ => 1

/-- The target can be had (R373, R384, R385). A grove join runs on Canopy only. -/
def Mach.targetOk (m : Mach) (o : OpenArgs) : Bool :=
  let t := o.target.toNat
  if m.up = some false then o.ty == 3 && t == 0 else
  match o.ty.toNat with
  | 1 => t < 4 && t != m.n Key.bankActive
  | 2 => t == 0xFF || (t < 4 && m.nv.bank[bank4 t].isSome)
  | 3 => !m.fw.trial && (t == 0 || (t == 1 && (m.leads || !m.inGrove)))
  | 4 => t == 0 && m.drivesOff
  | 5 => (t == 0 && m.capture.state == 3) || (t == 1 && m.echo.state == 4)
  | 7 => t == 0 && (m.leads || !m.inGrove)
  | 8 => (match rowOf (openKey o) with
    | some r => (match r.ty with | .dom _ => true | _ => false) &&
        (if openDown o then r.acc == .rw || r.acc == .wo else r.acc != .wo) && !(openDown o && m.held (openKey o))
    | none => false)
  | _ => false

/-- What an upload sends, as it stands at the OPEN (R384). -/
def Mach.uploadContent (m : Mach) (o : OpenArgs) : List Byte :=
  match o.ty.toNat with
  | 2 => if o.target = 0xFF then m.bankImage else (m.bankBytes (bank4 o.target.toNat)).getD []
  | 5 => valBytes (m.view (if o.target = 0 then Key.captureBuffer else Key.echoResponseTable))
  | 8 => valBytes (m.view (openKey o))
  | _ => []

/-- The abort code that refuses an OPEN; the order of the checks is the model's (log entry 37). -/
def Mach.openRefusal (m : Mach) (o : OpenArgs) (role : Nat) : Option Nat :=
  if m.sessFull o then some 0x07
  else if role < openRole o then some 0x06
  else if openDown o && largest o.ty.toNat < o.total.toNat then some 0x05
  else if !m.targetOk o then some 0x08
  else none

/-- Segment `j` of an upload. -/
def Session.segment (s : Session) (j : Nat) : List Byte := sessBody s.sid 3 j (j * s.seg) ((s.content.drop (j * s.seg)).take s.seg)
/-- An upload's segments from `a` up to `b` leave. -/
def sendSegments (s : Session) (a b : Nat) (m : Mach) : Mach :=
  m.each ((List.range (b - a)).map (fun j => a + j)) (fun j m => tell s.conn (s.segment j) m)
/-- An upload sends what its window admits. -/
def pump (sid : BitVec 32) (m : Mach) : Mach :=
  match m.sessOf sid with
  | none => m
  | some s =>
    let lim := min s.parts (s.e + s.window)
    modSession sid (fun s => { s with sentTo := max s.sentTo lim, retryAt := m.ns + ms (m.n Key.sessionRetryTime) }) (sendSegments s s.sentTo lim m)

/-- The lowest pair of session queues that no open session takes (R374, R457). -/
def Mach.freeSlot (m : Mach) : Fin 8 := ((List.finRange 8).find? (fun k => m.sess.opened.all (fun s => s.slot != k))).getD 0
/-- An OPEN that is granted: its session, and the OPEN_ACK. -/
def openGranted (rq : Req) (o : OpenArgs) (m : Mach) : Mach :=
  let sid := BitVec.ofNat 32 ((m.n Key.identityBootCount % 65536) * 65536 + m.sess.next % 65536)
  let up := m.uploadContent o
  let down := openDown o
  let s : Session := { sid := sid, conn := rq.handle, slot := m.freeSlot, ty := o.ty.toNat, target := o.target.toNat,
                       window := max 1 (min o.window.toNat (m.n Key.sessionWindow)), seg := m.n Key.sessionSegmentSize,
                       total := if down then o.total.toNat else up.length,
                       crc := if down then o.crc else crc32c up, token := o.token, opened := m.ns, key := (openKey o),
                       content := if down then [] else up, last := m.ns }
  let body := sessBody sid 2 0 0 (beBytes 1 s.window ++ beBytes 2 s.seg ++ beBytes 4 s.total ++ beBytes 4 s.crc.toNat)
  let m := m.modSess (fun x => { x with
    opened := x.opened ++ [s], next := (x.next + 1) % 65536,
    recent := x.recent.filter (fun r => m.ns < r.2.2.1 + 10000000000) ++ [(rq.handle, o.token, m.ns, body)] })
  let m := if o.ty = 3 then emptySlot m.spareSlot m else m
  let m := reply 9 rq 0 body m
  if down then m else pump sid m

/-- SESSION_OPEN (R374, R376): repeated within 10 s, refused, or granted; refused with 0x0008 while entry to sleep is under way
(R419). -/
def sessionOpenEff (rq : Req) (o : OpenArgs) : Mach → Mach := servePdu 9 rq (fun c m =>
  match m.sess.recent.find? (fun r => r.1 == rq.handle && r.2.1 == o.token && decide (m.ns ≤ r.2.2.1 + 10000000000)) with
  | some r => reply 9 rq 0 r.2.2.2 m
  | none =>
    if m.falling then reply 9 rq 0x0008 [] m else
    match m.openRefusal o c.role with
    | some code => say rq 0 9 0 [1, BitVec.ofNat 8 code, 0, 0] m
    | none => openGranted rq o m)

/-! ### Downloads (R377, R379) -/

/-- A session PDU: its session, if it is open and the connection's own (R381). -/
def serveSess (rq : Req) (sid : BitVec 32) (f : Session → Mach → Mach) : Mach → Mach := servePdu 9 rq (fun _ m =>
  match m.sess.opened.find? (fun s => s.sid == sid && s.conn == rq.handle) with
  | none => reply 9 rq 0x000B [] m
  | some s => f { s with last := m.ns } (modSession sid (fun s => { s with last := m.ns }) m))

/-- A NAK, at most one per segment per RetryTime (R377). -/
def nak (rq : Req) (s : Session) (m : Mach) : Mach :=
  let soon : Bool := match s.nakAt with
    | some (e, t) => e == s.e && decide (m.ns < t + ms (m.n Key.sessionRetryTime))
    | none => false
  if soon then m
  else say rq s.sid 5 s.e [] (modSession s.sid (fun s => { s with nakAt := some (s.e, m.ns) }) m)

/-- Segments stored in order join the content; `fuel` bounds their number. -/
def gather : Nat → Session → Session
  | 0, s => s
  | fuel + 1, s => match look s.e s.stored with
    | none => s
    | some b => gather fuel { s with e := s.e + 1, stored := erase s.e s.stored, content := s.content ++ b }

/-- SESSION_DATA (R377). -/
def sessionDataEff (rq : Req) (sid : BitVec 32) (sq : BitVec 16) (offset : Nat) (data : List Byte) : Mach → Mach :=
  serveSess rq sid (fun s m =>
    if !s.down then m else
    let d := (sq - BitVec.ofNat 16 s.e).toNat
    if 32768 ≤ d then say rq sid 4 s.e [] m
    else if s.window ≤ d then nak rq s m
    else if offset ≠ (s.e + d) * s.seg ∨ s.total < offset + data.length then abortTell 0x04 s m
    else
      let s' := gather (s.window + 1) { s with stored := ins (s.e + d) data (erase (s.e + d) s.stored) }
      let m := modSession sid (fun _ => s') m
      let m := if s.ty = 3 ∧ s.content.length < s'.content.length then
          (pieces (s'.content.length / 4064 + 1) (fwAddr m.spareSlot + s.content.length) (s'.content.drop s.content.length)).foldl (fun m j => m.nvJob j) m
        else m
      say rq sid 4 s'.e [] m)

/-- The checks of a bank image in a download (R410). -/
def Mach.imageStrict (m : Mach) (b : List Byte) : Bool :=
  let rs := recordsOf b
  let vs := m.imageValues b
  imageFrameOk b && rs.length == imgNat b 16 4 && (rs.map (·.1)).Pairwise (· < ·) && vs.2 == 0 &&
  (setSafety (m.imageSafety b) m).seal == imageSeal b &&
  ((vs.1.foldl (fun x p => x.putShadow p.1 p.2) m).failingDomain).isNone

/-- An image carries a safety record whose value the target bank does not hold (R363, R410); an empty bank holds none of them. -/
def Mach.imageChangesSafety (m : Mach) (b : List Byte) (n : Fin 4) : Bool :=
  match m.bankBytes n with
  | none => (m.imageValues b).1.any (fun p => safetyFlag p.1)
  | some old => let was := m.imageSafety old
    ((m.imageValues b).1.filter (fun p => safetyFlag p.1)).any (fun p => !was.contains p)

/-- A session waits for its commit point. -/
def commits (sid : BitVec 32) : Mach → Mach := modSession sid (fun s => { s with committing := true })

/-- A commissioning image goes to the shadow banks and is committed (R384, R295); the commit status that refuses it. -/
def commissionEff (s : Session) (m : Mach) : Mach :=
  let vs := safetyImageVals s.content.length s.content
  let whole := decide ((vs.map (·.1)) = allKeys.filter safetyFlag) &&
    vs.all (fun p => match rowOf p.1 with | some r => m.inRange p.1 r p.2 | none => false)
  let x := vs.foldl (fun x p => x.putShadow p.1 p.2) m
  let ds := allDoms.filter (fun d => x.safetyCommit d)
  if !m.drivesOff then abortSession 0x08 0 s m
  else if !whole then abortSession 0x0D 0x12 s m
  else match ds.findSome? (fun d => x.commitRefusal d 4 none) with
  | some c => abortSession 0x0D c s m
  | none =>
    if ds.isEmpty then completeSession s m else
    commits s.sid (x.each ds (fun d x => if x.leads then groveCommitStart d none x else
      x.modDom (domIx d) (fun y => { y with pending := some { target := none, at_ := x.ns, safety := true }, status := 1 })))

/-- A firmware image's checks, then its area commit (R385 step 2). -/
def firmwareEff (s : Session) (m : Mach) : Mach :=
  let fail := fun (code : Nat) => whenUp (raiseM 0x6B code) (abortSession code 0 s m)
  if !m.fwCompatible s.content then fail 0x0C
  else if !signatureValid s.content then fail 0x0B
  else if m.nv.stopped then abortSession 0x0F 0 s m
  else
    commits s.sid (m.nvJob (.area .firmware (some { copy := m.spareSlot, len := s.content.length, crc := crc32c s.content }) (.session s.sid)))

/-- The type's own checks and what leads to the commit point (R373, R384). -/
def finishEff (role : Nat) (s : Session) (m : Mach) : Mach :=
  match s.ty with
  | 1 =>
    let n := bank4 s.target
    if !m.imageStrict s.content then abortSession 0x0D 0x12 s m
    else if m.imageChangesSafety s.content n ∧ role < 4 then abortSession 0x06 0 s m
    else if m.nv.stopped then abortSession 0x0F 0 s m
    else commits s.sid (writeArea (.bank n) s.content (.session s.sid) m)
  | 3 => firmwareEff s m
  | 4 => commissionEff s m
  | 7 => commits s.sid m
  | 8 => (match m.writeOf s.key s.content role with
    | .ok v => completeSession s (storeEntry s.key v m)
    | .error c => abortSession (if c = 0x0004 then 0x06 else if c = 0x0008 then 0x08 else 0x0D) (if c = 0x0007 then 0x13 else 0x12) s m)
  | _ => m

/-- SESSION_FINISH (R379): NAK before every segment is there, the CRC, then the checks of the type. A repeated one is answered with
the same FINISH_ACK. -/
def sessionFinishEff (rq : Req) (sid : BitVec 32) : Mach → Mach := servePdu 9 rq (fun c m =>
  match m.sess.opened.find? (fun s => s.sid == sid && s.conn == rq.handle) with
  | none => if m.sess.done.contains (sid, rq.handle, true) then say rq sid 7 0 [0, 0, 0, 0] m else reply 9 rq 0x000B [] m
  | some s =>
    if !s.down then m
    else if s.e < s.segments then nak rq { s with last := m.ns } (modSession sid (fun s => { s with last := m.ns }) m)
    else
      let s := { s with last := m.ns, finish := some rq }
      let m := modSession sid (fun _ => s) m
      if s.committing then m
      else if crc32c s.content ≠ s.crc then abortSession 0x03 0 s m
      else finishEff c.role s m)

/-- SESSION_ABORT by the partner (R382): it wins, unless the commit point came first. -/
def sessionAbortEff (rq : Req) (sid : BitVec 32) : Mach → Mach := servePdu 9 rq (fun _ m =>
  match m.sess.opened.find? (fun s => s.sid == sid && s.conn == rq.handle) with
  | none => if m.sess.done.any (fun d => d.1 == sid && d.2.1 == rq.handle) then say rq sid 9 0 [0, 0, 0, 0] m else reply 9 rq 0x000B [] m
  | some s => say rq sid 9 0 [1, 1, 0, 0] (abortSession 0x01 0 s m))

/-! ### Uploads (R378) -/

/-- Segments from e leave again. -/
def resend (s : Session) (m : Mach) : Mach :=
  if 5 ≤ s.resends then abortTell 0x0A s m else
  let lim := min s.parts (s.e + s.window)
  modSession s.sid (fun s => { s with resends := s.resends + 1, sentTo := max s.sentTo lim, retryAt := m.ns + ms (m.n Key.sessionRetryTime) })
    (sendSegments s s.e lim m)

/-- SESSION_ACK (R378): the window moves; the last segment's is the commit point. -/
def sessionAckEff (rq : Req) (sid : BitVec 32) (next : BitVec 16) : Mach → Mach := serveSess rq sid (fun s m =>
  if s.down then m
  else if s.sentTo < next.toNat then abortTell 0x04 s m
  else if next.toNat ≤ s.e then m
  else if s.parts ≤ next.toNat then completeSession s m
  else pump sid (modSession sid (fun s => { s with e := next.toNat, resends := 0 }) m))

/-- SESSION_NAK (R378): a resend from e at once. -/
def sessionNakEff (rq : Req) (sid : BitVec 32) (next : BitVec 16) : Mach → Mach := serveSess rq sid (fun s m =>
  if s.down then m else
  let s' := if s.e < next.toNat ∧ next.toNat ≤ s.sentTo then { s with e := next.toNat, resends := 0 } else s
  resend s' (modSession sid (fun _ => s') m))

/-- SESSION_RETRY_TIMEOUT (R378). -/
def sessionRetryTimeoutEff (sid : BitVec 32) : Mach → Mach := whenServes (fun m =>
  match m.sessOf sid with
  | some s => if !s.down ∧ s.retryAt ≤ m.ns then resend s m else m
  | none => m)

/-- SESSION_IDLE_TIMEOUT (R380). -/
def sessionIdleTimeoutEff (sid : BitVec 32) : Mach → Mach := whenServes (fun m =>
  match m.sessOf sid with
  | some s => if s.last + ms (m.n Key.sessionIdleTimeout) ≤ m.ns then abortTell 0x02 s m else m
  | none => m)

/-! ### Commit points that come about elsewhere (R373, R385) -/

/-- The safety commit of a commissioning session has been applied, or refused (R384). -/
def commissionProgress (m : Mach) : Mach :=
  m.each (m.sess.opened.filter (fun s => s.ty == 4 && s.committing)) (fun s m =>
    if allDoms.any (fun d => match m.doms[domIx d].pending with | some p => p.safety | none => false) then m
    else match (allDoms.filter (fun d => (allKeys.filter safetyFlag).any (fun k => m.domOf k == some d))).findSome? (fun d => let c := m.doms[domIx d].status; if c = 0x16 ∨ c = 0x17 then some c else none) with
      | some c => abortSession 0x0D c s m
      | none => completeSession s m)

/-- STAND_LEASE_EXPIRY (R344): a grove whose total nothing has renewed for StandLeaseTime sets it to 0; a stand join whose peer is lost
so aborts (R384). -/
def standLeaseExpiryEff : Mach → Mach := whenLanes (fun m =>
  if m.standRole ≠ 1 ∨ m.ns < m.grove.renewed.getD 0 + ms (m.n Key.unitStandLeaseTime) then m else
  let m := m.each (m.sess.opened.filter (fun s => s.ty == 7)) (fun s m => abortTell 0x0E s m)
  raiseM 0x62 0xFF (setTotal 0 m))

/-- A stand join completes at the network boundary (R373); what its content holds is not laid down (log entry 38). -/
def standProgress (m : Mach) : Mach := m.each (m.sess.opened.filter (fun s => s.ty == 7 && s.committing)) (fun s m => completeSession s m)

/-- Every member has marked a distributed image's slot valid (R385). -/
def Mach.groveFwDone (m : Mach) : Bool := m.joinedMap.toNat &&& m.grove.fwValid == m.joinedMap.toNat

/-- The device's own slot holds the image: a session for this device completes, one for the grove hands it to the members first; in
the boot state the image is activated at once, on trial (R443). -/
def slotWritten (s : Session) (m : Mach) : Mach :=
  if m.up = some false then mainReset 0x05 { completeSession s m with fw := { m.fw with trialNext := some m.spareSlot } }
  else if s.target = 0 ∨ m.joinedMap = 0 then completeSession s m
  else serviceSend none 7 s.content (m.modGrove (fun g => { g with fwValid := 0 }))

/-- A member's slot is valid: it says so to the leader (R385). -/
def memberSlotValid (m : Mach) : Mach := openSend m.leaderPos 7 m
/-- An image that has arrived whole from the leader is checked as one of a session is, and written to the member's own slot (R385). -/
def fwMemberProgress (m : Mach) : Mach :=
  let b := m.fw.rx
  let len := imgNat b 16 4 + 256
  if b.length < 256 ∨ b.length < len then m else
  let m : Mach := { m with fw := { m.fw with rx := [] } }
  let b := b.take len
  if !m.follows ∨ m.fw.trial ∨ m.nv.stopped then m else
  let m := emptySlot m.spareSlot m
  if !m.fwCompatible b ∨ !signatureValid b then m else
  let m := (pieces (b.length / 4064 + 1) (fwAddr m.spareSlot) b).foldl (fun m j => m.nvJob j) m
  m.nvJob (.area .firmware (some { copy := m.spareSlot, len := b.length, crc := crc32c b }) .member)

/-- GROVE_FIRMWARE_SLOT_VALID (R385). -/
def groveFirmwareSlotValidEff (src : Fin 8) : Mach → Mach := whenLanes (fun m =>
  if !m.leads then m else
  let m := (hear src m).modGrove (fun g => { g with fwValid := setBit g.fwValid src.1 true })
  if !m.groveFwDone then m else
  m.each (m.sess.opened.filter (fun s => s.ty == 3 && s.target == 1 && s.committing && m.nv.slot[m.spareSlot].isSome)) (fun s m => completeSession s m))

/-! ### Activation and confirmation (R385) -/

/-- FW_ACTIVATE is permitted: every drive Off and an image in the slot; else 0x0008 (log entry 39). -/
def Mach.activateOk (m : Mach) (slot : Fin 2) : Bool := m.drivesOff && m.nv.slot[slot].isSome
/-- FW_ACTIVATE: the device resets into the slot, on trial. -/
def fwActivate (slot : Fin 2) (m : Mach) : Mach := mainReset 0x05 { m with fw := { m.fw with trialNext := some slot } }

/-- FW_CONFIRM: the trial image becomes the active one, and its security version the least. -/
def fwConfirm (m : Mach) : Mach :=
  if !m.fw.trial then m else
  let m : Mach := { m with fw := { m.fw with trial := false, rolled := false, confirmed := m.fw.active } }
  m.putDevice Key.fwSecurityVersionMin (.num (m.slotNumber m.fw.active 12))

end Sys2Proof.Machine
end

