-- ==== Sys2Proof/Machine/Thermal.lean ====
section
/-! DEFINITION. Temperature: sensors and their cross-check (R429, R430), levels with hysteresis and dwell (R431), Shade (R432),
shutdown (R433), switch NTCs (R246). -/

namespace Sys2Proof.Machine

def Mach.modThermal (m : Mach) (f : Thermal → Thermal) : Mach := { m with thermal := f m.thermal }
/-- Degrees Celsius. -/
def celsius (n : Int) : F32 := fRat n 1

/-! ### Stopping and resuming NV writing (R417, R433, R438) -/

/-- NV writing stops: the record in progress completes, the rest is dropped; a log record that waits goes to the RAM ring (R456), an
operation that waits is broken off (R438). -/
def nvStop (m : Mach) : Mach :=
  if m.nv.stopped then m else
  let drop := m.nv.jobs.drop 1
  let logs := drop.filterMap (fun j => match j with | .log r => some r | _ => none)
  let m : Mach := { m with nv := { m.nv with stopped := true, jobs := m.nv.jobs.take 1 } }
  let m := m.modEv (fun x => { x with ramRing := (x.ramRing ++ logs).drop ((x.ramRing ++ logs).length - 256) })
  let ends := drop.filterMap (fun j => match j with | .area _ _ (.session sid) => some sid | _ => none)
  let m := m.each (m.sess.opened.filter (fun s => ends.contains s.sid)) (fun s m => abortSession 0x0F 0 s m)
  if m.nv.activating.isSome || drop.any (fun j => match j with | .area _ _ .bankStore => true | .area _ _ .bankErase => true | _ => false) then
    bankBroken m
  else m

/-- NV writing resumes: the RAM ring is written in order (R456), and the counters that moved meanwhile. -/
def nvResume (m : Mach) : Mach :=
  if !m.nv.stopped then m else
  let logs := m.ev.ramRing.map NvJob.log
  let m : Mach := { m.modEv (fun x => { x with ramRing := [] }) with nv := { m.nv with stopped := false, jobs := m.nv.jobs ++ logs } }
  m.each [Key.thermalShutdownCount, Key.logLostCount] (fun k m => m.nvJob (.entry k (m.val k) .nobody))

/-! ### Levels (R431) -/

/-- The level a reading asks for: the highest whose entry threshold it reaches, or that stands and has not been left 5 K below. -/
def wantedLevel (cur : Nat) (entry : List F32) (t : F32) : Nat :=
  (List.range entry.length).foldl (fun a j =>
    let th := entry.getD j 0
    if fge t th ∨ (j < cur ∧ fge t (fsub th (celsius 5))) then j + 1 else a) 0

/-- A reading against a level with its dwell of 100 ms: the level as it stands now. -/
def Dwell.next (d : Dwell) (ns want : Nat) : Dwell :=
  if want = d.level then { d with want := want, since := ns } else
  let goes := if d.level < want then (if d.level < d.want then some (min d.want want) else none)
              else (if d.want < d.level then some (max d.want want) else none)
  match goes with
  | none => { d with want := want, since := ns }
  | some w =>
    let d := { d with want := w }
    if d.since + 100000000 ≤ ns ∧ (match d.last with | some t => decide (t + 100000000 ≤ ns) | none => true) = true then
      { level := w, want := w, since := ns, last := some ns }
    else d

/-- A quantity is held against its levels: the level before and after. -/
def level (key : Nat) (entry : List F32) (t : F32) (m : Mach) : Mach × Nat × Nat :=
  let d := (look key m.thermal.dwells).getD {}
  let d' := d.next m.ns (wantedLevel d.level entry t)
  (m.modThermal (fun x => { x with dwells := putAt (fun _ => {}) key d' x.dwells }), d.level, d'.level)

/-! ### The cross-check (R430) -/

/-- Insertion into a rising list. -/
def fInsert (x : F32) : List F32 → List F32
  | [] => [x]
  | y :: r => if fle x y then x :: y :: r else y :: fInsert x r
/-- The median. -/
def median (l : List F32) : Option F32 :=
  let s := l.foldr fInsert []
  let n := s.length
  if n = 0 then none
  else if n % 2 = 1 then s[n / 2]?
  else some (fdiv (fadd (s.getD (n / 2 - 1) 0) (s.getD (n / 2) 0)) (fRat 2 1))

/-- The live entry of a sensor by its bit number (R441). -/
def sensorKey (b : Nat) : Nat := if b < 16 then Key.tempMainDie b else if b < 28 then Key.gDieTemp (b - 16) else Key.gSwitchTemp (b - 28)
/-- A sensor read since the start and not broken. -/
def Mach.sensorValid (m : Mach) (b : Nat) : Bool := bit m.thermal.seen b && !bit (m.n Key.tempSensorBroken) b
/-- Sensors of the same kind. -/
def sameKind (b : Nat) : List Nat :=
  if b < 16 then List.range 16 else if b < 28 then (List.range 12).map (· + 16) else (List.range 12).map (· + 28)

/-- What a broken sensor's reading is replaced by: the median of its valid neighbours, else the highest valid one of its kind. -/
def Mach.replacement (m : Mach) (b : Nat) (med : Option F32) (t : F32) : F32 :=
  match med with
  | some x => x
  | none => match (sameKind b).filter (fun j => j != b && m.sensorValid j) with
    | [] => t
    | j :: r => r.foldl (fun a k => fmax a (m.r (sensorKey k))) (m.r (sensorKey j))

/-- The limits of a sensor by its bit number: a main die's, a channel die's, a switch NTC's (R429). -/
def Mach.sensorLimits (m : Mach) (b : Nat) : List F32 :=
  if b < 16 then [celsius 125, celsius 130, celsius 135, celsius 140, celsius 150]
  else if b < 28 then [celsius 140, celsius 150]
  else let s := m.setOfCh (fin12 (b - 28)); [m.r (Key.gateSwitchTempWarn s.1), m.r (Key.gateSwitchTempTrip s.1)]
/-- The interval at which a sensor is read, ns, by the distance of its reading from the nearest limit (R429). -/
def Mach.readInterval (m : Mach) (b : Nat) : Nat :=
  let near := fun (d : Int) => (m.sensorLimits b).any (fun l => fle (fabs (fsub (m.r (sensorKey b)) l)) (celsius d))
  if near 5 then 500000 else if near 15 then 5000000 else 50000000
/-- A sensor's next reading is due (R246, R429). -/
def Mach.readDue (m : Mach) (b : Nat) : Bool :=
  match look b m.thermal.readAt with | some t => decide (t + m.readInterval b ≤ m.ns) | none => true

/-- A reading of a sensor with its neighbours, corrected as the thermal model predicts, by 0 between NTCs (R430): the value that
stands for it. -/
def takeReading (b : Nat) (nbs : List Nat) (fault : Bool) (t : F32) (m : Mach) : Mach :=
  let corr := fun (j : Nat) => if b < 28 then Config.thermalOffset b j m.now else 0
  let med := median ((nbs.filter m.sensorValid).map (fun j => fadd (m.r (sensorKey j)) (corr j)))
  let m := m.modThermal (fun x => { x with seen := setBit x.seen b true, readAt := putAt (fun _ => 0) b m.ns x.readAt })
  if bit (m.n Key.tempSensorBroken) b then m.putR (sensorKey b) (m.replacement b med t) else
  let off : Bool := match med with | some x => fgt (fabs (fsub t x)) (celsius 8) | none => false
  let n := if off then (look b m.thermal.strikes).getD 0 + 1 else 0
  let m := m.modThermal (fun x => { x with strikes := putAt (fun _ => 0) b n x.strikes })
  if fault || 3 ≤ n then
    let m := m.putN Key.tempSensorBroken (setBit (m.n Key.tempSensorBroken) b true)
    sensingLost (raiseV 0x78 none none b t (med.getD 0) (m.putR (sensorKey b) (m.replacement b med t)))
  else m.putR (sensorKey b) t

/-! ### Shade and shutdown (R432, R433) -/

/-- Thresholds of Shade 1 to 4. -/
def shadeEntries : List F32 := [celsius 125, celsius 130, celsius 135, celsius 140]
/-- Shutdown stands: Shade.Level 5. -/
def Mach.shutDown (m : Mach) : Bool := m.n Key.shadeLevel == 5

/-- Shade.Level takes a value: the change is logged, Echo and capture are suspended or resumed at Shade 2 (R138). -/
def setShade (n : Nat) (m : Mach) : Mach :=
  let old := m.n Key.shadeLevel
  if n = old then m else
  let m := raiseM 0x7C n (m.putN Key.shadeLevel n)
  if old < 2 ∧ 2 ≤ n then echoSuspend m else if 2 ≤ old ∧ n < 2 then echoResume m else m

/-- The main-die temperature against its levels: the shutdown on two hot readings of one sensor, its cause gone below 145 °C. -/
def mainDie (m : Mach) : Mach :=
  let seen := (List.range 16).filter (fun j => bit m.thermal.seen j)
  let tj := match seen with
    | [] => m.r Key.tempMainDieTj
    | j :: r => r.foldl (fun a k => fmax a (m.r (Key.tempMainDie k))) (m.r (Key.tempMainDie j))
  let m := m.putR Key.tempMainDieTj tj
  let (m, _, lvl) := level 0 shadeEntries tj m
  let hot := m.thermal.hot.any (fun p => 2 ≤ p.2)
  if m.shutDown then
    if flt tj (celsius 145) then
      let m := causesGone (fun a => a.ev == 0x7D) m
      -- a power failure that stands goes on to forbid writing (R417)
      setShade lvl (if m.n Key.supplyStatus / 512 % 4 ≠ 0 then m else nvResume m)
    else m
  else if hot then
    nvStop (raiseV 0x7D none none 0xFF tj (celsius 150) ((setShade 5 m).inc Key.thermalShutdownCount))
  else setShade lvl m

/-- Orthogonal neighbours in the 4 × 4 grid. -/
def gridNeighbours (k : Nat) : List Nat :=
  (if 4 ≤ k then [k - 4] else []) ++ (if 1 ≤ k % 4 then [k - 1] else []) ++ (if k % 4 ≤ 2 then [k + 1] else []) ++ (if k < 12 then [k + 4] else [])
/-- The islands next to a channel's on its edge (R463), by bit number. -/
def dieNeighbours (c : Nat) : List Nat :=
  (if 1 ≤ c % 6 then [c + 15] else []) ++ (if c % 6 ≤ 4 then [c + 17] else [])

/-- A channel die against its limits (R429). -/
def channelDie (c : Fin 12) (m : Mach) : Mach :=
  let t := m.r (Key.gDieTemp c.1)
  let s := m.setOfCh c
  let (m, was, now) := level (1 + c.1) [celsius 140, celsius 150] t m
  let gone := fun (e : Nat) (m : Mach) => m.causeGone e (some s) none c.1
  let m := if was < 1 ∧ 1 ≤ now then raiseV 0x7A (some s) none c.1 t (celsius 140) m else if 1 ≤ was ∧ now < 1 then gone 0x7A m else m
  if was < 2 ∧ 2 ≤ now then raiseV 0x7B (some s) none c.1 t (celsius 150) m else if 2 ≤ was ∧ now < 2 then gone 0x7B m else m

/-- TEMPERATURE_READING (R429 to R433): a main-die sensor, whose readings are invalid while VANA is (R416), or a channel die. -/
def temperatureReadingEff (x : TempSensor) (t : F32) : Mach → Mach := whenUp (fun m =>
  match x with
  | .main k =>
    if bit (m.n Key.supplyStatus) 5 ∨ !m.readDue k.1 then m else
    let m := ageTick m
    let m := takeReading k.1 (gridNeighbours k.1) false t m
    let v := m.r (Key.tempMainDie k.1)
    let n := if fge v (celsius 150) then (look k.1 m.thermal.hot).getD 0 + 1 else 0
    mainDie (m.modThermal (fun x => { x with hot := putAt (fun _ => 0) k.1 n x.hot }))
  | .channel c => if !m.readDue (16 + c.1) then m else channelDie c (takeReading (16 + c.1) (dieNeighbours c.1) false t m))

/-! ### Switch NTCs (R246) -/

/-- The hottest switch of a set: its channel and temperature. -/
def Mach.hottestSwitch (m : Mach) (s : Fin 2) : Nat × F32 :=
  match (m.setChs s).filter (fun c => bit m.thermal.seen (28 + c.1)) with
  | [] => (0xFF, celsius (-55))
  | c :: r => r.foldl (fun a c => if fgt (m.r (Key.gSwitchTemp c.1)) a.2 then (c.1, m.r (Key.gSwitchTemp c.1)) else a)
      (c.1, m.r (Key.gSwitchTemp c.1))

/-- The temperature (°C) of a switch NTC whose voltage stands at 100 µA (R246): with R = V / 100 µA,
1 / T = 1 / 298.15 K + ln(R / NtcR25) / NtcBeta. PRESUMED (log entry 110): the rule names the two constants and no formula. -/
def Mach.ntcTemp (m : Mach) (s : Fin 2) (volts : F32) : F32 :=
  let r := fmul volts (fRat 10000 1)
  let inv := fadd (fdiv fOne (fRat 29815 100)) (fdiv (Config.ln (fdiv r (m.r (Key.gateNtcR25 s.1)))) (m.r (Key.gateNtcBeta s.1)))
  fsub (fdiv fOne inv) (fRat 27315 100)

/-- NTC_CONVERSION (R246, R430, R431). -/
def ntcConversionEff (c : Fin 12) (volts : F32) : Mach → Mach := whenUp (fun m =>
  if !m.readDue (28 + c.1) then m else
  let s := m.setOfCh c
  let temp := m.ntcTemp s volts
  let fault := flt volts (fRat 20 1000) || fgt volts (fRat 24 10)
  let nbs := if m.b Key.thermalNtcCrossCheck then ((m.setChs s).filter (· != c)).map (fun x => 28 + x.1) else []
  let m := if fault then raiseV 0x3E (some s) none c.1 volts (if flt volts (fRat 20 1000) then fRat 20 1000 else fRat 24 10) m else m
  let m := takeReading (28 + c.1) nbs fault temp m
  let (who, t) := m.hottestSwitch s
  let warn := m.r (Key.gateSwitchTempWarn s.1)
  let trip := m.r (Key.gateSwitchTempTrip s.1)
  let (m, was, now) := level (16 + s.1) [warn, trip] t m
  let gone := fun (e : Nat) => causesGone (fun a => a.ev == e && a.set == some s)
  let m := if was < 1 ∧ 1 ≤ now then raiseV 0x3F (some s) none who t warn m else if 1 ≤ was ∧ now < 1 then gone 0x3F m else m
  if was < 2 ∧ 2 ≤ now then raiseV 0x40 (some s) none who t trip m else if 2 ≤ was ∧ now < 2 then gone 0x40 m else m)

end Sys2Proof.Machine
end

