-- ==== Sys2Proof/Machine/Entry.lean ====
section
/-! DEFINITION. Reads and writes of entries and of unit blocks, and requests carried between members (R365, R366, R395 to R402). -/

namespace Sys2Proof.Machine

/-! ### What a written value does -/

/-- Process-data ownership is released (R369); the cycle runs on from its last boundary (R355, R368), and so does the counter of R370. -/
def pdRelease (m : Mach) : Mach :=
  let m := ((m.putN Key.pdOwner 0).putN Key.pdControl 0).putN Key.pdState 0
  (m.modNet (fun n => { n with pd := { cycleAt := n.pd.cycleAt, txCount := n.pd.txCount } })).causeGone 0x69 none none 0xFF
/-- Pd.Control written by a connection (R369). -/
def pdControl (h : BitVec 16) (run : Bool) (m : Mach) : Mach × Nat :=
  let owner := m.n Key.pdOwner
  if run then
    if owner = h.toNat then (m, 0)
    else if owner ≠ 0 ∨ h = 0xFFFF then (m, 0x0008)
    else (((m.putN Key.pdOwner h.toNat).putN Key.pdControl 1).putN Key.pdState 1 |>.modNet
      (fun n => { n with pd := { cycleAt := n.pd.cycleAt, txCount := n.pd.txCount } }), 0)
  else if owner = h.toNat then (pdRelease m, 0) else (m, 0)

/-- A request PDU of a kind for the device at a position (R358, R359). -/
def Mach.requestPdu (m : Mach) (kind : Nat) (rq : Req) (p : Fin 8) (body : List Byte) : List Byte :=
  pduHeader kind (16 + body.length) rq.handle.toNat rq.rid.toNat 0 (m.address p.1 0xFF 0xFF) ++ body
/-- The body of a write of an entry (R359). -/
def writeBody (k : Nat) (value : List Byte) : List Byte := beBytes 2 (k / 256) ++ beBytes 1 (k % 256) ++ [0] ++ value
/-- A request goes on to another member on VC 6 with the role it was checked for, and waits 50 ms for its answer (R366; log entry 41). -/
def forward (rq : Req) (role : Nat) (p : Fin 8) (pdu : List Byte) (m : Mach) : Mach :=
  serviceSend (some p) 6 (beBytes 1 role ++ pdu) (m.modNet (fun n => { n with forwarded := n.forwarded ++ [(rq, m.ns + 50000000, imgNat pdu 1 1)] }))

/-- Tokens.Total written: at a member, the request goes on to the leader (R332, R366). -/
def writeTotal (rq : Req) (role total : Nat) (m : Mach) : Mach × Option Nat :=
  if !m.inGrove || m.leads then (setTotal total m, some 0)
  else match m.leaderPos with
    | some p => (forward rq role p (m.requestPdu 3 rq p (writeBody Key.tokensTotal (beBytes 2 total))) m, none)
    | none => (m, some 0x0009)

/-- Lantern.Acknowledge (R427): the latched FAULT_N and creep alarm are released. -/
def lanternAcknowledge (m : Mach) : Mach :=
  causesGone (fun a => a.ev == 0x77) (m.putN Key.lanternStatus (setBit (setBit (m.n Key.lanternStatus) 2 false) 3 false))

/-- A start written at a leader starts every member's drive 0 (R339): a write of its Command to each member, which no connection waits
for. -/
def commandRun (d : Fin 2) (m : Mach) : Mach :=
  let m := commandRunEff d m
  if !m.leads ∨ d ≠ 0 then m else
  m.each (positions.filter (fun p => p != m.me && m.grove.members[p].joined)) (fun p m =>
    serviceSend (some p) 6 (beBytes 1 2 ++ m.requestPdu 3 { handle := 0, rid := 0, src := .canopy m.me } p (writeBody (Key.command 0) [1])) m)

/-- A motion record is complete when its sequence number is written (R203). -/
def motionWritten (d : Fin 2) (m : Mach) : Mach :=
  motionRecordEff d (m.n (Key.heaveMotionTime d.1)) (m.r (Key.heaveMotionPosition d.1)) (m.r (Key.heaveMotionVelocity d.1))
    (m.r (Key.heaveMotionAcceleration d.1)) (BitVec.ofNat 16 (m.n (Key.heaveMotionSequence d.1))) m

/-- Entries of a drive with a behaviour of their own; `none` for the others. -/
def performDrive (d : Fin 2) (base sub : Nat) (v : Val) (k : Nat) (m : Mach) : Option Mach :=
  if base = 0x4800 ∧ sub = 3 then some (if valNat v = 1 then commandRun d m else commandStopEff d m)
  else if base = 0x4801 ∧ sub = 2 then some (netReferenceEff d (m.putBoth k v))
  else if base = 0x4820 ∧ sub = 6 then some (wrapsSetEff d (BitVec.ofNat 32 (valNat v)) m)
  else if base = 0x4830 ∧ sub = 5 then some (motionWritten d (m.putBoth k v))
  else none

/-- Entries of a set with a behaviour of their own: the effect, and a status where one refuses it. -/
def performSet (s : Fin 2) (base sub : Nat) (v : Val) (m : Mach) : Option (Mach × Nat) :=
  if base = 0x3010 ∧ sub = 6 then some (histogramClearEff s m, 0)
  else if base = 0x3120 ∧ sub = 7 then some (if m.duskRunOk s then (duskRunEff s m, 0) else (m, 0x0008))
  else if base = 0x3110 ∧ sub = 2 then some (directEnableEff s (valNat v == 1) m, 0)
  else none

/-- What a checked write does, and its status; none where the answer waits (R365, R393). -/
def perform (rq : Req) (role k : Nat) (v : Val) (m : Mach) : Mach × Option Nat :=
  let i := k / 256
  let sub := k % 256
  let b := baseIndex i
  let n := valNat v
  let done := fun (m : Mach) => (m, some 0)
  if k = Key.commitRequest then
    done (match n with
      | 1 => commitEff false role m
      | 2 => commitEff true role m
      | _ => commitDiscardEff m)
  else if h : 0x4000 ≤ i ∧ i < 0x4020 ∧ sub = 0x18 then done (historyResetEff ⟨i - 0x4000, by omega⟩ m)
  else if k = Key.echoStart then done (echoStartEff (ownerOf rq) m)
  else if k = Key.echoAbort then done (echoAbortEff m)
  else if k = Key.captureArm then done (captureArmEff (ownerOf rq) m)
  else if k = Key.safetySealConfirm then
    (match sealConfirmEff rq (BitVec.ofNat 32 n) m with | (m, st) => (m, some st))
  else if i = 0x5050 ∨ i = 0x5051 then
    (if sub = 6 then done (sbtRunEff (fin2 (i - 0x5050)) m) else done (storeEntry k v m))
  else if i = 0x1851 then (m.nvJob (.entry k v (.answer rq)), none)
  else if k = Key.fwActivate then (m, some (if m.activateOk (fin2 n) then 0 else 0x0008))
  else if k = Key.fwConfirm then done (fwConfirm m)
  else if k = Key.bankActivate then done (bankActivateEff (bank4 n) m)
  else if k = Key.bankStore then done (bankStoreEff role (bank4 n) m)
  else if k = Key.bankRestoreDefaults then done (bankRestoreDefaultsEff role m)
  else if k = Key.bankErase then done (bankEraseEff (bank4 n) m)
  else if k = Key.powerSleepRequest then done (sleepRequestEff m)
  else if k = Key.lanternAcknowledge then done (lanternAcknowledge m)
  else if k = Key.faultReset then done (faultResetEff m)
  else if k = Key.pdControl then (match pdControl (ownerOf rq) (n == 1) m with | (m, st) => (m, some st))
  else if k = Key.tokensTotal then writeTotal rq role n m
  else if k = Key.unitBudget then done (apportion (storeEntry k v m))
  else if 0x3000 ≤ i ∧ i < 0x4000 then
    (match performSet (if i < 0x3800 then 0 else 1) b sub v m with
     | some (m, st) => (m, some st)
     | none => done (storeEntry k v m))
  else if 0x4800 ≤ i ∧ i < 0x4A00 then
    (match performDrive (if i < 0x4900 then 0 else 1) b sub v k m with
     | some m => done m
     | none => done (storeEntry k v m))
  else done (storeEntry k v m)

/-- What follows the answer: a firmware activation resets the device (R385). -/
def afterAnswer (k : Nat) (v : Val) (m : Mach) : Mach := if k = Key.fwActivate then fwActivate (fin2 (valNat v)) m else m

/-- The budget of a shaft group's unit is written (R345, R401): it stands at its leader, which apportions it. -/
def shaftBudgetWrite (k : Nat) (bytes : List Byte) (m : Mach) : Mach × Nat :=
  match m.writeOf k bytes 4 with
  | .error st => (m, st)
  | .ok v => (apportion (m.modGrove (fun g => { g with shaftBudget := valNat v })), 0)

/-- A write of an entry of this device by a role: its status, none while the answer waits. -/
def writeEntry (rq : Req) (role k : Nat) (bytes : List Byte) (answer : Nat → Mach → Mach) (m : Mach) : Mach :=
  match m.writeOf k bytes role with
  | .error st => answer st m
  | .ok v =>
    match perform rq role k v m with
    | (m, some st) => let m := answer st m; if st = 0 then afterAnswer k v m else m
    | (m, none) => m

/-! ### Units (R343, R366, R400, R401) -/

/-- What an address names: a unit served here, one served by another member, or none that can be reached. -/
inductive Place where
  | here (u : UnitId) | member (p : Fin 8) | nowhere
  deriving DecidableEq, Repr

/-- The place of an address. -/
def Mach.place (m : Mach) (unit : BitVec 48) : Place :=
  let byte := fun (j : Nat) => (unit.toNat >>> (8 * (5 - j))) % 256
  let own := byte 0 == m.shaftByte && byte 1 == m.n Key.unitStandNumber && byte 2 == m.n Key.unitGroveNumber
  if unit.toNat = 2 ^ 48 - 1 then .here .device
  else if own then
    if byte 3 = 0xFF then
      if byte 4 = 0xFF ∧ byte 5 = 0xFF then
        (if !m.inGrove || m.leads then .here .grove else match m.leaderPos with | some p => .member p | none => .nowhere)
      else .nowhere
    else if byte 3 = m.me.1 then
      if byte 4 = 0xFF then (if byte 5 = 0xFF then .here .device else .nowhere)
      else if byte 4 < 2 then
        let s := fin2 (byte 4)
        (if byte 5 = 0xFF then .here (.set s) else if h : byte 5 < 3 then .here (.leg s ⟨byte 5, h⟩) else .nowhere)
      else .nowhere
    else if byte 3 < 8 ∧ bit (m.n Key.groveMemberMap) (byte 3) then .member (pos8 (byte 3)) else .nowhere
  else if byte 2 = 0xFF ∧ byte 3 = 0xFF ∧ byte 4 = 0xFF ∧ byte 5 = 0xFF then
    if byte 1 ≠ 0xFF ∧ byte 0 = m.shaftByte ∧ byte 1 = m.n Key.unitStandNumber ∧ 2 ≤ m.standRole then .here .stand
    else if byte 1 = 0xFF ∧ byte 0 ≠ 0xFF ∧ byte 0 = m.shaftByte ∧ m.standRole = 3 then .here .shaft
    else .nowhere
  else .nowhere

/-- The row of R401 refuses a member of the unit block with 0x0003. -/
def Mach.unitRefuses (m : Mach) (u : UnitId) (sub : Nat) : Bool :=
  match u with
  | .leg .. | .set _ => sub == 0x03 || sub == 0x04 || sub == 0x0A
  | .device => sub == 0x0A && m.inGrove
  | _ => false

/-- A read at a unit. -/
def Mach.readUnit (m : Mach) (u : UnitId) (k : Nat) (shadow : Bool) (role : Nat) : Nat × List Byte :=
  if k / 256 ≠ 0x2840 then (if u = .device then m.readOf k shadow role else (0x0001, []))
  else if k % 256 = 0 ∨ (rowOf k).isNone then m.readOf k shadow role
  else if m.unitRefuses u (k % 256) then (0x0003, [])
  else if role < 1 then (0x0004, [])
  else match rowOf k with
    | some r => (0, carryVal r.ty (m.unitView u (k % 256)))
    | none => (0x0002, [])

/-- The entry that a write of a unit's member acts on (R401): an address above the device acts through its leader's drive 0. -/
def Mach.unitTarget (m : Mach) (u : UnitId) (k : Nat) : Except Nat Nat :=
  if k / 256 ≠ 0x2840 then (if u = .device then .ok k else .error 0x0001)
  else if m.unitRefuses u (k % 256) then .error 0x0003
  else match k % 256 with
    | 0x03 => .ok (Key.command 0)
    | 0x04 => .ok (Key.refNetReference 0)
    | 0x0A => .ok (match u with | .stand | .shaft => Key.unitBudget | _ => Key.tokensTotal)
    | _ => .ok k

/-- A write at a unit: its member's entry (R401), but for the budget of a shaft group, which is no entry. -/
def writeUnit (rq : Req) (role : Nat) (u : UnitId) (k : Nat) (bytes : List Byte) (answer : Nat → Mach → Mach) (m : Mach) : Mach :=
  match m.unitTarget u k with
  | .error st => answer st m
  | .ok t =>
    if u = .shaft ∧ t = Key.unitBudget then
      (if role < writeRole t then answer 0x0004 m else let r := shaftBudgetWrite t bytes m; answer r.2 r.1)
    else writeEntry rq role t bytes answer m

/-- A request PDU for a unit as it goes on to the member that serves it (R366). -/
def unitPdu (kind : Nat) (rq : Req) (unit : BitVec 48) (body : List Byte) : List Byte :=
  pduHeader kind (16 + body.length) rq.handle.toNat rq.rid.toNat 0 (beBytes 6 unit.toNat) ++ body

/-- A read PDU (R365, R395). -/
def readEff (rq : Req) (unit : BitVec 48) (k : Nat) (shadow : Bool) : Mach → Mach := serveOnce 2 rq (fun c m =>
  match m.place unit with
  | .nowhere => reply 2 rq 0x0009 [] m
  | .member p => forward rq c.role p (unitPdu 2 rq unit (beBytes 2 (k / 256) ++ beBytes 1 (k % 256) ++ beBytes 1 (b2n shadow))) m
  | .here u => let r := m.readUnit u k shadow c.role; reply 2 rq r.1 r.2 m)

/-- A write PDU (R365, R395). -/
def writeEff (rq : Req) (unit : BitVec 48) (k : Nat) (bytes : List Byte) : Mach → Mach := serveOnce 3 rq (fun c m =>
  match m.place unit with
  | .nowhere => reply 3 rq 0x0009 [] m
  | .member p => forward rq c.role p (unitPdu 3 rq unit (writeBody k bytes)) m
  | .here u => writeUnit rq c.role u k bytes (fun st => reply 3 rq st []) m)

/-- A write of an entry of this device, as every row of the table that is one does it. -/
def writeHere (rq : Req) (k : Nat) (bytes : List Byte) : Mach → Mach := writeEff rq (BitVec.ofNat 48 (2 ^ 48 - 1)) k bytes

/-! ### Requests between members (R366) -/

/-- A request of another member is served with the role it was checked for there, and answered on VC 6 (R366; log entry 41). Reads and
writes alone are carried so. -/
def serveMember (src : Fin 8) (role : Nat) (pdu : List Byte) (m : Mach) : Mach :=
  let rq : Req := { handle := BitVec.ofNat 16 (imgNat pdu 10 2), rid := BitVec.ofNat 16 (imgNat pdu 12 2), src := .canopy src }
  let unit := BitVec.ofNat 48 (imgNat pdu 4 6)
  let kind := imgNat pdu 1 1
  let k := imgNat pdu 16 2 * 256 + imgNat pdu 18 1
  let back := fun (st : Nat) (b : List Byte) => (fun (m : Mach) => m.emit (.reply (128 + kind) rq st b))
  match m.place unit, kind with
  | .here u, 2 => let r := m.readUnit u k (imgNat pdu 19 1 % 2 == 1) role; back r.1 r.2 m
  | .here u, 3 => writeUnit rq role u k (pdu.drop 20) (fun st => back st []) m
  | .here _, _ => back 0x000E [] m
  | _, _ => back 0x0009 [] m

/-- The answer of another member ends the wait of the request it belongs to. -/
def memberAnswer (pdu : List Byte) (m : Mach) : Mach :=
  match m.net.forwarded.find? (fun f => f.1.handle.toNat == imgNat pdu 10 2 && f.1.rid.toNat == imgNat pdu 12 2) with
  | none => m
  | some f => reply (imgNat pdu 1 1 % 128) f.1 (imgNat pdu 14 2) (pdu.drop 16)
      (m.modNet (fun n => { n with forwarded := n.forwarded.filter (fun x => x != f) }))

/-- FORWARDED_REQUEST (R366). -/
def forwardedRequestEff (src : Fin 8) (answer : Bool) (role : Fin 5) (pdu : List Byte) : Mach → Mach := whenLanes (fun m =>
  if !m.inGrove then m else
  let m := hear src m
  if answer then memberAnswer pdu m else serveMember src role.1 pdu m)

/-- FORWARD_TIMEOUT (R366). -/
def forwardTimeoutEff (rq : Req) : Mach → Mach := whenLanes (fun m =>
  match m.net.forwarded.find? (fun f => f.1 == rq && decide (f.2.1 ≤ m.ns)) with
  | none => m
  | some f => reply f.2.2 rq 0x0010 [] (m.modNet (fun n => { n with forwarded := n.forwarded.filter (fun x => x != f) })))

end Sys2Proof.Machine
end

