-- ==== Sys2Proof/Machine/Net.lean ====
section
/-! DEFINITION. Connections, ports, rings, gPTP, the transmit schedule, process data and the USB port (R349 to R372, R386, R387). -/

namespace Sys2Proof.Machine

/-! ### Connections (R361 to R364) -/

/-- The role of a connection without a login (R361, R362). -/
def Mach.baseRole (m : Mach) : Nat := if m.b Key.netViewerOpen then 1 else 0
/-- An Echo run ends with its owner's connection or role (R138). -/
def echoOrphan (h : BitVec 16) (m : Mach) : Mach := if m.echo.owner = some h then echoEnd 0x03 m else m
/-- A connection closes (R364). -/
def closeConn (h : BitVec 16) (m : Mach) : Mach :=
  let m := echoOrphan h (abortAll h m)
  let m := if m.n Key.pdOwner = h.toNat ∧ h ≠ 0 then pdRelease m else m
  m.modNet (fun n => { n with
    conns := n.conns.filter (fun c => c.handle != h), forwarded := n.forwarded.filter (fun f => f.1.handle != h) })

/-- The next free handle, 1 to 0xFFFE; `fuel` exceeds the connections held. -/
def freeHandle (conns : List Conn) : Nat → Nat → Nat
  | 0, h => h
  | fuel + 1, h => if conns.any (fun c => c.handle.toNat == h) then freeHandle conns fuel (h % 0xFFFE + 1) else h

/-- CONNECT (R361, R364): the same source again closes its old connection; a ninth is answered 0x000A. -/
def connectEff (rq : Req) (sub : BitVec 8) (name : List Byte) (m : Mach) : Mach :=
  if !(m.lanesAct || (m.bootServes && rq.src == .usb)) || !m.takes rq.src then m
  else if 6 < sub.toNat ∨ name.length ≠ 16 then m.emit (.reply (128 + 4) rq 0x000E [])
  else
    let m := m.each (m.net.conns.filter (fun c => sameSource c.src rq.src)) (fun c m => closeConn c.handle m)
    if 8 ≤ m.net.conns.length then m.emit (.reply (128 + 4) rq 0x000A []) else
    let h := freeHandle m.net.conns 9 m.net.nextHandle
    let c : Conn := { handle := BitVec.ofNat 16 h, src := rq.src, role := m.baseRole, sub := sub.toNat, name := name, last := m.ns,
                      limit := m.n Key.netConnectionTimeout }
    reply 4 { rq with handle := c.handle } 0 [] (m.modNet (fun n => { n with conns := n.conns ++ [c], nextHandle := h % 0xFFFE + 1 }))

/-- A source's logins are blocked (R362). -/
def Mach.loginBlocked (m : Mach) (src : Source) : Bool := m.net.blocks.any (fun b => sameSource b.1 src && decide (m.ns < b.2))

/-- LOGIN_STEP_1 (R362): a nonce of free bytes. -/
def loginStep1Eff (rq : Req) (role : BitVec 8) : Mach → Mach := servePdu 5 rq (fun _ m =>
  if role.toNat < 1 ∨ 4 < role.toNat then reply 5 rq 0x000E [] m
  else if m.loginBlocked rq.src then reply 5 rq 0x000D [] m
  else
    let r := freeBytes 16 m
    reply 5 rq 0 (beBytes 1 1 ++ beBytes 1 role.toNat ++ r.2) (r.1.modConn rq.handle (fun c => { c with nonce := some (r.2, m.ns, role.toNat) })))

/-- A failed login: the third of a source within 60 s blocks it for 60 s (R362). -/
def loginFailed (rq : Req) (role : Nat) (m : Mach) : Mach :=
  let recent := m.net.fails.filter (fun f => decide (m.ns < f.2 + 60000000000)) ++ [(rq.src, m.ns)]
  let three := decide (3 ≤ (recent.filter (fun f => sameSource f.1 rq.src)).length)
  let m := m.modNet (fun n => { n with
    fails := if three then recent.filter (fun f => !sameSource f.1 rq.src) else recent,
    blocks := if three then n.blocks.filter (fun b => !sameSource b.1 rq.src) ++ [(rq.src, m.ns + 60000000000)] else n.blocks })
  reply 5 rq 0x000D [] (whenUp (raiseM 0x68 role) m)

/-- LOGIN_STEP_2 (R362): the proof over the nonce, within 10 s. -/
def loginStep2Eff (rq : Req) (proof : List Byte) : Mach → Mach := servePdu 5 rq (fun c m =>
  if m.loginBlocked rq.src then reply 5 rq 0x000D [] m else
  let m := m.modConn rq.handle (fun c => { c with nonce := none })
  match c.nonce with
  | none => loginFailed rq 0 m
  | some (nonce, at_, role) =>
    let cred := valBytes (m.val (Key.credential (role - 1)))
    if proof = hmacSha256 cred nonce ∧ m.ns ≤ at_ + 10000000000 then
      let m := if role < 3 then echoOrphan rq.handle m else m
      reply 5 rq 0 [] (m.modConn rq.handle (fun c => { c with role := role, credId := (sha256 cred).take 8 }))
    else loginFailed rq role m)

/-- LOGIN_BLOCK_END (R362). -/
def loginBlockEndEff (src : Source) (m : Mach) : Mach :=
  if m.up.isNone then m else
  m.modNet (fun n => { n with blocks := n.blocks.filter (fun b => !(sameSource b.1 src && decide (b.2 ≤ m.ns))) })

/-- LOGOUT (R362). -/
def logoutEff (rq : Req) : Mach → Mach := servePdu 6 rq (fun _ m =>
  reply 6 rq 0 [] (echoOrphan rq.handle (m.modConn rq.handle (fun c => { c with role := m.baseRole, credId := [] }))))

/-- CONNECTION_TIMEOUT (R364): no PDU, or the port down, for ConnectionTimeout. -/
def connectionTimeoutEff (h : BitVec 16) (m : Mach) : Mach :=
  if m.up.isNone then m else
  match m.conn? h with
  | none => m
  | some c =>
    let lim := c.limit * 1000000000
    let portGone : Bool := match c.src with
      | .eth p _ | .udp _ _ p => !m.net.ports[p].up && decide (m.net.ports[p].downAt + lim ≤ m.ns)
      | _ => false
    if c.last + lim ≤ m.ns || portGone then closeConn h m else m

/-- A PDU that is discarded: longer than 1,472 bytes, of a length its header does not state, or of a reserved kind (R358, R359). -/
def pduMalformed (pdu : List Byte) : Bool :=
  let kind := beNat ((pdu.drop 1).take 1)
  decide (1472 < pdu.length) || decide (pdu.length < 16) || beNat ((pdu.drop 2).take 2) != pdu.length ||
  kind % 128 == 0 || decide (9 < kind % 128)
/-- MALFORMED_PDU (R358). -/
def malformedPduEff (pdu : List Byte) : Mach → Mach := whenUp (fun m => if pduMalformed pdu then m.inc Key.netMalformedCount else m)

/-! ### IP (R357) -/

/-- ARP_REQUEST for the device's address (R357, RFC 826): its answer as an Ethernet frame to the asker. -/
def arpRequestEff (ip : BitVec 32) (mac : BitVec 48) (asker : BitVec 32) : Mach → Mach := whenLanes (fun m =>
  if ip.toNat = 0 ∨ ip.toNat ≠ m.n Key.netIpAddress then m else
  let own := m.mac
  let to_ := beBytes 6 mac.toNat
  m.emit (.content 4 0xFF (to_ ++ own ++ [0x08, 0x06, 0x00, 0x01, 0x08, 0x00, 6, 4, 0, 2] ++ own ++ beBytes 4 ip.toNat ++ to_ ++
    beBytes 4 asker.toNat)))

/-- ICMP_ECHO (R357): the echo reply, behind the address it goes to; header fields that no operand gives are left out (log entry
40). -/
def icmpEchoEff (src : BitVec 32) (data : List Byte) : Mach → Mach := whenLanes (fun m =>
  if m.n Key.netIpAddress = 0 then m else m.emit (.content 4 0xFF (beBytes 4 src.toNat ++ [0, 0] ++ data)))

/-! ### Ports and rings (R349 to R352) -/

/-- An MRP frame of the device leaves on a port (R352, R457; log entry 42). -/
def mrpSend (k : Fin 4) (p : Fin 2) (m : Mach) : Mach :=
  if m.net.ports[p].up then m.emit (.content 4 (txQueue p 2) (Config.mrpFrame k m.mac)) else m
/-- A manager tells the ring of its changed topology (R352). -/
def topologyTell (m : Mach) : Mach := if m.n Key.ringRole = 2 then m.each two (mrpSend 3) else m
/-- A client tells the manager of a link that came up or went down, on its other port (R352). -/
def linkTell (p : Fin 2) (up : Bool) (m : Mach) : Mach := if m.n Key.ringRole = 1 then mrpSend (if up then 2 else 1) (other p) m else m

/-- The ring is closed (R352): the manager blocks its second port. -/
def ringClose (m : Mach) : Mach :=
  if m.n Key.ringState = 1 then m else
  let m := topologyTell (m.putN Key.ringState 1)
  let m := if m.n Key.ringRole = 2 then m.modEth 1 (fun p => { p with blocked := true }) else m
  m.causeGone 0x65 none none 0xFF

/-- ETHERNET_PORT_DOWN (R350). -/
def ethernetPortDownEff (p : Fin 2) : Mach → Mach := whenUp (fun m => if m.net.ports[p].up then linkTell p false (ethDown p m) else m)

/-- ETHERNET_PORT_UP (R350): not at half duplex or at a speed the port's mode rules out (R349), nor while its PHY has no supply. A
client takes its ring as closed when both
its ports are up; a manager waits for its own test frames (R352). -/
def ethernetPortUpEff (p : Fin 2) (speed : Fin 3) (full : Bool) : Mach → Mach := whenUp (fun m =>
  if m.net.ports[p].up ∨ !full ∨ !m.speedAllowed p speed ∨ m.n Key.supplyStatus / 64 % 4 ≠ 0 then m else
  let m := m.modEth p (fun x => { x with up := true, speed := speed })
  let m := linkTell p true (raiseM 0x64 (p.1 + 1) (m.causeGone 0x63 none none (p.1 + 1)))
  if m.n Key.ringRole = 1 ∧ m.net.ports[0].up ∧ m.net.ports[1].up then ringClose m else m)

/-- The frame is of the scheduled class (R356). -/
def Mach.scheduled (m : Mach) (prio : Fin 8) : Bool := m.n Key.schedPriority ≤ prio.1
/-- Queue of forwarded frames of a port (R457). -/
def fwdQueue (p : Fin 2) (sched : Bool) : Nat := 16 + 8 * p.1 + (if sched then 6 else 7)

/-- A forwarded frame leaves, waits for its gate, or is dropped from a full queue (R356, R457). -/
def frameOut (p : Fin 2) (sched : Bool) (frame : List Byte) (m : Mach) : Mach :=
  let x := m.net.ports[p]
  let open_ := if sched then x.gates.1 else x.gates.2
  if open_ then m.emit (.frame p frame)
  else if 16 ≤ (x.waiting.filter (fun w => w.1 == if sched then 6 else 7)).length then (m.inc (Key.portRxDropCount (other p).1)).inc (Key.queueDropCount (fwdQueue p sched))
  else m.modEth p (fun x => { x with waiting := x.waiting ++ [(if sched then 6 else 7, sched, frame)] })

/-- The 802.1Q priority of a frame; an untagged one has none of the scheduled class, 0 (R356). -/
def framePrio (frame : List Byte) : Fin 8 :=
  if beNat ((frame.drop 12).take 2) = 0x8100 then pos8 (beNat ((frame.drop 14).take 1) / 32) else 0
/-- The FCS at the end of a frame fits. -/
def fcsOk (frame : List Byte) : Bool :=
  let body := frame.take (frame.length - 4)
  frame.drop (frame.length - 4) == (beBytes 4 (fcs body).toNat).reverse
/-- FRAME_FORWARD (R351): not voted, so also in the Clearing's safe state. The frame is given from its destination to its FCS; a bad
FCS is counted, and the frame dropped unless cut-through has begun. -/
def frameForwardEff (p : Fin 2) (frame : List Byte) : Mach → Mach := whenUp (fun m =>
  let dst := beNat (frame.take 6)
  let good := fcsOk frame
  let a := m.net.ports[p]
  let b := m.net.ports[other p]
  let own := dst == beNat (valBytes (m.val Key.netMacAddress))
  let local_ := dst / 16 == 0x0180C200000
  let cut := a.speed == 2 && b.speed == 2 && m.b Key.cutThroughEnable
  let m := if good then m else m.inc (Key.portFcsErrorCount p.1)
  if !a.up || !b.up || a.blocked || b.blocked || own || local_ || (!good && !cut) then m
  else frameOut (other p) (m.scheduled (framePrio frame)) frame m)

/-- A manager's ring opens, and it says so (R352). -/
def ringBreak (m : Mach) : Mach := if m.n Key.ringState = 1 then topologyTell (ringOpen m) else ringOpen m
/-- MRP_FRAME (R352): the manager's own test frame closes the ring, a link change or a topology change opens it; a line has no MRP. A
client's other port carries the frame on as FRAME_FORWARD gives it (R351). -/
def mrpFrameEff (_p : Fin 2) (k : MrpKind) : Mach → Mach := whenUp (fun m =>
  let role := m.n Key.ringRole
  match k with
  | .test own => if role = 2 ∧ own then ringClose (m.modNet (fun n => { n with mrpSeen := m.ns })) else m
  | .linkDown => if role = 2 then ringBreak m else m
  | .topologyChange => if role = 1 ∧ !(m.net.ports[0].up && m.net.ports[1].up) then ringOpen m else m
  | .linkUp => m)

/-- The profile's recovery time, ns (R352): 200 ms, or 10 ms. -/
def Mach.mrpTime (m : Mach) : Nat := if m.n Key.ringProfile = 0 then 200000000 else 10000000
/-- A manager sends its test frames, and opens its ring once none of them has come round within the profile's recovery time (R352; log
entry 42). -/
def ringWatch (m : Mach) : Mach :=
  if m.n Key.ringRole ≠ 2 then m else
  let m := if m.net.mrpSent + Config.mrpInterval (m.n Key.ringProfile) ≤ m.ns then
      (m.modNet (fun n => { n with mrpSent := m.ns })).each two (mrpSend 0) else m
  if m.n Key.ringState = 1 ∧ m.net.mrpSeen + m.mrpTime ≤ m.ns then ringBreak m else m

/-! ### gPTP and the transmit schedule (R353 to R356) -/

/-- A Sync leaves on a port (R353, R457; log entry 42). -/
def gptpSend (gm : BitVec 64) (time : Nat) (p : Fin 2) (m : Mach) : Mach :=
  if m.net.ports[p].up then m.emit (.content 4 (txQueue p 1) (Config.gptpFrame gm time m.mac)) else m

/-- gPTP is unsynchronised (R354, R355, R356): scheduling is suspended, both gates open. -/
def syncLost (m : Mach) : Mach :=
  let was := decide (2 ≤ m.n Key.gptpState)
  let m := (m.putN Key.gptpState 1).modNet (fun n => { n with
    gptp := { n.gptp with syncs := 0, gm := 0 }, ports := vmap n.ports (fun _ p => { p with gates := (true, true) }) })
  if !was then m else
  raiseAll ({ ev := 0x66, set := none, drv := none, inst := 0xFF } ::
    (if m.b Key.schedEnable then [{ ev := 0x67, set := none, drv := none, inst := 0xFF }] else [])) m
/-- gPTP is synchronised, or the device is the grandmaster. -/
def syncGained (state : Nat) (m : Mach) : Mach :=
  ((m.putN Key.gptpState state).causeGone 0x66 none none 0xFF).causeGone 0x67 none none 0xFF

/-- Sync interval, ns. -/
def Mach.syncInterval (m : Mach) : Nat := 1000000000 / 2 ^ (toSigned 8 (m.n Key.gptpLogSyncInterval)).natAbs

/-- GPTP_SYNC (R354): the grandmaster's time at its reception gives the offset to the time counter, and with that of the Sync before
the rate ratio; the second one in a row from one grandmaster, with less than three intervals between them, synchronises. The other port,
which the command does not name, relays it (R353; log entry 42). -/
def gptpSyncEff (gm : BitVec 64) (time : Nat) : Mach → Mach := whenUp (fun m =>
  if !m.b Key.gptpEnable then m else
  let m := if m.net.gptp.gm ≠ gm then syncLost m else m
  let g := m.net.gptp
  let run := decide (g.syncs ≠ 0 ∧ m.ns < g.lastSync + 3 * m.syncInterval ∧ g.lastSync < m.ns)
  let m := m.modNet (fun n => { n with gptp := { n.gptp with
    gm := gm, rateNum := if run then time - g.lastTime else 1, rateDen := if run then m.ns - g.lastSync else 1, lastSync := m.ns,
    lastTime := time, syncs := if run then g.syncs + 1 else 1 } })
  let m := (m.putI 64 Key.gptpOffsetToTimebase ((time : Int) - m.ns)).put Key.gptpGrandmasterId (.bytes (beBytes 8 gm.toNat))
  let m := if 2 ≤ m.net.gptp.syncs ∧ m.n Key.gptpState ≠ 2 then syncGained 2 m else m
  gptpSend gm time (fin2 (m.freeNow.toNat % 2)) m.drew)

/-- The grandmaster sends its own time as a Sync on both ports, once per interval (R353; log entry 42). -/
def gptpWatch (m : Mach) : Mach :=
  if m.n Key.gptpState ≠ 3 ∨ m.ns < m.net.gptp.sentAt + m.syncInterval then m else
  (m.modNet (fun n => { n with gptp := { n.gptp with sentAt := m.ns } })).each two (gptpSend (BitVec.ofNat 64 (beNat m.mac)) m.netTime)

/-- GPTP_SYNC_TIMEOUT (R354). -/
def gptpSyncTimeoutEff : Mach → Mach := whenUp (fun m =>
  if m.n Key.gptpState = 2 ∧ m.net.gptp.lastSync + 3 * m.syncInterval ≤ m.ns then syncLost m else m)

/-- GPTP_ANNOUNCE (R353, R354): a better clock becomes the grandmaster; where none is, a capable device is. -/
def gptpAnnounceEff (gm : BitVec 64) (better : Bool) : Mach → Mach := whenUp (fun m =>
  if !m.b Key.gptpEnable then m
  else if better then
    if gm = m.net.gptp.gm then m else
    (syncLost m).modNet (fun n => { n with gptp := { n.gptp with gm := gm, syncs := 0 } })
  else if m.net.gptp.gm = 0 ∧ m.n Key.gptpPriority1 < 255 then syncGained 3 m
  else m)

/-- The guard band at a link speed, ns (R356). -/
def guardOf (speed : Fin 3) : Nat := match speed with | 2 => 12336 | 1 => 123360 | _ => 1233600

/-- The gates of a port as the schedule has them now (R356): scheduled, best effort. -/
def Mach.gatesNow (m : Mach) (p : Fin 2) : Bool × Bool :=
  if !m.b Key.schedEnable ∨ m.n Key.gptpState < 2 then (true, true) else
  let cycle := max 1 (us (m.n Key.pdCycleTime))
  let ph := m.netTime % cycle
  let a := m.n Key.schedWindowOffset
  let b := a + m.n Key.schedWindowLength
  let open_ := decide (a ≤ ph ∧ ph < b)
  let ahead := (a + cycle - ph) % cycle
  (open_, !open_ && decide (guardOf m.net.ports[p].speed < ahead ∨ ahead = 0))

/-- GATE_CONTROL_CHANGE (R356): the gates follow the schedule, and frames whose gate has opened leave. -/
def gateControlChangeEff (p : Fin 2) : Mach → Mach := whenUp (fun m =>
  let g := m.gatesNow p
  let goes := fun (w : Nat × Bool × List Byte) => if w.2.1 then g.1 else g.2
  let out := m.net.ports[p].waiting.filter goes
  let m := m.modEth p (fun x => { x with gates := g, waiting := x.waiting.filter (fun w => !goes w) })
  m.each out (fun w m => m.emit (.frame p w.2.2)))

/-! ### Process data (R367 to R371) -/

/-- The entries of a map with their types. -/
def Mach.pdMap (m : Mach) (count : Nat) (entry : Nat → Nat) : List (Nat × Ty) :=
  (List.range (m.n count)).filterMap (fun j => let k := mapEntry (m.n (entry j)); (rowOf k).map (fun r => (k, r.ty)))
/-- The bytes of a mapped value. -/
def tyWidth : Ty → Nat | .str n => n | .oct n => n | .dom n => n | t => t.width
/-- A frame cut into the values of its map. -/
def pdCut : List (Nat × Ty) → List Byte → List (Nat × List Byte)
  | [], _ => []
  | (k, ty) :: r, b => (k, b.take (tyWidth ty)) :: pdCut r (b.drop (tyWidth ty))

/-- PROCESS_DATA (R369): accepted from the owner's source with a later counter and the length of the map. -/
def processDataEff (src : Source) (counter : BitVec 16) (body : List Byte) : Mach → Mach := whenLanes (fun m =>
  match m.net.conns.find? (fun c => c.handle.toNat == m.n Key.pdOwner && sameSource c.src src) with
  | none => m
  | some c =>
    let later : Bool := match m.net.pd.lastRx with
      | none => true
      | some l => let d := (counter - l).toNat; decide (1 ≤ d ∧ d ≤ 32767)
    let len := ((m.pdMap Key.pdRxMapCount Key.pdRxMapEntry).map (fun e => tyWidth e.2)).sum
    if !later ∨ body.length ≠ len then m else
    let m := touch { handle := c.handle, rid := 0, src := src } m
    let m := if m.net.pd.frame.isSome then m.inc Key.pdRxOverwriteCount else m
    let m := m.modNet (fun n => { n with pd := { n.pd with lastRx := some counter, frame := some body, missed := 0 } })
    (m.putN Key.pdState 2).causeGone 0x69 none none 0xFF)

/-- The values of the latest frame are written, in map order, as acyclic writes would be (R369); a total renews the stand's lease
(R344). -/
def pdApply (m : Mach) : Mach :=
  match m.net.pd.frame, m.conn? (BitVec.ofNat 16 (m.n Key.pdOwner)) with
  | some f, some c =>
    let rq : Req := { handle := c.handle, rid := 0, src := c.src }
    let m := m.modNet (fun n => { n with pd := { n.pd with frame := none } })
    m.each (pdCut (m.pdMap Key.pdRxMapCount Key.pdRxMapEntry) f) (fun e m =>
      let m := if e.1 = Key.tokensTotal ∨ e.1 = Key.unitBudget then
          causesGone (fun a => a.ev == 0x62) (m.modGrove (fun g => { g with renewed := some m.ns }))
        else m
      match m.unitTarget .device e.1 with
      | .ok k => writeEntry rq (min 2 c.role) k e.2 (fun _ m => m) m
      | .error _ => m)
  | _, _ => m

/-- The instant (ns) of the network boundary that is due, if one is (R66, R368): every 1 ms of timebase time without cyclic process
data, that is with both maps empty; every cycle with it, at whole multiples of gPTP time while that is synchronised. -/
def Mach.networkDue (m : Mach) : Option Nat :=
  let last := m.net.pd.cycleAt
  let t := if m.n Key.pdRxMapCount = 0 ∧ m.n Key.pdTxMapCount = 0 then last + 1000000
    else
      let c := us (m.n Key.pdCycleTime)
      if 2 ≤ m.n Key.gptpState then m.ns - m.netTime % max 1 c else last + c
  if last < t ∧ t ≤ m.ns then some t else none

/-- NETWORK_BOUNDARY (R66, R67, R368 to R370): the received values are written, the network domain may swap, the transmitted values
are latched; in Clearing safe state the boundary is only counted. -/
def networkBoundaryEff : Mach → Mach := whenUp (fun m =>
  match m.networkDue with
  | none => m
  | some t =>
  let m := m.modNet (fun n => { n with pd := { n.pd with cycleAt := t } })
  if !m.lanesAct then boundaryOf .network m else
  let fresh := m.net.pd.frame.isSome
  let m := standCycle (standProgress (boundaryOf .network (pdApply m)))
  let data := (m.pdMap Key.pdTxMapCount Key.pdTxMapEntry).flatMap (fun e => carryVal e.2 (if e.1 / 256 = 0x2840 then m.unitView .device (e.1 % 256) else m.view e.1))
  m.modNet (fun n => { n with pd := { n.pd with
    missed := if fresh then 0 else n.pd.missed + 1, txCount := n.pd.txCount + 1, txData := data,
    txAt := some (m.ns + us (m.n Key.pdTxOffset)) } }))

/-- PD_TRANSMIT (R370): to the owner's source, or to all. -/
def pdTransmitEff : Mach → Mach := whenLanes (fun m =>
  if !due m m.net.pd.txAt then m else
  let pd := m.net.pd
  let m := m.modNet (fun n => { n with pd := { n.pd with txAt := none } })
  let pdu := pduHeader 1 (16 + pd.txData.length) 0 pd.txCount.toNat 0 anyUnit ++ pd.txData
  if m.b Key.pdTxBroadcast then sendCyclic two (List.replicate 6 0xFF) pdu m else
  match m.conn? (BitVec.ofNat 16 (m.n Key.pdOwner)) with
  | none => m
  | some c => match c.src with
    | .eth p mac => sendCyclic [p] (beBytes 6 mac.toNat) pdu m
    | _ => m.emit (.reply 1 { handle := 0, rid := pd.txCount, src := c.src } 0 pd.txData))

/-- PROCESS_DATA_TIMEOUT (R371). -/
def processDataTimeoutEff : Mach → Mach := whenLanes (fun m =>
  let st := m.n Key.pdState
  if (st = 1 ∨ st = 2) ∧ m.n Key.pdTimeout ≤ m.net.pd.missed then raiseM 0x69 0xFF (m.putN Key.pdState 3) else m)

/-! ### USB (R386, R387) -/

/-- USB_ATTACH (R387): enumerated, unless Usb.Enable is 0 or the PHY has no supply. -/
def usbAttachEff (m : Mach) : Mach :=
  if !(m.running || m.bootServes) ∨ m.n Key.usbState ≠ 0 ∨ !m.b Key.usbEnable ∨ m.n Key.supplyStatus / 64 % 4 ≠ 0 then m
  else whenUp (raiseM 0x6D 1) ((m.putN Key.usbState 2).inc Key.usbAttachCount)
/-- The port is detached: its connection closes. -/
def usbGone (m : Mach) : Mach :=
  if m.n Key.usbState = 0 then m else
  let m := m.each (m.net.conns.filter (fun c => sameSource c.src .usb)) (fun c m => closeConn c.handle m)
  whenUp (raiseM 0x6D 0) (m.putN Key.usbState 0)
/-- USB_DETACH (R387). -/
def usbDetachEff (m : Mach) : Mach := if m.up.isNone then m else usbGone m

end Sys2Proof.Machine
end

