-- ==== Sys2Proof/Machine/Supply.lean ====
section
/-! DEFINITION. Supplies: lane rails (R415), main rails (R414, R416), analog and PHY rails (R416), power failure (R417). -/

namespace Sys2Proof.Machine

/-- A rail's bit of Supply.Status (R440). -/
def supplyBit (k : Nat) (b : Bool) (m : Mach) : Mach := m.putN Key.supplyStatus (setBit (m.n Key.supplyStatus) k b)
/-- A rail's reading (R413): Supply.Voltage holds the last one delivered. -/
def railVolts (k : Nat) (v : F32) (m : Mach) : Mach := m.putR (Key.supplyVoltage k) v

/-- A reading outside a range of hundredths of a volt. -/
def railOut (lo hi : Int) (v : F32) : Bool := flt v (fRat lo 100) || fgt v (fRat hi 100)
/-- The threshold that a reading outside the range has passed. -/
def railLimit (lo hi : Int) (v : F32) : F32 := if flt v (fRat lo 100) then fRat lo 100 else fRat hi 100
/-- A monitor's 10 µs have passed (R413). -/
def Mach.railFor (m : Mach) (since : Time) : Bool := decide (since + 10000000 ≤ m.now)

/-- The largest difference among the lane rails that have been read (R415). -/
def Mach.laneSpread (m : Mach) : F32 :=
  let vs := (([0, 1, 2] : List Nat).map (fun k => m.r (Key.supplyVoltage k))).filter (fun v => fgt v 0)
  match vs with
  | [] => 0
  | v :: r => fsub (r.foldl fmax v) (r.foldl fmin v)
/-- Supply.LaneMismatchMax follows (R415). -/
def spreadMax (m : Mach) : Mach := m.putR Key.supplyLaneMismatchMax (fmax (m.r Key.supplyLaneMismatchMax) m.laneSpread)

/-- A lane whose rail has left its range dissents, whatever it was doing; each episode counts (R415). -/
def railDissent (l : Lane) (m : Mach) : Mach :=
  let i := laneIx l
  if m.clr.safeState ∨ m.clr.lanes[i].status = .retired then m else
  let m := m.modClr (fun c => { c with resync := match c.resync with | some r => if r.target = l then none else some r | none => none })
  selfDissent l ((countDissent l m).modLane i (fun x => { x with status := if x.status = .retired then .retired else .active }))

/-- LANE_SUPPLY_FAULT (R413, R415): a lane rail out of its range for the monitor's 10 µs. -/
def laneSupplyFaultEff (l : Lane) (v : F32) (since : Time) : Mach → Mach := whenUp (fun m =>
  let i := laneIx l
  let was := m.clr.lanes[i].railOk
  let m := spreadMax (railVolts i.1 v m)
  if !was ∨ !railOut 58 93 v ∨ !m.railFor since then m else
  let m := supplyBit i.1 true (m.modLane i (fun x => { x with railOk := false }))
  railDissent l (raiseV 0x03 none none i.1 v (railLimit 58 93 v) m))

/-- LANE_RAIL_RESTORED (R415): the rail has been back in range for 1 ms, and the lane may be resynced from the next boundary. -/
def laneRailRestoredEff (l : Lane) (v : F32) (since : Time) : Mach → Mach := whenUp (fun m =>
  let i := laneIx l
  let m := spreadMax (railVolts i.1 v m)
  if railOut 58 93 v ∨ m.now < since + 1000000000 then m else
  (supplyBit i.1 false (m.modLane i (fun x => { x with railOk := true }))).causeGone 0x03 none none i.1)

/-- LANE_RAIL_MISMATCH (R415): readings of the three lane rails; the event once two have differed by more than 50 mV for 100 ms. -/
def laneRailMismatchEff (a b c : F32) (since : Time) : Mach → Mach := whenUp (fun m =>
  let m := spreadMax (railVolts 2 c (railVolts 1 b (railVolts 0 a m)))
  if fgt m.laneSpread (fRat 50 1000) ∧ m.now < since + 100000000000 then m
  else if fgt m.laneSpread (fRat 50 1000) then raiseV 0x04 none none 0xFF m.laneSpread (fRat 50 1000) (supplyBit 11 true m)
  else (supplyBit 11 false m).causeGone 0x04 none none 0xFF)

/-- MAIN_RAIL_FAULT (R413, R416): out of its range for the monitor's 10 µs, the main domain goes into reset; the Lantern carries
on. -/
def mainRailFaultEff (r : MainRail) (v : F32) (since : Time) (m : Mach) : Mach :=
  let out : Bool := match r with | .vddCl => railOut 78 93 v | .vio => railOut 290 360 v
  if m.up.isSome ∧ out ∧ m.railFor since then mainReset 0x03 m else m

/-- ANALOG_SUPPLY_FAULT (R413, R416): position interfaces, AIN values and main-die temperatures are invalid. -/
def analogSupplyFaultEff (v : F32) (since : Time) : Mach → Mach := whenUp (fun m =>
  if !railOut 300 360 v ∨ !m.railFor since then railVolts 5 v m else
  let m := supplyBit 5 true (railVolts 5 v m)
  sensingLost (raiseV 0x72 none none 0xFF v (railLimit 300 360 v)
    (m.each two (fun i m => m.modPos i (fun p => { p with valid := false })))))
/-- ANALOG_SUPPLY_RESTORED (R416): VANA has been in range for 10 ms. -/
def analogSupplyRestoredEff (v : F32) (since : Time) : Mach → Mach := whenUp (fun m =>
  if railOut 300 360 v ∨ m.now < since + 10000000000 then railVolts 5 v m else
  let m := supplyBit 5 false (railVolts 5 v m)
  let m := (m.each two (fun i m => m.modPos i (fun p => { p with valid := true }))).causeGone 0x72 none none 0xFF
  if m.dieSensorsLost then m else m.causeGone 0x79 none none 0xFF)

/-- Thresholds of VPHY1V and VPHY2V5, hundredths of a volt (R413). -/
def phyRange (k : Fin 2) : Int × Int := if k = 0 then (90, 110) else (225, 275)
/-- PHY_SUPPLY_FAULT (R413, R416): every Ethernet, Canopy and USB port goes down. -/
def phySupplyFaultEff (k : Fin 2) (v : F32) (since : Time) : Mach → Mach := whenUp (fun m =>
  let r := phyRange k
  if !railOut r.1 r.2 v ∨ !m.railFor since then railVolts (6 + k.1) v m else
  let m := raiseV 0x73 none none k.1 v (railLimit r.1 r.2 v) (supplyBit (6 + k.1) true (railVolts (6 + k.1) v m))
  usbGone ((m.each two ethDown).each two unlocked))
/-- PHY_SUPPLY_RESTORED (R416): the ports come up again by themselves. -/
def phySupplyRestoredEff (k : Fin 2) (v : F32) : Mach → Mach := whenUp (fun m =>
  if railOut (phyRange k).1 (phyRange k).2 v then railVolts (6 + k.1) v m else
  (supplyBit (6 + k.1) false (railVolts (6 + k.1) v m)).causeGone 0x73 none none k.1)

/-! ### Starting the main rails (R414) -/

/-- MAIN_RAILS_FAILED_TO_START (R414): 100 ms after MAIN_EN rose it drops again, FAULT_N is asserted. -/
def mainRailsFailedToStartEff (m : Mach) : Mach :=
  if m.up.isSome ∨ !m.lantern.mainEn ∨ m.now < m.lantern.enAt + 100000000000 then m
  else (m.modLan (fun l => { l with mainEn := false, retry := true, enAt := m.now })).putN Key.lanternStatus (setBit (m.n Key.lanternStatus) 2 true)
/-- MAIN_RAILS_RETRY (R414): 10 s later. -/
def mainRailsRetryEff (m : Mach) : Mach :=
  if m.lantern.retry ∧ m.lantern.enAt + 10000000000000 ≤ m.now then
    m.modLan (fun l => { l with mainEn := true, enAt := m.now, retry := false, source := 0x06 })
  else m

/-! ### Power failure (R417) -/

/-- POWER_FAIL (R413, R417): PWRFAIL_N low, or VIO below 3.00 V, for 2 µs; no new NV record starts, and the next start logs it. -/
def powerFailEff (cause : PowerFailCause) (since : Time) (m : Mach) : Mach :=
  let below : Bool := match cause with | .pin => true | .vioWarning v => flt v (fRat 3 1)
  if m.up.isNone ∨ !below ∨ m.now < since + 2000000 then m else
  let m := supplyBit (match cause with | .pin => 10 | .vioWarning _ => 9) true m
  let m := nvStop m
  { m with nv := { m.nv with powerFailed := true } }
/-- POWER_FAIL_RELEASED (R417): writing resumes, unless a shutdown still forbids it (R433). -/
def powerFailReleasedEff (m : Mach) : Mach :=
  if m.up.isNone then m else
  let m := supplyBit 10 false (supplyBit 9 false m)
  if m.shutDown then m else nvResume m

end Sys2Proof.Machine
end

