-- ==== Sys2Proof/Machine/Lantern.lean ====
section
/-! DEFINITION. The Lantern: sampling and filters (R421, R422), PI0 (R423), rules (R424 to R427), the windmill record (R428), the
fall into sleep and waking (R419, R420), its power-on reset. -/

namespace Sys2Proof.Machine

/-! ### PI0 (R423) -/

/-- Place of the levels of A and B in the order of a forward turn (A leads B). -/
def quadPhase : Bool × Bool → Nat
  | (false, false) => 0 | (true, false) => 1 | (true, true) => 2 | (false, true) => 3

/-- The count and the levels at a sample: from the main domain while it runs; by the levels in pulsed mode, where a change of both
loses the position; by its edges in continuous mode; no reference survives mode 0. -/
def lanternCount (a b : Bool) (m : Mach) : Mach :=
  let l := m.lantern
  let mode := m.n Key.lanternEncoderMode
  let m := if m.running then { m with lantern := Lantern.takeOver m }
    else if mode = 0 then m.modLan (fun l => { l with referenced := false })
    else if mode = 2 then
      let step := (quadPhase (a, b) + 4 - quadPhase l.levels) % 4
      let up : Int := if l.invert then -1 else 1
      if step = 1 then m.modLan (fun l => { l with count := l.count + up })
      else if step = 3 then m.modLan (fun l => { l with count := l.count - up })
      else if step = 2 then m.putN Key.lanternStatus (setBit (m.n Key.lanternStatus) 1 true)
      else m
    else m
  m.modLan (fun l => { l with levels := (a, b) })

/-- The encoder speed over the last SamplePeriod, rpm (R423, R425). -/
def Mach.lanternSpeed (m : Mach) : F32 :=
  let l := m.lantern
  if l.samples.isEmpty ∨ l.lines = 0 then 0 else fRat (60000 * (l.count - l.lastCount)) (4 * l.lines * m.n Key.lanternSamplePeriod)

/-! ### Filters (R422) -/

/-- The three samples are there. -/
def Lantern.filled (l : Lantern) : Bool := l.samples.length == 3
/-- Median of the last three readings of a quantity. -/
def median3 (l : List F32) : F32 := (median l).getD 0
/-- Majority of the last three samples of a signal. -/
def Lantern.majority (l : Lantern) (f : LanternInputs → Bool) : Bool := 2 ≤ (l.samples.filter f).length

/-- The six analog quantities through their filters: the speed, AIN0 to AIN3, the die temperature. -/
def lanternFilter (first : Bool) (m : Mach) : Mach :=
  let l := m.lantern
  let meds : Vector F32 6 := #v[median3 l.speeds, median3 (l.samples.map (·.ain[0])), median3 (l.samples.map (·.ain[1])),
    median3 (l.samples.map (·.ain[2])), median3 (l.samples.map (·.ain[3])), median3 (l.samples.map (·.temp))]
  let tau := m.n Key.lanternFilterTime
  let a := fsub fOne (Config.exp (fneg (fRat (m.n Key.lanternSamplePeriod) (max 1 tau))))
  m.modLan (fun l => { l with filtered :=
    if first || tau == 0 then meds else vmap l.filtered (fun i y => fadd y (fmul (fsub meds[i] y) a)) })

/-! ### Rules (R424 to R427) -/

/-- Fields of a rule word. -/
def ruleEnabled (w : Nat) : Bool := bit w 63
def ruleArmed (w : Nat) : Nat := w >>> 61 % 4
def ruleSignal (w : Nat) : Nat := w >>> 56 % 32
def ruleCompare (w : Nat) : Nat := w >>> 53 % 8
def ruleHold (w : Nat) : Nat := max 1 (w >>> 48 % 32)
def ruleThreshold (w : Nat) : F32 := BitVec.ofNat 32 w

/-- The value of a rule signal, and whether it counts as met whatever it is: an encoder signal of a lost position. No value where
the signal is none, or needs an encoder that is not followed. -/
def Mach.ruleValue (m : Mach) (sig : Nat) : Option (F32 × Bool) :=
  let l := m.lantern
  let enc := fun (v : F32) => if m.n Key.lanternEncoderMode = 0 then none else some (v, bit (m.n Key.lanternStatus) 1)
  let dig := fun (b : Bool) => some ((if b then fOne else 0), false)
  match sig with
  | 1 => enc (fInt l.count)
  | 2 => enc l.filtered[0]
  | 3 => enc (fabs l.filtered[0])
  | 4 => some (l.filtered[1], false)
  | 5 => some (l.filtered[2], false)
  | 6 => some (l.filtered[3], false)
  | 7 => some (l.filtered[4], false)
  | 8 => some (l.filtered[5], false)
  | 9 => dig (l.majority (·.demand))
  | 10 => dig (l.majority (·.button))
  | 11 => dig (l.majority (·.vbus))
  | 12 => dig (l.majority (·.energy))
  | _ => none

/-- The rule is armed for the present state. -/
def Mach.ruleActive (m : Mach) (w : Nat) : Bool :=
  ruleEnabled w && (ruleArmed w == 2 || (ruleArmed w == 0 && m.lantern.asleep) || (ruleArmed w == 1 && m.running))

/-- The windmill record of PI0's set, by the encoder (R428). -/
def windmillByEncoder (m : Mach) : Mach :=
  let s := m.lantern.set
  (((m.putR (Key.windmillSpeed s.1) m.lantern.filtered[0]).putN (Key.windmillAge s.1) 0).putN (Key.windmillSource s.1) 2).modLan
    (fun l => { l with millTick := vmod l.millTick s (fun _ => m.n Key.lanternTickCount) })

/-- A wake action (R420): MAIN_EN rises; a sleep being entered is abandoned (R419); else it has no effect. -/
def ruleWake (r : Fin 16) (m : Mach) : Mach :=
  if m.sleep.entering then
    ({ m with sleep := { m.sleep with entering := false, boundary := none } }).putN Key.powerSleepStatus 7
  else if m.lantern.asleep then
    m.modLan (fun l => { l with mainEn := true, enAt := m.now, source := 0x02, wakeCause := setBit l.wakeCause r.1 true })
  else m

/-- A rule fires (R426, R427). -/
def ruleFire (r : Fin 16) (w : Nat) (v : F32) (m : Mach) : Mach :=
  let rec_ := beBytes 8 (m.n Key.lanternTickCount) ++ beBytes 1 r.1 ++ [0, 0, 0] ++ beBytes 4 v.toNat
  let m := m.putN Key.lanternRuleFired (setBit (m.n Key.lanternRuleFired) r.1 true)
  let m := m.modLan (fun l => { l with
    fireLog := (l.fireLog ++ [rec_]).drop (l.fireLog.length - 15), holds := vmod l.holds r (fun _ => 0),
    refs := vmod l.refs r (fun o => if ruleCompare w = 2 then some v else o),
    milling := vmod l.milling r (fun b => b || bit w 46) })
  let m := if bit w 44 then ruleWake r m else m
  let m := if bit w 45 then m.putN Key.lanternStatus (setBit (m.n Key.lanternStatus) 2 true) else m
  if bit w 47 then
    let m := (m.putN Key.lanternStatus (setBit (m.n Key.lanternStatus) 3 true)).modLan (fun l => { l with creepRule := r.1 })
    if m.running then raiseV 0x77 none none r.1 v (ruleThreshold w) m else m
  else m

/-- A rule at a sample (R426): a word that is new, or that is not armed, starts anew. -/
def ruleSample (r : Fin 16) (m : Mach) : Mach :=
  let w := m.n (Key.lanternRule r.1)
  let fresh := fun (l : Lantern) => { l with
    words := vmod l.words r (fun _ => w), holds := vmod l.holds r (fun _ => 0), refs := vmod l.refs r (fun _ => none), milling := vmod l.milling r (fun _ => false) }
  let m := if w ≠ m.lantern.words[r] ∨ !m.ruleActive w then m.modLan fresh else m
  if !m.ruleActive w then m else
  match m.ruleValue (ruleSignal w) with
  | none => m.modLan (fun l => { l with holds := vmod l.holds r (fun _ => 0), milling := vmod l.milling r (fun _ => false) })
  | some (v, lost) =>
    let ref := m.lantern.refs[r].getD v
    let m := m.modLan (fun l => { l with refs := vmod l.refs r (fun o => if ruleCompare w = 2 then some (o.getD v) else o) })
    let th := ruleThreshold w
    let met : Bool := lost || (match ruleCompare w with | 0 => fge v th | 1 => fle v th | _ => fge (fabs (fsub v ref)) th)
    let m := m.modLan (fun l => { l with
      holds := vmod l.holds r (fun n => if met then n + 1 else 0), milling := vmod l.milling r (fun b => b && met) })
    let m := if ruleHold w ≤ m.lantern.holds[r] then ruleFire r w v m else m
    if m.lantern.milling[r] then windmillByEncoder m else m

/-- The windmill records grow older (R428, R440). -/
def windmillAges (m : Mach) : Mach :=
  m.each two (fun s m =>
    if m.n (Key.windmillSource s.1) = 0 then m
    else m.putN (Key.windmillAge s.1) (min 0xFFFFFFFF ((m.n Key.lanternTickCount - m.lantern.millTick[s]) * 1000 / 32768)))

/-- A SamplePeriod has passed on the Lantern's crystal since the last sample, to the tick (R421). -/
def Mach.sampleDue (m : Mach) (tick : Nat) : Bool :=
  m.lantern.samples.isEmpty || decide (32768 * m.n Key.lanternSamplePeriod < 1000 * (tick + 1 - m.n Key.lanternTickCount))
/-- LANTERN_SAMPLE (R421 to R428). A change of SamplePeriod fills the filters anew. -/
def lanternSampleEff (x : LanternInputs) (m : Mach) : Mach :=
  if !m.sampleDue x.tick then m else
  let m := m.putN Key.lanternTickCount (x.tick % 2 ^ 64)
  let t := m.n Key.lanternSamplePeriod
  let m := m.modLan (fun l => if l.period = t then l else { l with period := t, samples := [], speeds := [] })
  let m := lanternCount x.a x.b m
  let v := m.lanternSpeed
  let first := m.lantern.samples.length == 2
  let m := m.modLan (fun l => { l with
    samples := (x :: l.samples).take 3, speeds := (v :: l.speeds).take 3, lastCount := l.count })
  let filled := m.lantern.filled
  let m := m.putN Key.lanternStatus (setBit (m.n Key.lanternStatus) 0 filled)
  let m := m.putI 32 Key.lanternEncoderCount m.lantern.count
  if !filled then windmillAges m else
  let m := lanternFilter first m
  let m := m.putR Key.lanternDieTemp m.lantern.filtered[5]
  let m := m.each (List.finRange 16) ruleSample
  windmillAges (m.modLan (fun l => { l with asleep := l.asleep && !l.mainEn }))

/-! ### The fall into sleep (R419), the power-on reset -/

/-- MAIN_EN falls: the main domain is off, the references of rules armed while asleep are latched. -/
def fallAsleep (m : Mach) : Mach :=
  let m := mainReset 0x02 m
  let ref := fun (r : Fin 16) =>
    let w := m.n (Key.lanternRule r.1)
    if ruleEnabled w ∧ ruleArmed w = 0 ∧ ruleCompare w = 2 then (m.ruleValue (ruleSignal w)).map (·.1) else m.lantern.refs[r]
  m.modLan (fun l => { l with
    mainEn := false, asleep := true, sleptAt := m.n Key.lanternTickCount, wakeCause := 0, refs := Vector.ofFn ref })

/-- LANTERN_POWER_ON_RESET: VLAN was out of range; nothing but the MRAM and the firmware slots outlives it. -/
def lanternPowerOnResetEff (m : Mach) : Mach := { mainReset 0x01 m with lantern := {}, live := [] }

end Sys2Proof.Machine
end

