-- ==== Sys2Proof/Machine/Boot.lean ====
section
/-! DEFINITION. The start-up sequence (R442 to R445), run as one step at time 0 (log entry 20): switches, journal, firmware slot,
self-tests, the Clearing record, the Lantern's record, the active bank, the carriers, "device start". -/

namespace Sys2Proof.Machine

/-! ### Steps 1 to 3: pins, NV memory, firmware slot -/

/-- The DIP switches, read in the first power-up sequence after a Lantern power-on reset only, whose end also holds the source-0 inputs
for 30 ms (R265, R299); the preset they give. -/
def bootSwitches (b : BootInputs) (m : Mach) : Mach :=
  let m := if m.lantern.dipRead then m else m.modLan (fun l => { l with
    dip := b.dipA.toNat + 16 * b.dipB.toNat, dipRead := true, holdUntil := ms 30 })
  let p := m.lantern.dip % 16
  m.putN Key.safetyFallbackPreset (if m.lantern.dip / 16 = 15 - p then p else 0xFF)

/-- An area's content matches the CRC its area commit names (R437). -/
def Mach.copyOk (m : Mach) (addr : Fin 2 → Nat) (c : Option NvCopy) : Option NvCopy :=
  match c with
  | some x => if crc32c (m.nvGet (addr x.copy) x.len) = x.crc then c else none
  | none => none
/-- The journal scan (R437): stored entries take their values, areas that fail their CRC are absent. -/
def bootJournal (m : Mach) : Mach :=
  let m := { m with nv := { m.nv with
    bank := vmap m.nv.bank (fun n c => m.copyOk (bankAddr n) c), com := m.copyOk comAddr m.nv.com, ageAt := 0 } }
  let m := (latest m.nv.journal).foldl (fun m r => match r.what with | .entry k v => m.putBoth k v | _ => m) m
  m.modEv (fun x => { x with nextSeq := if m.logRecords.isEmpty then 0 else (m.logHead + 1) % 2 ^ 32 })

/-- A slot holds an image that matches the CRC of its area commit (R442 step 3). -/
def Mach.slotGood (m : Mach) (s : Fin 2) : Bool := (m.copyOk fwAddr m.nv.slot[s]).isSome

/-- The firmware slot of this start, if any (R385, R442 step 3): the trial slot on the reset that an activation caused, else the
confirmed one; the other one where that fails, rolled back, as after a trial that ended without a confirmation. -/
def bootSlot (m : Mach) : Option Fw :=
  let f := m.fw
  let act := m.lantern.source == 5 && f.trialNext.isSome
  let want := if act then f.trialNext.getD f.confirmed else f.confirmed
  if m.slotGood want then some { f with active := want, trialNext := none, trial := act, rolled := !act && f.trial }
  else if m.slotGood (other want) then some { f with active := other want, trialNext := none, trial := false, rolled := true }
  else none

/-! ### Steps 4 to 6: lanes, voters, records -/

/-- Bits of Start.LaneSelfTest. -/
def laneBits (v : Vector Bool 3) : Nat := b2n v[0] + 2 * b2n v[1] + 4 * b2n v[2]
/-- Lanes that fail stay retired (R442 step 4). -/
def bootLanes (b : BootInputs) (m : Mach) : Mach :=
  (m.modClr (fun c => { c with lanes := vmap c.lanes (fun i l => { l with status := if b.lanes[i] then .active else .retired }) })).putN
    Key.startLaneSelfTest (laneBits b.lanes)

/-- The last Clearing record of the ring, if its CRC is good (R43, R483). -/
def Mach.lastClearing (m : Mach) : Option (List Byte) :=
  let r := m.nvGet (0x614000 + 64 * ((m.nv.clrSlot + 63) % 64)) 64
  if imgNat r 0 1 ≠ 0 ∧ crc32c (r.take 60) = BitVec.ofNat 32 (imgNat r 60 4) then some r else none

/-- What the Lantern hands over (R420, R428): the wake cause, PI0's count where it was followed, the length of the sleep. -/
def bootLantern (m : Mach) : Mach :=
  let l := m.lantern
  let woken := l.source == 2
  let m := m.putN Key.powerWakeCause (if woken then l.wakeCause else 0)
  if !woken then m else
  ((m.putN Key.powerSleepStatus 8).putN Key.powerSleepTime ((m.n Key.lanternTickCount - l.sleptAt) / 32768 % 2 ^ 32)).incDevice Key.powerSleepCount

/-- The position interfaces after the start: a resolver's excitation settles (R95); PI0 (R420, R423): its count from the Lantern, referenced if it was, EncoderMode is not 0 and no position was lost. -/
def bootPosition (m : Mach) : Mach :=
  let m := m.each two (fun i m => if m.n (Key.piMode i.1) = 3 then m.modPos i (fun p => { p with settling := true, excAt := m.ns }) else m)
  let l := m.lantern
  let followed := m.n (Key.piMode 0) == 1 && m.n Key.lanternEncoderMode != 0
  if !followed then m else
  let ok := l.referenced && !bit (m.n Key.lanternStatus) 1
  let cpr : Int := max 1 (m.piCounts 0)
  m.modPos 0 (fun p => { p with
    count := l.count, countPrev := l.count, referenced := ok, zSeen := ok, zCount := if ok then l.zCount else 0,
    angle := fRat (360 * ((l.count - (if ok then l.zCount else 0)) % cpr)) cpr.toNat })

/-- The wraps of a winch drive (R197): the stored ones, corrected by the count's difference since. -/
def bootWraps (d : Fin 2) (m : Mach) : Mach :=
  if m.n (Key.application d.1) ≠ 1 then m else
  let b := valBytes (m.val (Key.winchWraps d.1))
  if b.length ≠ 8 then m.modDrive d (fun x => { x with turnsAt := m.motorTurns d }) else
  let w : F32 := BitVec.ofNat 32 (imgNat b 0 4)
  let diff := m.posCount d - toSigned 32 (imgNat b 4 4)
  let cpr := match m.piOf (m.firstSet d) with | some i => m.piCounts i | none => 0
  let w := if cpr = 0 then w else fadd w (fdiv (fRat diff cpr) (m.r (Key.winchGearRatio d.1)))
  let valid := m.piOf (m.firstSet d) == some 0 && m.n (Key.piMode 0) == 1 && m.lantern.wrapsRef[d] && m.pos[0].referenced
  (m.modDrive d (fun x => { x with wraps := w, turnsAt := m.motorTurns d })).putB (Key.winchPayoutValid d.1) valid

/-! ### Step 7: the active bank (R405, R406) -/

/-- Entries of a bank that are no safety entries. -/
def plainKeys : List Nat := bankKeys.filter (fun k => !safetyFlag k)
/-- The plain "bank" entries take given values, the others their defaults. -/
def setPlain (vs : List (Nat × Val)) (m : Mach) : Mach :=
  plainKeys.foldl (fun m k => m.putBoth k (((vs.find? (fun p => p.1 == k)).map (·.2)).getD (dfltOf k))) m
/-- Safety entries without a bank's: the commissioning record's, else those of the switches (R299, R406). -/
def bootSafety (m : Mach) : Mach :=
  match m.comVals with
  | some vs => (setSafety vs m).putN Key.safetyState 2
  | none => fallbackSafety m

/-- The bank is loaded (R405): LoadState 0 good, 1 invalid, 2 its safety image not taken; and how many records were skipped. -/
def bootBank (m : Mach) : Mach :=
  let invalid := (bootSafety (setPlain [] m)).putN Key.bankLoadState 1
  let m := match m.bankBytes (bank4 (m.n Key.bankActive)) with
    | none => invalid
    | some b =>
      if !imageFrameOk b then invalid else
      let (vs, skipped) := m.imageValues b
      let (safe, other_) := m.safetyWith b
      let c := setPlain vs m
      let c := match safe with | some sv => (setSafety sv c).putN Key.safetyState 2 | none => bootSafety c
      if (allChecks c c).all (fun r => !r.bad) ∧ c.liveFits then
        (c.putN Key.bankLoadState (if other_ then 2 else 0)).putN Key.bankSkippedRecords skipped
      else invalid.putN Key.bankSkippedRecords skipped
  m.putN Key.safetySealValue m.seal

/-- What the loaded values put in force: the liveness mask, network, position and grove settings. -/
def bootInForce (m : Mach) : Mach :=
  let m := netSwapped [Key.gptpEnable, Key.schedEnable, Key.ringRole] m
  let m := posSwapped [Key.piMode 0, Key.piMode 1] m
  groveForm (applyMask m.maskBlocks m)

/-! ### Carriers (R56) -/

/-- Both carriers run from time 0 at their default frequency, phase 0: a valley at time 0; the bank's settings take effect at a
valley. The valley at time 0 itself counts as no boundary and as no sample instant (DESIGN CHOICE, log entry 117). -/
def bootCarriers (m : Mach) : Mach :=
  m.each two (fun s m =>
    let h := halfOf (valNat (dfltOf (Key.switchingFrequency s.1)))
    (m.modPwm s (fun p => { p with rising := true, hStart := 0, hEnd := h, next := 2 * h, half := h, origin := 0, regrid := s == 1 })).putR
      (Key.actualFrequency s.1) (fRat 1000000000000 (max 1 (2 * h))))

/-! ### The end of the start -/

/-- The events of a start, and "device start" with the last Clearing record (R451, R455). -/
def bootEvents (source : Nat) (rolled : Bool) (lost : Bool) (b : BootInputs) (m : Mach) : Mach :=
  let m := when_ rolled (raiseM 0x6C 0xFF) m
  let m := m.each (List.finRange 3) (fun i m => when_ (!b.lanes[i]) (raiseM 0x02 i.1) m)
  let m := if m.nv.powerFailed then
      raiseM 0x74 0xFF ({ m with nv := { m.nv with powerFailed := false } }.incDevice Key.supplyPowerFailCount)
    else m
  let m := when_ (source == 6) (raiseM 0x75 0xFF) m
  let m := when_ lost (raiseM 0x76 0xFF) m
  let bank := m.n Key.bankActive
  let m := when_ (m.n Key.bankSkippedRecords != 0) (raiseM 0x6F bank) m
  let m := when_ (m.n Key.bankLoadState == 1) (raiseM 0x6E bank) m
  let m := when_ (m.n Key.bankLoadState == 2) (raiseM 0x70 bank) m
  let (cause, at_) := match m.lastClearing with | some r => (imgNat r 0 1, imgNat r 12 8 / 1000000) | none => (0, 0)
  let m := raiseV 0x00 none none source (BitVec.ofNat 32 cause) (BitVec.ofNat 32 at_) m
  when_ (bit (m.n Key.lanternStatus) 3) (raiseM 0x77 m.lantern.creepRule) m

/-- The start ends in the boot state (R443): the boot firmware is checked; nothing else runs. -/
def bootState (source : Nat) (b : BootInputs) (m : Mach) : Mach :=
  let m := (bootLanes b m).putN Key.startResetSource source
  { m.putN Key.startState 0 with up := some false, fw := { m.fw with bootOk := b.bootFwOk } }

/-- POWER_UP_RESET_END (R414, R442): only with the main domain in reset, MAIN_EN high and every main rail in range for 2 ms. -/
def powerUpResetEndEff (b : BootInputs) (m : Mach) : Mach :=
  if m.up.isSome ∨ !m.lantern.mainEn ∨ b.railsFor < 2000000000 then m else
  let source := m.lantern.source
  let lost := bit (m.n Key.lanternStatus) 1
  let m : Mach := { m with lantern := m.lantern.rebase m.now, now := 0 }
  let m := bootJournal (((bootSwitches b m).putN Key.canopyPosition b.gpos.1).putN Key.timebaseStatus 3)
  let ok := b.votersOk && 2 ≤ (([0, 1, 2] : List (Fin 3)).filter (fun i => b.lanes[i])).length
  match bootSlot m with
  | none => bootState source b m
  | some f =>
    if !ok then bootState source b { m with fw := { f with rolled := f.rolled } } else
    let m := bootLanes b { m with up := some true, fw := f }
    let m := match m.lastClearing with
      | some r => (m.putN Key.clearingSafeStateCause (imgNat r 0 1)).put Key.clearingRecord (.bytes r)
      | none => m
    let m := bootLantern ((m.incDevice Key.identityBootCount).putN Key.startResetSource source)
    let m := bootInForce (bootBank (m.putN Key.identityFirmwareVersion (m.slotNumber f.active 8)))
    -- the adapted values start from the configured ones (R228)
    let m := m.each (List.finRange 12) resetAdapted
    let m := ((bootPosition m).each two bootWraps).modSafety (fun s => { s with
      button := { closed := b.buttonClosed, blocked := b.buttonClosed, since := 0 } })
    let m := bootEvents source f.rolled lost b (bootCarriers m)
    (m.putN Key.startState 2).putN Key.startReadyTime b.readyUs

end Sys2Proof.Machine
end

