-- ==== Sys2Proof/Machine/Nvm.lean ====
section
/-! DEFINITION. What the NV controller does on its own: records completed (R393, R436, R456) and the scrub (R435). -/

namespace Sys2Proof.Machine

/-- A log record goes into the next slot of the ring (R456). -/
def putLog (r : List Byte) (m : Mach) : Mach :=
  let m := m.nvPut (0x500000 + 64 * m.nv.logSlot) r
  { m with nv := { m.nv with logSlot := (m.nv.logSlot + 1) % 16384, logCount := min 16384 (m.nv.logCount + 1) } }

/-- What waited for a record goes on: a write is answered and its value in force (R393), a bank operation ends (R407, R409), a
session reaches its commit point (R382). -/
def nvDone (w : NvWaiter) (k : Nat) (v : Val) (m : Mach) : Mach :=
  match w with
  | .nobody => m
  | .member => memberSlotValid m
  | .answer rq => reply 3 rq 0 [] (m.putBoth k v)
  | .bankStore => if m.n Key.bankStatus = 1 then (bankStatus 2 m).incDevice Key.bankStoreCount else m
  | .bankErase => if m.n Key.bankStatus = 1 then bankStatus 2 m else m
  | .session sid => match m.sess.opened.find? (fun s => s.sid == sid) with
    | some s => if s.ty = 3 then slotWritten s m else completeSession s m
    | none => m

/-- An area's new content, just written (R435, R436). -/
def putArea (a : NvArea) (c : Option NvCopy) (m : Mach) : Mach :=
  let m := ageTick m
  let nv := m.nv.setArea a c
  { m with nv := { nv with age := erase (areaCode a c) nv.age } }

/-- NV_RECORD_COMPLETE (R436): the record at the head of the queue. -/
def nvRecordCompleteEff (m : Mach) : Mach :=
  if m.up.isNone then m else
  match m.nv.jobs with
  | [] => m
  | j :: rest =>
    let m : Mach := { m with nv := { m.nv with jobs := rest } }
    compact (match j with
      | .log r => putLog r m
      | .entry k v w => nvDone w k v (journalPut 3 0 (entryPayload k v) true (.entry k v) m)
      | .content a b => journalPut 1 a b false .content (m.nvPut a b)
      | .area a c w => nvDone w 0 (.num 0) (putArea a c (journalPut 2 0 (areaPayload a c) true (.area a c) m)))

/-! ### The scrub (R435) -/

/-- The latest record of an area among those kept. -/
def Nv.areaRecord (nv : Nv) (a : NvArea) (s : Fin 2) : Option NvCopy :=
  (nv.journal.reverse.findSome? (fun r => match r.what with
    | .area b c => if b = a ∧ (a ≠ .firmware ∨ (c.map (·.copy)) = some s) then some c else none
    | _ => none)).join

/-- A journal record is discarded; an area it named falls back to an earlier record, if there is one. -/
def dropRecord (r : JRec) (m : Mach) : Mach :=
  let m : Mach := { m with nv := { m.nv with journal := m.nv.journal.filter (fun x => x != r) } }
  match r.what with
  | .area .firmware (some c) => { m with nv := { m.nv with slot := vmod m.nv.slot c.copy (fun _ => m.nv.areaRecord .firmware c.copy) } }
  | .area .firmware none => m
  | .area a _ => { m with nv := m.nv.setArea a (m.nv.areaRecord a 0) }
  | _ => m

/-- A word with a double-bit error invalidates what holds it. -/
def badWord (a : Nat) (m : Mach) : Mach :=
  let m := m.incDevice Key.nvUncorrectableCount
  let m :=
    if a < 0x400000 then
      let s := fin2 (a / 0x200000)
      { m with nv := { m.nv with slot := vmod m.nv.slot s (fun _ => none) } }
    else if a < 0x500000 then
      let n := bank4 ((a - 0x400000) / 0x40000)
      let c := fin2 (a / 0x20000 % 2)
      if (m.nv.bank[n].map (·.copy)) = some c then { m with nv := { m.nv with bank := vmod m.nv.bank n (fun _ => none) } } else m
    else if a < 0x600000 then m.nvPut (0x500000 + (a - 0x500000) / 64 * 64) (List.replicate 64 0)
    else if a < 0x604000 then
      (if (m.nv.com.map (·.copy)) = some (fin2 ((a - 0x600000) / 8192)) then { m with nv := { m.nv with com := none } } else m)
    else if a < 0x614000 then
      m.each (m.nv.journal.filter (fun r => decide (r.off ≤ a - 0x604000 ∧ a - 0x604000 < r.off + r.len))) dropRecord
    else if a < 0x615000 then m.nvPut (0x614000 + (a - 0x614000) / 64 * 64) (List.replicate 64 0)
    else m
  whenUp (raiseM 0x7E 0xFF) m

/-- NV_SCRUB (R435): corrections counted, bad words, the retention used. -/
def nvScrubEff (corrected : Nat) (bad : List Nat) (m : Mach) : Mach :=
  if m.up.isNone then m else
  let m := if corrected = 0 then m else
    let x := m.add Key.nvCorrectedCount corrected
    x.nvJob (.entry Key.nvCorrectedCount (x.val Key.nvCorrectedCount) .nobody)
  let m := ageTick (m.each bad badWord)
  let used := m.nv.retention
  let m := m.putDevice Key.nvRetentionUsed (.num used.toNat)
  if fge used (fRat 90 1) then whenUp (raiseV 0x7F none none 0xFF used (fRat 90 1)) m else m.causeGone 0x7F none none 0xFF

end Sys2Proof.Machine
end

