-- ==== Sys2Proof/Machine/Deliver.lean ====
section
/-! DEFINITION. What a voted token does where it is delivered (R20, R24). -/

namespace Sys2Proof.Machine

/-- A voted token at its destination: the PWM logic of a set, a channel die, the safe outputs (R20, R58, R222, R263). Frames, records and
messages are copied as contents (R22). -/
def deliverToken (k : Token) : Mach → Mach :=
  let dest : BitVec 16 := k.extractLsb' 96 16
  if tokType k = 1 then
    match Config.dutyDest dest with
    | some (s, leg, slot) => dutyTokenEff s leg slot (k.extractLsb' 32 32) (k.extractLsb' 0 32)
    | none => id
  else if tokType k = 2 then (if dest.toNat < 12 then dieCommandEff (chan dest.toNat) (k.extractLsb' 0 8) else id)
  else if tokType k = 3 then safeOutputTokenEff (k.extractLsb' 0 64)
  else id

/-- An effect that is complete some time (ps) after the present instant, which stays the command's own. -/
def Mach.later (m : Mach) (d : Time) (f : Mach → Mach) : Mach := { f { m with now := m.now + d } with now := m.now }
/-- The time (ps) from the arrival that decides a vote to the token's emission: 20 to 40 ns, varying from token to token (R24), a free
value (log entry 3). -/
def Mach.emission (m : Mach) : Time := 20000 + m.freeNow.toNat % 20001

/-- Tokens emitted since an earlier state are delivered, in their order, each at the end of its emission (R24). -/
def deliver (old m : Mach) : Mach :=
  (m.sent.drop old.sent.length).foldl (fun m x => match x with | .token k => m.drew.later m.emission (deliverToken k) | _ => m) m

end Sys2Proof.Machine
end

