-- ==== Sys2Proof/Machine/Out.lean ====
section
/-! DEFINITION. Where the lanes' voted contents, answers and notifications go: Ethernet, UDP and USB (R356 to R361, R455, R457), the NV
controller (R436), the Canopy link (R315, R366). -/

namespace Sys2Proof.Machine

/-! ### Ethernet (R351, R356, R457) -/

/-- A frame as it leaves: padded to 60 bytes, with its FCS (log entry 40). -/
def onWire (frame : List Byte) : List Byte :=
  let b := frame ++ List.replicate (60 - frame.length) 0
  b ++ (beBytes 4 (fcs b).toNat).reverse
/-- An own frame of a port's transmit queue leaves, or waits for the gate of its class; the Clearing holds its copy while the queue is
full (R356, R457). A port that is down sends nothing (log entry 88). -/
def ownFrame (p : Fin 2) (off : Nat) (frame : List Byte) (m : Mach) : Mach :=
  let x := m.net.ports[p]
  let sched := m.scheduled (framePrio frame)
  let open_ := if sched then x.gates.1 else x.gates.2
  if !x.up then m
  else if open_ ∧ x.waiting.all (fun w => w.2.1 != sched) then m.emit (.frame p (onWire frame))
  else m.modEth p (fun x => { x with waiting := x.waiting ++ [(off, sched, onWire frame)] })

/-- A voted frame at its destination (R20): the transmit queue of a port (R457), both ports for DEST 0xFF (log entry 104). -/
def frameContent (dest : Nat) (frame : List Byte) : Mach → Mach :=
  if 16 ≤ dest ∧ dest < 32 then ownFrame (fin2 ((dest - 16) / 8)) (dest % 8) frame
  else if dest = 0xFF then (fun m => m.each two (ownFrame · 3 frame))
  else id

/-! ### The NV journal (R436) -/

/-- A voted NV record at the NV controller: the write it asks for, by its type (R20, R436). -/
def recordContent (b : List Byte) (m : Mach) : Mach :=
  let p := (b.drop 16).take (imgNat b 2 2)
  match imgNat b 0 2 with
  | 1 => m.nvJob (.content (imgNat b 8 4) p)
  | 2 =>
    let area : Option NvArea := match imgNat p 0 2 with
      | 4 => some .commissioning | 5 => some .firmware | n => if n < 4 then some (.bank (bank4 n)) else none
    let copy : Option NvCopy := if imgNat p 2 2 = 0xFFFF then none
      else some { copy := fin2 (imgNat p 2 2), len := imgNat p 4 4, crc := BitVec.ofNat 32 (imgNat p 8 4) }
    match area with | some a => m.nvJob (.area a copy .nobody) | none => m
  | 3 =>
    let k := imgNat p 0 2 * 256 + imgNat p 2 1
    match rowOf k with
    | some r => (match parseVal r.ty (p.drop 3) with | .ok v => m.nvJob (.entry k v .nobody) | .error _ => m)
    | none => m
  | _ => m

/-! ### Link messages (R20, R315) -/

/-- A voted link message at the Canopy transmitter: its first two bytes are those of its header (log entry 104). -/
def linkContent (dest : BitVec 16) (b : List Byte) (m : Mach) : Mach :=
  match Config.linkDest dest with
  | none => m
  | some (port, vc) =>
    let pl := votedPayload (b.drop 2)
    let hops := let h := m.broadcastHops; max 1 (if port = 0 then h.1 else h.2)
    portSend port { h := m.header vc (imgNat b 0 1 % 32) (imgNat b 1 1 / 16) hops pl.length, payload := pl } true m

/-! ### Answers and notifications (R357, R358, R361, R455) -/

/-- An answer as a PDU: its unit address is that of the device asked (R358; log entry 41). -/
def answerPdu (kind : Nat) (rq : Req) (status : Nat) (body : List Byte) : List Byte :=
  pduHeader kind (16 + body.length) rq.handle.toNat rq.rid.toNat status anyUnit ++ body
/-- A PDU goes to its partner the way the partner's came (R357, R361); one of another member's on VC 6 (R366). -/
def pduTo (src : Source) (off : Nat) (pdu : List Byte) (m : Mach) : Mach :=
  match src with
  | .eth p mac => ownFrame p off (m.frameOf (beBytes 6 mac.toNat) false pdu) m
  | .udp ip port via => if m.net.ports[via].up then m.emit (.udp via ip port.toNat (m.n Key.netUdpPort) pdu) else m
  | .usb => m.emit (.usb pdu)
  | .canopy p => serviceSend (some p) 6 (beBytes 1 0 ++ pdu) m
/-- A record goes as a notification to every connection whose subscription class it reaches (R361, R455). -/
def notify (record : List Byte) (m : Mach) : Mach :=
  m.each (m.net.conns.filter (fun c => decide (c.sub ≤ imgNat record 26 1))) (fun c m =>
    pduTo c.src 5 (pduHeader 7 (16 + record.length) c.handle.toNat 0 0 anyUnit ++ record) m)

/-! ### Everything that has been voted -/

/-- Where a voted result goes. -/
def sendOne (x : Sent) : Mach → Mach :=
  match x with
  | .content ty dest b => if ty = 4 then frameContent dest.toNat b else if ty = 5 then recordContent b else linkContent dest b
  | .reply kind rq st b => pduTo rq.src (if kind % 128 = 9 then 4 else if kind % 128 = 1 then 0 else 3) (answerPdu kind rq st b)
  | .note r => notify r
  | _ => id
/-- What has been voted since an earlier state goes to its destination, in its order. -/
def sendOut (old m : Mach) : Mach := (m.sent.drop old.sent.length).foldl (fun m x => sendOne x m) m

end Sys2Proof.Machine
end

