-- ==== Sys2Proof/Machine/Settle.lean ====
section
/-! DEFINITION. One command: the block's time moves to its instant, its effect happens, and what follows at once from the new state
follows (R41, R263, R419, R450, R457, R482). -/

namespace Sys2Proof.Machine

/-- What needs a vote, and so ends with the Clearing's safe state (R41): tokens, contents, answers, notifications and switch
commands; frames and link packets that hardware forwards do not. -/
def Sent.voted : Sent → Bool
  | .frame .. => false
  | .canopy .. => false
  | .canopyBad .. => false
  | .udp .. => false
  | .usb .. => false
  | _ => true

/-- Nothing voted leaves while the Clearing was in safe state and stays in it (R41). -/
def muteSafe (old m : Mach) : Mach :=
  if old.clr.safeState && m.clr.safeState then
    { m with sent := old.sent ++ (m.sent.drop old.sent.length).filter (fun x => !x.voted) }
  else m

/-- Steps of the lanes that wait for nothing any more (R482). -/
def lanesProgress (m : Mach) : Mach :=
  if m.lanesAct then
    fwMemberProgress (leadJudge (gptpWatch (ringWatch
      (idleTrack (commissionProgress (bankProgress (captureProgress (echoProgress (progress (sbtProgress m)))))))))) else m

/-- A changed safe-output word is voted at once (R263, R482). -/
def safeWordFollows (old m : Mach) : Mach :=
  if m.lanesAct && m.safeWord != old.safeWord then takeSafeWord m.safeWord m else m

/-- A sleep being entered is complete once the queued NV records are written, at a later instant than its request (R419). -/
def sleepFalls (m : Mach) : Mach :=
  if m.lanesAct && m.sleep.entering && m.nv.jobs.isEmpty && decide (m.sleep.since < m.ns) then fallAsleep m else m

/-- Entries that wait in the queues the state holds (R457): frames at a port, own ones beyond the queue's sixteen being held by the
Clearing, Canopy transmission, event-log and journal records, firmware and bank content, the segments of sessions. -/
def Mach.queueFill (m : Mach) : List (Nat × Nat) :=
  let jobs := fun (p : NvJob → Bool) => (m.nv.jobs.filter p).length
  let isLog := fun (j : NvJob) => match j with | .log _ => true | _ => false
  let isContent := fun (j : NvJob) => match j with | .content .. => true | _ => false
  two.flatMap (fun p => (List.range 8).map (fun o => (16 + 8 * p.1 + o, min 16 (m.net.ports[p].waiting.filter (fun w => w.1 == o)).length))) ++
  two.flatMap (fun p => (List.finRange 8).map (fun v => (32 + 16 * p.1 + 8 + v.1, (m.canopy[p].queue.filter (fun x => x.h.vc == v)).length))) ++
  [(99, jobs isLog), (109, jobs isLog), (110, jobs (fun j => !isLog j && !isContent j)), (111, jobs isContent)] ++
  m.sess.opened.flatMap (fun s => [(112 + 2 * s.slot.1, s.stored.length), (113 + 2 * s.slot.1, if s.down then 0 else min 8 (s.sentTo - s.e))])
/-- Queue.HighWater follows. -/
def highWater (m : Mach) : Mach :=
  if m.running then (m.queueFill.filter (fun x => m.n (Key.queueHighWater x.1) < x.2)).foldl (fun m x => m.putN (Key.queueHighWater x.1) x.2) m
  else m

/-- FAULT_N follows its causes (R450). -/
def faultFollows (m : Mach) : Mach := { m with faultN := m.faultWanted }

/-- What follows every effect. -/
def settle (old m : Mach) : Mach :=
  faultFollows (highWater (sendOut old (muteSafe old (sleepFalls (safeWordFollows old (lanesProgress (deliver old m)))))))

/-- What a command answers. -/
abbrev Out := Host.Outcome State Fault Refusal

/-- A command runs. -/
def State.run (s : State) (t : Time) (f : Mach → Mach) : Out :=
  .next { s with core := settle (s.core.at_ t) (f (s.core.at_ t)) }

end Sys2Proof.Machine
end

