-- ==== Sys2Proof/Machine/ExecChannels.lean ====
section
/-! DEFINITION. The commands of gate channels: each its effect, run at its instant. -/

namespace Sys2Proof.Machine

/-- SWITCH_RELEASE (R222). -/
def execSwitchRelease (t : Time) (ch : Fin 12) (s : State) : Out := s.run t (switchReleaseEff ch)

/-- OFF_WITH_OFF_PROFILE (R222). -/
def execOffWithOffProfile (t : Time) (ch : Fin 12) (s : State) : Out := s.run t (offWithOffProfileEff ch)

/-- SOFT_OFF (R222). -/
def execSoftOff (t : Time) (ch : Fin 12) (s : State) : Out := s.run t (softOffEff ch)

/-- STATIC_ON (R222). -/
def execStaticOn (t : Time) (ch : Fin 12) (s : State) : Out := s.run t (staticOnEff ch)

/-- DUSK_INJECTION_0_5_MA (R222). -/
def execDuskInjection05Ma (t : Time) (ch : Fin 12) (s : State) : Out := s.run t (injectEff ch 1)

/-- DUSK_INJECTION_2_MA (R222). -/
def execDuskInjection2Ma (t : Time) (ch : Fin 12) (s : State) : Out := s.run t (injectEff ch 2)

/-- DUSK_INJECTION_STOP (R222). -/
def execDuskInjectionStop (t : Time) (ch : Fin 12) (s : State) : Out := s.run t (injectEff ch 0)

/-- CLEAR_FAULT_LATCHES (R222). -/
def execClearFaultLatches (t : Time) (ch : Fin 12) (persists : List TripCause) (s : State) : Out := s.run t (clearFaultLatchesEff ch persists)

/-- RESET_ADAPTED_PROFILE (R228). -/
def execResetAdaptedProfile (t : Time) (ch : Fin 12) (s : State) : Out := s.run t (resetAdaptedProfileEff ch)

/-- INVALID_COMMAND (R222). -/
def execInvalidCommand (t : Time) (ch : Fin 12) (code : BitVec 8) (s : State) : Out := s.run t (invalidCommandEff ch code)

/-- UPLINK_STATUS_FRAME (R221). -/
def execUplinkStatusFrame (t : Time) (ch : Fin 12) (fr : UplinkFrame) (s : State) : Out := s.run t (uplinkStatusFrameEff ch fr)

/-- DOWNLINK_LOSS (R221). -/
def execDownlinkLoss (t : Time) (ch : Fin 12) (s : State) : Out := s.run t (downlinkLossEff ch)

/-- UPLINK_LOSS (R221). -/
def execUplinkLoss (t : Time) (ch : Fin 12) (s : State) : Out := s.run t (uplinkLossEff ch)

/-- CHANNEL_CONFIGURATION (R223). -/
def execChannelConfiguration (t : Time) (ch : Fin 12) (cfg : List Byte) (crc : BitVec 32) (s : State) : Out :=
  s.run t (channelConfigurationEff ch cfg crc)

/-- PROFILE_PHASE1_END (R224). -/
def execProfilePhase1End (t : Time) (ch : Fin 12) (s : State) : Out := s.run t (profilePhase1EndEff ch)

/-- EDGE_MEASUREMENT (R226). -/
def execEdgeMeasurement (t : Time) (ch : Fin 12) (on : Bool) (time peak : F32) (s : State) : Out := s.run t (edgeMeasurementEff ch on time peak)

/-- RAIL_VALID (R233). -/
def execRailValid (t : Time) (ch : Fin 12) (rail : GateRail) (volts : F32) (s : State) : Out :=
  s.run t (railValidEff ch rail volts)

/-- RAIL_INVALID (R233). -/
def execRailInvalid (t : Time) (ch : Fin 12) (rail : GateRail) (volts : F32) (s : State) : Out :=
  s.run t (railInvalidEff ch rail volts)

/-- DIDT_TRIP (R235). -/
def execDidtTrip (t : Time) (ch : Fin 12) (volts : F32) (s : State) : Out := s.run t (didtTripEff ch volts)

/-- RAMP_WINDOW_END (R235). -/
def execRampWindowEnd (t : Time) (ch : Fin 12) (s : State) : Out := s.run t (rampWindowEndEff ch)

/-- INTEGRATOR_TRIP (R236). -/
def execIntegratorTrip (t : Time) (ch : Fin 12) (course : List (F32 × Nat)) (s : State) : Out :=
  s.run t (integratorTripEff ch course)

/-- DESATURATION_TRIP (R238). -/
def execDesaturationTrip (t : Time) (ch : Fin 12) (volts : F32) (s : State) : Out := s.run t (desaturationTripEff ch volts)

/-- TURN_OFF_SEQUENCE_STEP (R241). -/
def execTurnOffSequenceStep (t : Time) (set : Fin 2) (s : State) : Out := s.run t (turnOffSequenceStepEff set)

/-- GATE_OFF_CONFIRMED (R231). -/
def execGateOffConfirmed (t : Time) (ch : Fin 12) (s : State) : Out := s.run t (gateOffConfirmedEff ch)

/-- LEG_INTERLOCK_FAULT (R231). -/
def execLegInterlockFault (t : Time) (set : Fin 2) (leg : Fin 3) (s : State) : Out := s.run t (legInterlockFaultEff set leg)

/-- SWCMD_TRANSITION (R230). -/
def execSwcmdTransition (t : Time) (ch : Fin 12) (high : Bool) (s : State) : Out := s.run t (swcmdTransitionEff ch high)

/-- DIRECT_ENABLE (R230). -/
def execDirectEnable (t : Time) (rq : Req) (set : Fin 2) (on : Bool) (s : State) : Out :=
  s.run t (writeHere rq (Key.gateDirectEnable set.1) [if on then 1 else 0])

/-- SET_CONFIRMED_OFF (R248). -/
def execSetConfirmedOff (t : Time) (set : Fin 2) (persists : List (Fin 12 × TripCause)) (s : State) : Out := s.run t (setConfirmedOffEff set persists)

/-- RETRY_WAIT_END (R248). -/
def execRetryWaitEnd (t : Time) (set : Fin 2) (s : State) : Out := s.run t (retryWaitEndEff set)

/-- TRIP_HISTORY_EXPIRY (R247). -/
def execTripHistoryExpiry (t : Time) (set : Fin 2) (s : State) : Out := s.run t (tripHistoryExpiryEff set)

/-- NTC_CONVERSION (R246). -/
def execNtcConversion (t : Time) (ch : Fin 12) (volts : F32) (s : State) : Out := s.run t (ntcConversionEff ch volts)

/-- DUSK_RUN (R251). -/
def execDuskRun (t : Time) (rq : Req) (set : Fin 2) (s : State) : Out := s.run t (writeHere rq (Key.duskRun set.1) [1])

/-- DUSK_STEP_END (R252). -/
def execDuskStepEnd (t : Time) (set : Fin 2) (rd : DuskReading) (s : State) : Out := s.run t (duskStepEndEff set rd)

end Sys2Proof.Machine
end

