-- ==== Sys2Proof/Machine/ExecClearing.lean ====
section
/-! DEFINITION. The commands of lanes and Clearing: each its effect, run at its instant. -/

namespace Sys2Proof.Machine

/-- INPUT_FANOUT_DELIVERY (R17). -/
def execInputFanoutDelivery (t : Time) (words : List (BitVec 32)) (upsets : List (Lane × Nat × BitVec 33)) (s : State) : Out :=
  s.run t (inputFanoutDeliveryEff words upsets)

/-- LANE_SELF_DISSENT (R32). -/
def execLaneSelfDissent (t : Time) (lane : Lane) (s : State) : Out := s.run t (whenUp (selfDissent lane))

/-- TOKEN_ARRIVAL (R27). -/
def execTokenArrival (t : Time) (lane : Lane) (tok : BitVec 128) (refl : ReflVerdict) (s : State) : Out := s.run t (tokenArrivalEff lane tok refl)

/-- AGREEMENT_WINDOW_CLOSE (R27). -/
def execAgreementWindowClose (t : Time) (v : VoteId) (refl : ReflVerdict) (s : State) : Out := s.run t (agreementWindowCloseEff v refl)

/-- CONTENT_COPY_COMPLETE (R22). -/
def execContentCopyComplete (t : Time) (v : VoteId) (content : List Byte) (s : State) : Out := s.run t (contentCopyCompleteEff v content)

/-- CONTROL_CYCLE_BOUNDARY (R25). -/
def execControlCycleBoundary (t : Time) (calib : Nat) (exercised : Bool) (dirty : List (Fin 4096)) (s : State) : Out :=
  s.run t (controlCycleBoundaryEff calib exercised dirty)

/-- RESYNC_FAILED (R35). -/
def execResyncFailed (t : Time) (lane : Lane) (s : State) : Out := s.run t (resyncFailedEff lane)

/-- SIGNATURE_COMPLETE (R46). -/
def execSignatureComplete (t : Time) (lane : Lane) (refl : ReflVerdict) (s : State) : Out := s.run t (signatureCompleteEff lane refl)

/-- DISSENT_ENTRY_EXPIRY (R33). -/
def execDissentEntryExpiry (t : Time) (lane : Lane) (s : State) : Out := s.run t (dissentEntryExpiryEff lane)

/-- DEAD_STATE_SCRUB (R48). -/
def execDeadStateScrub (t : Time) (s : State) : Out := s.run t (deadStateScrubEff)

/-- SAFE_STATE_COMMAND (R42). -/
def execSafeStateCommand (t : Time) (ch : Fin 12) (s : State) : Out := s.run t (safeStateCommandEff ch)

end Sys2Proof.Machine
end

