-- ==== Sys2Proof/Machine/ExecControl.lean ====
section
/-! DEFINITION. The commands of the control engine, Echo and capture: each its effect, run at its instant. -/

namespace Sys2Proof.Machine

/-- SAMPLE_ARRIVAL (R123). -/
def execSampleArrival (t : Time) (set : Fin 2) (smp : Sample) (s : State) : Out := s.run t (sampleArrivalEff set smp)

/-- COMPUTATION_COMPLETE (R122). -/
def execComputationComplete (t : Time) (set : Fin 2) (lane : Lane) (s : State) : Out := s.run t (computationCompleteEff set lane)

/-- OUTER_COMPUTATION_COMPLETE (R122). -/
def execOuterComputationComplete (t : Time) (lane : Lane) (s : State) : Out := s.run t (outerComputationCompleteEff lane)

/-- DUTY_STALL (R127). -/
def execDutyStall (t : Time) (set : Fin 2) (s : State) : Out := s.run t (dutyStallEff set)

/-- SWAP_FORCED (R131). -/
def execSwapForced (t : Time) (dom : Dom) (group : Nat) (s : State) : Out := s.run t (swapForcedEff dom group)

/-- HISTORY_RESET (R113). -/
def execHistoryReset (t : Time) (rq : Req) (slot : Fin 32) (s : State) : Out := s.run t (writeHere rq (Key.slotHistoryReset slot.1) [1])

/-- ECHO_START (R132). -/
def execEchoStart (t : Time) (rq : Req) (s : State) : Out := s.run t (writeHere rq Key.echoStart [1])

/-- ECHO_ABORT (R138). -/
def execEchoAbort (t : Time) (rq : Req) (s : State) : Out := s.run t (writeHere rq Key.echoAbort [1])

/-- ECHO_SETTLE_END (R135). -/
def execEchoSettleEnd (t : Time) (s : State) : Out := s.run t (echoSettleEndEff)

/-- ECHO_POINT_COMPLETE (R135). -/
def execEchoPointComplete (t : Time) (s : State) : Out := s.run t echoPointCompleteEff

/-- ECHO_STEP (R134). -/
def execEchoStep (t : Time) (s : State) : Out := s.run t (echoStepEff)

/-- ECHO_DURATION_END (R134). -/
def execEchoDurationEnd (t : Time) (s : State) : Out := s.run t (echoDurationEndEff)

/-- CAPTURE_ARM (R137). -/
def execCaptureArm (t : Time) (rq : Req) (s : State) : Out := s.run t (writeHere rq Key.captureArm [1])

end Sys2Proof.Machine
end

