-- ==== Sys2Proof/Machine/ExecDrives.lean ====
section
/-! DEFINITION. The commands of drives: each its effect, run at its instant. -/

namespace Sys2Proof.Machine

/-- COMMAND_RUN (R187). -/
def execCommandRun (t : Time) (rq : Req) (drv : Fin 2) (s : State) : Out := s.run t (writeHere rq (Key.command drv.1) [1])

/-- COMMAND_STOP (R187). -/
def execCommandStop (t : Time) (rq : Req) (drv : Fin 2) (s : State) : Out := s.run t (writeHere rq (Key.command drv.1) [0])

/-- PRE_TORQUE_HELD (R188). -/
def execPreTorqueHeld (t : Time) (drv : Fin 2) (s : State) : Out := s.run t (preTorqueHeldEff drv)

/-- LEVER_NEUTRAL_ACCEPTED (R191). -/
def execLeverNeutralAccepted (t : Time) (drv : Fin 2) (s : State) : Out := s.run t (leverNeutralAcceptedEff drv)

/-- REFERENCE_TIMEOUT (R193). -/
def execReferenceTimeout (t : Time) (drv : Fin 2) (s : State) : Out := s.run t (referenceTimeoutEff drv)

/-- PHASE_BACK_SLOW (R196). -/
def execPhaseBackSlow (t : Time) (drv : Fin 2) (s : State) : Out := s.run t (phaseBackSlowEff drv)

/-- WRAPS_SET (R197). -/
def execWrapsSet (t : Time) (rq : Req) (drv : Fin 2) (wraps : F32) (s : State) : Out :=
  s.run t (writeHere rq (Key.winchWrapsSet drv.1) (beBytes 4 wraps.toNat))

/-- SHOCK_HOLD_END (R200). -/
def execShockHoldEnd (t : Time) (drv : Fin 2) (s : State) : Out := s.run t (shockHoldEndEff drv)

/-- SHOCK_RECOVERY_END (R200). -/
def execShockRecoveryEnd (t : Time) (drv : Fin 2) (s : State) : Out := s.run t (shockRecoveryEndEff drv)

/-- MOTION_RECORD (R203). -/
def execMotionRecord (t : Time) (drv : Fin 2) (time : Nat) (pos vel acc : F32) (seq : BitVec 16) (s : State) : Out :=
  s.run t (motionRecordEff drv time pos vel acc seq)

/-- MOTION_REFERENCE_LOST (R205). -/
def execMotionReferenceLost (t : Time) (drv : Fin 2) (s : State) : Out := s.run t (motionReferenceLostEff drv)

/-- HEAVE_FADE_END (R205). -/
def execHeaveFadeEnd (t : Time) (drv : Fin 2) (s : State) : Out := s.run t (heaveFadeEndEff drv)

/-- QUICK_RELEASE_DEMAND (R212). -/
def execQuickReleaseDemand (t : Time) (drv : Fin 2) (s : State) : Out := s.run t (quickReleaseDemandEff drv)

/-- QUICK_RELEASE_END (R213). -/
def execQuickReleaseEnd (t : Time) (drv : Fin 2) (s : State) : Out := s.run t (quickReleaseEndEff drv)

/-- REGENERATION_SHORTFALL (R215). -/
def execRegenerationShortfall (t : Time) (drv : Fin 2) (s : State) : Out := s.run t (regenerationShortfallEff drv)

end Sys2Proof.Machine
end

