-- ==== Sys2Proof/Machine/ExecEvents.lean ====
section
/-! DEFINITION. The commands of start-up and fault resets: each its effect, run at its instant. -/

namespace Sys2Proof.Machine

/-- POWER_UP_RESET_END (R442). -/
def execPowerUpResetEnd (t : Time) (b : BootInputs) (s : State) : Out := s.run t (powerUpResetEndEff b)

/-- CHANNEL_UPLINK_TIMEOUT (R444). -/
def execChannelUplinkTimeout (t : Time) (ch : Fin 12) (s : State) : Out := s.run t (channelUplinkTimeoutEff ch)

/-- FAULT_RESET (R449). -/
def execFaultReset (t : Time) (rq : Req) (s : State) : Out := s.run t (writeHere rq Key.faultReset [1])

end Sys2Proof.Machine
end

