-- ==== Sys2Proof/Machine/ExecGrove.lean ====
section
/-! DEFINITION. The commands of Canopy and groves: each its effect, run at its instant. -/

namespace Sys2Proof.Machine

/-- EMPTY_PACKET (R316). -/
def execEmptyPacket (t : Time) (port : Fin 2) (h : PacketHeader) (s : State) : Out := s.run t (emptyPacketEff port h)

/-- EMPTY_PACKET_TIMER (R316). -/
def execEmptyPacketTimer (t : Time) (port : Fin 2) (s : State) : Out := s.run t (emptyPacketTimerEff port)

/-- LINK_NAK (R316). -/
def execLinkNak (t : Time) (port : Fin 2) (k : NakKind) (s : State) : Out := s.run t (linkNakEff port k)

/-- REPLAY_TIMEOUT (R316). -/
def execReplayTimeout (t : Time) (port : Fin 2) (s : State) : Out := s.run t (replayTimeoutEff port)

/-- FORWARDED_PACKET (R319). -/
def execForwardedPacket (t : Time) (port : Fin 2) (h : PacketHeader) (payload : List Byte) (crc : BitVec 32) (s : State) : Out :=
  s.run t (forwardedPacketEff port h payload crc)

/-- CANOPY_LANE_DOWN (R312). -/
def execCanopyLaneDown (t : Time) (port : Fin 2) (lane : Fin 2) (s : State) : Out := s.run t (canopyLaneDownEff port lane)

/-- CANOPY_PORT_DOWN (R320). -/
def execCanopyPortDown (t : Time) (port : Fin 2) (since : Time) (s : State) : Out := s.run t (canopyPortDownEff port since)

/-- CANOPY_PORT_UP (R320). -/
def execCanopyPortUp (t : Time) (port : Fin 2) (neighbour : Fin 8) (idleSince : Time) (s : State) : Out :=
  s.run t (canopyPortUpEff port neighbour idleSince)

/-- PORT_SELF_CHECK (R320). -/
def execPortSelfCheck (t : Time) (port : Fin 2) (ok : Bool) (s : State) : Out := s.run t (portSelfCheckEff port ok)

/-- HELLO (R322). -/
def execHello (t : Time) (src : Fin 8) (h : Hello) (s : State) : Out := s.run t (helloEff src h)

/-- HELLO_TIMER (R322). -/
def execHelloTimer (t : Time) (s : State) : Out := s.run t (helloTimerEff)

/-- FORM_TIME_EXPIRY (R322). -/
def execFormTimeExpiry (t : Time) (s : State) : Out := s.run t (formTimeExpiryEff)

/-- JOIN_REQ (R323). -/
def execJoinReq (t : Time) (src : Fin 8) (h : Hello) (s : State) : Out := s.run t (joinReqEff src h)

/-- JOIN_ANSWER (R322). -/
def execJoinAnswer (t : Time) (code : BitVec 8) (map : BitVec 8) (period : Nat) (n tN : Nat) (bank : List (Nat × List Byte)) (s : State) : Out :=
  s.run t (joinAnswerEff code map period n tN bank)

/-- JOIN_RETRY (R323). -/
def execJoinRetry (t : Time) (s : State) : Out := s.run t (joinRetryEff)

/-- GROVE_BOUNDARY (R327). -/
def execGroveBoundary (t : Time) (s : State) : Out := s.run t (groveBoundaryEff)

/-- BOUNDARY (R327). -/
def execBoundary (t : Time) (src : Fin 8) (n tN : Nat) (map : BitVec 8) (mode : BitVec 8) (s : State) : Out := s.run t (boundaryEff src n tN map mode)

/-- LINK_STATE (R320). -/
def execLinkState (t : Time) (src : Fin 8) (east west : BitVec 8) (s : State) : Out := s.run t (linkStateEff src east west)

/-- SYNC (R325). -/
def execSync (t : Time) (src : Fin 8) (port : Fin 2) (tN corr : Nat) (s : State) : Out := s.run t (syncEff src port tN corr)

/-- LINK_DELAY_TIMER (R325). -/
def execLinkDelayTimer (t : Time) (s : State) : Out := s.run t (linkDelayTimerEff)

/-- DELAY_REQUEST (R325). -/
def execDelayRequest (t : Time) (port : Fin 2) (_t1 : Nat) (s : State) : Out := s.run t (delayRequestEff port)

/-- DELAY_RESPONSE (R325). -/
def execDelayResponse (t : Time) (port : Fin 2) (t1 t2 t3 : Nat) (s : State) : Out := s.run t (delayResponseEff port t1 t2 t3)

/-- STATUS (R328). -/
def execStatus (t : Time) (src : Fin 8) (st : StatusMsg) (s : State) : Out := s.run t (statusEff src st)

/-- MEMBER_LOST (R329). -/
def execMemberLost (t : Time) (pos : Fin 8) (s : State) : Out := s.run t (memberLostEff pos)

/-- LEADER_LOST (R330). -/
def execLeaderLost (t : Time) (s : State) : Out := s.run t (leaderLostEff)

/-- CLAIM (R330). -/
def execClaim (t : Time) (src : Fin 8) (selfCheck : Bool) (reach : BitVec 8) (holding : Nat) (relSeq relAmt : Nat) (s : State) : Out :=
  s.run t (claimEff src selfCheck reach holding relSeq relAmt)

/-- CLAIM_WINDOW_END (R330). -/
def execClaimWindowEnd (t : Time) (s : State) : Out := s.run t (claimWindowEndEff)

/-- TAKEOVER (R330). -/
def execTakeover (t : Time) (src : Fin 8) (n tN : Nat) (map : BitVec 8) (mode : BitVec 8) (nextSeq : Nat) (s : State) : Out :=
  s.run t (takeoverEff src n tN map mode nextSeq)

/-- SHARE (R340). -/
def execShare (t : Time) (src : Fin 8) (applyTime : Nat) (total : F32) (refs : List F32) (s : State) : Out :=
  s.run t (shareEff src applyTime total refs)

/-- GRANT (R333). -/
def execGrant (t : Time) (src : Fin 8) (sq amt : Nat) (s : State) : Out := s.run t (grantEff src sq amt)

/-- GRANT_ACK (R333). -/
def execGrantAck (t : Time) (src : Fin 8) (sq : Nat) (s : State) : Out := s.run t (grantAckEff src sq)

/-- RELEASE_REQ (R333). -/
def execReleaseReq (t : Time) (src : Fin 8) (sq amt : Nat) (s : State) : Out := s.run t (releaseReqEff src sq amt)

/-- RELEASE (R333). -/
def execRelease (t : Time) (src : Fin 8) (sq amt : Nat) (s : State) : Out := s.run t (releaseEff src sq amt)

/-- RELEASE_ACK (R333). -/
def execReleaseAck (t : Time) (src : Fin 8) (sq : Nat) (s : State) : Out := s.run t (releaseAckEff src sq)

/-- TRANSFER_RESEND (R333). -/
def execTransferResend (t : Time) (sq : Nat) (s : State) : Out := s.run t (transferResendEff sq)

/-- AUDIT_REPORT (R337). -/
def execAuditReport (t : Time) (src : Fin 8) (n holding lastSeq : Nat) (s : State) : Out := s.run t (auditReportEff src n holding lastSeq)

/-- AUDIT_DEADLINE (R337). -/
def execAuditDeadline (t : Time) (s : State) : Out := s.run t (auditDeadlineEff)

/-- LEASE_EXPIRY (R335). -/
def execLeaseExpiry (t : Time) (s : State) : Out := s.run t (leaseExpiryEff)

/-- EXPIRING_TOKENS_RETURN (R335). -/
def execExpiringTokensReturn (t : Time) (pos : Fin 8) (s : State) : Out := s.run t (expiringTokensReturnEff pos)

/-- TOKENS_TOTAL_WRITE (R332). -/
def execTokensTotalWrite (t : Time) (rq : Req) (total : Nat) (s : State) : Out := s.run t (writeHere rq Key.tokensTotal (beBytes 2 total))

/-- STAND_LEASE_EXPIRY (R344). -/
def execStandLeaseExpiry (t : Time) (s : State) : Out := s.run t (standLeaseExpiryEff)

/-- STAND_SILENT_GROVE_REASSIGN (R344). -/
def execStandSilentGroveReassign (t : Time) (grove : BitVec 8) (heard : Nat) (s : State) : Out :=
  s.run t (standSilentGroveReassignEff grove heard)

end Sys2Proof.Machine
end

