-- ==== Sys2Proof/Machine/ExecMachine.lean ====
section
/-! DEFINITION. The commands of machine control: each its effect, run at its instant. -/

namespace Sys2Proof.Machine

/-- PULSE_ENABLE (R175). -/
def execPulseEnable (t : Time) (set : Fin 2) (s : State) : Out := s.run t (pulseEnableEff set)

/-- REACQUIRE_TIMEOUT (R171). -/
def execReacquireTimeout (t : Time) (set : Fin 2) (s : State) : Out := s.run t (reacquireTimeoutEff set)

/-- SPEED_MEASUREMENT_DONE (R176). -/
def execSpeedMeasurementDone (t : Time) (set : Fin 2) (s : State) : Out := s.run t (speedMeasurementDoneEff set)

/-- PROBE_SCAN_DONE (R177). -/
def execProbeScanDone (t : Time) (set : Fin 2) (first : List F32) (second : List F32) (emf : F32) (s : State) : Out :=
  s.run t (probeScanDoneEff set first second emf)

/-- REMEASURE (R180). -/
def execRemeasure (t : Time) (set : Fin 2) (s : State) : Out := s.run t (remeasureEff set)

/-- START_WAIT_EXPIRED (R180). -/
def execStartWaitExpired (t : Time) (set : Fin 2) (s : State) : Out := s.run t (startWaitExpiredEff set)

/-- POLARITY_PULSE_END (R167). -/
def execPolarityPulseEnd (t : Time) (set : Fin 2) (s : State) : Out := s.run t (polarityPulseEndEff set)

/-- NEUTRAL_POINT_DEVIATION (R160). -/
def execNeutralPointDeviation (t : Time) (set : Fin 2) (s : State) : Out := s.run t (neutralPointDeviationEff set)

end Sys2Proof.Machine
end

