-- ==== Sys2Proof/Machine/ExecNetwork.lean ====
section
/-! DEFINITION. The commands of the field network: each its effect, run at its instant. -/

namespace Sys2Proof.Machine

/-- FORWARDED_REQUEST (R366). -/
def execForwardedRequest (t : Time) (src : Fin 8) (answer : Bool) (role : Fin 5) (pdu : List Byte) (s : State) : Out :=
  s.run t (forwardedRequestEff src answer role pdu)

/-- FORWARD_TIMEOUT (R366). -/
def execForwardTimeout (t : Time) (rq : Req) (s : State) : Out := s.run t (forwardTimeoutEff rq)

/-- ETHERNET_PORT_DOWN (R350). -/
def execEthernetPortDown (t : Time) (port : Fin 2) (s : State) : Out := s.run t (ethernetPortDownEff port)

/-- ETHERNET_PORT_UP (R350). -/
def execEthernetPortUp (t : Time) (port : Fin 2) (speed : Fin 3) (full : Bool) (s : State) : Out :=
  s.run t (ethernetPortUpEff port speed full)

/-- FRAME_FORWARD (R351). -/
def execFrameForward (t : Time) (port : Fin 2) (frame : List Byte) (s : State) : Out := s.run t (frameForwardEff port frame)

/-- MRP_FRAME (R352). -/
def execMrpFrame (t : Time) (port : Fin 2) (k : MrpKind) (s : State) : Out := s.run t (mrpFrameEff port k)

/-- GPTP_SYNC (R354). -/
def execGptpSync (t : Time) (gm : BitVec 64) (time : Nat) (s : State) : Out := s.run t (gptpSyncEff gm time)

/-- GPTP_SYNC_TIMEOUT (R354). -/
def execGptpSyncTimeout (t : Time) (s : State) : Out := s.run t (gptpSyncTimeoutEff)

/-- GATE_CONTROL_CHANGE (R356). -/
def execGateControlChange (t : Time) (port : Fin 2) (s : State) : Out := s.run t (gateControlChangeEff port)

/-- PROCESS_DATA (R369). -/
def execProcessData (t : Time) (src : Source) (counter : BitVec 16) (body : List Byte) (s : State) : Out := s.run t (processDataEff src counter body)

/-- NETWORK_BOUNDARY (R368). -/
def execNetworkBoundary (t : Time) (s : State) : Out := s.run t (networkBoundaryEff)

/-- PD_TRANSMIT (R370). -/
def execPdTransmit (t : Time) (s : State) : Out := s.run t (pdTransmitEff)

/-- PROCESS_DATA_TIMEOUT (R371). -/
def execProcessDataTimeout (t : Time) (s : State) : Out := s.run t (processDataTimeoutEff)

/-- PD_CONTROL (R369). -/
def execPdControl (t : Time) (rq : Req) (run : Bool) (s : State) : Out := s.run t (writeHere rq Key.pdControl [if run then 1 else 0])

/-- READ (R365). -/
def execRead (t : Time) (rq : Req) (unit : BitVec 48) (index : BitVec 16) (sub : BitVec 8) (shadow : Bool) (s : State) : Out :=
  s.run t (readEff rq unit (index.toNat * 256 + sub.toNat) shadow)

/-- WRITE (R365). -/
def execWrite (t : Time) (rq : Req) (unit : BitVec 48) (index : BitVec 16) (sub : BitVec 8) (value : List Byte) (s : State) : Out :=
  s.run t (writeEff rq unit (index.toNat * 256 + sub.toNat) value)

/-- CONNECT (R361). -/
def execConnect (t : Time) (rq : Req) (sub : BitVec 8) (name : List Byte) (s : State) : Out := s.run t (connectEff rq sub name)

/-- LOGIN_STEP_1 (R362). -/
def execLoginStep1 (t : Time) (rq : Req) (role : BitVec 8) (s : State) : Out := s.run t (loginStep1Eff rq role)

/-- LOGIN_STEP_2 (R362). -/
def execLoginStep2 (t : Time) (rq : Req) (proof : List Byte) (s : State) : Out := s.run t (loginStep2Eff rq proof)

/-- LOGIN_BLOCK_END (R362). -/
def execLoginBlockEnd (t : Time) (src : Source) (s : State) : Out := s.run t (loginBlockEndEff src)

/-- LOGOUT (R362). -/
def execLogout (t : Time) (rq : Req) (s : State) : Out := s.run t (logoutEff rq)

/-- MALFORMED_PDU (R358). -/
def execMalformedPdu (t : Time) (pdu : List Byte) (s : State) : Out := s.run t (malformedPduEff pdu)

/-- ARP_REQUEST (R357). -/
def execArpRequest (t : Time) (ip : BitVec 32) (mac : BitVec 48) (asker : BitVec 32) (s : State) : Out :=
  s.run t (arpRequestEff ip mac asker)

/-- ICMP_ECHO (R357). -/
def execIcmpEcho (t : Time) (src : BitVec 32) (data : List Byte) (s : State) : Out := s.run t (icmpEchoEff src data)

/-- CONNECTION_TIMEOUT (R364). -/
def execConnectionTimeout (t : Time) (handle : BitVec 16) (s : State) : Out := s.run t (connectionTimeoutEff handle)

/-- SESSION_OPEN (R376). -/
def execSessionOpen (t : Time) (rq : Req) (o : OpenArgs) (s : State) : Out := s.run t (sessionOpenEff rq o)

/-- SESSION_DATA (R377). -/
def execSessionData (t : Time) (rq : Req) (sid : BitVec 32) (sq : BitVec 16) (offset : Nat) (data : List Byte) (s : State) : Out :=
  s.run t (sessionDataEff rq sid sq offset data)

/-- SESSION_ACK (R378). -/
def execSessionAck (t : Time) (rq : Req) (sid : BitVec 32) (next : BitVec 16) (s : State) : Out := s.run t (sessionAckEff rq sid next)

/-- SESSION_NAK (R378). -/
def execSessionNak (t : Time) (rq : Req) (sid : BitVec 32) (next : BitVec 16) (s : State) : Out := s.run t (sessionNakEff rq sid next)

/-- SESSION_FINISH (R379). -/
def execSessionFinish (t : Time) (rq : Req) (sid : BitVec 32) (s : State) : Out := s.run t (sessionFinishEff rq sid)

/-- SESSION_ABORT (R382). -/
def execSessionAbort (t : Time) (rq : Req) (sid : BitVec 32) (_code : BitVec 8) (s : State) : Out := s.run t (sessionAbortEff rq sid)

/-- SESSION_RETRY_TIMEOUT (R378). -/
def execSessionRetryTimeout (t : Time) (sid : BitVec 32) (s : State) : Out := s.run t (sessionRetryTimeoutEff sid)

/-- SESSION_IDLE_TIMEOUT (R380). -/
def execSessionIdleTimeout (t : Time) (sid : BitVec 32) (s : State) : Out := s.run t (sessionIdleTimeoutEff sid)

/-- FW_ACTIVATE (R385). -/
def execFwActivate (t : Time) (rq : Req) (slot : Fin 2) (s : State) : Out := s.run t (writeHere rq Key.fwActivate [BitVec.ofNat 8 slot.1])

/-- FW_CONFIRM (R385). -/
def execFwConfirm (t : Time) (rq : Req) (s : State) : Out := s.run t (writeHere rq Key.fwConfirm [1])

/-- USB_ATTACH (R387). -/
def execUsbAttach (t : Time) (s : State) : Out := s.run t (usbAttachEff)

/-- USB_DETACH (R387). -/
def execUsbDetach (t : Time) (s : State) : Out := s.run t (usbDetachEff)

/-- GPTP_ANNOUNCE (R354). -/
def execGptpAnnounce (t : Time) (gm : BitVec 64) (better : Bool) (s : State) : Out := s.run t (gptpAnnounceEff gm better)

/-- GROVE_FIRMWARE_SLOT_VALID (R385). -/
def execGroveFirmwareSlotValid (t : Time) (src : Fin 8) (s : State) : Out := s.run t (groveFirmwareSlotValidEff src)

end Sys2Proof.Machine
end

