-- ==== Sys2Proof/Machine/ExecObjects.lean ====
section
/-! DEFINITION. The commands of the object dictionary and its banks: each its effect, run at its instant. -/

namespace Sys2Proof.Machine

/-- BANK_STORE (R407). -/
def execBankStore (t : Time) (rq : Req) (n : Fin 4) (s : State) : Out := s.run t (writeHere rq Key.bankStore [BitVec.ofNat 8 n.1])

/-- BANK_ACTIVATE (R409). -/
def execBankActivate (t : Time) (rq : Req) (n : Fin 4) (s : State) : Out := s.run t (writeHere rq Key.bankActivate [BitVec.ofNat 8 n.1])

/-- BANK_RESTORE_DEFAULTS (R408). -/
def execBankRestoreDefaults (t : Time) (rq : Req) (s : State) : Out := s.run t (writeHere rq Key.bankRestoreDefaults [1])

/-- BANK_ERASE (R409). -/
def execBankErase (t : Time) (rq : Req) (n : Fin 4) (s : State) : Out := s.run t (writeHere rq Key.bankErase [BitVec.ofNat 8 n.1])

/-- ENTRY_WRITE (R395). -/
def execEntryWrite (t : Time) (rq : Req) (index : BitVec 16) (sub : BitVec 8) (value : List Byte) (s : State) : Out :=
  s.run t (writeHere rq (index.toNat * 256 + sub.toNat) value)

end Sys2Proof.Machine
end

