-- ==== Sys2Proof/Machine/ExecPower.lean ====
section
/-! DEFINITION. The commands of supplies, sleep, the Lantern, heat and non-volatile memory: each its effect, run at its instant. -/

namespace Sys2Proof.Machine

/-- LANE_SUPPLY_FAULT (R415). -/
def execLaneSupplyFault (t : Time) (lane : Lane) (volts : F32) (since : Time) (s : State) : Out :=
  s.run t (laneSupplyFaultEff lane volts since)

/-- LANE_RAIL_RESTORED (R415). -/
def execLaneRailRestored (t : Time) (lane : Lane) (volts : F32) (since : Time) (s : State) : Out :=
  s.run t (laneRailRestoredEff lane volts since)

/-- LANE_RAIL_MISMATCH (R415). -/
def execLaneRailMismatch (t : Time) (a b c : F32) (since : Time) (s : State) : Out := s.run t (laneRailMismatchEff a b c since)

/-- MAIN_RAIL_FAULT (R416). -/
def execMainRailFault (t : Time) (rail : MainRail) (volts : F32) (since : Time) (s : State) : Out :=
  s.run t (mainRailFaultEff rail volts since)

/-- ANALOG_SUPPLY_FAULT (R416). -/
def execAnalogSupplyFault (t : Time) (volts : F32) (since : Time) (s : State) : Out :=
  s.run t (analogSupplyFaultEff volts since)

/-- ANALOG_SUPPLY_RESTORED (R416). -/
def execAnalogSupplyRestored (t : Time) (volts : F32) (since : Time) (s : State) : Out :=
  s.run t (analogSupplyRestoredEff volts since)

/-- PHY_SUPPLY_FAULT (R416). -/
def execPhySupplyFault (t : Time) (rail : Fin 2) (volts : F32) (since : Time) (s : State) : Out :=
  s.run t (phySupplyFaultEff rail volts since)

/-- MAIN_RAILS_FAILED_TO_START (R414). -/
def execMainRailsFailedToStart (t : Time) (s : State) : Out := s.run t (mainRailsFailedToStartEff)

/-- MAIN_RAILS_RETRY (R414). -/
def execMainRailsRetry (t : Time) (s : State) : Out := s.run t (mainRailsRetryEff)

/-- POWER_FAIL (R417). -/
def execPowerFail (t : Time) (cause : PowerFailCause) (since : Time) (s : State) : Out := s.run t (powerFailEff cause since)

/-- SLEEP_REQUEST (R418). -/
def execSleepRequest (t : Time) (rq : Req) (s : State) : Out := s.run t (writeHere rq Key.powerSleepRequest [1])

/-- IDLE_SLEEP_TIMEOUT (R418). -/
def execIdleSleepTimeout (t : Time) (s : State) : Out := s.run t (idleSleepTimeoutEff)

/-- LANTERN_POWER_ON_RESET (R421). -/
def execLanternPowerOnReset (t : Time) (s : State) : Out := s.run t (lanternPowerOnResetEff)

/-- LANTERN_SAMPLE (R421). -/
def execLanternSample (t : Time) (ls : LanternInputs) (s : State) : Out := s.run t (lanternSampleEff ls)

/-- LANTERN_ACKNOWLEDGE (R427). -/
def execLanternAcknowledge (t : Time) (rq : Req) (s : State) : Out := s.run t (writeHere rq Key.lanternAcknowledge [1])

/-- TEMPERATURE_READING (R429). -/
def execTemperatureReading (t : Time) (sensor : TempSensor) (temp : F32) (s : State) : Out :=
  s.run t (temperatureReadingEff sensor temp)

/-- NV_RECORD_COMPLETE (R436). -/
def execNvRecordComplete (t : Time) (s : State) : Out := s.run t (nvRecordCompleteEff)

/-- NV_SCRUB (R435). -/
def execNvScrub (t : Time) (corrected : Nat) (bad : List Nat) (s : State) : Out := s.run t (nvScrubEff corrected bad)

/-- PHY_SUPPLY_RESTORED (R416). -/
def execPhySupplyRestored (t : Time) (rail : Fin 2) (volts : F32) (s : State) : Out := s.run t (phySupplyRestoredEff rail volts)

/-- POWER_FAIL_RELEASED (R417). -/
def execPowerFailReleased (t : Time) (s : State) : Out := s.run t (powerFailReleasedEff)

/-- GROVE_SLEEP_ORDER (R418). -/
def execGroveSleepOrder (t : Time) (src : Fin 8) (n : Nat) (s : State) : Out := s.run t (groveSleepOrderEff src n)

/-- GROVE_SLEEP_REFUSAL (R418). -/
def execGroveSleepRefusal (t : Time) (src : Fin 8) (s : State) : Out := s.run t (groveSleepRefusalEff src)

end Sys2Proof.Machine
end

