-- ==== Sys2Proof/Machine/ExecSafety.lean ====
section
/-! DEFINITION. The commands of safety: each its effect, run at its instant. -/

namespace Sys2Proof.Machine

/-- SAFE_OUTPUT_WATCHDOG (R263). -/
def execSafeOutputWatchdog (t : Time) (voter : Voter) (s : State) : Out := s.run t (safeOutputWatchdogEff voter)

/-- SAFE_STATE_BRAKE_DELAY (R282). -/
def execSafeStateBrakeDelay (t : Time) (brake : Fin 2) (voter : Voter) (s : State) : Out := s.run t (safeStateBrakeDelayEff brake voter)

/-- SAFE_OUTPUT_TOKEN (R263). -/
def execSafeOutputToken (t : Time) (payload : BitVec 64) (s : State) : Out := s.run t (safeOutputTokenEff payload)

/-- DARK_PULSE_START (R265). -/
def execDarkPulseStart (t : Time) (tp : Fin 2) (s : State) : Out := s.run t (darkPulseStartEff tp)

/-- DARK_PULSE_END (R267). -/
def execDarkPulseEnd (t : Time) (tp : Fin 2) (rd : List DarkReading) (s : State) : Out := s.run t (darkPulseEndEff tp rd)

/-- SAFE_INPUT_CHANNEL_DEMAND (R266). -/
def execSafeInputChannelDemand (t : Time) (si : Fin 6) (ch : Fin 2) (since : Time) (s : State) : Out :=
  s.run t (safeInputChannelDemandEff si ch since)

/-- SAFE_INPUT_CHANNEL_CLEAR (R266). -/
def execSafeInputChannelClear (t : Time) (si : Fin 6) (ch : Fin 2) (since : Time) (s : State) : Out :=
  s.run t (safeInputChannelClearEff si ch since)

/-- SAFE_INPUT_DISCREPANCY (R269). -/
def execSafeInputDiscrepancy (t : Time) (si : Fin 6) (s : State) : Out := s.run t (safeInputDiscrepancyEff si)

/-- SAFE_INPUT_STATE_KNOWN (R485). -/
def execSafeInputStateKnown (t : Time) (si : Fin 6) (s : State) : Out := s.run t (safeInputStateKnownEff si)

/-- STO_FEED_DISCHARGED (R273). -/
def execStoFeedDischarged (t : Time) (fbn : Bool) (s : State) : Out := s.run t (stoFeedDischargedEff fbn)

/-- STO_RELEASE_STEP (R273). -/
def execStoReleaseStep (t : Time) (fbp fbn : Bool) (s : State) : Out := s.run t (stoReleaseStepEff fbp fbn)

/-- STO_DISCHARGE_TIMEOUT (R274). -/
def execStoDischargeTimeout (t : Time) (s : State) : Out := s.run t (stoDischargeTimeoutEff)

/-- STO_FEEDBACK_DEVIATION (R275). -/
def execStoFeedbackDeviation (t : Time) (fbp fbn : Bool) (since : Time) (s : State) : Out :=
  s.run t (stoFeedbackDeviationEff fbp fbn since)

/-- SS1_STANDSTILL (R277). -/
def execSs1Standstill (t : Time) (drv : Fin 2) (s : State) : Out := s.run t (ss1StandstillEff drv)

/-- SS1_TIME_ELAPSED (R278). -/
def execSs1TimeElapsed (t : Time) (drv : Fin 2) (s : State) : Out := s.run t (ss1TimeElapsedEff drv)

/-- BRAKE_APPLY_TIME_END (R280). -/
def execBrakeApplyTimeEnd (t : Time) (drv : Fin 2) (s : State) : Out := s.run t (brakeApplyTimeEndEff drv)

/-- BRAKE_RELEASE_CHECK (R283). -/
def execBrakeReleaseCheck (t : Time) (brake : Fin 2) (isns : F32) (fbp fbn : Bool) (s : State) : Out :=
  s.run t (brakeReleaseCheckEff brake isns fbp fbn)

/-- BRAKE_HOLD_FAULT (R283). -/
def execBrakeHoldFault (t : Time) (brake : Fin 2) (isns : F32) (since : Time) (s : State) : Out :=
  s.run t (brakeHoldFaultEff brake isns since)

/-- BRAKE_OVERCURRENT (R283). -/
def execBrakeOvercurrent (t : Time) (brake : Fin 2) (isns : F32) (s : State) : Out := s.run t (brakeOvercurrentEff brake isns)

/-- BRAKE_APPLY_CHECK (R283). -/
def execBrakeApplyCheck (t : Time) (brake : Fin 2) (isns : F32) (fbp : Bool) (s : State) : Out := s.run t (brakeApplyCheckEff brake isns fbp)

/-- BRAKE_SWITCH_TEST (R284). -/
def execBrakeSwitchTest (t : Time) (brake : Fin 2) (s : State) : Out := s.run t (brakeSwitchTestEff brake)

/-- BRAKE_TEST_PULSE_END (R284). -/
def execBrakeTestPulseEnd (t : Time) (brake : Fin 2) (fbp fbn : Bool) (s : State) : Out := s.run t (brakeTestPulseEndEff brake fbp fbn)

/-- SBT_RUN (R285). -/
def execSbtRun (t : Time) (rq : Req) (brake : Fin 2) (s : State) : Out := s.run t (writeHere rq (Key.sbtRun brake.1) [1])

/-- SBT_PHASE_END (R286). -/
def execSbtPhaseEnd (t : Time) (brake : Fin 2) (s : State) : Out := s.run t (sbtPhaseEndEff brake)

/-- SBT_DUE (R288). -/
def execSbtDue (t : Time) (brake : Fin 2) (s : State) : Out := s.run t (sbtDueEff brake)

/-- BRAKE_TEST_OVERDUE (R288). -/
def execBrakeTestOverdue (t : Time) (brake : Fin 2) (s : State) : Out := s.run t (brakeTestOverdueEff brake)

/-- RSTBTN_DEBOUNCED (R290). -/
def execRstbtnDebounced (t : Time) (closed : Bool) (s : State) : Out := s.run t (rstbtnDebouncedEff closed)

/-- RESET_HELD (R290). -/
def execResetHeld (t : Time) (s : State) : Out := s.run t (resetHeldEff)

/-- SEAL_CONFIRM (R296). -/
def execSealConfirm (t : Time) (rq : Req) (value : BitVec 32) (s : State) : Out :=
  s.run t (writeHere rq Key.safetySealConfirm (beBytes 4 value.toNat))

/-- SEAL_CONFIRMATION_EXPIRED (R296). -/
def execSealConfirmationExpired (t : Time) (s : State) : Out := s.run t (sealConfirmationExpiredEff)

/-- ISF_FRAME (R303). -/
def execIsfFrame (t : Time) (conn : Fin 4) (frame : List Byte) (s : State) : Out := s.run t (isfFrameEff conn frame)

/-- ISF_TIMEOUT (R303). -/
def execIsfTimeout (t : Time) (conn : Fin 4) (s : State) : Out := s.run t (isfTimeoutEff conn)

/-- ISF_PRODUCER_CYCLE (R304). -/
def execIsfProducerCycle (t : Time) (conn : Fin 4) (s : State) : Out := s.run t (isfProducerCycleEff conn)

/-- GROVE_STOP_DEMAND (R306). -/
def execGroveStopDemand (t : Time) (aLow bLow : Bool) (since : Time) (s : State) : Out :=
  s.run t (groveStopDemandEff aLow bLow since)

/-- GROVE_STOP_LINE_FAULT (R306). -/
def execGroveStopLineFault (t : Time) (line : Fin 2) (s : State) : Out := s.run t (groveStopLineFaultEff line)

/-- GROVE_STOP_LINE_TEST_STEP (R307). -/
def execGroveStopLineTestStep (t : Time) (reads : List (Bool × Bool)) (s : State) : Out :=
  s.run t (groveStopLineTestStepEff reads)

/-- GROVE_STOP_LINES_RELEASED (R306). -/
def execGroveStopLinesReleased (t : Time) (s : State) : Out := s.run t (groveStopLinesReleasedEff)

/-- FALLBACK_SWITCHES_CHANGED (R299). -/
def execFallbackSwitchesChanged (t : Time) (s : State) : Out := s.run t (fallbackSwitchesChangedEff)

end Sys2Proof.Machine
end

