-- ==== Sys2Proof/Machine/ExecSensing.lean ====
section
/-! DEFINITION. The commands of sensing: each its effect, run at its instant. -/

namespace Sys2Proof.Machine

/-- FAST_COMPARATOR_TRIP (R79). -/
def execFastComparatorTrip (t : Time) (set : Fin 2) (input : Fin 6) (high : Bool) (bits : List Bool) (s : State) : Out :=
  s.run t (fastComparatorTripEff set input high bits)

/-- MODULATOR_STREAM_DEAD (R89). -/
def execModulatorStreamDead (t : Time) (set : Fin 2) (input : Fin 6) (last : Time) (s : State) : Out :=
  s.run t (modulatorStreamDeadEff set input last)

/-- MODULATOR_STREAM_RESTORED (R90). -/
def execModulatorStreamRestored (t : Time) (set : Fin 2) (input : Fin 6) (bits : List Bool) (s : State) : Out :=
  s.run t (modulatorStreamRestoredEff set input bits)

/-- TERMINAL_MEASUREMENT_DONE (R91). -/
def execTerminalMeasurementDone (t : Time) (set : Fin 2) (stream : List (F32 × F32)) (s : State) : Out :=
  s.run t (terminalMeasurementDoneEff set stream)

/-- INDEX_PULSE (R97). -/
def execIndexPulse (t : Time) (pi : Fin 2) (s : State) : Out := s.run t (indexPulseEff pi)

/-- POSITION_WIRE_BREAK (R97). -/
def execPositionWireBreak (t : Time) (pi : Fin 2) (pair : Fin 3) (volts : F32) (dur : Nat) (samples : Vector (F32 × F32) 3) (s : State) : Out :=
  s.run t (positionWireBreakEff pi pair volts dur samples)

/-- POSITION_COUNT_ERROR (R97). -/
def execPositionCountError (t : Time) (pi : Fin 2) (gap : Nat) (s : State) : Out := s.run t (positionCountErrorEff pi gap)

/-- RESOLVER_EXCITATION_OPEN (R97). -/
def execResolverExcitationOpen (t : Time) (pi : Fin 2) (rms : F32) (dur : Nat) (s : State) : Out :=
  s.run t (resolverExcitationOpenEff pi rms dur)

/-- RESOLVER_TRACKING_LOSS (R97). -/
def execResolverTrackingLoss (t : Time) (pi : Fin 2) (pair : F32 × F32) (s : State) : Out :=
  s.run t (resolverTrackingLossEff pi pair)

/-- EXCITATION_SETTLE_END (R95). -/
def execExcitationSettleEnd (t : Time) (pi : Fin 2) (s : State) : Out := s.run t (excitationSettleEndEff pi)

/-- AIN_CONVERSION (R99). -/
def execAinConversion (t : Time) (ain : Fin 8) (raw : F32) (s : State) : Out := s.run t (ainConversionEff ain raw)

/-- LEVER_TRACK_DISCREPANCY (R101). -/
def execLeverTrackDiscrepancy (t : Time) (pair : Fin 4) (s : State) : Out := s.run t (leverTrackDiscrepancyEff pair)

/-- LEVER_PAIR_AGREED (R101). -/
def execLeverPairAgreed (t : Time) (pair : Fin 4) (s : State) : Out := s.run t (leverPairAgreedEff pair)

/-- ENCODER_EDGE (R93). -/
def execEncoderEdge (t : Time) (pi : Fin 2) (forward : Bool) (lantern : Bool) (stable : Nat) (s : State) : Out :=
  s.run t (encoderEdgeEff pi forward lantern stable)

end Sys2Proof.Machine
end

