-- ==== Sys2Proof/Machine/ExecTimebase.lean ====
section
/-! DEFINITION. The commands of timebase, carriers and boundaries: each its effect, run at its instant. -/

namespace Sys2Proof.Machine

/-- DUTY_TOKEN (R62). -/
def execDutyToken (t : Time) (set : Fin 2) (leg : Fin 3) (slot : Bool) (compare : BitVec 32) (duty : F32) (s : State) : Out :=
  s.run t (dutyTokenEff set leg slot compare duty)

/-- PLL_LOCK_LOSS (R55). -/
def execPllLockLoss (t : Time) (s : State) : Out := s.run t (pllLockLossEff)

/-- LANTERN_RATE_CHECK (R55). -/
def execLanternRateCheck (t : Time) (ticksNs : Nat) (s : State) : Out := s.run t (lanternRateCheckEff ticksNs)

/-- LANTERN_TICK_MISSING (R55). -/
def execLanternTickMissing (t : Time) (s : State) : Out := s.run t (lanternTickMissingEff)

/-- CARRIER_VALLEY (R56). -/
def execCarrierValley (t : Time) (set : Fin 2) (s : State) : Out := s.run t (carrierValleyEff set)

/-- CARRIER_PEAK (R57). -/
def execCarrierPeak (t : Time) (set : Fin 2) (s : State) : Out := s.run t (carrierPeakEff set)

/-- LEG_EDGE (R62). -/
def execLegEdge (t : Time) (set : Fin 2) (leg : Fin 3) (s : State) : Out := s.run t (legEdgeEff set leg)

/-- DEAD_TIME_ELAPSED (R60). -/
def execDeadTimeElapsed (t : Time) (set : Fin 2) (leg : Fin 3) (s : State) : Out := s.run t (deadTimeElapsedEff set leg)

/-- COMMIT_NEXT_BOUNDARY (R70). -/
def execCommitNextBoundary (t : Time) (rq : Req) (s : State) : Out := s.run t (writeHere rq Key.commitRequest [1])

/-- COMMIT_AT_BOUNDARY (R70). -/
def execCommitAtBoundary (t : Time) (rq : Req) (s : State) : Out := s.run t (writeHere rq Key.commitRequest [2])

/-- DISCARD_SHADOW_BANK (R70). -/
def execDiscardShadowBank (t : Time) (rq : Req) (s : State) : Out := s.run t (writeHere rq Key.commitRequest [3])

/-- HISTOGRAM_CLEAR (R52). -/
def execHistogramClear (t : Time) (rq : Req) (set : Fin 2) (s : State) : Out := s.run t (writeHere rq (Key.histogramClear set.1) [1])

/-- GROVE_COMMIT_PREPARE (R72). -/
def execGroveCommitPrepare (t : Time) (dom : Dom) (s : State) : Out := s.run t (groveCommitPrepareEff dom)

/-- PREPARE_ANSWER (R72). -/
def execPrepareAnswer (t : Time) (pos : Fin 8) (dom : Dom) (ok : Bool) (s : State) : Out := s.run t (prepareAnswerEff pos dom ok)

/-- PREPARE_TIMEOUT (R72). -/
def execPrepareTimeout (t : Time) (pos : Fin 8) (dom : Dom) (s : State) : Out := s.run t (prepareTimeoutEff pos dom)

/-- GROVE_COMMIT (R72). -/
def execGroveCommit (t : Time) (dom : Dom) (n : Nat) (s : State) : Out := s.run t (groveCommitEff dom n)

/-- PREPARE_LAPSE (R73). -/
def execPrepareLapse (t : Time) (dom : Dom) (s : State) : Out := s.run t (prepareLapseEff dom)

end Sys2Proof.Machine
end

