-- ==== Sys2Proof/Machine/Dispatch.lean ====
section
/-! DEFINITION. One arm per command, each a direct call of its meaning. -/

namespace Sys2Proof.Machine

/-- A command's effect on everything but the queue. -/
def exec (i : Instr) (s : State) : Host.Outcome State Fault Refusal :=
  match i with
  | .inputFanoutDelivery t words upsets => Sys2Proof.Machine.execInputFanoutDelivery t words upsets s
  | .laneSelfDissent t lane => Sys2Proof.Machine.execLaneSelfDissent t lane s
  | .tokenArrival t lane tok refl => Sys2Proof.Machine.execTokenArrival t lane tok refl s
  | .agreementWindowClose t v refl => Sys2Proof.Machine.execAgreementWindowClose t v refl s
  | .contentCopyComplete t v content => Sys2Proof.Machine.execContentCopyComplete t v content s
  | .controlCycleBoundary t calib exercised dirty => Sys2Proof.Machine.execControlCycleBoundary t calib exercised dirty s
  | .resyncFailed t lane => Sys2Proof.Machine.execResyncFailed t lane s
  | .signatureComplete t lane refl => Sys2Proof.Machine.execSignatureComplete t lane refl s
  | .dissentEntryExpiry t lane => Sys2Proof.Machine.execDissentEntryExpiry t lane s
  | .deadStateScrub t => Sys2Proof.Machine.execDeadStateScrub t s
  | .safeOutputWatchdog t voter => Sys2Proof.Machine.execSafeOutputWatchdog t voter s
  | .safeStateBrakeDelay t brake voter => Sys2Proof.Machine.execSafeStateBrakeDelay t brake voter s
  | .dutyToken t set leg slot compare duty => Sys2Proof.Machine.execDutyToken t set leg slot compare duty s
  | .safeOutputToken t payload => Sys2Proof.Machine.execSafeOutputToken t payload s
  | .switchRelease t ch => Sys2Proof.Machine.execSwitchRelease t ch s
  | .offWithOffProfile t ch => Sys2Proof.Machine.execOffWithOffProfile t ch s
  | .softOff t ch => Sys2Proof.Machine.execSoftOff t ch s
  | .staticOn t ch => Sys2Proof.Machine.execStaticOn t ch s
  | .duskInjection05Ma t ch => Sys2Proof.Machine.execDuskInjection05Ma t ch s
  | .duskInjection2Ma t ch => Sys2Proof.Machine.execDuskInjection2Ma t ch s
  | .duskInjectionStop t ch => Sys2Proof.Machine.execDuskInjectionStop t ch s
  | .clearFaultLatches t ch persists => Sys2Proof.Machine.execClearFaultLatches t ch persists s
  | .resetAdaptedProfile t ch => Sys2Proof.Machine.execResetAdaptedProfile t ch s
  | .invalidCommand t ch code => Sys2Proof.Machine.execInvalidCommand t ch code s
  | .safeStateCommand t ch => Sys2Proof.Machine.execSafeStateCommand t ch s
  | .powerUpResetEnd t b => Sys2Proof.Machine.execPowerUpResetEnd t b s
  | .pllLockLoss t => Sys2Proof.Machine.execPllLockLoss t s
  | .lanternRateCheck t ticksNs => Sys2Proof.Machine.execLanternRateCheck t ticksNs s
  | .lanternTickMissing t => Sys2Proof.Machine.execLanternTickMissing t s
  | .carrierValley t set => Sys2Proof.Machine.execCarrierValley t set s
  | .carrierPeak t set => Sys2Proof.Machine.execCarrierPeak t set s
  | .sampleArrival t set smp => Sys2Proof.Machine.execSampleArrival t set smp s
  | .computationComplete t set lane => Sys2Proof.Machine.execComputationComplete t set lane s
  | .outerComputationComplete t lane => Sys2Proof.Machine.execOuterComputationComplete t lane s
  | .legEdge t set leg => Sys2Proof.Machine.execLegEdge t set leg s
  | .deadTimeElapsed t set leg => Sys2Proof.Machine.execDeadTimeElapsed t set leg s
  | .pulseEnable t set => Sys2Proof.Machine.execPulseEnable t set s
  | .commitNextBoundary t rq => Sys2Proof.Machine.execCommitNextBoundary t rq s
  | .commitAtBoundary t rq => Sys2Proof.Machine.execCommitAtBoundary t rq s
  | .discardShadowBank t rq => Sys2Proof.Machine.execDiscardShadowBank t rq s
  | .histogramClear t rq set => Sys2Proof.Machine.execHistogramClear t rq set s
  | .groveCommitPrepare t dom => Sys2Proof.Machine.execGroveCommitPrepare t dom s
  | .prepareAnswer t pos dom ok => Sys2Proof.Machine.execPrepareAnswer t pos dom ok s
  | .prepareTimeout t pos dom => Sys2Proof.Machine.execPrepareTimeout t pos dom s
  | .groveCommit t dom n => Sys2Proof.Machine.execGroveCommit t dom n s
  | .prepareLapse t dom => Sys2Proof.Machine.execPrepareLapse t dom s
  | .fastComparatorTrip t set input high bits => Sys2Proof.Machine.execFastComparatorTrip t set input high bits s
  | .modulatorStreamDead t set input last => Sys2Proof.Machine.execModulatorStreamDead t set input last s
  | .modulatorStreamRestored t set input bits => Sys2Proof.Machine.execModulatorStreamRestored t set input bits s
  | .terminalMeasurementDone t set stream => Sys2Proof.Machine.execTerminalMeasurementDone t set stream s
  | .indexPulse t pi => Sys2Proof.Machine.execIndexPulse t pi s
  | .positionWireBreak t pi pair volts dur samples => Sys2Proof.Machine.execPositionWireBreak t pi pair volts dur samples s
  | .positionCountError t pi gap => Sys2Proof.Machine.execPositionCountError t pi gap s
  | .resolverExcitationOpen t pi rms dur => Sys2Proof.Machine.execResolverExcitationOpen t pi rms dur s
  | .resolverTrackingLoss t pi pair => Sys2Proof.Machine.execResolverTrackingLoss t pi pair s
  | .excitationSettleEnd t pi => Sys2Proof.Machine.execExcitationSettleEnd t pi s
  | .ainConversion t ain raw => Sys2Proof.Machine.execAinConversion t ain raw s
  | .leverTrackDiscrepancy t pair => Sys2Proof.Machine.execLeverTrackDiscrepancy t pair s
  | .leverPairAgreed t pair => Sys2Proof.Machine.execLeverPairAgreed t pair s
  | .dutyStall t set => Sys2Proof.Machine.execDutyStall t set s
  | .swapForced t dom group => Sys2Proof.Machine.execSwapForced t dom group s
  | .historyReset t rq slot => Sys2Proof.Machine.execHistoryReset t rq slot s
  | .echoStart t rq => Sys2Proof.Machine.execEchoStart t rq s
  | .echoAbort t rq => Sys2Proof.Machine.execEchoAbort t rq s
  | .echoSettleEnd t => Sys2Proof.Machine.execEchoSettleEnd t s
  | .echoPointComplete t => Sys2Proof.Machine.execEchoPointComplete t s
  | .echoStep t => Sys2Proof.Machine.execEchoStep t s
  | .echoDurationEnd t => Sys2Proof.Machine.execEchoDurationEnd t s
  | .captureArm t rq => Sys2Proof.Machine.execCaptureArm t rq s
  | .reacquireTimeout t set => Sys2Proof.Machine.execReacquireTimeout t set s
  | .speedMeasurementDone t set => Sys2Proof.Machine.execSpeedMeasurementDone t set s
  | .probeScanDone t set first second emf => Sys2Proof.Machine.execProbeScanDone t set first second emf s
  | .remeasure t set => Sys2Proof.Machine.execRemeasure t set s
  | .startWaitExpired t set => Sys2Proof.Machine.execStartWaitExpired t set s
  | .polarityPulseEnd t set => Sys2Proof.Machine.execPolarityPulseEnd t set s
  | .neutralPointDeviation t set => Sys2Proof.Machine.execNeutralPointDeviation t set s
  | .commandRun t rq drv => Sys2Proof.Machine.execCommandRun t rq drv s
  | .commandStop t rq drv => Sys2Proof.Machine.execCommandStop t rq drv s
  | .preTorqueHeld t drv => Sys2Proof.Machine.execPreTorqueHeld t drv s
  | .leverNeutralAccepted t drv => Sys2Proof.Machine.execLeverNeutralAccepted t drv s
  | .referenceTimeout t drv => Sys2Proof.Machine.execReferenceTimeout t drv s
  | .phaseBackSlow t drv => Sys2Proof.Machine.execPhaseBackSlow t drv s
  | .wrapsSet t rq drv wraps => Sys2Proof.Machine.execWrapsSet t rq drv wraps s
  | .shockHoldEnd t drv => Sys2Proof.Machine.execShockHoldEnd t drv s
  | .shockRecoveryEnd t drv => Sys2Proof.Machine.execShockRecoveryEnd t drv s
  | .motionRecord t drv time pos vel acc seq => Sys2Proof.Machine.execMotionRecord t drv time pos vel acc seq s
  | .motionReferenceLost t drv => Sys2Proof.Machine.execMotionReferenceLost t drv s
  | .heaveFadeEnd t drv => Sys2Proof.Machine.execHeaveFadeEnd t drv s
  | .quickReleaseDemand t drv => Sys2Proof.Machine.execQuickReleaseDemand t drv s
  | .quickReleaseEnd t drv => Sys2Proof.Machine.execQuickReleaseEnd t drv s
  | .regenerationShortfall t drv => Sys2Proof.Machine.execRegenerationShortfall t drv s
  | .uplinkStatusFrame t ch fr => Sys2Proof.Machine.execUplinkStatusFrame t ch fr s
  | .downlinkLoss t ch => Sys2Proof.Machine.execDownlinkLoss t ch s
  | .uplinkLoss t ch => Sys2Proof.Machine.execUplinkLoss t ch s
  | .channelUplinkTimeout t ch => Sys2Proof.Machine.execChannelUplinkTimeout t ch s
  | .channelConfiguration t ch cfg crc => Sys2Proof.Machine.execChannelConfiguration t ch cfg crc s
  | .profilePhase1End t ch => Sys2Proof.Machine.execProfilePhase1End t ch s
  | .edgeMeasurement t ch on time peak => Sys2Proof.Machine.execEdgeMeasurement t ch on time peak s
  | .railValid t ch rail volts => Sys2Proof.Machine.execRailValid t ch rail volts s
  | .railInvalid t ch rail volts => Sys2Proof.Machine.execRailInvalid t ch rail volts s
  | .didtTrip t ch volts => Sys2Proof.Machine.execDidtTrip t ch volts s
  | .rampWindowEnd t ch => Sys2Proof.Machine.execRampWindowEnd t ch s
  | .integratorTrip t ch course => Sys2Proof.Machine.execIntegratorTrip t ch course s
  | .desaturationTrip t ch volts => Sys2Proof.Machine.execDesaturationTrip t ch volts s
  | .turnOffSequenceStep t set => Sys2Proof.Machine.execTurnOffSequenceStep t set s
  | .gateOffConfirmed t ch => Sys2Proof.Machine.execGateOffConfirmed t ch s
  | .legInterlockFault t set leg => Sys2Proof.Machine.execLegInterlockFault t set leg s
  | .swcmdTransition t ch high => Sys2Proof.Machine.execSwcmdTransition t ch high s
  | .directEnable t rq set on => Sys2Proof.Machine.execDirectEnable t rq set on s
  | .setConfirmedOff t set persists => Sys2Proof.Machine.execSetConfirmedOff t set persists s
  | .retryWaitEnd t set => Sys2Proof.Machine.execRetryWaitEnd t set s
  | .tripHistoryExpiry t set => Sys2Proof.Machine.execTripHistoryExpiry t set s
  | .ntcConversion t ch volts => Sys2Proof.Machine.execNtcConversion t ch volts s
  | .duskRun t rq set => Sys2Proof.Machine.execDuskRun t rq set s
  | .duskStepEnd t set rd => Sys2Proof.Machine.execDuskStepEnd t set rd s
  | .darkPulseStart t tp => Sys2Proof.Machine.execDarkPulseStart t tp s
  | .darkPulseEnd t tp rd => Sys2Proof.Machine.execDarkPulseEnd t tp rd s
  | .safeInputChannelDemand t si ch since => Sys2Proof.Machine.execSafeInputChannelDemand t si ch since s
  | .safeInputChannelClear t si ch since => Sys2Proof.Machine.execSafeInputChannelClear t si ch since s
  | .safeInputDiscrepancy t si => Sys2Proof.Machine.execSafeInputDiscrepancy t si s
  | .safeInputStateKnown t si => Sys2Proof.Machine.execSafeInputStateKnown t si s
  | .stoFeedDischarged t fbn => Sys2Proof.Machine.execStoFeedDischarged t fbn s
  | .stoReleaseStep t fbp fbn => Sys2Proof.Machine.execStoReleaseStep t fbp fbn s
  | .stoDischargeTimeout t => Sys2Proof.Machine.execStoDischargeTimeout t s
  | .stoFeedbackDeviation t fbp fbn since => Sys2Proof.Machine.execStoFeedbackDeviation t fbp fbn since s
  | .ss1Standstill t drv => Sys2Proof.Machine.execSs1Standstill t drv s
  | .ss1TimeElapsed t drv => Sys2Proof.Machine.execSs1TimeElapsed t drv s
  | .brakeApplyTimeEnd t drv => Sys2Proof.Machine.execBrakeApplyTimeEnd t drv s
  | .brakeReleaseCheck t brake isns fbp fbn => Sys2Proof.Machine.execBrakeReleaseCheck t brake isns fbp fbn s
  | .brakeHoldFault t brake isns since => Sys2Proof.Machine.execBrakeHoldFault t brake isns since s
  | .brakeOvercurrent t brake isns => Sys2Proof.Machine.execBrakeOvercurrent t brake isns s
  | .brakeApplyCheck t brake isns fbp => Sys2Proof.Machine.execBrakeApplyCheck t brake isns fbp s
  | .brakeSwitchTest t brake => Sys2Proof.Machine.execBrakeSwitchTest t brake s
  | .brakeTestPulseEnd t brake fbp fbn => Sys2Proof.Machine.execBrakeTestPulseEnd t brake fbp fbn s
  | .sbtRun t rq brake => Sys2Proof.Machine.execSbtRun t rq brake s
  | .sbtPhaseEnd t brake => Sys2Proof.Machine.execSbtPhaseEnd t brake s
  | .sbtDue t brake => Sys2Proof.Machine.execSbtDue t brake s
  | .brakeTestOverdue t brake => Sys2Proof.Machine.execBrakeTestOverdue t brake s
  | .rstbtnDebounced t closed => Sys2Proof.Machine.execRstbtnDebounced t closed s
  | .resetHeld t => Sys2Proof.Machine.execResetHeld t s
  | .sealConfirm t rq value => Sys2Proof.Machine.execSealConfirm t rq value s
  | .sealConfirmationExpired t => Sys2Proof.Machine.execSealConfirmationExpired t s
  | .isfFrame t conn frame => Sys2Proof.Machine.execIsfFrame t conn frame s
  | .isfTimeout t conn => Sys2Proof.Machine.execIsfTimeout t conn s
  | .isfProducerCycle t conn => Sys2Proof.Machine.execIsfProducerCycle t conn s
  | .groveStopDemand t aLow bLow since => Sys2Proof.Machine.execGroveStopDemand t aLow bLow since s
  | .groveStopLineFault t line => Sys2Proof.Machine.execGroveStopLineFault t line s
  | .groveStopLineTestStep t reads => Sys2Proof.Machine.execGroveStopLineTestStep t reads s
  | .emptyPacket t port h => Sys2Proof.Machine.execEmptyPacket t port h s
  | .emptyPacketTimer t port => Sys2Proof.Machine.execEmptyPacketTimer t port s
  | .linkNak t port k => Sys2Proof.Machine.execLinkNak t port k s
  | .replayTimeout t port => Sys2Proof.Machine.execReplayTimeout t port s
  | .forwardedPacket t port h payload crc => Sys2Proof.Machine.execForwardedPacket t port h payload crc s
  | .canopyLaneDown t port lane => Sys2Proof.Machine.execCanopyLaneDown t port lane s
  | .canopyPortDown t port since => Sys2Proof.Machine.execCanopyPortDown t port since s
  | .canopyPortUp t port neighbour idleSince => Sys2Proof.Machine.execCanopyPortUp t port neighbour idleSince s
  | .portSelfCheck t port ok => Sys2Proof.Machine.execPortSelfCheck t port ok s
  | .hello t src h => Sys2Proof.Machine.execHello t src h s
  | .helloTimer t => Sys2Proof.Machine.execHelloTimer t s
  | .formTimeExpiry t => Sys2Proof.Machine.execFormTimeExpiry t s
  | .joinReq t src h => Sys2Proof.Machine.execJoinReq t src h s
  | .joinAnswer t code map period n tN bank => Sys2Proof.Machine.execJoinAnswer t code map period n tN bank s
  | .joinRetry t => Sys2Proof.Machine.execJoinRetry t s
  | .groveBoundary t => Sys2Proof.Machine.execGroveBoundary t s
  | .boundary t src n tN map mode => Sys2Proof.Machine.execBoundary t src n tN map mode s
  | .linkState t src east west => Sys2Proof.Machine.execLinkState t src east west s
  | .sync t src port tN corr => Sys2Proof.Machine.execSync t src port tN corr s
  | .linkDelayTimer t => Sys2Proof.Machine.execLinkDelayTimer t s
  | .delayRequest t port t1 => Sys2Proof.Machine.execDelayRequest t port t1 s
  | .delayResponse t port t1 t2 t3 => Sys2Proof.Machine.execDelayResponse t port t1 t2 t3 s
  | .status t src st => Sys2Proof.Machine.execStatus t src st s
  | .memberLost t pos => Sys2Proof.Machine.execMemberLost t pos s
  | .leaderLost t => Sys2Proof.Machine.execLeaderLost t s
  | .claim t src selfCheck reach holding relSeq relAmt => Sys2Proof.Machine.execClaim t src selfCheck reach holding relSeq relAmt s
  | .claimWindowEnd t => Sys2Proof.Machine.execClaimWindowEnd t s
  | .takeover t src n tN map mode nextSeq => Sys2Proof.Machine.execTakeover t src n tN map mode nextSeq s
  | .share t src applyTime total refs => Sys2Proof.Machine.execShare t src applyTime total refs s
  | .grant t src sq amt => Sys2Proof.Machine.execGrant t src sq amt s
  | .grantAck t src sq => Sys2Proof.Machine.execGrantAck t src sq s
  | .releaseReq t src sq amt => Sys2Proof.Machine.execReleaseReq t src sq amt s
  | .release t src sq amt => Sys2Proof.Machine.execRelease t src sq amt s
  | .releaseAck t src sq => Sys2Proof.Machine.execReleaseAck t src sq s
  | .transferResend t sq => Sys2Proof.Machine.execTransferResend t sq s
  | .auditReport t src n holding lastSeq => Sys2Proof.Machine.execAuditReport t src n holding lastSeq s
  | .auditDeadline t => Sys2Proof.Machine.execAuditDeadline t s
  | .leaseExpiry t => Sys2Proof.Machine.execLeaseExpiry t s
  | .expiringTokensReturn t pos => Sys2Proof.Machine.execExpiringTokensReturn t pos s
  | .tokensTotalWrite t rq total => Sys2Proof.Machine.execTokensTotalWrite t rq total s
  | .standLeaseExpiry t => Sys2Proof.Machine.execStandLeaseExpiry t s
  | .forwardedRequest t src answer role pdu => Sys2Proof.Machine.execForwardedRequest t src answer role pdu s
  | .forwardTimeout t rq => Sys2Proof.Machine.execForwardTimeout t rq s
  | .ethernetPortDown t port => Sys2Proof.Machine.execEthernetPortDown t port s
  | .ethernetPortUp t port speed full => Sys2Proof.Machine.execEthernetPortUp t port speed full s
  | .frameForward t port frame => Sys2Proof.Machine.execFrameForward t port frame s
  | .mrpFrame t port k => Sys2Proof.Machine.execMrpFrame t port k s
  | .gptpSync t gm time => Sys2Proof.Machine.execGptpSync t gm time s
  | .gptpSyncTimeout t => Sys2Proof.Machine.execGptpSyncTimeout t s
  | .gateControlChange t port => Sys2Proof.Machine.execGateControlChange t port s
  | .processData t src counter body => Sys2Proof.Machine.execProcessData t src counter body s
  | .networkBoundary t => Sys2Proof.Machine.execNetworkBoundary t s
  | .pdTransmit t => Sys2Proof.Machine.execPdTransmit t s
  | .processDataTimeout t => Sys2Proof.Machine.execProcessDataTimeout t s
  | .pdControl t rq run => Sys2Proof.Machine.execPdControl t rq run s
  | .read t rq unit index sub shadow => Sys2Proof.Machine.execRead t rq unit index sub shadow s
  | .write t rq unit index sub value => Sys2Proof.Machine.execWrite t rq unit index sub value s
  | .connect t rq sub name => Sys2Proof.Machine.execConnect t rq sub name s
  | .loginStep1 t rq role => Sys2Proof.Machine.execLoginStep1 t rq role s
  | .loginStep2 t rq proof => Sys2Proof.Machine.execLoginStep2 t rq proof s
  | .loginBlockEnd t src => Sys2Proof.Machine.execLoginBlockEnd t src s
  | .logout t rq => Sys2Proof.Machine.execLogout t rq s
  | .malformedPdu t pdu => Sys2Proof.Machine.execMalformedPdu t pdu s
  | .arpRequest t ip mac asker => Sys2Proof.Machine.execArpRequest t ip mac asker s
  | .icmpEcho t src data => Sys2Proof.Machine.execIcmpEcho t src data s
  | .connectionTimeout t handle => Sys2Proof.Machine.execConnectionTimeout t handle s
  | .sessionOpen t rq o => Sys2Proof.Machine.execSessionOpen t rq o s
  | .sessionData t rq sid sq offset data => Sys2Proof.Machine.execSessionData t rq sid sq offset data s
  | .sessionAck t rq sid next => Sys2Proof.Machine.execSessionAck t rq sid next s
  | .sessionNak t rq sid next => Sys2Proof.Machine.execSessionNak t rq sid next s
  | .sessionFinish t rq sid => Sys2Proof.Machine.execSessionFinish t rq sid s
  | .sessionAbort t rq sid code => Sys2Proof.Machine.execSessionAbort t rq sid code s
  | .sessionRetryTimeout t sid => Sys2Proof.Machine.execSessionRetryTimeout t sid s
  | .sessionIdleTimeout t sid => Sys2Proof.Machine.execSessionIdleTimeout t sid s
  | .fwActivate t rq slot => Sys2Proof.Machine.execFwActivate t rq slot s
  | .fwConfirm t rq => Sys2Proof.Machine.execFwConfirm t rq s
  | .usbAttach t => Sys2Proof.Machine.execUsbAttach t s
  | .usbDetach t => Sys2Proof.Machine.execUsbDetach t s
  | .bankStore t rq n => Sys2Proof.Machine.execBankStore t rq n s
  | .bankActivate t rq n => Sys2Proof.Machine.execBankActivate t rq n s
  | .bankRestoreDefaults t rq => Sys2Proof.Machine.execBankRestoreDefaults t rq s
  | .bankErase t rq n => Sys2Proof.Machine.execBankErase t rq n s
  | .entryWrite t rq index sub value => Sys2Proof.Machine.execEntryWrite t rq index sub value s
  | .laneSupplyFault t lane volts since => Sys2Proof.Machine.execLaneSupplyFault t lane volts since s
  | .laneRailRestored t lane volts since => Sys2Proof.Machine.execLaneRailRestored t lane volts since s
  | .laneRailMismatch t a b c since => Sys2Proof.Machine.execLaneRailMismatch t a b c since s
  | .mainRailFault t rail volts since => Sys2Proof.Machine.execMainRailFault t rail volts since s
  | .analogSupplyFault t volts since => Sys2Proof.Machine.execAnalogSupplyFault t volts since s
  | .analogSupplyRestored t volts since => Sys2Proof.Machine.execAnalogSupplyRestored t volts since s
  | .phySupplyFault t rail volts since => Sys2Proof.Machine.execPhySupplyFault t rail volts since s
  | .mainRailsFailedToStart t => Sys2Proof.Machine.execMainRailsFailedToStart t s
  | .mainRailsRetry t => Sys2Proof.Machine.execMainRailsRetry t s
  | .powerFail t cause since => Sys2Proof.Machine.execPowerFail t cause since s
  | .sleepRequest t rq => Sys2Proof.Machine.execSleepRequest t rq s
  | .idleSleepTimeout t => Sys2Proof.Machine.execIdleSleepTimeout t s
  | .lanternPowerOnReset t => Sys2Proof.Machine.execLanternPowerOnReset t s
  | .lanternSample t ls => Sys2Proof.Machine.execLanternSample t ls s
  | .lanternAcknowledge t rq => Sys2Proof.Machine.execLanternAcknowledge t rq s
  | .temperatureReading t sensor temp => Sys2Proof.Machine.execTemperatureReading t sensor temp s
  | .nvRecordComplete t => Sys2Proof.Machine.execNvRecordComplete t s
  | .nvScrub t corrected bad => Sys2Proof.Machine.execNvScrub t corrected bad s
  | .faultReset t rq => Sys2Proof.Machine.execFaultReset t rq s
  | .groveStopLinesReleased t => Sys2Proof.Machine.execGroveStopLinesReleased t s
  | .encoderEdge t pi forward lantern stable => Sys2Proof.Machine.execEncoderEdge t pi forward lantern stable s
  | .gptpAnnounce t gm better => Sys2Proof.Machine.execGptpAnnounce t gm better s
  | .phySupplyRestored t rail volts => Sys2Proof.Machine.execPhySupplyRestored t rail volts s
  | .powerFailReleased t => Sys2Proof.Machine.execPowerFailReleased t s
  | .fallbackSwitchesChanged t => Sys2Proof.Machine.execFallbackSwitchesChanged t s
  | .standSilentGroveReassign t grove heard => Sys2Proof.Machine.execStandSilentGroveReassign t grove heard s
  | .groveSleepOrder t src n => Sys2Proof.Machine.execGroveSleepOrder t src n s
  | .groveSleepRefusal t src => Sys2Proof.Machine.execGroveSleepRefusal t src s
  | .groveFirmwareSlotValid t src => Sys2Proof.Machine.execGroveFirmwareSlotValid t src s

end Sys2Proof.Machine
end

