-- ==== Sys2Proof/WellFormed.lean ====
section
/-! DEFINITION. Which commands can occur: every operand within the range its field has in the spec. -/

namespace Sys2Proof

/-- An instant the 64-bit nanosecond counter can show (R53), in picoseconds. -/
def timeOk (t : Time) : Bool := decide (t < 2 ^ 64 * 1000)

/-- A transfer sequence number has 4 bytes (R321). -/
def seqOk (n : Nat) : Bool := decide (n < 2 ^ 32)

/-- A number of tokens has 2 bytes (R321). -/
def tokensOk (n : Nat) : Bool := decide (n < 2 ^ 16)

/-- A payload has 0 to 256 bytes, a multiple of 4 (R315). -/
def packetOk (h : PacketHeader) : Bool := decide (h.len ≤ 256) && h.len % 4 == 0

/-- The address of a 64-bit word of NV-MRAM (R434, R440). -/
def nvWordOk (a : Nat) : Bool := decide (a < 0x800000) && a % 8 == 0

/-- Every operand of a command but its instant is in the range its field has. -/
def operandsOk (i : Instr) : Bool :=
  match i with
  | .inputFanoutDelivery _ _ _ => true
  | .laneSelfDissent _ _ => true
  | .tokenArrival _ _ _ _ => true
  | .agreementWindowClose _ _ _ => true
  | .contentCopyComplete _ _ content => decide (content.length < 2 ^ 32)
  | .controlCycleBoundary _ calib _ _ => decide (calib < 2 ^ 32)
  | .resyncFailed _ _ => true
  | .signatureComplete _ _ _ => true
  | .dissentEntryExpiry _ _ => true
  | .deadStateScrub _ => true
  | .safeOutputWatchdog _ _ => true
  | .safeStateBrakeDelay _ _ _ => true
  | .dutyToken _ _ _ _ _ _ => true
  | .safeOutputToken _ _ => true
  | .switchRelease _ _ => true
  | .offWithOffProfile _ _ => true
  | .softOff _ _ => true
  | .staticOn _ _ => true
  | .duskInjection05Ma _ _ => true
  | .duskInjection2Ma _ _ => true
  | .duskInjectionStop _ _ => true
  | .clearFaultLatches _ _ _ => true
  | .resetAdaptedProfile _ _ => true
  | .invalidCommand _ _ _ => true
  | .safeStateCommand _ _ => true
  | .powerUpResetEnd _ b => decide (b.readyUs < 2 ^ 32)
  | .pllLockLoss _ => true
  | .lanternRateCheck _ ticks => decide (ticks < 2 ^ 64)
  | .lanternTickMissing _ => true
  | .carrierValley _ _ => true
  | .carrierPeak _ _ => true
  | .sampleArrival _ _ smp => timeOk smp.stamp
  | .computationComplete _ _ _ => true
  | .outerComputationComplete _ _ => true
  | .legEdge _ _ _ => true
  | .deadTimeElapsed _ _ _ => true
  | .pulseEnable _ _ => true
  | .commitNextBoundary _ _ => true
  | .commitAtBoundary _ _ => true
  | .discardShadowBank _ _ => true
  | .histogramClear _ _ _ => true
  | .groveCommitPrepare _ _ => true
  | .prepareAnswer _ _ _ _ => true
  | .prepareTimeout _ _ _ => true
  | .groveCommit _ _ n => decide (n < 2 ^ 64)
  | .prepareLapse _ _ => true
  | .fastComparatorTrip _ _ _ _ _ => true
  | .modulatorStreamDead _ _ _ _ => true
  | .modulatorStreamRestored _ _ _ _ => true
  | .terminalMeasurementDone _ _ _ => true
  | .indexPulse _ _ => true
  | .positionWireBreak _ _ _ _ _ _ => true
  | .positionCountError _ _ _ => true
  | .resolverExcitationOpen _ _ _ _ => true
  | .resolverTrackingLoss _ _ _ => true
  | .excitationSettleEnd _ _ => true
  | .ainConversion _ _ _ => true
  | .leverTrackDiscrepancy _ _ => true
  | .leverPairAgreed _ _ => true
  | .dutyStall _ _ => true
  | .swapForced _ _ group => decide (group < 2 ^ 16)
  | .historyReset _ _ _ => true
  | .echoStart _ _ => true
  | .echoAbort _ _ => true
  | .echoSettleEnd _ => true
  | .echoPointComplete _ => true
  | .echoStep _ => true
  | .echoDurationEnd _ => true
  | .captureArm _ _ => true
  | .reacquireTimeout _ _ => true
  | .speedMeasurementDone _ _ => true
  | .probeScanDone _ _ _ _ _ => true
  | .remeasure _ _ => true
  | .startWaitExpired _ _ => true
  | .polarityPulseEnd _ _ => true
  | .neutralPointDeviation _ _ => true
  | .commandRun _ _ _ => true
  | .commandStop _ _ _ => true
  | .preTorqueHeld _ _ => true
  | .leverNeutralAccepted _ _ => true
  | .referenceTimeout _ _ => true
  | .phaseBackSlow _ _ => true
  | .wrapsSet _ _ _ _ => true
  | .shockHoldEnd _ _ => true
  | .shockRecoveryEnd _ _ => true
  | .motionRecord _ _ time _ _ _ _ => decide (time < 2 ^ 64)
  | .motionReferenceLost _ _ => true
  | .heaveFadeEnd _ _ => true
  | .quickReleaseDemand _ _ => true
  | .quickReleaseEnd _ _ => true
  | .regenerationShortfall _ _ => true
  | .uplinkStatusFrame _ _ _ => true
  | .downlinkLoss _ _ => true
  | .uplinkLoss _ _ => true
  | .channelUplinkTimeout _ _ => true
  | .channelConfiguration _ _ _ _ => true
  | .profilePhase1End _ _ => true
  | .edgeMeasurement _ _ _ _ _ => true
  | .railValid _ _ _ _ => true
  | .railInvalid _ _ _ _ => true
  | .didtTrip _ _ _ => true
  | .rampWindowEnd _ _ => true
  | .integratorTrip _ _ _ => true
  | .desaturationTrip _ _ _ => true
  | .turnOffSequenceStep _ _ => true
  | .gateOffConfirmed _ _ => true
  | .legInterlockFault _ _ _ => true
  | .swcmdTransition _ _ _ => true
  | .directEnable _ _ _ _ => true
  | .setConfirmedOff _ _ _ => true
  | .retryWaitEnd _ _ => true
  | .tripHistoryExpiry _ _ => true
  | .ntcConversion _ _ _ => true
  | .duskRun _ _ _ => true
  | .duskStepEnd _ _ _ => true
  | .darkPulseStart _ _ => true
  | .darkPulseEnd _ _ _ => true
  | .safeInputChannelDemand _ _ _ _ => true
  | .safeInputChannelClear _ _ _ _ => true
  | .safeInputDiscrepancy _ _ => true
  | .safeInputStateKnown _ _ => true
  | .stoFeedDischarged _ _ => true
  | .stoReleaseStep _ _ _ => true
  | .stoDischargeTimeout _ => true
  | .stoFeedbackDeviation _ _ _ _ => true
  | .ss1Standstill _ _ => true
  | .ss1TimeElapsed _ _ => true
  | .brakeApplyTimeEnd _ _ => true
  | .brakeReleaseCheck _ _ _ _ _ => true
  | .brakeHoldFault _ _ _ _ => true
  | .brakeOvercurrent _ _ _ => true
  | .brakeApplyCheck _ _ _ _ => true
  | .brakeSwitchTest _ _ => true
  | .brakeTestPulseEnd _ _ _ _ => true
  | .sbtRun _ _ _ => true
  | .sbtPhaseEnd _ _ => true
  | .sbtDue _ _ => true
  | .brakeTestOverdue _ _ => true
  | .rstbtnDebounced _ _ => true
  | .resetHeld _ => true
  | .sealConfirm _ _ _ => true
  | .sealConfirmationExpired _ => true
  | .isfFrame _ _ _ => true
  | .isfTimeout _ _ => true
  | .isfProducerCycle _ _ => true
  | .groveStopDemand _ _ _ _ => true
  | .groveStopLineFault _ _ => true
  | .groveStopLineTestStep _ _ => true
  | .emptyPacket _ _ h => h.len == 0
  | .emptyPacketTimer _ _ => true
  | .linkNak _ _ _ => true
  | .replayTimeout _ _ => true
  | .forwardedPacket _ _ h payload _ => packetOk h && payload.length == h.len
  | .canopyLaneDown _ _ _ => true
  | .canopyPortDown _ _ _ => true
  | .canopyPortUp _ _ _ _ => true
  | .portSelfCheck _ _ _ => true
  | .hello _ _ _ => true
  | .helloTimer _ => true
  | .formTimeExpiry _ => true
  | .joinReq _ _ _ => true
  | .joinAnswer _ _ _ period n tN _ => decide (period < 2 ^ 16) && decide (n < 2 ^ 64) && decide (tN < 2 ^ 64)
  | .joinRetry _ => true
  | .groveBoundary _ => true
  | .boundary _ _ n tN _ _ => decide (n < 2 ^ 64) && decide (tN < 2 ^ 64)
  | .linkState _ _ _ _ => true
  | .sync _ _ _ tN corr => decide (tN < 2 ^ 64) && decide (corr < 2 ^ 64)
  | .linkDelayTimer _ => true
  | .delayRequest _ _ t1 => decide (t1 < 2 ^ 64)
  | .delayResponse _ _ t1 t2 t3 => decide (t1 < 2 ^ 64) && decide (t2 < 2 ^ 64) && decide (t3 < 2 ^ 64)
  | .status _ _ st => decide (st.n < 2 ^ 64) && decide (st.lastSeq < 2 ^ 32)
  | .memberLost _ _ => true
  | .leaderLost _ => true
  | .claim _ _ _ _ holding relSeq relAmt => decide (holding < 2 ^ 16) && decide (relSeq < 2 ^ 32) && decide (relAmt < 2 ^ 16)
  | .claimWindowEnd _ => true
  | .takeover _ _ n tN _ _ nextSeq => decide (n < 2 ^ 64) && decide (tN < 2 ^ 64) && decide (nextSeq < 2 ^ 32)
  | .share _ _ applyTime _ refs => decide (applyTime < 2 ^ 64) && refs.length == 16
  | .grant _ _ sq amt => seqOk sq && tokensOk amt
  | .grantAck _ _ sq => seqOk sq
  | .releaseReq _ _ sq amt => seqOk sq && tokensOk amt
  | .release _ _ sq amt => seqOk sq && tokensOk amt
  | .releaseAck _ _ sq => seqOk sq
  | .transferResend _ sq => seqOk sq
  | .auditReport _ _ n holding lastSeq => decide (n < 2 ^ 64) && tokensOk holding && seqOk lastSeq
  | .auditDeadline _ => true
  | .leaseExpiry _ => true
  | .expiringTokensReturn _ _ => true
  | .tokensTotalWrite _ _ total => tokensOk total
  | .standLeaseExpiry _ => true
  | .forwardedRequest _ _ _ _ _ => true
  | .forwardTimeout _ _ => true
  | .ethernetPortDown _ _ => true
  | .ethernetPortUp _ _ _ _ => true
  | .frameForward _ _ _ => true
  | .mrpFrame _ _ _ => true
  | .gptpSync _ _ _ => true
  | .gptpSyncTimeout _ => true
  | .gateControlChange _ _ => true
  | .processData _ _ _ _ => true
  | .networkBoundary _ => true
  | .pdTransmit _ => true
  | .processDataTimeout _ => true
  | .pdControl _ _ _ => true
  | .read _ _ _ _ _ _ => true
  | .write _ _ _ _ _ _ => true
  | .connect _ _ _ name => name.length == 16
  | .loginStep1 _ _ _ => true
  | .loginStep2 _ _ _ => true
  | .loginBlockEnd _ _ => true
  | .logout _ _ => true
  | .malformedPdu _ _ => true
  | .arpRequest _ _ _ _ => true
  | .icmpEcho _ _ _ => true
  | .connectionTimeout _ _ => true
  | .sessionOpen _ _ _ => true
  | .sessionData _ _ _ _ offset data => decide (offset < 2 ^ 32) && decide (data.length ≤ 1400)
  | .sessionAck _ _ _ _ => true
  | .sessionNak _ _ _ _ => true
  | .sessionFinish _ _ _ => true
  | .sessionAbort _ _ _ _ => true
  | .sessionRetryTimeout _ _ => true
  | .sessionIdleTimeout _ _ => true
  | .fwActivate _ _ _ => true
  | .fwConfirm _ _ => true
  | .usbAttach _ => true
  | .usbDetach _ => true
  | .bankStore _ _ _ => true
  | .bankActivate _ _ _ => true
  | .bankRestoreDefaults _ _ => true
  | .bankErase _ _ _ => true
  | .entryWrite _ _ _ _ _ => true
  | .laneSupplyFault _ _ _ _ => true
  | .laneRailRestored _ _ _ _ => true
  | .laneRailMismatch _ _ _ _ _ => true
  | .mainRailFault _ _ _ _ => true
  | .analogSupplyFault _ _ _ => true
  | .analogSupplyRestored _ _ _ => true
  | .phySupplyFault _ _ _ _ => true
  | .mainRailsFailedToStart _ => true
  | .mainRailsRetry _ => true
  | .powerFail _ _ _ => true
  | .sleepRequest _ _ => true
  | .idleSleepTimeout _ => true
  | .lanternPowerOnReset _ => true
  | .lanternSample _ ls => decide (ls.tick < 2 ^ 64)
  | .lanternAcknowledge _ _ => true
  | .temperatureReading _ _ _ => true
  | .nvRecordComplete _ => true
  | .nvScrub _ _ bad => bad.all nvWordOk
  | .faultReset _ _ => true
  | .groveStopLinesReleased _ => true
  | .encoderEdge _ _ _ _ _ => true
  | .gptpAnnounce _ _ _ => true
  | .phySupplyRestored _ _ _ => true
  | .powerFailReleased _ => true
  | .fallbackSwitchesChanged _ => true
  | .standSilentGroveReassign _ _ _ => true
  | .groveSleepOrder _ _ n => decide (n < 2 ^ 64)
  | .groveSleepRefusal _ _ => true
  | .groveFirmwareSlotValid _ _ => true

/-- The instant at which a command occurs. -/
def Instr.time (i : Instr) : Time :=
  match i with
  | .inputFanoutDelivery t _ _ => t
  | .laneSelfDissent t _ => t
  | .tokenArrival t _ _ _ => t
  | .agreementWindowClose t _ _ => t
  | .contentCopyComplete t _ _ => t
  | .controlCycleBoundary t _ _ _ => t
  | .resyncFailed t _ => t
  | .signatureComplete t _ _ => t
  | .dissentEntryExpiry t _ => t
  | .deadStateScrub t => t
  | .safeOutputWatchdog t _ => t
  | .safeStateBrakeDelay t _ _ => t
  | .dutyToken t _ _ _ _ _ => t
  | .safeOutputToken t _ => t
  | .switchRelease t _ => t
  | .offWithOffProfile t _ => t
  | .softOff t _ => t
  | .staticOn t _ => t
  | .duskInjection05Ma t _ => t
  | .duskInjection2Ma t _ => t
  | .duskInjectionStop t _ => t
  | .clearFaultLatches t _ _ => t
  | .resetAdaptedProfile t _ => t
  | .invalidCommand t _ _ => t
  | .safeStateCommand t _ => t
  | .powerUpResetEnd t _ => t
  | .pllLockLoss t => t
  | .lanternRateCheck t _ => t
  | .lanternTickMissing t => t
  | .carrierValley t _ => t
  | .carrierPeak t _ => t
  | .sampleArrival t _ _ => t
  | .computationComplete t _ _ => t
  | .outerComputationComplete t _ => t
  | .legEdge t _ _ => t
  | .deadTimeElapsed t _ _ => t
  | .pulseEnable t _ => t
  | .commitNextBoundary t _ => t
  | .commitAtBoundary t _ => t
  | .discardShadowBank t _ => t
  | .histogramClear t _ _ => t
  | .groveCommitPrepare t _ => t
  | .prepareAnswer t _ _ _ => t
  | .prepareTimeout t _ _ => t
  | .groveCommit t _ _ => t
  | .prepareLapse t _ => t
  | .fastComparatorTrip t _ _ _ _ => t
  | .modulatorStreamDead t _ _ _ => t
  | .modulatorStreamRestored t _ _ _ => t
  | .terminalMeasurementDone t _ _ => t
  | .indexPulse t _ => t
  | .positionWireBreak t _ _ _ _ _ => t
  | .positionCountError t _ _ => t
  | .resolverExcitationOpen t _ _ _ => t
  | .resolverTrackingLoss t _ _ => t
  | .excitationSettleEnd t _ => t
  | .ainConversion t _ _ => t
  | .leverTrackDiscrepancy t _ => t
  | .leverPairAgreed t _ => t
  | .dutyStall t _ => t
  | .swapForced t _ _ => t
  | .historyReset t _ _ => t
  | .echoStart t _ => t
  | .echoAbort t _ => t
  | .echoSettleEnd t => t
  | .echoPointComplete t => t
  | .echoStep t => t
  | .echoDurationEnd t => t
  | .captureArm t _ => t
  | .reacquireTimeout t _ => t
  | .speedMeasurementDone t _ => t
  | .probeScanDone t _ _ _ _ => t
  | .remeasure t _ => t
  | .startWaitExpired t _ => t
  | .polarityPulseEnd t _ => t
  | .neutralPointDeviation t _ => t
  | .commandRun t _ _ => t
  | .commandStop t _ _ => t
  | .preTorqueHeld t _ => t
  | .leverNeutralAccepted t _ => t
  | .referenceTimeout t _ => t
  | .phaseBackSlow t _ => t
  | .wrapsSet t _ _ _ => t
  | .shockHoldEnd t _ => t
  | .shockRecoveryEnd t _ => t
  | .motionRecord t _ _ _ _ _ _ => t
  | .motionReferenceLost t _ => t
  | .heaveFadeEnd t _ => t
  | .quickReleaseDemand t _ => t
  | .quickReleaseEnd t _ => t
  | .regenerationShortfall t _ => t
  | .uplinkStatusFrame t _ _ => t
  | .downlinkLoss t _ => t
  | .uplinkLoss t _ => t
  | .channelUplinkTimeout t _ => t
  | .channelConfiguration t _ _ _ => t
  | .profilePhase1End t _ => t
  | .edgeMeasurement t _ _ _ _ => t
  | .railValid t _ _ _ => t
  | .railInvalid t _ _ _ => t
  | .didtTrip t _ _ => t
  | .rampWindowEnd t _ => t
  | .integratorTrip t _ _ => t
  | .desaturationTrip t _ _ => t
  | .turnOffSequenceStep t _ => t
  | .gateOffConfirmed t _ => t
  | .legInterlockFault t _ _ => t
  | .swcmdTransition t _ _ => t
  | .directEnable t _ _ _ => t
  | .setConfirmedOff t _ _ => t
  | .retryWaitEnd t _ => t
  | .tripHistoryExpiry t _ => t
  | .ntcConversion t _ _ => t
  | .duskRun t _ _ => t
  | .duskStepEnd t _ _ => t
  | .darkPulseStart t _ => t
  | .darkPulseEnd t _ _ => t
  | .safeInputChannelDemand t _ _ _ => t
  | .safeInputChannelClear t _ _ _ => t
  | .safeInputDiscrepancy t _ => t
  | .safeInputStateKnown t _ => t
  | .stoFeedDischarged t _ => t
  | .stoReleaseStep t _ _ => t
  | .stoDischargeTimeout t => t
  | .stoFeedbackDeviation t _ _ _ => t
  | .ss1Standstill t _ => t
  | .ss1TimeElapsed t _ => t
  | .brakeApplyTimeEnd t _ => t
  | .brakeReleaseCheck t _ _ _ _ => t
  | .brakeHoldFault t _ _ _ => t
  | .brakeOvercurrent t _ _ => t
  | .brakeApplyCheck t _ _ _ => t
  | .brakeSwitchTest t _ => t
  | .brakeTestPulseEnd t _ _ _ => t
  | .sbtRun t _ _ => t
  | .sbtPhaseEnd t _ => t
  | .sbtDue t _ => t
  | .brakeTestOverdue t _ => t
  | .rstbtnDebounced t _ => t
  | .resetHeld t => t
  | .sealConfirm t _ _ => t
  | .sealConfirmationExpired t => t
  | .isfFrame t _ _ => t
  | .isfTimeout t _ => t
  | .isfProducerCycle t _ => t
  | .groveStopDemand t _ _ _ => t
  | .groveStopLineFault t _ => t
  | .groveStopLineTestStep t _ => t
  | .emptyPacket t _ _ => t
  | .emptyPacketTimer t _ => t
  | .linkNak t _ _ => t
  | .replayTimeout t _ => t
  | .forwardedPacket t _ _ _ _ => t
  | .canopyLaneDown t _ _ => t
  | .canopyPortDown t _ _ => t
  | .canopyPortUp t _ _ _ => t
  | .portSelfCheck t _ _ => t
  | .hello t _ _ => t
  | .helloTimer t => t
  | .formTimeExpiry t => t
  | .joinReq t _ _ => t
  | .joinAnswer t _ _ _ _ _ _ => t
  | .joinRetry t => t
  | .groveBoundary t => t
  | .boundary t _ _ _ _ _ => t
  | .linkState t _ _ _ => t
  | .sync t _ _ _ _ => t
  | .linkDelayTimer t => t
  | .delayRequest t _ _ => t
  | .delayResponse t _ _ _ _ => t
  | .status t _ _ => t
  | .memberLost t _ => t
  | .leaderLost t => t
  | .claim t _ _ _ _ _ _ => t
  | .claimWindowEnd t => t
  | .takeover t _ _ _ _ _ _ => t
  | .share t _ _ _ _ => t
  | .grant t _ _ _ => t
  | .grantAck t _ _ => t
  | .releaseReq t _ _ _ => t
  | .release t _ _ _ => t
  | .releaseAck t _ _ => t
  | .transferResend t _ => t
  | .auditReport t _ _ _ _ => t
  | .auditDeadline t => t
  | .leaseExpiry t => t
  | .expiringTokensReturn t _ => t
  | .tokensTotalWrite t _ _ => t
  | .standLeaseExpiry t => t
  | .forwardedRequest t _ _ _ _ => t
  | .forwardTimeout t _ => t
  | .ethernetPortDown t _ => t
  | .ethernetPortUp t _ _ _ => t
  | .frameForward t _ _ => t
  | .mrpFrame t _ _ => t
  | .gptpSync t _ _ => t
  | .gptpSyncTimeout t => t
  | .gateControlChange t _ => t
  | .processData t _ _ _ => t
  | .networkBoundary t => t
  | .pdTransmit t => t
  | .processDataTimeout t => t
  | .pdControl t _ _ => t
  | .read t _ _ _ _ _ => t
  | .write t _ _ _ _ _ => t
  | .connect t _ _ _ => t
  | .loginStep1 t _ _ => t
  | .loginStep2 t _ _ => t
  | .loginBlockEnd t _ => t
  | .logout t _ => t
  | .malformedPdu t _ => t
  | .arpRequest t _ _ _ => t
  | .icmpEcho t _ _ => t
  | .connectionTimeout t _ => t
  | .sessionOpen t _ _ => t
  | .sessionData t _ _ _ _ _ => t
  | .sessionAck t _ _ _ => t
  | .sessionNak t _ _ _ => t
  | .sessionFinish t _ _ => t
  | .sessionAbort t _ _ _ => t
  | .sessionRetryTimeout t _ => t
  | .sessionIdleTimeout t _ => t
  | .fwActivate t _ _ => t
  | .fwConfirm t _ => t
  | .usbAttach t => t
  | .usbDetach t => t
  | .bankStore t _ _ => t
  | .bankActivate t _ _ => t
  | .bankRestoreDefaults t _ => t
  | .bankErase t _ _ => t
  | .entryWrite t _ _ _ _ => t
  | .laneSupplyFault t _ _ _ => t
  | .laneRailRestored t _ _ _ => t
  | .laneRailMismatch t _ _ _ _ => t
  | .mainRailFault t _ _ _ => t
  | .analogSupplyFault t _ _ => t
  | .analogSupplyRestored t _ _ => t
  | .phySupplyFault t _ _ _ => t
  | .mainRailsFailedToStart t => t
  | .mainRailsRetry t => t
  | .powerFail t _ _ => t
  | .sleepRequest t _ => t
  | .idleSleepTimeout t => t
  | .lanternPowerOnReset t => t
  | .lanternSample t _ => t
  | .lanternAcknowledge t _ => t
  | .temperatureReading t _ _ => t
  | .nvRecordComplete t => t
  | .nvScrub t _ _ => t
  | .faultReset t _ => t
  | .groveStopLinesReleased t => t
  | .encoderEdge t _ _ _ _ => t
  | .gptpAnnounce t _ _ => t
  | .phySupplyRestored t _ _ => t
  | .powerFailReleased t => t
  | .fallbackSwitchesChanged t => t
  | .standSilentGroveReassign t _ _ => t
  | .groveSleepOrder t _ _ => t
  | .groveSleepRefusal t _ => t
  | .groveFirmwareSlotValid t _ => t

/-- Every operand of a command is in the range its field has. -/
def wellFormed (i : Instr) : Bool := timeOk i.time && operandsOk i

end Sys2Proof
end

