-- ==== Sys2Proof/Machine/Order.lean ====
section
/-! DEFINITION. The ordered arbitration (R31): in which order commands that wait take effect. The queue itself is first in, first out; a
sender that puts a command into its place in this order uses `State.enqueue` (log entry 108). -/

namespace Sys2Proof

/-- The kind by which R31 orders events of one stamp: 1 boundaries, 2 lane arrivals, 3 completions and the voted tokens that follow from
them, 4 inputs, 5 timer expiries (log entry 108). -/
def Instr.orderKind : Instr → Nat
  | .inputFanoutDelivery .. => 4
  | .laneSelfDissent .. => 4
  | .tokenArrival .. => 2
  | .agreementWindowClose .. => 5
  | .contentCopyComplete .. => 3
  | .controlCycleBoundary .. => 1
  | .resyncFailed .. => 5
  | .signatureComplete .. => 2
  | .dissentEntryExpiry .. => 5
  | .deadStateScrub .. => 5
  | .safeOutputWatchdog .. => 5
  | .safeStateBrakeDelay .. => 5
  | .dutyToken .. => 3
  | .safeOutputToken .. => 3
  | .switchRelease .. => 3
  | .offWithOffProfile .. => 3
  | .softOff .. => 3
  | .staticOn .. => 3
  | .duskInjection05Ma .. => 3
  | .duskInjection2Ma .. => 3
  | .duskInjectionStop .. => 3
  | .clearFaultLatches .. => 3
  | .resetAdaptedProfile .. => 3
  | .invalidCommand .. => 3
  | .safeStateCommand .. => 3
  | .powerUpResetEnd .. => 4
  | .pllLockLoss .. => 4
  | .lanternRateCheck .. => 4
  | .lanternTickMissing .. => 5
  | .carrierValley .. => 1
  | .carrierPeak .. => 1
  | .sampleArrival .. => 4
  | .computationComplete .. => 3
  | .outerComputationComplete .. => 3
  | .legEdge .. => 5
  | .deadTimeElapsed .. => 5
  | .pulseEnable .. => 4
  | .commitNextBoundary .. => 4
  | .commitAtBoundary .. => 4
  | .discardShadowBank .. => 4
  | .histogramClear .. => 4
  | .groveCommitPrepare .. => 4
  | .prepareAnswer .. => 4
  | .prepareTimeout .. => 5
  | .groveCommit .. => 4
  | .prepareLapse .. => 5
  | .fastComparatorTrip .. => 4
  | .modulatorStreamDead .. => 4
  | .modulatorStreamRestored .. => 4
  | .terminalMeasurementDone .. => 4
  | .indexPulse .. => 4
  | .positionWireBreak .. => 4
  | .positionCountError .. => 4
  | .resolverExcitationOpen .. => 4
  | .resolverTrackingLoss .. => 4
  | .excitationSettleEnd .. => 5
  | .ainConversion .. => 4
  | .leverTrackDiscrepancy .. => 4
  | .leverPairAgreed .. => 4
  | .dutyStall .. => 5
  | .swapForced .. => 5
  | .historyReset .. => 4
  | .echoStart .. => 4
  | .echoAbort .. => 4
  | .echoSettleEnd .. => 5
  | .echoPointComplete .. => 5
  | .echoStep .. => 5
  | .echoDurationEnd .. => 5
  | .captureArm .. => 4
  | .reacquireTimeout .. => 5
  | .speedMeasurementDone .. => 4
  | .probeScanDone .. => 4
  | .remeasure .. => 4
  | .startWaitExpired .. => 5
  | .polarityPulseEnd .. => 5
  | .neutralPointDeviation .. => 4
  | .commandRun .. => 4
  | .commandStop .. => 4
  | .preTorqueHeld .. => 4
  | .leverNeutralAccepted .. => 4
  | .referenceTimeout .. => 5
  | .phaseBackSlow .. => 5
  | .wrapsSet .. => 4
  | .shockHoldEnd .. => 5
  | .shockRecoveryEnd .. => 5
  | .motionRecord .. => 4
  | .motionReferenceLost .. => 5
  | .heaveFadeEnd .. => 5
  | .quickReleaseDemand .. => 4
  | .quickReleaseEnd .. => 4
  | .regenerationShortfall .. => 4
  | .uplinkStatusFrame .. => 4
  | .downlinkLoss .. => 4
  | .uplinkLoss .. => 4
  | .channelUplinkTimeout .. => 5
  | .channelConfiguration .. => 4
  | .profilePhase1End .. => 5
  | .edgeMeasurement .. => 4
  | .railValid .. => 4
  | .railInvalid .. => 4
  | .didtTrip .. => 4
  | .rampWindowEnd .. => 5
  | .integratorTrip .. => 4
  | .desaturationTrip .. => 4
  | .turnOffSequenceStep .. => 5
  | .gateOffConfirmed .. => 4
  | .legInterlockFault .. => 4
  | .swcmdTransition .. => 4
  | .directEnable .. => 4
  | .setConfirmedOff .. => 4
  | .retryWaitEnd .. => 5
  | .tripHistoryExpiry .. => 5
  | .ntcConversion .. => 4
  | .duskRun .. => 4
  | .duskStepEnd .. => 5
  | .darkPulseStart .. => 5
  | .darkPulseEnd .. => 5
  | .safeInputChannelDemand .. => 4
  | .safeInputChannelClear .. => 4
  | .safeInputDiscrepancy .. => 5
  | .safeInputStateKnown .. => 4
  | .stoFeedDischarged .. => 4
  | .stoReleaseStep .. => 5
  | .stoDischargeTimeout .. => 5
  | .stoFeedbackDeviation .. => 4
  | .ss1Standstill .. => 4
  | .ss1TimeElapsed .. => 5
  | .brakeApplyTimeEnd .. => 5
  | .brakeReleaseCheck .. => 5
  | .brakeHoldFault .. => 4
  | .brakeOvercurrent .. => 4
  | .brakeApplyCheck .. => 5
  | .brakeSwitchTest .. => 4
  | .brakeTestPulseEnd .. => 5
  | .sbtRun .. => 4
  | .sbtPhaseEnd .. => 5
  | .sbtDue .. => 5
  | .brakeTestOverdue .. => 5
  | .rstbtnDebounced .. => 4
  | .resetHeld .. => 5
  | .sealConfirm .. => 4
  | .sealConfirmationExpired .. => 5
  | .isfFrame .. => 4
  | .isfTimeout .. => 5
  | .isfProducerCycle .. => 5
  | .groveStopDemand .. => 4
  | .groveStopLineFault .. => 4
  | .groveStopLineTestStep .. => 5
  | .emptyPacket .. => 4
  | .emptyPacketTimer .. => 5
  | .linkNak .. => 4
  | .replayTimeout .. => 5
  | .forwardedPacket .. => 4
  | .canopyLaneDown .. => 4
  | .canopyPortDown .. => 4
  | .canopyPortUp .. => 4
  | .portSelfCheck .. => 5
  | .hello .. => 4
  | .helloTimer .. => 5
  | .formTimeExpiry .. => 5
  | .joinReq .. => 4
  | .joinAnswer .. => 4
  | .joinRetry .. => 5
  | .groveBoundary .. => 1
  | .boundary .. => 4
  | .linkState .. => 4
  | .sync .. => 4
  | .linkDelayTimer .. => 5
  | .delayRequest .. => 4
  | .delayResponse .. => 4
  | .status .. => 4
  | .memberLost .. => 5
  | .leaderLost .. => 5
  | .claim .. => 4
  | .claimWindowEnd .. => 5
  | .takeover .. => 4
  | .share .. => 4
  | .grant .. => 4
  | .grantAck .. => 4
  | .releaseReq .. => 4
  | .release .. => 4
  | .releaseAck .. => 4
  | .transferResend .. => 5
  | .auditReport .. => 4
  | .auditDeadline .. => 5
  | .leaseExpiry .. => 5
  | .expiringTokensReturn .. => 5
  | .tokensTotalWrite .. => 4
  | .standLeaseExpiry .. => 5
  | .forwardedRequest .. => 4
  | .forwardTimeout .. => 5
  | .ethernetPortDown .. => 4
  | .ethernetPortUp .. => 4
  | .frameForward .. => 4
  | .mrpFrame .. => 4
  | .gptpSync .. => 4
  | .gptpSyncTimeout .. => 5
  | .gateControlChange .. => 5
  | .processData .. => 4
  | .networkBoundary .. => 1
  | .pdTransmit .. => 5
  | .processDataTimeout .. => 5
  | .pdControl .. => 4
  | .read .. => 4
  | .write .. => 4
  | .connect .. => 4
  | .loginStep1 .. => 4
  | .loginStep2 .. => 4
  | .loginBlockEnd .. => 5
  | .logout .. => 4
  | .malformedPdu .. => 4
  | .arpRequest .. => 4
  | .icmpEcho .. => 4
  | .connectionTimeout .. => 5
  | .sessionOpen .. => 4
  | .sessionData .. => 4
  | .sessionAck .. => 4
  | .sessionNak .. => 4
  | .sessionFinish .. => 4
  | .sessionAbort .. => 4
  | .sessionRetryTimeout .. => 5
  | .sessionIdleTimeout .. => 5
  | .fwActivate .. => 4
  | .fwConfirm .. => 4
  | .usbAttach .. => 4
  | .usbDetach .. => 4
  | .bankStore .. => 4
  | .bankActivate .. => 4
  | .bankRestoreDefaults .. => 4
  | .bankErase .. => 4
  | .entryWrite .. => 4
  | .laneSupplyFault .. => 4
  | .laneRailRestored .. => 4
  | .laneRailMismatch .. => 4
  | .mainRailFault .. => 4
  | .analogSupplyFault .. => 4
  | .analogSupplyRestored .. => 4
  | .phySupplyFault .. => 4
  | .mainRailsFailedToStart .. => 5
  | .mainRailsRetry .. => 5
  | .powerFail .. => 4
  | .sleepRequest .. => 4
  | .idleSleepTimeout .. => 5
  | .lanternPowerOnReset .. => 4
  | .lanternSample .. => 4
  | .lanternAcknowledge .. => 4
  | .temperatureReading .. => 4
  | .nvRecordComplete .. => 3
  | .nvScrub .. => 5
  | .faultReset .. => 4
  | .groveStopLinesReleased .. => 4
  | .encoderEdge .. => 4
  | .gptpAnnounce .. => 4
  | .phySupplyRestored .. => 4
  | .powerFailReleased .. => 4
  | .fallbackSwitchesChanged .. => 4
  | .standSilentGroveReassign .. => 5
  | .groveSleepOrder .. => 4
  | .groveSleepRefusal .. => 4
  | .groveFirmwareSlotValid .. => 4

/-- Among lane arrivals of one stamp lane A stands before B before C (R31). -/
def Instr.orderLane : Instr → Nat
  | .tokenArrival _ .a .. => 0
  | .tokenArrival _ .b .. => 1
  | .tokenArrival _ .c .. => 2
  | .signatureComplete _ .a .. => 0
  | .signatureComplete _ .b .. => 1
  | .signatureComplete _ .c .. => 2
  | _ => 0

/-- A command stands before another in the ordered arbitration: by timebase stamp (ns), then by kind, then by lane. Inputs and timers
among themselves keep the order in which they are queued, that of their input sequence numbers and of the timers' starts. -/
def Instr.before (a b : Instr) : Bool :=
  decide (a.time / 1000 < b.time / 1000) ||
  (a.time / 1000 == b.time / 1000 && decide (4 * a.orderKind + a.orderLane < 4 * b.orderKind + b.orderLane))

/-- A command takes its place among those that wait: before the first that it stands before. -/
def enqueueIn (c : Instr) : List Instr → List Instr
  | [] => [c]
  | x :: r => if c.before x then c :: x :: r else x :: enqueueIn c r

/-- The commands wait in the order of R31. -/
def queueOrdered (l : List Instr) : Prop := l.Pairwise (fun a b => b.before a = false)

end Sys2Proof

namespace Sys2Proof.Machine

/-- A command joins the queue at its place in the ordered arbitration (R31). -/
def State.enqueue (s : State) (c : Instr) : State := { s with pending := Sys2Proof.enqueueIn c s.pending }

end Sys2Proof.Machine
end

