-- ==== Sys2Proof/Safety.lean ====
section
/-! DEFINITION. The terms in which the statements speak: the state after an effect, what a sound state is, which commands have an
effect while the main domain is in reset. -/

namespace Sys2Proof.Machine

/-- The state after a command whose effect turned the block, with its time moved to the command's instant `t`, into `e`: what
follows at once from `e` has happened too, and the queue is as it was. -/
def State.after (s : State) (t : Time) (e : Mach) : State := { s with core := settle (s.core.at_ t) e }

/-- FAULT_N is asserted exactly while one of its causes stands (R41, R427, R443, R450). -/
abbrev Mach.faultSound (m : Mach) : Prop := m.faultN = m.faultWanted

/-- A lane's token for a vote is judged: the main domain runs, no safe state, the lane is active, no case of R28 withholds the vote,
and it is no signature. -/
abbrev Mach.judges (m : Mach) (l : Lane) (k : Token) : Prop :=
  m.running = true ∧ m.clr.safeState = false ∧ m.laneActive l = true ∧
  m.clr.suspects.any (fun s => s.vote.vid == tokVote k) = false ∧ (tokVote k).ty ≠ 7

/-- The vote of a token is open and this lane has not arrived in it; the arrival is in time (R26). -/
abbrev Mach.inTime (m : Mach) (l : Lane) (k : Token) (v : Vote) : Prop :=
  m.clr.votes.find? (fun v => v.vid == tokVote k) = some v ∧ v.arrivals.any (fun x => x.lane == l) = false ∧
  m.ns ≤ v.opened + m.window

/-- What a token brings to its vote (R21, R23). -/
def Mach.arrival (m : Mach) (l : Lane) (k : Token) : Arrival := { lane := l, stamp := m.ns, body := tokBody k }

/-- A read or write of a connection is served: the lanes act, the source is taken, the handle is bound to it, the identifier is not
the last answered one, and fewer than four requests are outstanding (R361, R365). -/
abbrev Mach.serves (m : Mach) (rq : Req) (c : Conn) : Prop :=
  m.lanesAct = true ∧ m.takes rq.src = true ∧ m.connOf rq = some c ∧ c.answered.map (·.1) ≠ some rq.rid ∧ m.outstanding rq.handle < 4

/-- A login or session PDU of a connection is served: the lanes act, or the boot firmware does on USB; the source is taken and the
handle is bound to it (R361, R443). -/
abbrev Mach.servesPdu (m : Mach) (rq : Req) (c : Conn) : Prop :=
  (m.lanesAct || (m.bootServes && rq.src == .usb)) = true ∧ m.takes rq.src = true ∧ m.connOf rq = some c

/-- A session PDU reaches its open session on its own connection (R381). -/
abbrev Mach.inSession (m : Mach) (rq : Req) (sid : BitVec 32) (c : Conn) (x : Session) : Prop :=
  m.servesPdu rq c ∧ (touch rq m).sess.opened.find? (fun s => s.sid == sid && s.conn == rq.handle) = some x

/-- A write of an entry of this device is served and passes every check of R395 with a value. -/
abbrev Mach.accepts (m : Mach) (rq : Req) (c : Conn) (k : Nat) (bytes : List Byte) (v : Val) : Prop :=
  m.serves rq c ∧ (touch rq m).writeOf k bytes c.role = .ok v

/-! ### Which commands can act -/

end Sys2Proof.Machine

namespace Sys2Proof

/-- The commands that can act while the main domain is in reset: the Lantern, what turns the channels off, the voters and the power-up
reset itself; every other one needs a running or starting main domain (log entry 10). -/
def Instr.actsInReset : Instr → Bool
  | .inputFanoutDelivery .. => false
  | .laneSelfDissent .. => false
  | .tokenArrival .. => false
  | .agreementWindowClose .. => false
  | .contentCopyComplete .. => false
  | .controlCycleBoundary .. => false
  | .resyncFailed .. => false
  | .signatureComplete .. => false
  | .dissentEntryExpiry .. => true
  | .deadStateScrub .. => false
  | .safeOutputWatchdog .. => false
  | .safeStateBrakeDelay .. => true
  | .dutyToken .. => false
  | .safeOutputToken .. => false
  | .switchRelease .. => false
  | .offWithOffProfile .. => false
  | .softOff .. => false
  | .staticOn .. => false
  | .duskInjection05Ma .. => false
  | .duskInjection2Ma .. => false
  | .duskInjectionStop .. => false
  | .clearFaultLatches .. => false
  | .resetAdaptedProfile .. => false
  | .invalidCommand .. => false
  | .safeStateCommand .. => true
  | .powerUpResetEnd .. => true
  | .pllLockLoss .. => false
  | .lanternRateCheck .. => false
  | .lanternTickMissing .. => false
  | .carrierValley .. => false
  | .carrierPeak .. => false
  | .sampleArrival .. => false
  | .computationComplete .. => false
  | .outerComputationComplete .. => false
  | .legEdge .. => false
  | .deadTimeElapsed .. => false
  | .pulseEnable .. => false
  | .commitNextBoundary .. => false
  | .commitAtBoundary .. => false
  | .discardShadowBank .. => false
  | .histogramClear .. => false
  | .groveCommitPrepare .. => false
  | .prepareAnswer .. => false
  | .prepareTimeout .. => false
  | .groveCommit .. => false
  | .prepareLapse .. => false
  | .fastComparatorTrip .. => false
  | .modulatorStreamDead .. => false
  | .modulatorStreamRestored .. => false
  | .terminalMeasurementDone .. => false
  | .indexPulse .. => false
  | .positionWireBreak .. => false
  | .positionCountError .. => false
  | .resolverExcitationOpen .. => false
  | .resolverTrackingLoss .. => false
  | .excitationSettleEnd .. => false
  | .ainConversion .. => false
  | .leverTrackDiscrepancy .. => false
  | .leverPairAgreed .. => false
  | .dutyStall .. => false
  | .swapForced .. => false
  | .historyReset .. => false
  | .echoStart .. => false
  | .echoAbort .. => false
  | .echoSettleEnd .. => false
  | .echoPointComplete .. => false
  | .echoStep .. => false
  | .echoDurationEnd .. => false
  | .captureArm .. => false
  | .reacquireTimeout .. => false
  | .speedMeasurementDone .. => false
  | .probeScanDone .. => false
  | .remeasure .. => false
  | .startWaitExpired .. => false
  | .polarityPulseEnd .. => false
  | .neutralPointDeviation .. => false
  | .commandRun .. => false
  | .commandStop .. => false
  | .preTorqueHeld .. => false
  | .leverNeutralAccepted .. => false
  | .referenceTimeout .. => false
  | .phaseBackSlow .. => false
  | .wrapsSet .. => false
  | .shockHoldEnd .. => false
  | .shockRecoveryEnd .. => false
  | .motionRecord .. => false
  | .motionReferenceLost .. => false
  | .heaveFadeEnd .. => false
  | .quickReleaseDemand .. => false
  | .quickReleaseEnd .. => false
  | .regenerationShortfall .. => false
  | .uplinkStatusFrame .. => false
  | .downlinkLoss .. => false
  | .uplinkLoss .. => false
  | .channelUplinkTimeout .. => false
  | .channelConfiguration .. => false
  | .profilePhase1End .. => true
  | .edgeMeasurement .. => false
  | .railValid .. => true
  | .railInvalid .. => true
  | .didtTrip .. => false
  | .rampWindowEnd .. => true
  | .integratorTrip .. => false
  | .desaturationTrip .. => false
  | .turnOffSequenceStep .. => true
  | .gateOffConfirmed .. => false
  | .legInterlockFault .. => false
  | .swcmdTransition .. => true
  | .directEnable .. => false
  | .setConfirmedOff .. => false
  | .retryWaitEnd .. => false
  | .tripHistoryExpiry .. => true
  | .ntcConversion .. => false
  | .duskRun .. => false
  | .duskStepEnd .. => false
  | .darkPulseStart .. => true
  | .darkPulseEnd .. => true
  | .safeInputChannelDemand .. => false
  | .safeInputChannelClear .. => false
  | .safeInputDiscrepancy .. => false
  | .safeInputStateKnown .. => false
  | .stoFeedDischarged .. => false
  | .stoReleaseStep .. => false
  | .stoDischargeTimeout .. => false
  | .stoFeedbackDeviation .. => false
  | .ss1Standstill .. => false
  | .ss1TimeElapsed .. => false
  | .brakeApplyTimeEnd .. => false
  | .brakeReleaseCheck .. => false
  | .brakeHoldFault .. => false
  | .brakeOvercurrent .. => false
  | .brakeApplyCheck .. => false
  | .brakeSwitchTest .. => false
  | .brakeTestPulseEnd .. => false
  | .sbtRun .. => false
  | .sbtPhaseEnd .. => false
  | .sbtDue .. => false
  | .brakeTestOverdue .. => false
  | .rstbtnDebounced .. => false
  | .resetHeld .. => false
  | .sealConfirm .. => false
  | .sealConfirmationExpired .. => false
  | .isfFrame .. => false
  | .isfTimeout .. => false
  | .isfProducerCycle .. => false
  | .groveStopDemand .. => false
  | .groveStopLineFault .. => false
  | .groveStopLineTestStep .. => false
  | .emptyPacket .. => false
  | .emptyPacketTimer .. => false
  | .linkNak .. => false
  | .replayTimeout .. => false
  | .forwardedPacket .. => false
  | .canopyLaneDown .. => false
  | .canopyPortDown .. => false
  | .canopyPortUp .. => false
  | .portSelfCheck .. => false
  | .hello .. => false
  | .helloTimer .. => false
  | .formTimeExpiry .. => false
  | .joinReq .. => false
  | .joinAnswer .. => false
  | .joinRetry .. => false
  | .groveBoundary .. => false
  | .boundary .. => false
  | .linkState .. => false
  | .sync .. => false
  | .linkDelayTimer .. => false
  | .delayRequest .. => false
  | .delayResponse .. => false
  | .status .. => false
  | .memberLost .. => false
  | .leaderLost .. => false
  | .claim .. => false
  | .claimWindowEnd .. => false
  | .takeover .. => false
  | .share .. => false
  | .grant .. => false
  | .grantAck .. => false
  | .releaseReq .. => false
  | .release .. => false
  | .releaseAck .. => false
  | .transferResend .. => false
  | .auditReport .. => false
  | .auditDeadline .. => false
  | .leaseExpiry .. => false
  | .expiringTokensReturn .. => false
  | .tokensTotalWrite .. => false
  | .standLeaseExpiry .. => false
  | .forwardedRequest .. => false
  | .forwardTimeout .. => false
  | .ethernetPortDown .. => false
  | .ethernetPortUp .. => false
  | .frameForward .. => false
  | .mrpFrame .. => false
  | .gptpSync .. => false
  | .gptpSyncTimeout .. => false
  | .gateControlChange .. => false
  | .processData .. => false
  | .networkBoundary .. => false
  | .pdTransmit .. => false
  | .processDataTimeout .. => false
  | .pdControl .. => false
  | .read .. => false
  | .write .. => false
  | .connect .. => false
  | .loginStep1 .. => false
  | .loginStep2 .. => false
  | .loginBlockEnd .. => false
  | .logout .. => false
  | .malformedPdu .. => false
  | .arpRequest .. => false
  | .icmpEcho .. => false
  | .connectionTimeout .. => false
  | .sessionOpen .. => false
  | .sessionData .. => false
  | .sessionAck .. => false
  | .sessionNak .. => false
  | .sessionFinish .. => false
  | .sessionAbort .. => false
  | .sessionRetryTimeout .. => false
  | .sessionIdleTimeout .. => false
  | .fwActivate .. => false
  | .fwConfirm .. => false
  | .usbAttach .. => false
  | .usbDetach .. => false
  | .bankStore .. => false
  | .bankActivate .. => false
  | .bankRestoreDefaults .. => false
  | .bankErase .. => false
  | .entryWrite .. => false
  | .laneSupplyFault .. => false
  | .laneRailRestored .. => false
  | .laneRailMismatch .. => false
  | .mainRailFault .. => false
  | .analogSupplyFault .. => false
  | .analogSupplyRestored .. => false
  | .phySupplyFault .. => false
  | .mainRailsFailedToStart .. => true
  | .mainRailsRetry .. => true
  | .powerFail .. => false
  | .sleepRequest .. => false
  | .idleSleepTimeout .. => false
  | .lanternPowerOnReset .. => true
  | .lanternSample .. => true
  | .lanternAcknowledge .. => false
  | .temperatureReading .. => false
  | .nvRecordComplete .. => false
  | .nvScrub .. => false
  | .faultReset .. => false
  | .groveStopLinesReleased .. => false
  | .encoderEdge .. => true
  | .gptpAnnounce .. => false
  | .phySupplyRestored .. => false
  | .powerFailReleased .. => false
  | .fallbackSwitchesChanged .. => false
  | .standSilentGroveReassign .. => false
  | .groveSleepOrder .. => false
  | .groveSleepRefusal .. => false
  | .groveFirmwareSlotValid .. => false

/-- The commands that can act in the Clearing's safe state: what hardware does without a vote (R41, R263, R351; log entry 10). -/
def Instr.needsNoLane : Instr → Bool
  | .inputFanoutDelivery .. => true
  | .laneSelfDissent .. => true
  | .tokenArrival .. => false
  | .agreementWindowClose .. => false
  | .contentCopyComplete .. => false
  | .controlCycleBoundary .. => true
  | .resyncFailed .. => false
  | .signatureComplete .. => false
  | .dissentEntryExpiry .. => true
  | .deadStateScrub .. => true
  | .safeOutputWatchdog .. => true
  | .safeStateBrakeDelay .. => true
  | .dutyToken .. => false
  | .safeOutputToken .. => false
  | .switchRelease .. => false
  | .offWithOffProfile .. => false
  | .softOff .. => false
  | .staticOn .. => false
  | .duskInjection05Ma .. => false
  | .duskInjection2Ma .. => false
  | .duskInjectionStop .. => false
  | .clearFaultLatches .. => false
  | .resetAdaptedProfile .. => false
  | .invalidCommand .. => false
  | .safeStateCommand .. => true
  | .powerUpResetEnd .. => true
  | .pllLockLoss .. => true
  | .lanternRateCheck .. => true
  | .lanternTickMissing .. => true
  | .carrierValley .. => true
  | .carrierPeak .. => true
  | .sampleArrival .. => false
  | .computationComplete .. => false
  | .outerComputationComplete .. => false
  | .legEdge .. => true
  | .deadTimeElapsed .. => true
  | .pulseEnable .. => false
  | .commitNextBoundary .. => false
  | .commitAtBoundary .. => false
  | .discardShadowBank .. => false
  | .histogramClear .. => false
  | .groveCommitPrepare .. => false
  | .prepareAnswer .. => false
  | .prepareTimeout .. => false
  | .groveCommit .. => false
  | .prepareLapse .. => false
  | .fastComparatorTrip .. => false
  | .modulatorStreamDead .. => true
  | .modulatorStreamRestored .. => true
  | .terminalMeasurementDone .. => true
  | .indexPulse .. => true
  | .positionWireBreak .. => true
  | .positionCountError .. => true
  | .resolverExcitationOpen .. => true
  | .resolverTrackingLoss .. => true
  | .excitationSettleEnd .. => true
  | .ainConversion .. => true
  | .leverTrackDiscrepancy .. => false
  | .leverPairAgreed .. => false
  | .dutyStall .. => true
  | .swapForced .. => false
  | .historyReset .. => false
  | .echoStart .. => false
  | .echoAbort .. => false
  | .echoSettleEnd .. => false
  | .echoPointComplete .. => false
  | .echoStep .. => false
  | .echoDurationEnd .. => false
  | .captureArm .. => false
  | .reacquireTimeout .. => false
  | .speedMeasurementDone .. => false
  | .probeScanDone .. => false
  | .remeasure .. => false
  | .startWaitExpired .. => false
  | .polarityPulseEnd .. => false
  | .neutralPointDeviation .. => false
  | .commandRun .. => false
  | .commandStop .. => false
  | .preTorqueHeld .. => false
  | .leverNeutralAccepted .. => false
  | .referenceTimeout .. => false
  | .phaseBackSlow .. => false
  | .wrapsSet .. => false
  | .shockHoldEnd .. => false
  | .shockRecoveryEnd .. => false
  | .motionRecord .. => false
  | .motionReferenceLost .. => false
  | .heaveFadeEnd .. => false
  | .quickReleaseDemand .. => false
  | .quickReleaseEnd .. => false
  | .regenerationShortfall .. => false
  | .uplinkStatusFrame .. => true
  | .downlinkLoss .. => true
  | .uplinkLoss .. => true
  | .channelUplinkTimeout .. => true
  | .channelConfiguration .. => true
  | .profilePhase1End .. => true
  | .edgeMeasurement .. => true
  | .railValid .. => true
  | .railInvalid .. => true
  | .didtTrip .. => true
  | .rampWindowEnd .. => true
  | .integratorTrip .. => true
  | .desaturationTrip .. => true
  | .turnOffSequenceStep .. => true
  | .gateOffConfirmed .. => true
  | .legInterlockFault .. => true
  | .swcmdTransition .. => true
  | .directEnable .. => false
  | .setConfirmedOff .. => false
  | .retryWaitEnd .. => false
  | .tripHistoryExpiry .. => true
  | .ntcConversion .. => true
  | .duskRun .. => false
  | .duskStepEnd .. => false
  | .darkPulseStart .. => true
  | .darkPulseEnd .. => true
  | .safeInputChannelDemand .. => true
  | .safeInputChannelClear .. => true
  | .safeInputDiscrepancy .. => false
  | .safeInputStateKnown .. => true
  | .stoFeedDischarged .. => true
  | .stoReleaseStep .. => false
  | .stoDischargeTimeout .. => false
  | .stoFeedbackDeviation .. => false
  | .ss1Standstill .. => false
  | .ss1TimeElapsed .. => false
  | .brakeApplyTimeEnd .. => false
  | .brakeReleaseCheck .. => false
  | .brakeHoldFault .. => false
  | .brakeOvercurrent .. => false
  | .brakeApplyCheck .. => false
  | .brakeSwitchTest .. => false
  | .brakeTestPulseEnd .. => false
  | .sbtRun .. => false
  | .sbtPhaseEnd .. => false
  | .sbtDue .. => false
  | .brakeTestOverdue .. => false
  | .rstbtnDebounced .. => true
  | .resetHeld .. => false
  | .sealConfirm .. => false
  | .sealConfirmationExpired .. => false
  | .isfFrame .. => true
  | .isfTimeout .. => false
  | .isfProducerCycle .. => false
  | .groveStopDemand .. => true
  | .groveStopLineFault .. => false
  | .groveStopLineTestStep .. => false
  | .emptyPacket .. => true
  | .emptyPacketTimer .. => true
  | .linkNak .. => true
  | .replayTimeout .. => true
  | .forwardedPacket .. => true
  | .canopyLaneDown .. => true
  | .canopyPortDown .. => true
  | .canopyPortUp .. => true
  | .portSelfCheck .. => true
  | .hello .. => false
  | .helloTimer .. => false
  | .formTimeExpiry .. => false
  | .joinReq .. => false
  | .joinAnswer .. => false
  | .joinRetry .. => false
  | .groveBoundary .. => true
  | .boundary .. => false
  | .linkState .. => true
  | .sync .. => true
  | .linkDelayTimer .. => true
  | .delayRequest .. => true
  | .delayResponse .. => true
  | .status .. => false
  | .memberLost .. => false
  | .leaderLost .. => false
  | .claim .. => false
  | .claimWindowEnd .. => false
  | .takeover .. => false
  | .share .. => false
  | .grant .. => false
  | .grantAck .. => false
  | .releaseReq .. => false
  | .release .. => false
  | .releaseAck .. => false
  | .transferResend .. => false
  | .auditReport .. => false
  | .auditDeadline .. => false
  | .leaseExpiry .. => false
  | .expiringTokensReturn .. => false
  | .tokensTotalWrite .. => false
  | .standLeaseExpiry .. => false
  | .forwardedRequest .. => false
  | .forwardTimeout .. => false
  | .ethernetPortDown .. => true
  | .ethernetPortUp .. => true
  | .frameForward .. => true
  | .mrpFrame .. => true
  | .gptpSync .. => true
  | .gptpSyncTimeout .. => true
  | .gateControlChange .. => true
  | .processData .. => false
  | .networkBoundary .. => true
  | .pdTransmit .. => false
  | .processDataTimeout .. => false
  | .pdControl .. => false
  | .read .. => false
  | .write .. => false
  | .connect .. => false
  | .loginStep1 .. => false
  | .loginStep2 .. => false
  | .loginBlockEnd .. => true
  | .logout .. => false
  | .malformedPdu .. => true
  | .arpRequest .. => false
  | .icmpEcho .. => false
  | .connectionTimeout .. => true
  | .sessionOpen .. => false
  | .sessionData .. => false
  | .sessionAck .. => false
  | .sessionNak .. => false
  | .sessionFinish .. => false
  | .sessionAbort .. => false
  | .sessionRetryTimeout .. => false
  | .sessionIdleTimeout .. => false
  | .fwActivate .. => false
  | .fwConfirm .. => false
  | .usbAttach .. => true
  | .usbDetach .. => true
  | .bankStore .. => false
  | .bankActivate .. => false
  | .bankRestoreDefaults .. => false
  | .bankErase .. => false
  | .entryWrite .. => false
  | .laneSupplyFault .. => true
  | .laneRailRestored .. => true
  | .laneRailMismatch .. => true
  | .mainRailFault .. => true
  | .analogSupplyFault .. => true
  | .analogSupplyRestored .. => true
  | .phySupplyFault .. => true
  | .mainRailsFailedToStart .. => true
  | .mainRailsRetry .. => true
  | .powerFail .. => true
  | .sleepRequest .. => false
  | .idleSleepTimeout .. => false
  | .lanternPowerOnReset .. => true
  | .lanternSample .. => true
  | .lanternAcknowledge .. => false
  | .temperatureReading .. => true
  | .nvRecordComplete .. => true
  | .nvScrub .. => true
  | .faultReset .. => false
  | .groveStopLinesReleased .. => true
  | .encoderEdge .. => true
  | .gptpAnnounce .. => true
  | .phySupplyRestored .. => true
  | .powerFailReleased .. => true
  | .fallbackSwitchesChanged .. => false
  | .standSilentGroveReassign .. => false
  | .groveSleepOrder .. => false
  | .groveSleepRefusal .. => false
  | .groveFirmwareSlotValid .. => false

end Sys2Proof

/-! ### What each command does -/

namespace Sys2Proof

open Sys2Proof.Machine in
/-- The effect of each command on the block, its time moved to the command's instant. -/
def Instr.effect : Instr → Mach → Mach
  | .inputFanoutDelivery _ words upsets => inputFanoutDeliveryEff words upsets
  | .laneSelfDissent _ lane => whenUp (selfDissent lane)
  | .tokenArrival _ lane tok refl => tokenArrivalEff lane tok refl
  | .agreementWindowClose _ v refl => agreementWindowCloseEff v refl
  | .contentCopyComplete _ v content => contentCopyCompleteEff v content
  | .controlCycleBoundary _ calib exercised dirty => controlCycleBoundaryEff calib exercised dirty
  | .resyncFailed _ lane => resyncFailedEff lane
  | .signatureComplete _ lane refl => signatureCompleteEff lane refl
  | .dissentEntryExpiry _ lane => dissentEntryExpiryEff lane
  | .deadStateScrub _ => deadStateScrubEff
  | .safeOutputWatchdog _ voter => safeOutputWatchdogEff voter
  | .safeStateBrakeDelay _ brake voter => safeStateBrakeDelayEff brake voter
  | .dutyToken _ set leg slot compare duty => dutyTokenEff set leg slot compare duty
  | .safeOutputToken _ payload => safeOutputTokenEff payload
  | .switchRelease _ ch => switchReleaseEff ch
  | .offWithOffProfile _ ch => offWithOffProfileEff ch
  | .softOff _ ch => softOffEff ch
  | .staticOn _ ch => staticOnEff ch
  | .duskInjection05Ma _ ch => injectEff ch 1
  | .duskInjection2Ma _ ch => injectEff ch 2
  | .duskInjectionStop _ ch => injectEff ch 0
  | .clearFaultLatches _ ch persists => clearFaultLatchesEff ch persists
  | .resetAdaptedProfile _ ch => resetAdaptedProfileEff ch
  | .invalidCommand _ ch code => invalidCommandEff ch code
  | .safeStateCommand _ ch => safeStateCommandEff ch
  | .powerUpResetEnd _ b => powerUpResetEndEff b
  | .pllLockLoss _ => pllLockLossEff
  | .lanternRateCheck _ ticksNs => lanternRateCheckEff ticksNs
  | .lanternTickMissing _ => lanternTickMissingEff
  | .carrierValley _ set => carrierValleyEff set
  | .carrierPeak _ set => carrierPeakEff set
  | .sampleArrival _ set smp => sampleArrivalEff set smp
  | .computationComplete _ set lane => computationCompleteEff set lane
  | .outerComputationComplete _ lane => outerComputationCompleteEff lane
  | .legEdge _ set leg => legEdgeEff set leg
  | .deadTimeElapsed _ set leg => deadTimeElapsedEff set leg
  | .pulseEnable _ set => pulseEnableEff set
  | .commitNextBoundary _ rq => writeHere rq Key.commitRequest [1]
  | .commitAtBoundary _ rq => writeHere rq Key.commitRequest [2]
  | .discardShadowBank _ rq => writeHere rq Key.commitRequest [3]
  | .histogramClear _ rq set => writeHere rq (Key.histogramClear set.1) [1]
  | .groveCommitPrepare _ dom => groveCommitPrepareEff dom
  | .prepareAnswer _ pos dom ok => prepareAnswerEff pos dom ok
  | .prepareTimeout _ pos dom => prepareTimeoutEff pos dom
  | .groveCommit _ dom n => groveCommitEff dom n
  | .prepareLapse _ dom => prepareLapseEff dom
  | .fastComparatorTrip _ set input high bits => fastComparatorTripEff set input high bits
  | .modulatorStreamDead _ set input last => modulatorStreamDeadEff set input last
  | .modulatorStreamRestored _ set input bits => modulatorStreamRestoredEff set input bits
  | .terminalMeasurementDone _ set stream => terminalMeasurementDoneEff set stream
  | .indexPulse _ pi => indexPulseEff pi
  | .positionWireBreak _ pi pair volts dur samples => positionWireBreakEff pi pair volts dur samples
  | .positionCountError _ pi gap => positionCountErrorEff pi gap
  | .resolverExcitationOpen _ pi rms dur => resolverExcitationOpenEff pi rms dur
  | .resolverTrackingLoss _ pi pair => resolverTrackingLossEff pi pair
  | .excitationSettleEnd _ pi => excitationSettleEndEff pi
  | .ainConversion _ ain raw => ainConversionEff ain raw
  | .leverTrackDiscrepancy _ pair => leverTrackDiscrepancyEff pair
  | .leverPairAgreed _ pair => leverPairAgreedEff pair
  | .dutyStall _ set => dutyStallEff set
  | .swapForced _ dom group => swapForcedEff dom group
  | .historyReset _ rq slot => writeHere rq (Key.slotHistoryReset slot.1) [1]
  | .echoStart _ rq => writeHere rq Key.echoStart [1]
  | .echoAbort _ rq => writeHere rq Key.echoAbort [1]
  | .echoSettleEnd _ => echoSettleEndEff
  | .echoPointComplete _ => echoPointCompleteEff
  | .echoStep _ => echoStepEff
  | .echoDurationEnd _ => echoDurationEndEff
  | .captureArm _ rq => writeHere rq Key.captureArm [1]
  | .reacquireTimeout _ set => reacquireTimeoutEff set
  | .speedMeasurementDone _ set => speedMeasurementDoneEff set
  | .probeScanDone _ set first second emf => probeScanDoneEff set first second emf
  | .remeasure _ set => remeasureEff set
  | .startWaitExpired _ set => startWaitExpiredEff set
  | .polarityPulseEnd _ set => polarityPulseEndEff set
  | .neutralPointDeviation _ set => neutralPointDeviationEff set
  | .commandRun _ rq drv => writeHere rq (Key.command drv.1) [1]
  | .commandStop _ rq drv => writeHere rq (Key.command drv.1) [0]
  | .preTorqueHeld _ drv => preTorqueHeldEff drv
  | .leverNeutralAccepted _ drv => leverNeutralAcceptedEff drv
  | .referenceTimeout _ drv => referenceTimeoutEff drv
  | .phaseBackSlow _ drv => phaseBackSlowEff drv
  | .wrapsSet _ rq drv wraps => writeHere rq (Key.winchWrapsSet drv.1) (beBytes 4 wraps.toNat)
  | .shockHoldEnd _ drv => shockHoldEndEff drv
  | .shockRecoveryEnd _ drv => shockRecoveryEndEff drv
  | .motionRecord _ drv time pos vel acc seq => motionRecordEff drv time pos vel acc seq
  | .motionReferenceLost _ drv => motionReferenceLostEff drv
  | .heaveFadeEnd _ drv => heaveFadeEndEff drv
  | .quickReleaseDemand _ drv => quickReleaseDemandEff drv
  | .quickReleaseEnd _ drv => quickReleaseEndEff drv
  | .regenerationShortfall _ drv => regenerationShortfallEff drv
  | .uplinkStatusFrame _ ch fr => uplinkStatusFrameEff ch fr
  | .downlinkLoss _ ch => downlinkLossEff ch
  | .uplinkLoss _ ch => uplinkLossEff ch
  | .channelUplinkTimeout _ ch => channelUplinkTimeoutEff ch
  | .channelConfiguration _ ch cfg crc => channelConfigurationEff ch cfg crc
  | .profilePhase1End _ ch => profilePhase1EndEff ch
  | .edgeMeasurement _ ch on time peak => edgeMeasurementEff ch on time peak
  | .railValid _ ch rail volts => railValidEff ch rail volts
  | .railInvalid _ ch rail volts => railInvalidEff ch rail volts
  | .didtTrip _ ch volts => didtTripEff ch volts
  | .rampWindowEnd _ ch => rampWindowEndEff ch
  | .integratorTrip _ ch course => integratorTripEff ch course
  | .desaturationTrip _ ch volts => desaturationTripEff ch volts
  | .turnOffSequenceStep _ set => turnOffSequenceStepEff set
  | .gateOffConfirmed _ ch => gateOffConfirmedEff ch
  | .legInterlockFault _ set leg => legInterlockFaultEff set leg
  | .swcmdTransition _ ch high => swcmdTransitionEff ch high
  | .directEnable _ rq set on => writeHere rq (Key.gateDirectEnable set.1) [if on then 1 else 0]
  | .setConfirmedOff _ set persists => setConfirmedOffEff set persists
  | .retryWaitEnd _ set => retryWaitEndEff set
  | .tripHistoryExpiry _ set => tripHistoryExpiryEff set
  | .ntcConversion _ ch volts => ntcConversionEff ch volts
  | .duskRun _ rq set => writeHere rq (Key.duskRun set.1) [1]
  | .duskStepEnd _ set rd => duskStepEndEff set rd
  | .darkPulseStart _ tp => darkPulseStartEff tp
  | .darkPulseEnd _ tp rd => darkPulseEndEff tp rd
  | .safeInputChannelDemand _ si ch since => safeInputChannelDemandEff si ch since
  | .safeInputChannelClear _ si ch since => safeInputChannelClearEff si ch since
  | .safeInputDiscrepancy _ si => safeInputDiscrepancyEff si
  | .safeInputStateKnown _ si => safeInputStateKnownEff si
  | .stoFeedDischarged _ fbn => stoFeedDischargedEff fbn
  | .stoReleaseStep _ fbp fbn => stoReleaseStepEff fbp fbn
  | .stoDischargeTimeout _ => stoDischargeTimeoutEff
  | .stoFeedbackDeviation _ fbp fbn since => stoFeedbackDeviationEff fbp fbn since
  | .ss1Standstill _ drv => ss1StandstillEff drv
  | .ss1TimeElapsed _ drv => ss1TimeElapsedEff drv
  | .brakeApplyTimeEnd _ drv => brakeApplyTimeEndEff drv
  | .brakeReleaseCheck _ brake isns fbp fbn => brakeReleaseCheckEff brake isns fbp fbn
  | .brakeHoldFault _ brake isns since => brakeHoldFaultEff brake isns since
  | .brakeOvercurrent _ brake isns => brakeOvercurrentEff brake isns
  | .brakeApplyCheck _ brake isns fbp => brakeApplyCheckEff brake isns fbp
  | .brakeSwitchTest _ brake => brakeSwitchTestEff brake
  | .brakeTestPulseEnd _ brake fbp fbn => brakeTestPulseEndEff brake fbp fbn
  | .sbtRun _ rq brake => writeHere rq (Key.sbtRun brake.1) [1]
  | .sbtPhaseEnd _ brake => sbtPhaseEndEff brake
  | .sbtDue _ brake => sbtDueEff brake
  | .brakeTestOverdue _ brake => brakeTestOverdueEff brake
  | .rstbtnDebounced _ closed => rstbtnDebouncedEff closed
  | .resetHeld _ => resetHeldEff
  | .sealConfirm _ rq value => writeHere rq Key.safetySealConfirm (beBytes 4 value.toNat)
  | .sealConfirmationExpired _ => sealConfirmationExpiredEff
  | .isfFrame _ conn frame => isfFrameEff conn frame
  | .isfTimeout _ conn => isfTimeoutEff conn
  | .isfProducerCycle _ conn => isfProducerCycleEff conn
  | .groveStopDemand _ aLow bLow since => groveStopDemandEff aLow bLow since
  | .groveStopLineFault _ line => groveStopLineFaultEff line
  | .groveStopLineTestStep _ reads => groveStopLineTestStepEff reads
  | .emptyPacket _ port h => emptyPacketEff port h
  | .emptyPacketTimer _ port => emptyPacketTimerEff port
  | .linkNak _ port k => linkNakEff port k
  | .replayTimeout _ port => replayTimeoutEff port
  | .forwardedPacket _ port h payload crc => forwardedPacketEff port h payload crc
  | .canopyLaneDown _ port lane => canopyLaneDownEff port lane
  | .canopyPortDown _ port since => canopyPortDownEff port since
  | .canopyPortUp _ port neighbour idleSince => canopyPortUpEff port neighbour idleSince
  | .portSelfCheck _ port ok => portSelfCheckEff port ok
  | .hello _ src h => helloEff src h
  | .helloTimer _ => helloTimerEff
  | .formTimeExpiry _ => formTimeExpiryEff
  | .joinReq _ src h => joinReqEff src h
  | .joinAnswer _ code map period n tN bank => joinAnswerEff code map period n tN bank
  | .joinRetry _ => joinRetryEff
  | .groveBoundary _ => groveBoundaryEff
  | .boundary _ src n tN map mode => boundaryEff src n tN map mode
  | .linkState _ src east west => linkStateEff src east west
  | .sync _ src port tN corr => syncEff src port tN corr
  | .linkDelayTimer _ => linkDelayTimerEff
  | .delayRequest _ port _ => delayRequestEff port
  | .delayResponse _ port t1 t2 t3 => delayResponseEff port t1 t2 t3
  | .status _ src st => statusEff src st
  | .memberLost _ pos => memberLostEff pos
  | .leaderLost _ => leaderLostEff
  | .claim _ src selfCheck reach holding relSeq relAmt => claimEff src selfCheck reach holding relSeq relAmt
  | .claimWindowEnd _ => claimWindowEndEff
  | .takeover _ src n tN map mode nextSeq => takeoverEff src n tN map mode nextSeq
  | .share _ src applyTime total refs => shareEff src applyTime total refs
  | .grant _ src sq amt => grantEff src sq amt
  | .grantAck _ src sq => grantAckEff src sq
  | .releaseReq _ src sq amt => releaseReqEff src sq amt
  | .release _ src sq amt => releaseEff src sq amt
  | .releaseAck _ src sq => releaseAckEff src sq
  | .transferResend _ sq => transferResendEff sq
  | .auditReport _ src n holding lastSeq => auditReportEff src n holding lastSeq
  | .auditDeadline _ => auditDeadlineEff
  | .leaseExpiry _ => leaseExpiryEff
  | .expiringTokensReturn _ pos => expiringTokensReturnEff pos
  | .tokensTotalWrite _ rq total => writeHere rq Key.tokensTotal (beBytes 2 total)
  | .standLeaseExpiry _ => standLeaseExpiryEff
  | .forwardedRequest _ src answer role pdu => forwardedRequestEff src answer role pdu
  | .forwardTimeout _ rq => forwardTimeoutEff rq
  | .ethernetPortDown _ port => ethernetPortDownEff port
  | .ethernetPortUp _ port speed full => ethernetPortUpEff port speed full
  | .frameForward _ port frame => frameForwardEff port frame
  | .mrpFrame _ port k => mrpFrameEff port k
  | .gptpSync _ gm time => gptpSyncEff gm time
  | .gptpSyncTimeout _ => gptpSyncTimeoutEff
  | .gateControlChange _ port => gateControlChangeEff port
  | .processData _ src counter body => processDataEff src counter body
  | .networkBoundary _ => networkBoundaryEff
  | .pdTransmit _ => pdTransmitEff
  | .processDataTimeout _ => processDataTimeoutEff
  | .pdControl _ rq run => writeHere rq Key.pdControl [if run then 1 else 0]
  | .read _ rq unit index sub shadow => readEff rq unit (index.toNat * 256 + sub.toNat) shadow
  | .write _ rq unit index sub value => writeEff rq unit (index.toNat * 256 + sub.toNat) value
  | .connect _ rq sub name => connectEff rq sub name
  | .loginStep1 _ rq role => loginStep1Eff rq role
  | .loginStep2 _ rq proof => loginStep2Eff rq proof
  | .loginBlockEnd _ src => loginBlockEndEff src
  | .logout _ rq => logoutEff rq
  | .malformedPdu _ pdu => malformedPduEff pdu
  | .arpRequest _ ip mac asker => arpRequestEff ip mac asker
  | .icmpEcho _ src data => icmpEchoEff src data
  | .connectionTimeout _ handle => connectionTimeoutEff handle
  | .sessionOpen _ rq o => sessionOpenEff rq o
  | .sessionData _ rq sid sq offset data => sessionDataEff rq sid sq offset data
  | .sessionAck _ rq sid next => sessionAckEff rq sid next
  | .sessionNak _ rq sid next => sessionNakEff rq sid next
  | .sessionFinish _ rq sid => sessionFinishEff rq sid
  | .sessionAbort _ rq sid _ => sessionAbortEff rq sid
  | .sessionRetryTimeout _ sid => sessionRetryTimeoutEff sid
  | .sessionIdleTimeout _ sid => sessionIdleTimeoutEff sid
  | .fwActivate _ rq slot => writeHere rq Key.fwActivate [BitVec.ofNat 8 slot.1]
  | .fwConfirm _ rq => writeHere rq Key.fwConfirm [1]
  | .usbAttach _ => usbAttachEff
  | .usbDetach _ => usbDetachEff
  | .bankStore _ rq n => writeHere rq Key.bankStore [BitVec.ofNat 8 n.1]
  | .bankActivate _ rq n => writeHere rq Key.bankActivate [BitVec.ofNat 8 n.1]
  | .bankRestoreDefaults _ rq => writeHere rq Key.bankRestoreDefaults [1]
  | .bankErase _ rq n => writeHere rq Key.bankErase [BitVec.ofNat 8 n.1]
  | .entryWrite _ rq index sub value => writeHere rq (index.toNat * 256 + sub.toNat) value
  | .laneSupplyFault _ lane volts since => laneSupplyFaultEff lane volts since
  | .laneRailRestored _ lane volts since => laneRailRestoredEff lane volts since
  | .laneRailMismatch _ a b c since => laneRailMismatchEff a b c since
  | .mainRailFault _ rail volts since => mainRailFaultEff rail volts since
  | .analogSupplyFault _ volts since => analogSupplyFaultEff volts since
  | .analogSupplyRestored _ volts since => analogSupplyRestoredEff volts since
  | .phySupplyFault _ rail volts since => phySupplyFaultEff rail volts since
  | .mainRailsFailedToStart _ => mainRailsFailedToStartEff
  | .mainRailsRetry _ => mainRailsRetryEff
  | .powerFail _ cause since => powerFailEff cause since
  | .sleepRequest _ rq => writeHere rq Key.powerSleepRequest [1]
  | .idleSleepTimeout _ => idleSleepTimeoutEff
  | .lanternPowerOnReset _ => lanternPowerOnResetEff
  | .lanternSample _ ls => lanternSampleEff ls
  | .lanternAcknowledge _ rq => writeHere rq Key.lanternAcknowledge [1]
  | .temperatureReading _ sensor temp => temperatureReadingEff sensor temp
  | .nvRecordComplete _ => nvRecordCompleteEff
  | .nvScrub _ corrected bad => nvScrubEff corrected bad
  | .faultReset _ rq => writeHere rq Key.faultReset [1]
  | .groveStopLinesReleased _ => groveStopLinesReleasedEff
  | .encoderEdge _ pi forward lantern stable => encoderEdgeEff pi forward lantern stable
  | .gptpAnnounce _ gm better => gptpAnnounceEff gm better
  | .phySupplyRestored _ rail volts => phySupplyRestoredEff rail volts
  | .powerFailReleased _ => powerFailReleasedEff
  | .fallbackSwitchesChanged _ => fallbackSwitchesChangedEff
  | .standSilentGroveReassign _ grove heard => standSilentGroveReassignEff grove heard
  | .groveSleepOrder _ src n => groveSleepOrderEff src n
  | .groveSleepRefusal _ src => groveSleepRefusalEff src
  | .groveFirmwareSlotValid _ src => groveFirmwareSlotValidEff src

end Sys2Proof
end

