-- ==== Sys2Proof/Certificates/Slice0/Obligations.lean ====
section
/-! DEFINITION. What is stated of the model: for every command where it completes and with what state, for the block as a whole what
every step keeps. `s.after t e` is the state whose effect was `e` at the instant `t`, with what follows it (Safety.lean). -/

set_option Elab.async false

open Sys2Proof Sys2Proof.Machine

/-- A step takes the command at the front of the queue and executes it with the queue's rest; with an empty queue the block idles, which is
the model's choice (log entry 14). Every command completes: executed in whatever state, it moves the time to its stamp, has its effect
on the block, and what follows from an effect follows; no command stops, and none waits. What the effect is the other statements say,
family by family. The ordered arbitration (R31): a command that joins an ordered queue leaves it ordered and every other command in it,
stands behind those of its own rank, and every step keeps the order; which kind a command has is the model's reading (log entry 108). -/
def Obligations.StepRunsTheFrontCommand : Prop :=
  ((∀ (s : Machine.State) (c : Instr) (rest : List Instr), s.pending = c :: rest → step s = exec c { s with pending := rest }) ∧
  (∀ (s : Machine.State), s.pending = [] → step s = .next s)) ∧
  (∀ (c : Instr) (s : Machine.State), exec c s = .next (s.after c.time (c.effect (s.core.at_ c.time)))) ∧
  ((∀ (s : Machine.State) (c : Instr), queueOrdered s.pending →
    queueOrdered (s.enqueue c).pending ∧ (s.enqueue c).pending.Perm (c :: s.pending) ∧ (s.enqueue c).core = s.core ∧
    ∃ p r, s.pending = p ++ r ∧ (s.enqueue c).pending = p ++ c :: r ∧ (∀ x ∈ p, c.before x = false) ∧ ∀ x ∈ r, c.before x = true) ∧
  (∀ (s s' : Machine.State), queueOrdered s.pending → step s = .next s' → queueOrdered s'.pending) ∧
  (∀ (a b c : Instr), a.before b = true → b.before c = true → a.before c = true) ∧
  (∀ (a b : Instr), a.before b = true → b.before a = false))

/-- The completion of every command by its name: in every state and with every operand it answers the next state that its own effect gives,
whatever the state; none stops and none waits. What each effect does the family's statement says. -/
def Obligations.EachCommandCompletes : Prop :=
  ∀ (s : Machine.State) (t : Time),
  (((∀ (words : List (BitVec 32)) (upsets : List (Lane × Nat × BitVec 33)), exec (.inputFanoutDelivery t words upsets) s =
    .next (s.after t (inputFanoutDeliveryEff words upsets (s.core.at_ t)))) ∧
  (∀ (lane : Lane), exec (.laneSelfDissent t lane) s =
    .next (s.after t (whenUp (selfDissent lane) (s.core.at_ t)))) ∧
  (∀ (lane : Lane) (tok : BitVec 128) (refl : ReflVerdict), exec (.tokenArrival t lane tok refl) s =
    .next (s.after t (tokenArrivalEff lane tok refl (s.core.at_ t)))) ∧
  (∀ (v : VoteId) (refl : ReflVerdict), exec (.agreementWindowClose t v refl) s =
    .next (s.after t (agreementWindowCloseEff v refl (s.core.at_ t)))) ∧
  (∀ (v : VoteId) (content : List Byte), exec (.contentCopyComplete t v content) s =
    .next (s.after t (contentCopyCompleteEff v content (s.core.at_ t)))) ∧
  (∀ (calib : Nat) (exercised : Bool) (dirty : List (Fin 4096)), exec (.controlCycleBoundary t calib exercised dirty) s =
    .next (s.after t (controlCycleBoundaryEff calib exercised dirty (s.core.at_ t)))) ∧
  (∀ (lane : Lane), exec (.resyncFailed t lane) s =
    .next (s.after t (resyncFailedEff lane (s.core.at_ t))))) ∧
  ((∀ (lane : Lane) (refl : ReflVerdict), exec (.signatureComplete t lane refl) s =
    .next (s.after t (signatureCompleteEff lane refl (s.core.at_ t)))) ∧
  (∀ (lane : Lane), exec (.dissentEntryExpiry t lane) s =
    .next (s.after t (dissentEntryExpiryEff lane (s.core.at_ t)))) ∧
  (exec (.deadStateScrub t) s =
    .next (s.after t (deadStateScrubEff (s.core.at_ t)))) ∧
  (∀ (voter : Voter), exec (.safeOutputWatchdog t voter) s =
    .next (s.after t (safeOutputWatchdogEff voter (s.core.at_ t)))) ∧
  (∀ (brake : Fin 2) (voter : Voter), exec (.safeStateBrakeDelay t brake voter) s =
    .next (s.after t (safeStateBrakeDelayEff brake voter (s.core.at_ t)))) ∧
  (∀ (set : Fin 2) (leg : Fin 3) (slot : Bool) (compare : BitVec 32) (duty : F32), exec (.dutyToken t set leg slot compare duty) s =
    .next (s.after t (dutyTokenEff set leg slot compare duty (s.core.at_ t)))) ∧
  (∀ (payload : BitVec 64), exec (.safeOutputToken t payload) s =
    .next (s.after t (safeOutputTokenEff payload (s.core.at_ t))))) ∧
  ((∀ (ch : Fin 12), exec (.switchRelease t ch) s =
    .next (s.after t (switchReleaseEff ch (s.core.at_ t)))) ∧
  (∀ (ch : Fin 12), exec (.offWithOffProfile t ch) s =
    .next (s.after t (offWithOffProfileEff ch (s.core.at_ t)))) ∧
  (∀ (ch : Fin 12), exec (.softOff t ch) s =
    .next (s.after t (softOffEff ch (s.core.at_ t)))) ∧
  (∀ (ch : Fin 12), exec (.staticOn t ch) s =
    .next (s.after t (staticOnEff ch (s.core.at_ t)))) ∧
  (∀ (ch : Fin 12), exec (.duskInjection05Ma t ch) s =
    .next (s.after t (injectEff ch 1 (s.core.at_ t)))) ∧
  (∀ (ch : Fin 12), exec (.duskInjection2Ma t ch) s =
    .next (s.after t (injectEff ch 2 (s.core.at_ t)))) ∧
  (∀ (ch : Fin 12), exec (.duskInjectionStop t ch) s =
    .next (s.after t (injectEff ch 0 (s.core.at_ t))))) ∧
  ((∀ (ch : Fin 12) (persists : List TripCause), exec (.clearFaultLatches t ch persists) s =
    .next (s.after t (clearFaultLatchesEff ch persists (s.core.at_ t)))) ∧
  (∀ (ch : Fin 12), exec (.resetAdaptedProfile t ch) s =
    .next (s.after t (resetAdaptedProfileEff ch (s.core.at_ t)))) ∧
  (∀ (ch : Fin 12) (code : BitVec 8), exec (.invalidCommand t ch code) s =
    .next (s.after t (invalidCommandEff ch code (s.core.at_ t)))) ∧
  (∀ (ch : Fin 12), exec (.safeStateCommand t ch) s =
    .next (s.after t (safeStateCommandEff ch (s.core.at_ t)))) ∧
  (∀ (b : BootInputs), exec (.powerUpResetEnd t b) s =
    .next (s.after t (powerUpResetEndEff b (s.core.at_ t)))) ∧
  (exec (.pllLockLoss t) s =
    .next (s.after t (pllLockLossEff (s.core.at_ t)))) ∧
  (∀ (ticksNs : Nat), exec (.lanternRateCheck t ticksNs) s =
    .next (s.after t (lanternRateCheckEff ticksNs (s.core.at_ t))))) ∧
  ((exec (.lanternTickMissing t) s =
    .next (s.after t (lanternTickMissingEff (s.core.at_ t)))) ∧
  (∀ (set : Fin 2), exec (.carrierValley t set) s =
    .next (s.after t (carrierValleyEff set (s.core.at_ t)))) ∧
  (∀ (set : Fin 2), exec (.carrierPeak t set) s =
    .next (s.after t (carrierPeakEff set (s.core.at_ t)))) ∧
  (∀ (set : Fin 2) (smp : Sample), exec (.sampleArrival t set smp) s =
    .next (s.after t (sampleArrivalEff set smp (s.core.at_ t)))) ∧
  (∀ (set : Fin 2) (lane : Lane), exec (.computationComplete t set lane) s =
    .next (s.after t (computationCompleteEff set lane (s.core.at_ t)))) ∧
  (∀ (lane : Lane), exec (.outerComputationComplete t lane) s =
    .next (s.after t (outerComputationCompleteEff lane (s.core.at_ t)))) ∧
  (∀ (set : Fin 2) (leg : Fin 3), exec (.legEdge t set leg) s =
    .next (s.after t (legEdgeEff set leg (s.core.at_ t))))) ∧
  ((∀ (set : Fin 2) (leg : Fin 3), exec (.deadTimeElapsed t set leg) s =
    .next (s.after t (deadTimeElapsedEff set leg (s.core.at_ t)))) ∧
  (∀ (set : Fin 2), exec (.pulseEnable t set) s =
    .next (s.after t (pulseEnableEff set (s.core.at_ t)))) ∧
  (∀ (rq : Req), exec (.commitNextBoundary t rq) s =
    .next (s.after t (writeHere rq Key.commitRequest [1] (s.core.at_ t)))) ∧
  (∀ (rq : Req), exec (.commitAtBoundary t rq) s =
    .next (s.after t (writeHere rq Key.commitRequest [2] (s.core.at_ t)))) ∧
  (∀ (rq : Req), exec (.discardShadowBank t rq) s =
    .next (s.after t (writeHere rq Key.commitRequest [3] (s.core.at_ t)))) ∧
  (∀ (rq : Req) (set : Fin 2), exec (.histogramClear t rq set) s =
    .next (s.after t (writeHere rq (Key.histogramClear set.1) [1] (s.core.at_ t)))) ∧
  (∀ (dom : Dom), exec (.groveCommitPrepare t dom) s =
    .next (s.after t (groveCommitPrepareEff dom (s.core.at_ t)))))) ∧
  (((∀ (pos : Fin 8) (dom : Dom) (ok : Bool), exec (.prepareAnswer t pos dom ok) s =
    .next (s.after t (prepareAnswerEff pos dom ok (s.core.at_ t)))) ∧
  (∀ (pos : Fin 8) (dom : Dom), exec (.prepareTimeout t pos dom) s =
    .next (s.after t (prepareTimeoutEff pos dom (s.core.at_ t)))) ∧
  (∀ (dom : Dom) (n : Nat), exec (.groveCommit t dom n) s =
    .next (s.after t (groveCommitEff dom n (s.core.at_ t)))) ∧
  (∀ (dom : Dom), exec (.prepareLapse t dom) s =
    .next (s.after t (prepareLapseEff dom (s.core.at_ t)))) ∧
  (∀ (set : Fin 2) (input : Fin 6) (high : Bool) (bits : List Bool), exec (.fastComparatorTrip t set input high bits) s =
    .next (s.after t (fastComparatorTripEff set input high bits (s.core.at_ t)))) ∧
  (∀ (set : Fin 2) (input : Fin 6) (last : Time), exec (.modulatorStreamDead t set input last) s =
    .next (s.after t (modulatorStreamDeadEff set input last (s.core.at_ t)))) ∧
  (∀ (set : Fin 2) (input : Fin 6) (bits : List Bool), exec (.modulatorStreamRestored t set input bits) s =
    .next (s.after t (modulatorStreamRestoredEff set input bits (s.core.at_ t))))) ∧
  ((∀ (set : Fin 2) (stream : List (F32 × F32)), exec (.terminalMeasurementDone t set stream) s =
    .next (s.after t (terminalMeasurementDoneEff set stream (s.core.at_ t)))) ∧
  (∀ (pi : Fin 2), exec (.indexPulse t pi) s =
    .next (s.after t (indexPulseEff pi (s.core.at_ t)))) ∧
  (∀ (pi : Fin 2) (pair : Fin 3) (volts : F32) (dur : Nat) (samples : Vector (F32 × F32) 3), exec (.positionWireBreak t pi pair volts dur samples) s =
    .next (s.after t (positionWireBreakEff pi pair volts dur samples (s.core.at_ t)))) ∧
  (∀ (pi : Fin 2) (gap : Nat), exec (.positionCountError t pi gap) s =
    .next (s.after t (positionCountErrorEff pi gap (s.core.at_ t)))) ∧
  (∀ (pi : Fin 2) (rms : F32) (dur : Nat), exec (.resolverExcitationOpen t pi rms dur) s =
    .next (s.after t (resolverExcitationOpenEff pi rms dur (s.core.at_ t)))) ∧
  (∀ (pi : Fin 2) (pair : F32 × F32), exec (.resolverTrackingLoss t pi pair) s =
    .next (s.after t (resolverTrackingLossEff pi pair (s.core.at_ t)))) ∧
  (∀ (pi : Fin 2), exec (.excitationSettleEnd t pi) s =
    .next (s.after t (excitationSettleEndEff pi (s.core.at_ t))))) ∧
  ((∀ (ain : Fin 8) (raw : F32), exec (.ainConversion t ain raw) s =
    .next (s.after t (ainConversionEff ain raw (s.core.at_ t)))) ∧
  (∀ (pair : Fin 4), exec (.leverTrackDiscrepancy t pair) s =
    .next (s.after t (leverTrackDiscrepancyEff pair (s.core.at_ t)))) ∧
  (∀ (pair : Fin 4), exec (.leverPairAgreed t pair) s =
    .next (s.after t (leverPairAgreedEff pair (s.core.at_ t)))) ∧
  (∀ (set : Fin 2), exec (.dutyStall t set) s =
    .next (s.after t (dutyStallEff set (s.core.at_ t)))) ∧
  (∀ (dom : Dom) (group : Nat), exec (.swapForced t dom group) s =
    .next (s.after t (swapForcedEff dom group (s.core.at_ t)))) ∧
  (∀ (rq : Req) (slot : Fin 32), exec (.historyReset t rq slot) s =
    .next (s.after t (writeHere rq (Key.slotHistoryReset slot.1) [1] (s.core.at_ t)))) ∧
  (∀ (rq : Req), exec (.echoStart t rq) s =
    .next (s.after t (writeHere rq Key.echoStart [1] (s.core.at_ t))))) ∧
  ((∀ (rq : Req), exec (.echoAbort t rq) s =
    .next (s.after t (writeHere rq Key.echoAbort [1] (s.core.at_ t)))) ∧
  (exec (.echoSettleEnd t) s =
    .next (s.after t (echoSettleEndEff (s.core.at_ t)))) ∧
  (exec (.echoPointComplete t) s =
    .next (s.after t (echoPointCompleteEff (s.core.at_ t)))) ∧
  (exec (.echoStep t) s =
    .next (s.after t (echoStepEff (s.core.at_ t)))) ∧
  (exec (.echoDurationEnd t) s =
    .next (s.after t (echoDurationEndEff (s.core.at_ t)))) ∧
  (∀ (rq : Req), exec (.captureArm t rq) s =
    .next (s.after t (writeHere rq Key.captureArm [1] (s.core.at_ t)))) ∧
  (∀ (set : Fin 2), exec (.reacquireTimeout t set) s =
    .next (s.after t (reacquireTimeoutEff set (s.core.at_ t))))) ∧
  ((∀ (set : Fin 2), exec (.speedMeasurementDone t set) s =
    .next (s.after t (speedMeasurementDoneEff set (s.core.at_ t)))) ∧
  (∀ (set : Fin 2) (first : List F32) (second : List F32) (emf : F32), exec (.probeScanDone t set first second emf) s =
    .next (s.after t (probeScanDoneEff set first second emf (s.core.at_ t)))) ∧
  (∀ (set : Fin 2), exec (.remeasure t set) s =
    .next (s.after t (remeasureEff set (s.core.at_ t)))) ∧
  (∀ (set : Fin 2), exec (.startWaitExpired t set) s =
    .next (s.after t (startWaitExpiredEff set (s.core.at_ t)))) ∧
  (∀ (set : Fin 2), exec (.polarityPulseEnd t set) s =
    .next (s.after t (polarityPulseEndEff set (s.core.at_ t)))) ∧
  (∀ (set : Fin 2), exec (.neutralPointDeviation t set) s =
    .next (s.after t (neutralPointDeviationEff set (s.core.at_ t)))) ∧
  (∀ (rq : Req) (drv : Fin 2), exec (.commandRun t rq drv) s =
    .next (s.after t (writeHere rq (Key.command drv.1) [1] (s.core.at_ t))))) ∧
  ((∀ (rq : Req) (drv : Fin 2), exec (.commandStop t rq drv) s =
    .next (s.after t (writeHere rq (Key.command drv.1) [0] (s.core.at_ t)))) ∧
  (∀ (drv : Fin 2), exec (.preTorqueHeld t drv) s =
    .next (s.after t (preTorqueHeldEff drv (s.core.at_ t)))) ∧
  (∀ (drv : Fin 2), exec (.leverNeutralAccepted t drv) s =
    .next (s.after t (leverNeutralAcceptedEff drv (s.core.at_ t)))) ∧
  (∀ (drv : Fin 2), exec (.referenceTimeout t drv) s =
    .next (s.after t (referenceTimeoutEff drv (s.core.at_ t)))) ∧
  (∀ (drv : Fin 2), exec (.phaseBackSlow t drv) s =
    .next (s.after t (phaseBackSlowEff drv (s.core.at_ t)))) ∧
  (∀ (rq : Req) (drv : Fin 2) (wraps : F32), exec (.wrapsSet t rq drv wraps) s =
    .next (s.after t (writeHere rq (Key.winchWrapsSet drv.1) (beBytes 4 wraps.toNat) (s.core.at_ t)))) ∧
  (∀ (drv : Fin 2), exec (.shockHoldEnd t drv) s =
    .next (s.after t (shockHoldEndEff drv (s.core.at_ t)))))) ∧
  (((∀ (drv : Fin 2), exec (.shockRecoveryEnd t drv) s =
    .next (s.after t (shockRecoveryEndEff drv (s.core.at_ t)))) ∧
  (∀ (drv : Fin 2) (time : Nat) (pos vel acc : F32) (seq : BitVec 16), exec (.motionRecord t drv time pos vel acc seq) s =
    .next (s.after t (motionRecordEff drv time pos vel acc seq (s.core.at_ t)))) ∧
  (∀ (drv : Fin 2), exec (.motionReferenceLost t drv) s =
    .next (s.after t (motionReferenceLostEff drv (s.core.at_ t)))) ∧
  (∀ (drv : Fin 2), exec (.heaveFadeEnd t drv) s =
    .next (s.after t (heaveFadeEndEff drv (s.core.at_ t)))) ∧
  (∀ (drv : Fin 2), exec (.quickReleaseDemand t drv) s =
    .next (s.after t (quickReleaseDemandEff drv (s.core.at_ t)))) ∧
  (∀ (drv : Fin 2), exec (.quickReleaseEnd t drv) s =
    .next (s.after t (quickReleaseEndEff drv (s.core.at_ t)))) ∧
  (∀ (drv : Fin 2), exec (.regenerationShortfall t drv) s =
    .next (s.after t (regenerationShortfallEff drv (s.core.at_ t))))) ∧
  ((∀ (ch : Fin 12) (fr : UplinkFrame), exec (.uplinkStatusFrame t ch fr) s =
    .next (s.after t (uplinkStatusFrameEff ch fr (s.core.at_ t)))) ∧
  (∀ (ch : Fin 12), exec (.downlinkLoss t ch) s =
    .next (s.after t (downlinkLossEff ch (s.core.at_ t)))) ∧
  (∀ (ch : Fin 12), exec (.uplinkLoss t ch) s =
    .next (s.after t (uplinkLossEff ch (s.core.at_ t)))) ∧
  (∀ (ch : Fin 12), exec (.channelUplinkTimeout t ch) s =
    .next (s.after t (channelUplinkTimeoutEff ch (s.core.at_ t)))) ∧
  (∀ (ch : Fin 12) (cfg : List Byte) (crc : BitVec 32), exec (.channelConfiguration t ch cfg crc) s =
    .next (s.after t (channelConfigurationEff ch cfg crc (s.core.at_ t)))) ∧
  (∀ (ch : Fin 12), exec (.profilePhase1End t ch) s =
    .next (s.after t (profilePhase1EndEff ch (s.core.at_ t)))) ∧
  (∀ (ch : Fin 12) (on : Bool) (time peak : F32), exec (.edgeMeasurement t ch on time peak) s =
    .next (s.after t (edgeMeasurementEff ch on time peak (s.core.at_ t))))) ∧
  ((∀ (ch : Fin 12) (rail : GateRail) (volts : F32), exec (.railValid t ch rail volts) s =
    .next (s.after t (railValidEff ch rail volts (s.core.at_ t)))) ∧
  (∀ (ch : Fin 12) (rail : GateRail) (volts : F32), exec (.railInvalid t ch rail volts) s =
    .next (s.after t (railInvalidEff ch rail volts (s.core.at_ t)))) ∧
  (∀ (ch : Fin 12) (volts : F32), exec (.didtTrip t ch volts) s =
    .next (s.after t (didtTripEff ch volts (s.core.at_ t)))) ∧
  (∀ (ch : Fin 12), exec (.rampWindowEnd t ch) s =
    .next (s.after t (rampWindowEndEff ch (s.core.at_ t)))) ∧
  (∀ (ch : Fin 12) (course : List (F32 × Nat)), exec (.integratorTrip t ch course) s =
    .next (s.after t (integratorTripEff ch course (s.core.at_ t)))) ∧
  (∀ (ch : Fin 12) (volts : F32), exec (.desaturationTrip t ch volts) s =
    .next (s.after t (desaturationTripEff ch volts (s.core.at_ t)))) ∧
  (∀ (set : Fin 2), exec (.turnOffSequenceStep t set) s =
    .next (s.after t (turnOffSequenceStepEff set (s.core.at_ t))))) ∧
  ((∀ (ch : Fin 12), exec (.gateOffConfirmed t ch) s =
    .next (s.after t (gateOffConfirmedEff ch (s.core.at_ t)))) ∧
  (∀ (set : Fin 2) (leg : Fin 3), exec (.legInterlockFault t set leg) s =
    .next (s.after t (legInterlockFaultEff set leg (s.core.at_ t)))) ∧
  (∀ (ch : Fin 12) (high : Bool), exec (.swcmdTransition t ch high) s =
    .next (s.after t (swcmdTransitionEff ch high (s.core.at_ t)))) ∧
  (∀ (rq : Req) (set : Fin 2) (on : Bool), exec (.directEnable t rq set on) s =
    .next (s.after t (writeHere rq (Key.gateDirectEnable set.1) [if on then 1 else 0] (s.core.at_ t)))) ∧
  (∀ (set : Fin 2) (persists : List (Fin 12 × TripCause)), exec (.setConfirmedOff t set persists) s =
    .next (s.after t (setConfirmedOffEff set persists (s.core.at_ t)))) ∧
  (∀ (set : Fin 2), exec (.retryWaitEnd t set) s =
    .next (s.after t (retryWaitEndEff set (s.core.at_ t)))) ∧
  (∀ (set : Fin 2), exec (.tripHistoryExpiry t set) s =
    .next (s.after t (tripHistoryExpiryEff set (s.core.at_ t))))) ∧
  ((∀ (ch : Fin 12) (volts : F32), exec (.ntcConversion t ch volts) s =
    .next (s.after t (ntcConversionEff ch volts (s.core.at_ t)))) ∧
  (∀ (rq : Req) (set : Fin 2), exec (.duskRun t rq set) s =
    .next (s.after t (writeHere rq (Key.duskRun set.1) [1] (s.core.at_ t)))) ∧
  (∀ (set : Fin 2) (rd : DuskReading), exec (.duskStepEnd t set rd) s =
    .next (s.after t (duskStepEndEff set rd (s.core.at_ t)))) ∧
  (∀ (tp : Fin 2), exec (.darkPulseStart t tp) s =
    .next (s.after t (darkPulseStartEff tp (s.core.at_ t)))) ∧
  (∀ (tp : Fin 2) (rd : List DarkReading), exec (.darkPulseEnd t tp rd) s =
    .next (s.after t (darkPulseEndEff tp rd (s.core.at_ t)))) ∧
  (∀ (si : Fin 6) (ch : Fin 2) (since : Time), exec (.safeInputChannelDemand t si ch since) s =
    .next (s.after t (safeInputChannelDemandEff si ch since (s.core.at_ t)))) ∧
  (∀ (si : Fin 6) (ch : Fin 2) (since : Time), exec (.safeInputChannelClear t si ch since) s =
    .next (s.after t (safeInputChannelClearEff si ch since (s.core.at_ t))))) ∧
  ((∀ (si : Fin 6), exec (.safeInputDiscrepancy t si) s =
    .next (s.after t (safeInputDiscrepancyEff si (s.core.at_ t)))) ∧
  (∀ (si : Fin 6), exec (.safeInputStateKnown t si) s =
    .next (s.after t (safeInputStateKnownEff si (s.core.at_ t)))) ∧
  (∀ (fbn : Bool), exec (.stoFeedDischarged t fbn) s =
    .next (s.after t (stoFeedDischargedEff fbn (s.core.at_ t)))) ∧
  (∀ (fbp fbn : Bool), exec (.stoReleaseStep t fbp fbn) s =
    .next (s.after t (stoReleaseStepEff fbp fbn (s.core.at_ t)))) ∧
  (exec (.stoDischargeTimeout t) s =
    .next (s.after t (stoDischargeTimeoutEff (s.core.at_ t)))) ∧
  (∀ (fbp fbn : Bool) (since : Time), exec (.stoFeedbackDeviation t fbp fbn since) s =
    .next (s.after t (stoFeedbackDeviationEff fbp fbn since (s.core.at_ t)))) ∧
  (∀ (drv : Fin 2), exec (.ss1Standstill t drv) s =
    .next (s.after t (ss1StandstillEff drv (s.core.at_ t)))))) ∧
  (((∀ (drv : Fin 2), exec (.ss1TimeElapsed t drv) s =
    .next (s.after t (ss1TimeElapsedEff drv (s.core.at_ t)))) ∧
  (∀ (drv : Fin 2), exec (.brakeApplyTimeEnd t drv) s =
    .next (s.after t (brakeApplyTimeEndEff drv (s.core.at_ t)))) ∧
  (∀ (brake : Fin 2) (isns : F32) (fbp fbn : Bool), exec (.brakeReleaseCheck t brake isns fbp fbn) s =
    .next (s.after t (brakeReleaseCheckEff brake isns fbp fbn (s.core.at_ t)))) ∧
  (∀ (brake : Fin 2) (isns : F32) (since : Time), exec (.brakeHoldFault t brake isns since) s =
    .next (s.after t (brakeHoldFaultEff brake isns since (s.core.at_ t)))) ∧
  (∀ (brake : Fin 2) (isns : F32), exec (.brakeOvercurrent t brake isns) s =
    .next (s.after t (brakeOvercurrentEff brake isns (s.core.at_ t)))) ∧
  (∀ (brake : Fin 2) (isns : F32) (fbp : Bool), exec (.brakeApplyCheck t brake isns fbp) s =
    .next (s.after t (brakeApplyCheckEff brake isns fbp (s.core.at_ t)))) ∧
  (∀ (brake : Fin 2), exec (.brakeSwitchTest t brake) s =
    .next (s.after t (brakeSwitchTestEff brake (s.core.at_ t))))) ∧
  ((∀ (brake : Fin 2) (fbp fbn : Bool), exec (.brakeTestPulseEnd t brake fbp fbn) s =
    .next (s.after t (brakeTestPulseEndEff brake fbp fbn (s.core.at_ t)))) ∧
  (∀ (rq : Req) (brake : Fin 2), exec (.sbtRun t rq brake) s =
    .next (s.after t (writeHere rq (Key.sbtRun brake.1) [1] (s.core.at_ t)))) ∧
  (∀ (brake : Fin 2), exec (.sbtPhaseEnd t brake) s =
    .next (s.after t (sbtPhaseEndEff brake (s.core.at_ t)))) ∧
  (∀ (brake : Fin 2), exec (.sbtDue t brake) s =
    .next (s.after t (sbtDueEff brake (s.core.at_ t)))) ∧
  (∀ (brake : Fin 2), exec (.brakeTestOverdue t brake) s =
    .next (s.after t (brakeTestOverdueEff brake (s.core.at_ t)))) ∧
  (∀ (closed : Bool), exec (.rstbtnDebounced t closed) s =
    .next (s.after t (rstbtnDebouncedEff closed (s.core.at_ t)))) ∧
  (exec (.resetHeld t) s =
    .next (s.after t (resetHeldEff (s.core.at_ t))))) ∧
  ((∀ (rq : Req) (value : BitVec 32), exec (.sealConfirm t rq value) s =
    .next (s.after t (writeHere rq Key.safetySealConfirm (beBytes 4 value.toNat) (s.core.at_ t)))) ∧
  (exec (.sealConfirmationExpired t) s =
    .next (s.after t (sealConfirmationExpiredEff (s.core.at_ t)))) ∧
  (∀ (conn : Fin 4) (frame : List Byte), exec (.isfFrame t conn frame) s =
    .next (s.after t (isfFrameEff conn frame (s.core.at_ t)))) ∧
  (∀ (conn : Fin 4), exec (.isfTimeout t conn) s =
    .next (s.after t (isfTimeoutEff conn (s.core.at_ t)))) ∧
  (∀ (conn : Fin 4), exec (.isfProducerCycle t conn) s =
    .next (s.after t (isfProducerCycleEff conn (s.core.at_ t)))) ∧
  (∀ (aLow bLow : Bool) (since : Time), exec (.groveStopDemand t aLow bLow since) s =
    .next (s.after t (groveStopDemandEff aLow bLow since (s.core.at_ t)))) ∧
  (∀ (line : Fin 2), exec (.groveStopLineFault t line) s =
    .next (s.after t (groveStopLineFaultEff line (s.core.at_ t))))) ∧
  ((∀ (reads : List (Bool × Bool)), exec (.groveStopLineTestStep t reads) s =
    .next (s.after t (groveStopLineTestStepEff reads (s.core.at_ t)))) ∧
  (∀ (port : Fin 2) (h : PacketHeader), exec (.emptyPacket t port h) s =
    .next (s.after t (emptyPacketEff port h (s.core.at_ t)))) ∧
  (∀ (port : Fin 2), exec (.emptyPacketTimer t port) s =
    .next (s.after t (emptyPacketTimerEff port (s.core.at_ t)))) ∧
  (∀ (port : Fin 2) (k : NakKind), exec (.linkNak t port k) s =
    .next (s.after t (linkNakEff port k (s.core.at_ t)))) ∧
  (∀ (port : Fin 2), exec (.replayTimeout t port) s =
    .next (s.after t (replayTimeoutEff port (s.core.at_ t)))) ∧
  (∀ (port : Fin 2) (h : PacketHeader) (payload : List Byte) (crc : BitVec 32), exec (.forwardedPacket t port h payload crc) s =
    .next (s.after t (forwardedPacketEff port h payload crc (s.core.at_ t)))) ∧
  (∀ (port : Fin 2) (lane : Fin 2), exec (.canopyLaneDown t port lane) s =
    .next (s.after t (canopyLaneDownEff port lane (s.core.at_ t))))) ∧
  ((∀ (port : Fin 2) (since : Time), exec (.canopyPortDown t port since) s =
    .next (s.after t (canopyPortDownEff port since (s.core.at_ t)))) ∧
  (∀ (port : Fin 2) (neighbour : Fin 8) (idleSince : Time), exec (.canopyPortUp t port neighbour idleSince) s =
    .next (s.after t (canopyPortUpEff port neighbour idleSince (s.core.at_ t)))) ∧
  (∀ (port : Fin 2) (ok : Bool), exec (.portSelfCheck t port ok) s =
    .next (s.after t (portSelfCheckEff port ok (s.core.at_ t)))) ∧
  (∀ (src : Fin 8) (h : Hello), exec (.hello t src h) s =
    .next (s.after t (helloEff src h (s.core.at_ t)))) ∧
  (exec (.helloTimer t) s =
    .next (s.after t (helloTimerEff (s.core.at_ t)))) ∧
  (exec (.formTimeExpiry t) s =
    .next (s.after t (formTimeExpiryEff (s.core.at_ t)))) ∧
  (∀ (src : Fin 8) (h : Hello), exec (.joinReq t src h) s =
    .next (s.after t (joinReqEff src h (s.core.at_ t))))) ∧
  ((∀ (code : BitVec 8) (map : BitVec 8) (period : Nat) (n tN : Nat) (bank : List (Nat × List Byte)), exec (.joinAnswer t code map period n tN bank) s =
    .next (s.after t (joinAnswerEff code map period n tN bank (s.core.at_ t)))) ∧
  (exec (.joinRetry t) s =
    .next (s.after t (joinRetryEff (s.core.at_ t)))) ∧
  (exec (.groveBoundary t) s =
    .next (s.after t (groveBoundaryEff (s.core.at_ t)))) ∧
  (∀ (src : Fin 8) (n tN : Nat) (map : BitVec 8) (mode : BitVec 8), exec (.boundary t src n tN map mode) s =
    .next (s.after t (boundaryEff src n tN map mode (s.core.at_ t)))) ∧
  (∀ (src : Fin 8) (east west : BitVec 8), exec (.linkState t src east west) s =
    .next (s.after t (linkStateEff src east west (s.core.at_ t)))) ∧
  (∀ (src : Fin 8) (port : Fin 2) (tN corr : Nat), exec (.sync t src port tN corr) s =
    .next (s.after t (syncEff src port tN corr (s.core.at_ t)))) ∧
  (exec (.linkDelayTimer t) s =
    .next (s.after t (linkDelayTimerEff (s.core.at_ t)))))) ∧
  (((∀ (port : Fin 2) (_t1 : Nat), exec (.delayRequest t port _t1) s =
    .next (s.after t (delayRequestEff port (s.core.at_ t)))) ∧
  (∀ (port : Fin 2) (t1 t2 t3 : Nat), exec (.delayResponse t port t1 t2 t3) s =
    .next (s.after t (delayResponseEff port t1 t2 t3 (s.core.at_ t)))) ∧
  (∀ (src : Fin 8) (st : StatusMsg), exec (.status t src st) s =
    .next (s.after t (statusEff src st (s.core.at_ t)))) ∧
  (∀ (pos : Fin 8), exec (.memberLost t pos) s =
    .next (s.after t (memberLostEff pos (s.core.at_ t)))) ∧
  (exec (.leaderLost t) s =
    .next (s.after t (leaderLostEff (s.core.at_ t)))) ∧
  (∀ (src : Fin 8) (selfCheck : Bool) (reach : BitVec 8) (holding : Nat) (relSeq relAmt : Nat), exec (.claim t src selfCheck reach holding relSeq relAmt) s =
    .next (s.after t (claimEff src selfCheck reach holding relSeq relAmt (s.core.at_ t)))) ∧
  (exec (.claimWindowEnd t) s =
    .next (s.after t (claimWindowEndEff (s.core.at_ t))))) ∧
  ((∀ (src : Fin 8) (n tN : Nat) (map : BitVec 8) (mode : BitVec 8) (nextSeq : Nat), exec (.takeover t src n tN map mode nextSeq) s =
    .next (s.after t (takeoverEff src n tN map mode nextSeq (s.core.at_ t)))) ∧
  (∀ (src : Fin 8) (applyTime : Nat) (total : F32) (refs : List F32), exec (.share t src applyTime total refs) s =
    .next (s.after t (shareEff src applyTime total refs (s.core.at_ t)))) ∧
  (∀ (src : Fin 8) (sq amt : Nat), exec (.grant t src sq amt) s =
    .next (s.after t (grantEff src sq amt (s.core.at_ t)))) ∧
  (∀ (src : Fin 8) (sq : Nat), exec (.grantAck t src sq) s =
    .next (s.after t (grantAckEff src sq (s.core.at_ t)))) ∧
  (∀ (src : Fin 8) (sq amt : Nat), exec (.releaseReq t src sq amt) s =
    .next (s.after t (releaseReqEff src sq amt (s.core.at_ t)))) ∧
  (∀ (src : Fin 8) (sq amt : Nat), exec (.release t src sq amt) s =
    .next (s.after t (releaseEff src sq amt (s.core.at_ t)))) ∧
  (∀ (src : Fin 8) (sq : Nat), exec (.releaseAck t src sq) s =
    .next (s.after t (releaseAckEff src sq (s.core.at_ t))))) ∧
  ((∀ (sq : Nat), exec (.transferResend t sq) s =
    .next (s.after t (transferResendEff sq (s.core.at_ t)))) ∧
  (∀ (src : Fin 8) (n holding lastSeq : Nat), exec (.auditReport t src n holding lastSeq) s =
    .next (s.after t (auditReportEff src n holding lastSeq (s.core.at_ t)))) ∧
  (exec (.auditDeadline t) s =
    .next (s.after t (auditDeadlineEff (s.core.at_ t)))) ∧
  (exec (.leaseExpiry t) s =
    .next (s.after t (leaseExpiryEff (s.core.at_ t)))) ∧
  (∀ (pos : Fin 8), exec (.expiringTokensReturn t pos) s =
    .next (s.after t (expiringTokensReturnEff pos (s.core.at_ t)))) ∧
  (∀ (rq : Req) (total : Nat), exec (.tokensTotalWrite t rq total) s =
    .next (s.after t (writeHere rq Key.tokensTotal (beBytes 2 total) (s.core.at_ t)))) ∧
  (exec (.standLeaseExpiry t) s =
    .next (s.after t (standLeaseExpiryEff (s.core.at_ t))))) ∧
  ((∀ (src : Fin 8) (answer : Bool) (role : Fin 5) (pdu : List Byte), exec (.forwardedRequest t src answer role pdu) s =
    .next (s.after t (forwardedRequestEff src answer role pdu (s.core.at_ t)))) ∧
  (∀ (rq : Req), exec (.forwardTimeout t rq) s =
    .next (s.after t (forwardTimeoutEff rq (s.core.at_ t)))) ∧
  (∀ (port : Fin 2), exec (.ethernetPortDown t port) s =
    .next (s.after t (ethernetPortDownEff port (s.core.at_ t)))) ∧
  (∀ (port : Fin 2) (speed : Fin 3) (full : Bool), exec (.ethernetPortUp t port speed full) s =
    .next (s.after t (ethernetPortUpEff port speed full (s.core.at_ t)))) ∧
  (∀ (port : Fin 2) (frame : List Byte), exec (.frameForward t port frame) s =
    .next (s.after t (frameForwardEff port frame (s.core.at_ t)))) ∧
  (∀ (port : Fin 2) (k : MrpKind), exec (.mrpFrame t port k) s =
    .next (s.after t (mrpFrameEff port k (s.core.at_ t)))) ∧
  (∀ (gm : BitVec 64) (time : Nat), exec (.gptpSync t gm time) s =
    .next (s.after t (gptpSyncEff gm time (s.core.at_ t))))) ∧
  ((exec (.gptpSyncTimeout t) s =
    .next (s.after t (gptpSyncTimeoutEff (s.core.at_ t)))) ∧
  (∀ (port : Fin 2), exec (.gateControlChange t port) s =
    .next (s.after t (gateControlChangeEff port (s.core.at_ t)))) ∧
  (∀ (src : Source) (counter : BitVec 16) (body : List Byte), exec (.processData t src counter body) s =
    .next (s.after t (processDataEff src counter body (s.core.at_ t)))) ∧
  (exec (.networkBoundary t) s =
    .next (s.after t (networkBoundaryEff (s.core.at_ t)))) ∧
  (exec (.pdTransmit t) s =
    .next (s.after t (pdTransmitEff (s.core.at_ t)))) ∧
  (exec (.processDataTimeout t) s =
    .next (s.after t (processDataTimeoutEff (s.core.at_ t)))) ∧
  (∀ (rq : Req) (run : Bool), exec (.pdControl t rq run) s =
    .next (s.after t (writeHere rq Key.pdControl [if run then 1 else 0] (s.core.at_ t))))) ∧
  ((∀ (rq : Req) (unit : BitVec 48) (index : BitVec 16) (sub : BitVec 8) (shadow : Bool), exec (.read t rq unit index sub shadow) s =
    .next (s.after t (readEff rq unit (index.toNat * 256 + sub.toNat) shadow (s.core.at_ t)))) ∧
  (∀ (rq : Req) (unit : BitVec 48) (index : BitVec 16) (sub : BitVec 8) (value : List Byte), exec (.write t rq unit index sub value) s =
    .next (s.after t (writeEff rq unit (index.toNat * 256 + sub.toNat) value (s.core.at_ t)))) ∧
  (∀ (rq : Req) (sub : BitVec 8) (name : List Byte), exec (.connect t rq sub name) s =
    .next (s.after t (connectEff rq sub name (s.core.at_ t)))) ∧
  (∀ (rq : Req) (role : BitVec 8), exec (.loginStep1 t rq role) s =
    .next (s.after t (loginStep1Eff rq role (s.core.at_ t)))) ∧
  (∀ (rq : Req) (proof : List Byte), exec (.loginStep2 t rq proof) s =
    .next (s.after t (loginStep2Eff rq proof (s.core.at_ t)))) ∧
  (∀ (src : Source), exec (.loginBlockEnd t src) s =
    .next (s.after t (loginBlockEndEff src (s.core.at_ t)))) ∧
  (∀ (rq : Req), exec (.logout t rq) s =
    .next (s.after t (logoutEff rq (s.core.at_ t)))))) ∧
  (((∀ (pdu : List Byte), exec (.malformedPdu t pdu) s =
    .next (s.after t (malformedPduEff pdu (s.core.at_ t)))) ∧
  (∀ (ip : BitVec 32) (mac : BitVec 48) (asker : BitVec 32), exec (.arpRequest t ip mac asker) s =
    .next (s.after t (arpRequestEff ip mac asker (s.core.at_ t)))) ∧
  (∀ (src : BitVec 32) (data : List Byte), exec (.icmpEcho t src data) s =
    .next (s.after t (icmpEchoEff src data (s.core.at_ t)))) ∧
  (∀ (handle : BitVec 16), exec (.connectionTimeout t handle) s =
    .next (s.after t (connectionTimeoutEff handle (s.core.at_ t)))) ∧
  (∀ (rq : Req) (o : OpenArgs), exec (.sessionOpen t rq o) s =
    .next (s.after t (sessionOpenEff rq o (s.core.at_ t)))) ∧
  (∀ (rq : Req) (sid : BitVec 32) (sq : BitVec 16) (offset : Nat) (data : List Byte), exec (.sessionData t rq sid sq offset data) s =
    .next (s.after t (sessionDataEff rq sid sq offset data (s.core.at_ t)))) ∧
  (∀ (rq : Req) (sid : BitVec 32) (next : BitVec 16), exec (.sessionAck t rq sid next) s =
    .next (s.after t (sessionAckEff rq sid next (s.core.at_ t))))) ∧
  ((∀ (rq : Req) (sid : BitVec 32) (next : BitVec 16), exec (.sessionNak t rq sid next) s =
    .next (s.after t (sessionNakEff rq sid next (s.core.at_ t)))) ∧
  (∀ (rq : Req) (sid : BitVec 32), exec (.sessionFinish t rq sid) s =
    .next (s.after t (sessionFinishEff rq sid (s.core.at_ t)))) ∧
  (∀ (rq : Req) (sid : BitVec 32) (_code : BitVec 8), exec (.sessionAbort t rq sid _code) s =
    .next (s.after t (sessionAbortEff rq sid (s.core.at_ t)))) ∧
  (∀ (sid : BitVec 32), exec (.sessionRetryTimeout t sid) s =
    .next (s.after t (sessionRetryTimeoutEff sid (s.core.at_ t)))) ∧
  (∀ (sid : BitVec 32), exec (.sessionIdleTimeout t sid) s =
    .next (s.after t (sessionIdleTimeoutEff sid (s.core.at_ t)))) ∧
  (∀ (rq : Req) (slot : Fin 2), exec (.fwActivate t rq slot) s =
    .next (s.after t (writeHere rq Key.fwActivate [BitVec.ofNat 8 slot.1] (s.core.at_ t)))) ∧
  (∀ (rq : Req), exec (.fwConfirm t rq) s =
    .next (s.after t (writeHere rq Key.fwConfirm [1] (s.core.at_ t))))) ∧
  ((exec (.usbAttach t) s =
    .next (s.after t (usbAttachEff (s.core.at_ t)))) ∧
  (exec (.usbDetach t) s =
    .next (s.after t (usbDetachEff (s.core.at_ t)))) ∧
  (∀ (rq : Req) (n : Fin 4), exec (.bankStore t rq n) s =
    .next (s.after t (writeHere rq Key.bankStore [BitVec.ofNat 8 n.1] (s.core.at_ t)))) ∧
  (∀ (rq : Req) (n : Fin 4), exec (.bankActivate t rq n) s =
    .next (s.after t (writeHere rq Key.bankActivate [BitVec.ofNat 8 n.1] (s.core.at_ t)))) ∧
  (∀ (rq : Req), exec (.bankRestoreDefaults t rq) s =
    .next (s.after t (writeHere rq Key.bankRestoreDefaults [1] (s.core.at_ t)))) ∧
  (∀ (rq : Req) (n : Fin 4), exec (.bankErase t rq n) s =
    .next (s.after t (writeHere rq Key.bankErase [BitVec.ofNat 8 n.1] (s.core.at_ t)))) ∧
  (∀ (rq : Req) (index : BitVec 16) (sub : BitVec 8) (value : List Byte), exec (.entryWrite t rq index sub value) s =
    .next (s.after t (writeHere rq (index.toNat * 256 + sub.toNat) value (s.core.at_ t))))) ∧
  ((∀ (lane : Lane) (volts : F32) (since : Time), exec (.laneSupplyFault t lane volts since) s =
    .next (s.after t (laneSupplyFaultEff lane volts since (s.core.at_ t)))) ∧
  (∀ (lane : Lane) (volts : F32) (since : Time), exec (.laneRailRestored t lane volts since) s =
    .next (s.after t (laneRailRestoredEff lane volts since (s.core.at_ t)))) ∧
  (∀ (a b c : F32) (since : Time), exec (.laneRailMismatch t a b c since) s =
    .next (s.after t (laneRailMismatchEff a b c since (s.core.at_ t)))) ∧
  (∀ (rail : MainRail) (volts : F32) (since : Time), exec (.mainRailFault t rail volts since) s =
    .next (s.after t (mainRailFaultEff rail volts since (s.core.at_ t)))) ∧
  (∀ (volts : F32) (since : Time), exec (.analogSupplyFault t volts since) s =
    .next (s.after t (analogSupplyFaultEff volts since (s.core.at_ t)))) ∧
  (∀ (volts : F32) (since : Time), exec (.analogSupplyRestored t volts since) s =
    .next (s.after t (analogSupplyRestoredEff volts since (s.core.at_ t)))) ∧
  (∀ (rail : Fin 2) (volts : F32) (since : Time), exec (.phySupplyFault t rail volts since) s =
    .next (s.after t (phySupplyFaultEff rail volts since (s.core.at_ t))))) ∧
  ((exec (.mainRailsFailedToStart t) s =
    .next (s.after t (mainRailsFailedToStartEff (s.core.at_ t)))) ∧
  (exec (.mainRailsRetry t) s =
    .next (s.after t (mainRailsRetryEff (s.core.at_ t)))) ∧
  (∀ (cause : PowerFailCause) (since : Time), exec (.powerFail t cause since) s =
    .next (s.after t (powerFailEff cause since (s.core.at_ t)))) ∧
  (∀ (rq : Req), exec (.sleepRequest t rq) s =
    .next (s.after t (writeHere rq Key.powerSleepRequest [1] (s.core.at_ t)))) ∧
  (exec (.idleSleepTimeout t) s =
    .next (s.after t (idleSleepTimeoutEff (s.core.at_ t)))) ∧
  (exec (.lanternPowerOnReset t) s =
    .next (s.after t (lanternPowerOnResetEff (s.core.at_ t)))) ∧
  (∀ (ls : LanternInputs), exec (.lanternSample t ls) s =
    .next (s.after t (lanternSampleEff ls (s.core.at_ t))))) ∧
  ((∀ (rq : Req), exec (.lanternAcknowledge t rq) s =
    .next (s.after t (writeHere rq Key.lanternAcknowledge [1] (s.core.at_ t)))) ∧
  (∀ (sensor : TempSensor) (temp : F32), exec (.temperatureReading t sensor temp) s =
    .next (s.after t (temperatureReadingEff sensor temp (s.core.at_ t)))) ∧
  (exec (.nvRecordComplete t) s =
    .next (s.after t (nvRecordCompleteEff (s.core.at_ t)))) ∧
  (∀ (corrected : Nat) (bad : List Nat), exec (.nvScrub t corrected bad) s =
    .next (s.after t (nvScrubEff corrected bad (s.core.at_ t)))) ∧
  (∀ (rq : Req), exec (.faultReset t rq) s =
    .next (s.after t (writeHere rq Key.faultReset [1] (s.core.at_ t)))) ∧
  (exec (.groveStopLinesReleased t) s =
    .next (s.after t (groveStopLinesReleasedEff (s.core.at_ t)))) ∧
  (∀ (pi : Fin 2) (forward : Bool) (lantern : Bool) (stable : Nat), exec (.encoderEdge t pi forward lantern stable) s =
    .next (s.after t (encoderEdgeEff pi forward lantern stable (s.core.at_ t)))))) ∧
  (((∀ (gm : BitVec 64) (better : Bool), exec (.gptpAnnounce t gm better) s =
    .next (s.after t (gptpAnnounceEff gm better (s.core.at_ t)))) ∧
  (∀ (rail : Fin 2) (volts : F32), exec (.phySupplyRestored t rail volts) s =
    .next (s.after t (phySupplyRestoredEff rail volts (s.core.at_ t)))) ∧
  (exec (.powerFailReleased t) s =
    .next (s.after t (powerFailReleasedEff (s.core.at_ t)))) ∧
  (exec (.fallbackSwitchesChanged t) s =
    .next (s.after t (fallbackSwitchesChangedEff (s.core.at_ t)))) ∧
  (∀ (grove : BitVec 8) (heard : Nat), exec (.standSilentGroveReassign t grove heard) s =
    .next (s.after t (standSilentGroveReassignEff grove heard (s.core.at_ t)))) ∧
  (∀ (src : Fin 8) (n : Nat), exec (.groveSleepOrder t src n) s =
    .next (s.after t (groveSleepOrderEff src n (s.core.at_ t)))) ∧
  (∀ (src : Fin 8), exec (.groveSleepRefusal t src) s =
    .next (s.after t (groveSleepRefusalEff src (s.core.at_ t))))) ∧
  ((∀ (src : Fin 8), exec (.groveFirmwareSlotValid t src) s =
    .next (s.after t (groveFirmwareSlotValidEff src (s.core.at_ t))))))

/-- The block after reset: nothing is queued or sent, the memory has its form, FAULT_N is sound, the main domain is in reset, every entry
reads its default, among them the window of 5,000 ns (R26); a default the spec does not give is the model's (log entry 1). -/
def Obligations.ResetLeaves : Prop :=
  Machine.State.reset.pending = [] ∧ Machine.State.reset.core.sent = [] ∧ Memory.wf Machine.State.reset.core.mram = true ∧
  Machine.State.reset.core.faultSound ∧ Machine.State.reset.core.up = none ∧ Machine.State.reset.core.clr.safeState = false ∧
  Machine.State.reset.core.window = 5000 ∧
  (∀ k, Machine.State.reset.core.val k = dfltOf k ∧ Machine.State.reset.core.shVal k = dfltOf k)

/-- FAULT_N follows its causes, and every step keeps it so: after a step it is asserted while the Clearing is in safe state, while an event
of class F3 or higher is active, and while the Lantern's assertion is latched (R41, R427, R450). -/
def Obligations.FaultNFollowsItsCauses : Prop :=
  ∀ (s s' : Machine.State), s.core.faultSound → step s = .next s' →
    s'.core.faultSound ∧
    (s'.core.clr.safeState = true → s'.core.faultN = true) ∧
    (∀ a ∈ s'.core.ev.active, 3 ≤ a.cls → s'.core.faultN = true) ∧
    (bit (s'.core.n Key.lanternStatus) 2 = true → s'.core.faultN = true)

/-- While the Clearing is in safe state and stays in it, nothing that needs a vote leaves the block, whatever the step (R41). -/
def Obligations.SafeStateIsSilent : Prop :=
  ∀ (s s' : Machine.State), s.core.clr.safeState = true → step s = .next s' → s'.core.clr.safeState = true →
    ∃ l, s'.core.sent = s.core.sent ++ l ∧ ∀ x ∈ l, x.voted = false

/-- With the main domain in reset every command but those of the Lantern, the channels' turn-off, the voters and the power-up reset's end
only moves the time; that it moves the time is the model's (log entry 2), that the others do nothing its reading (log entry 10). In the
Clearing's safe state every command but what hardware does without a vote only moves the time: no lane's command has an effect (R41; log
entry 10). -/
def Obligations.WhoActsWithoutLanes : Prop :=
  (∀ (s : Machine.State) (c : Instr), s.core.up = none → c.actsInReset = false → exec c s = .next (s.after c.time (s.core.at_ c.time))) ∧
  (∀ (s : Machine.State) (c : Instr), s.core.clr.safeState = true → s.core.up ≠ some false → c.needsNoLane = false →
    exec c s = .next (s.after c.time (s.core.at_ c.time)))

/-- What follows an effect after which the lanes do not act. Where nothing voted is there to be sent, or the Clearing's safe state silences
it, FAULT_N and, while the domain runs, Queue.HighWater follow and every other register, FIFO, memory and pin stays as the effect left
it; where something is, it goes to its destination besides (R20, R41, R450, R457). -/
def Obligations.WhatFollowsAnEffect : Prop :=
  ∀ (old m : Mach), m.lanesAct = false →
    ((∀ x ∈ m.sent.drop old.sent.length, x.voted = true →
        (∀ k, x ≠ .token k) ∧ old.clr.safeState = true ∧ m.clr.safeState = true) →
      (settle old m).faultN = m.faultWanted ∧
      (∀ k, (∀ q, q < 128 → k ≠ Key.queueHighWater q) → (settle old m).val k = m.val k) ∧
      ∃ lv snt, settle old m = { m with live := lv, sent := snt, faultN := (settle old m).faultN }) ∧
    ((∀ x ∈ m.sent.drop old.sent.length, ∀ k, x ≠ .token k) → (old.clr.safeState && m.clr.safeState) = false →
      settle old m = faultFollows (highWater (sendOut old m)))

/-- The MRAM (R434, R436): a write within the records' part or the firmware slots' keeps the memory's form, is read back and leaves every
other byte; one that reaches into the locked area does nothing. -/
def Obligations.MramReadsBack : Prop :=
  (∀ (m : Mach) (a : Nat) (bs : List Byte), Memory.wf m.mram = true →
    (a + bs.length ≤ 0x615000 ∨ (0x620000 ≤ a ∧ a + bs.length ≤ 0x800000)) →
      Memory.wf (m.nvPut a bs).mram = true ∧ (m.nvPut a bs).nvGet a bs.length = bs ∧
      ∀ b n, b + n ≤ a ∨ a + bs.length ≤ b → (m.nvPut a bs).nvGet b n = m.nvGet b n) ∧
  (∀ (m : Mach) (a : Nat) (bs : List Byte),
    ¬ (a + bs.length ≤ 0x615000 ∨ (0x620000 ≤ a ∧ a + bs.length ≤ 0x800000)) → m.nvPut a bs = m)

/-- The agreement window (R26): 5,000 ns unless set, 1,000 to 50,000 ns; an arrival at or before its end joins the vote, a later one does
not: the vote is decided without it. -/
def Obligations.AgreementWindow : Prop :=
  dfltOf Key.clearingAgreementWindow = .num 5000 ∧
  (∀ (m : Mach) (r : Row) (n : Nat), rowOf Key.clearingAgreementWindow = some r →
    (m.inRange Key.clearingAgreementWindow r (.num n) = true ↔ 1000 ≤ n ∧ n ≤ 50000)) ∧
  (∀ (s : Machine.State) (t : Time) (l : Lane) (k : Token) (v : Vote), let m := s.core.at_ t
    let n := noteSkew v (m.arrival l k) m
    m.judges l k →
    (m.clr.votes.find? (fun v => v.vid == tokVote k) = none → exec (.tokenArrival t l k .agrees) s = .next (s.after t
      (m.modClr (fun c => { c with votes := c.votes ++ [{ vid := tokVote k, arrivals := [m.arrival l k], opened := m.ns }] })))) ∧
    (m.clr.votes.find? (fun v => v.vid == tokVote k) = some v → v.arrivals.any (fun x => x.lane == l) = false →
    (m.ns ≤ v.opened + m.n Key.clearingAgreementWindow →
      exec (.tokenArrival t l k .agrees) s = .next (s.after t (arriveOpen v (m.arrival l k) n))) ∧
    (v.opened + m.n Key.clearingAgreementWindow < m.ns →
      exec (.tokenArrival t l k .agrees) s = .next (s.after t (closeVote v n)))))

/-- The first token of a vote opens it; the second, equal to the first and in time, is emitted (R23, R27 T1, R24): a value leaves, a content
is copied from the first lane. The third token of a triplex vote, in time (R27 T1, T3, T5, T7). -/
def Obligations.TriplexVote : Prop :=
  (∀ (s : Machine.State) (t : Time) (l : Lane) (k : Token), let m := s.core.at_ t
    m.judges l k →
    (m.clr.votes.find? (fun v => v.vid == tokVote k) = none →
      exec (.tokenArrival t l k .agrees) s = .next (s.after t { m with clr := { m.clr with
        votes := m.clr.votes ++ [{ vid := tokVote k, arrivals := [m.arrival l k], opened := m.ns }] } })) ∧
    (∀ (v : Vote) (x : Arrival), m.inTime l k v → v.arrivals = [x] → x.body = tokBody k →
      (noteSkew v (m.arrival l k) m).activeCount = 3 →
      exec (.tokenArrival t l k .agrees) s = .next (s.after t
        (setVote v (some { v with arrivals := [x, m.arrival l k], emitted := true })
          (emitVote v x (some l) (noteSkew v (m.arrival l k) m))))) ∧
    (∀ (v : Vote) (x : Arrival), m.inTime l k v → v.arrivals = [x] → x.body ≠ tokBody k →
      (noteSkew v (m.arrival l k) m).activeCount = 3 →
      exec (.tokenArrival t l k .agrees) s = .next (s.after t
        (setVote v (some { v with arrivals := [x, m.arrival l k] }) (noteSkew v (m.arrival l k) m))))) ∧
  (∀ (s : Machine.State) (t : Time) (l : Lane) (k : Token) (v : Vote) (x y : Arrival), let m := s.core.at_ t
    let n := noteSkew v (m.arrival l k) m
    m.judges l k → m.inTime l k v → v.arrivals = [x, y] → n.activeCount = 3 →
    (v.emitted = true → x.body = tokBody k → exec (.tokenArrival t l k .agrees) s = .next (s.after t (setVote v none n))) ∧
    (v.emitted = true → x.body ≠ tokBody k →
      exec (.tokenArrival t l k .agrees) s = .next (s.after t (dissent l (setVote v none n)))) ∧
    (v.emitted = false → x.body = tokBody k →
      exec (.tokenArrival t l k .agrees) s = .next (s.after t (dissent y.lane (setVote v none (emitVote v x (some l) n))))) ∧
    (v.emitted = false → x.body ≠ tokBody k → y.body = tokBody k →
      exec (.tokenArrival t l k .agrees) s = .next (s.after t (dissent x.lane (setVote v none (emitVote v y (some l) n))))) ∧
    (v.emitted = false → x.body ≠ tokBody k → y.body ≠ tokBody k →
      exec (.tokenArrival t l k .agrees) s = .next (s.after t
        (safeEnter 0x01 (some { v with arrivals := [x, y, m.arrival l k] }) n))))

/-- Two lanes decide at the second arrival (R29 D1, D2); a token of a lane that is not active is discarded unread (R29). The agreement
window of an open vote closes in triplex (R27 T4, T6, T8, T9) and in duplex (R29 D3); before it has run out nothing happens. -/
def Obligations.DuplexVoteAndWindow : Prop :=
  ((∀ (s : Machine.State) (t : Time) (l : Lane) (k : Token) (v : Vote) (x : Arrival), let m := s.core.at_ t
    let n := noteSkew v (m.arrival l k) m
    m.judges l k → m.inTime l k v → v.arrivals = [x] → v.emitted = false → n.activeCount = 2 →
    (x.body = tokBody k →
      exec (.tokenArrival t l k .agrees) s = .next (s.after t (setVote v none (emitVote v x (some l) n)))) ∧
    (x.body ≠ tokBody k →
      exec (.tokenArrival t l k .agrees) s = .next (s.after t
        (safeEnter 0x04 (some { v with arrivals := [x, m.arrival l k] }) n)))) ∧
  (∀ (s : Machine.State) (t : Time) (l : Lane) (k : Token) (r : ReflVerdict), let m := s.core.at_ t
    m.laneActive l = false → exec (.tokenArrival t l k r) s = .next (s.after t m))) ∧
  (∀ (s : Machine.State) (t : Time) (id : VoteId) (v : Vote), let m := s.core.at_ t
    m.lanesAct = true → m.clr.votes.find? (fun v => v.vid == id) = some v →
    (m.ns < v.opened + m.window → ∀ r, exec (.agreementWindowClose t id r) s = .next (s.after t m)) ∧
    (v.opened + m.window ≤ m.ns → v.vid.ty ≠ 7 → m.activeCount = 3 →
      (∀ x y, v.arrivals = [x, y] → v.emitted = true →
        exec (.agreementWindowClose t id .agrees) s = .next (s.after t ((setVote v none m).each
          ((setVote v none m).activeLanes.filter (fun l => !v.arrivals.any (fun a => a.lane == l))) dissent))) ∧
      (∀ x y, v.arrivals = [x, y] → v.emitted = false →
        exec (.agreementWindowClose t id .agrees) s = .next (s.after t (safeEnter 0x02 (some v) m))) ∧
      (∀ x, v.arrivals = [x] →
        exec (.agreementWindowClose t id .agrees) s = .next (s.after t
          ((setVote v none m).modClr (fun c => { c with suspects := c.suspects ++ [{ lane := x.lane, vote := v }] }))))) ∧
    (v.opened + m.window ≤ m.ns → v.vid.ty ≠ 7 → m.activeCount = 2 → v.arrivals ≠ [] →
      exec (.agreementWindowClose t id .agrees) s = .next (s.after t (safeEnter 0x05 (some v) m))) ∧
    (v.opened + m.window ≤ m.ns → v.vid.ty = 7 → m.activeCount = 3 → ∀ x, v.arrivals = [x] →
      exec (.agreementWindowClose t id .agrees) s = .next (s.after t (safeEnter 0x03 (some v) m))))

/-- A lane that declares itself dissenting: its arrivals leave every open vote, which the others then decide, the dissent is kept for 1 s
and counted, and the third within 1 s retires the lane (R30, R32, R33, R36); in safe state and for a lane that is out already no new
dissent is made, and only one that a vote has left uncounted is counted. An input is numbered and given its parity, and every lane that
takes a word of it with bad parity becomes dissenting so (R17, R18); so does a lane whose resync has failed after 2 ms (R35). -/
def Obligations.DissentIsCounted : Prop :=
  (∀ (s : Machine.State) (t : Time) (l : Lane), let m := s.core.at_ t
    let i := laneIx l
    let kept := m.clr.lanes[i].dissents.filter (fun d => m.ns < d + 1000000000) ++ [m.ns]
    let waits := m.clr.votes.filter (fun v => v.vid.ty == 5 && v.arrivals.any (fun a => a.lane == l))
    let out := (m.modLane i (fun x => { x with
      dissents := kept, status := .dissenting, mark := some (decide (3 ≤ kept.length)), nvWaiting := waits.map (fun v => v.vid), holdFrom := none })).modClr (fun c => { c with
      suspects := c.suspects.filter (fun s => s.lane != l), sigs := c.sigs.filter (fun s => s.1 != l) })
    m.running = true →
    (m.clr.safeState = true ∨ m.laneActive l = false → exec (.laneSelfDissent t l) s = .next (s.after t (countDissent l m))) ∧
    (m.clr.safeState = false → m.laneActive l = true → exec (.laneSelfDissent t l) s = .next (s.after t (countDissent l
      (out.each m.clr.votes (fun v n =>
        if n.clr.safeState then n else redecide { v with arrivals := v.arrivals.filter (fun a => a.lane != l) } n)))))) ∧
  (∀ (m : Mach) (l : Lane), let i := laneIx l
    let n := fun (st : LaneStatus) => (m.inc (Key.clearingDissentCount i.1)).modLane i (fun x => { x with mark := none, status := st })
    let k := Key.clearingRetireCount i.1
    let r := (n .retired).inc k
    (m.clr.lanes[i].mark = none → countDissent l m = m) ∧
    (m.clr.lanes[i].mark = some false → countDissent l m =
      (m.inc (Key.clearingDissentCount i.1)).modLane i (fun x => { x with mark := none })) ∧
    (m.clr.lanes[i].mark = some true → countDissent l m = raiseM 0x02 i.1 (r.nvJob (.entry k (r.val k) .nobody)))) ∧
  (∀ (s : Machine.State) (t : Time) (words : List (BitVec 32)) (upsets : List (Lane × Nat × BitVec 33)), let m := s.core.at_ t
    let ws := words.map withParity
    m.running = true → exec (.inputFanoutDelivery t words upsets) s = .next (s.after t
      ((m.modClr (fun c => { c with inputSeq := c.inputSeq + 1, input := ws })).each
        (lanes3.filter (fun l => (wordsTaken l upsets ws).any oddOnes)) selfDissent))) ∧
  (∀ (s : Machine.State) (t : Time) (l : Lane) (r : Resync), let m := s.core.at_ t
    m.lanesAct = true → m.clr.resync = some r → r.target = l →
    (m.ns < r.start + 2000000 → exec (.resyncFailed t l) s = .next (s.after t m)) ∧
    (r.start + 2000000 ≤ m.ns → exec (.resyncFailed t l) s = .next (s.after t (selfDissent l
      ((m.modClr (fun c => { c with resync := none })).modLane (laneIx l) (fun x => { x with status := .active }))))))

/-- A content copy that bears out the voted length and CRC leaves; one that does not is dropped, copied again from the other agreeing lane,
and its source dissents (R22). A lane's dissent entries older than 1 s end (R33), its signature is submitted once as a token of type 0x7
(R46), and the dead-state scrub zeroes every dead block of all three lanes (R48). -/
def Obligations.CopiesAndLaneUpkeep : Prop :=
  (∀ (s : Machine.State) (t : Time) (id : VoteId) (content : List Byte) (j : CopyJob), let m := s.core.at_ t
    let drop := { m with clr := { m.clr with copies := m.clr.copies.filter (fun x => x.vid != id) } }
    m.lanesAct = true → m.clr.copies.find? (fun j => j.vid == id) = some j →
    (content.length = j.len → crc32c content = j.crc →
      exec (.contentCopyComplete t id content) s = .next (s.after t
        { drop with sent := drop.sent ++ [.content id.ty id.dest content] })) ∧
    (crc32c content ≠ j.crc → ∀ l, j.second = some l →
      exec (.contentCopyComplete t id content) s = .next (s.after t (dissent j.source
        { drop with clr := { drop.clr with copies := drop.clr.copies ++ [{ j with source := l, second := none }] } })))) ∧
  ((∀ (s : Machine.State) (t : Time) (l : Lane), let m := s.core.at_ t
    exec (.dissentEntryExpiry t l) s = .next (s.after t
      (m.modLane (laneIx l) (fun x => { x with dissents := x.dissents.filter (fun d => m.ns < d + 1000000000) })))) ∧
  (∀ (s : Machine.State) (t : Time) (l : Lane) (r : ReflVerdict) (x : Lane) (v : BitVec 64), let m := s.core.at_ t
    m.lanesAct = true → m.clr.sigs.find? (fun s => s.1 == l) = some (x, v) →
    exec (.signatureComplete t l r) s = .next (s.after t
      (tokenArrivalEff l (mkToken l { ty := 7, dest := 0, sq := m.clr.sigSeq } 0 v) r
        { m with clr := { m.clr with sigs := m.clr.sigs.filter (fun s => s.1 != l) } }))) ∧
  (∀ (s : Machine.State) (t : Time), let m := s.core.at_ t
    m.running = true → exec (.deadStateScrub t) s = .next (s.after t
      (m.modClr (fun c => { c with
        lanes := vmap c.lanes (fun _ x => { x with sram := liveOnly c.liveBlocks x.sram }) })))))

/-- A control-cycle boundary happens once when it is due (R25). It counts towards each voter's watchdog, in safe state as well (R263); the
lanes' dissents are counted there (R23 step 9); a failed comparator exercise (R39) and window timers 2 % apart (R38) put the device in
safe state; otherwise the Clearing's resyncs and signatures run, then the lanes' part. -/
def Obligations.ControlCycleBoundaryRuns : Prop :=
  ∀ (s : Machine.State) (t : Time) (calib : Nat) (dirty : List (Fin 4096)) (b : Time), let m := s.core.at_ t
    let c := m.modClr (fun c => { c with boundaryAt := b })
    let n := { c with voters := vmap c.voters (fun _ v => { v with missed := v.missed + 1 }) }
    let e := (n.each lanes3 countDissent).modClr (fun c => { c with exercise := (c.exercise + 2) % 126 })
    let w := (n.each lanes3 countDissent).window
    m.running = true →
    (m.boundaryDue = none → ∀ x, exec (.controlCycleBoundary t calib x dirty) s = .next (s.after t m)) ∧
    (m.boundaryDue = some b → m.clr.safeState = true →
      ∀ x, exec (.controlCycleBoundary t calib x dirty) s = .next (s.after t (boundaryOf .device n))) ∧
    (m.boundaryDue = some b → m.clr.safeState = false →
      exec (.controlCycleBoundary t calib false dirty) s = .next (s.after t (boundaryOf .device (safeEnter 0x09 none e)))) ∧
    (m.boundaryDue = some b → m.clr.safeState = false → w < 50 * (if calib ≤ w then w - calib else calib - w) →
      exec (.controlCycleBoundary t calib true dirty) s = .next (s.after t (boundaryOf .device (safeEnter 0x08 none e)))) ∧
    (m.boundaryDue = some b → m.clr.safeState = false → 50 * (if calib ≤ w then w - calib else calib - w) ≤ w →
      e.clr.safeState = false → (signaturesDue (resyncStart (resyncFinish dirty e))).lanesAct = true →
      exec (.controlCycleBoundary t calib true dirty) s = .next (s.after t
        (lanesBoundary (signaturesDue (resyncStart (resyncFinish dirty e))))))

/-- Both voters take the payload of a safe-output token; after 4 boundaries without one a voter's watchdog acts, once: it opens its STO
switch unless the word it holds keeps it closed with an active short circuit requested, and its brake switches unless the Clearing is in
safe state; there a brake switch opens SafeStateDelay after the entry (R263, R282). The safe-state command (R42, R244): without a
requested active short circuit the channel turns off softly and ignores edges; with one, a channel of the pattern without a latched
fault stays on and the others turn off. Outside safe state no die receives it. -/
def Obligations.SafeOutputsAndSafeState : Prop :=
  ((∀ (s : Machine.State) (t : Time) (p : BitVec 64), let m := s.core.at_ t
    m.lanesAct = true → exec (.safeOutputToken t p) s = .next (s.after t
      { m with voters := vmap m.voters (fun _ v => { v with held := p.extractLsb' 0 18, missed := 0 }) })) ∧
  (∀ (s : Machine.State) (t : Time) (v : Voter), let m := s.core.at_ t
    (m.voters[voterIx v].missed < 4 → exec (.safeOutputWatchdog t v) s = .next (s.after t m)) ∧
    (m.running = true → m.voters[voterIx v].barked = false → 4 ≤ m.voters[voterIx v].missed →
      exec (.safeOutputWatchdog t v) s = .next (s.after t (m.modVoter (voterIx v) (fun x => { x with
        barked := true,
        stoOpened := x.stoOpened || !(m.voters[voterIx v].held.getLsbD 16 || m.voters[voterIx v].held.getLsbD 17) ||
          !m.voters[voterIx v].held.getLsbD (voterIx v).1,
        brakesOpened := if m.clr.safeState then x.brakesOpened else Vector.replicate 2 true }))))) ∧
  (∀ (s : Machine.State) (t : Time) (k : Fin 2) (v : Voter), let m := s.core.at_ t
    m.clr.safeState = true → m.clr.safeAt + ms (m.n (Key.brakeSafeStateDelay k.1)) ≤ m.ns →
    exec (.safeStateBrakeDelay t k v) s = .next (s.after t (m.modVoter (voterIx v) (fun x => { x with
      brakesOpened := vmod x.brakesOpened k (fun _ => true) }))))) ∧
  (∀ (s : Machine.State) (t : Time) (c : Fin 12), let m := s.core.at_ t
    (m.clr.safeState = false → exec (.safeStateCommand t c) s = .next (s.after t m)) ∧
    (m.clr.safeState = true → m.ascHeld (m.setOfCh c) = false →
      exec (.safeStateCommand t c) s = .next (s.after t
        ((switchOff c true m).modCh c (fun x => { x with mode := .safe, want := false })))) ∧
    (∀ p, m.clr.safeState = true → m.ascHeld (m.setOfCh c) = true → m.sideSelector (m.setOfCh c) = some p →
      let g := m.modGate (m.setOfCh c) (fun g => { g with asc := some p })
      (inPattern p c = true → exec (.safeStateCommand t c) s = .next (s.after t
        (g.modCh c (fun x => if x.latches.isEmpty then { x with
          mode := .staticOn, want := true, wantSince := if x.want then x.wantSince else g.now } else x)))) ∧
      (inPattern p c = false → exec (.safeStateCommand t c) s = .next (s.after t
        ((switchOff c true g).modCh c (fun x => { x with mode := .safe, want := false }))))))

/-- At the end of a rising half-period the carrier turns at its peak, at the end of a falling one at its valley (R56, R57, R59): the next
half-period begins there, the sample instants that the sample mode gives are taken, and the legs' half-period starts. Before that
nothing happens. The valley clause is the one of a carrier that keeps its frequency, phase and modulator clock. A duty token that the
computation has yet to give ends a stall (R127); the last leg's token closes the latency (R51, R52); without pulses, in direct mode and
for a value that is no number nothing else happens; a token for the half-period to come waits for it (R61). A token that is not due is
none of the computation's (R57) and does nothing. -/
def Obligations.CarriersAndDutyTokens : Prop :=
  ((∀ (s : Machine.State) (t : Time) (k : Fin 2), let m := s.core.at_ t
    let p := m.pwm[k]
    let n := m.modPwm k (fun q => { q with rising := false, hStart := p.hEnd, hEnd := q.next })
    ((p.rising = false ∨ m.now < p.hEnd) → exec (.carrierPeak t k) s = .next (s.after t m)) ∧
    (m.running = true → p.rising = true → p.hEnd ≤ m.now → n.smpMode k = 0 →
      exec (.carrierPeak t k) s = .next (s.after t (startHalf k n))) ∧
    (m.running = true → p.rising = true → p.hEnd ≤ m.now → n.smpMode k ≠ 0 →
      exec (.carrierPeak t k) s = .next (s.after t (startHalf k (sampleInstant k p.hEnd true n))))) ∧
  (∀ (s : Machine.State) (t : Time) (k : Fin 2), let m := s.core.at_ t
    let p := m.pwm[k]
    let b := boundaryOf (.set k) m
    let d := dpwmUpdate k (b.modPwm k (fun p => { p with halved := false }))
    let n := (d.modPwm k (fun q => { q with
      rising := true, hStart := p.hEnd, hEnd := p.hEnd + p.half, next := p.hEnd + 2 * p.half, moving := false, half := p.half
      regrid := false })).putR (Key.actualFrequency k.1) (fRat 1000000000000 (max 1 (2 * p.half)))
    ((p.rising = true ∨ m.now < p.hEnd) → exec (.carrierValley t k) s = .next (s.after t m)) ∧
    (m.running = true → p.rising = false → p.hEnd ≤ m.now → b.shadeHalves k = false → d.halfWanted k = p.half →
      d.pwm[k].regrid = false → p.moving = false → n.sense[k].mclk.isSome = true → n.bitPeriod k = m.bitPeriod k →
      (k = 1 → d.n (Key.carrierPhase 1) = m.n (Key.carrierPhase k.1)) →
      exec (.carrierValley t k) s = .next (s.after t
        (startHalf k (if n.smpMode k ≠ 1 then sampleInstant k p.hEnd false n else n)))))) ∧
  (∀ (s : Machine.State) (t : Time) (k : Fin 2) (leg : Fin 3) (slot : Bool) (c : BitVec 32) (duty : F32), let m := s.core.at_ t
    let e := (m.modEng (m.dataSet k) (fun e => { e with
      expect := (m.eng[m.dataSet k].expect.dropWhile (fun y => y != (k, leg, slot))).drop 1 })).modEng k (fun e => { e with stall := 0 })
    let n := if leg = 2 then noteLatency k e else e
    let h := dueEdges k leg (sameStamp n) n
    let u := h.each h.pairs2 (fun low m => m.modPair' k leg low (fun x => { x with held := some (fclamp 0 fOne duty) }))
    m.lanesAct = true →
    (m.eng[m.dataSet k].expect.contains (k, leg, slot) = false → exec (.dutyToken t k leg slot c duty) s = .next (s.after t m)) ∧
    (m.eng[m.dataSet k].expect.contains (k, leg, slot) = true →
      ((fIsNan duty = true ∨ n.gate[k].pulses = false ∨ n.directMode k = true) →
        exec (.dutyToken t k leg slot c duty) s = .next (s.after t n)) ∧
      (fIsNan duty = false → n.gate[k].pulses = true → n.directMode k = false → u.pwm[k].rising = slot →
        exec (.dutyToken t k leg slot c duty) s = .next (s.after t (u.modPair' k leg false (fun x => { x with
          waiting := x.waiting.filter (fun w => w.1 != slot) ++
            [(slot, { compare := compareTime n.now c, duty := fclamp 0 fOne duty })] })))) ∧
      (fIsNan duty = false → n.gate[k].pulses = true → n.directMode k = false → u.pwm[k].rising ≠ slot →
        exec (.dutyToken t k leg slot c duty) s = .next (s.after t
          (judgeToken k leg u.now (compareTime n.now c) (fclamp 0 fOne duty) u)))))

/-- The edge a duty token makes in the half-period in progress (R62, R63, R64). A pair of a leg (the only one of a two-level leg, either of
a three-level one) makes none once its edge is made, none where the compare time lies beyond the half-period, and none within the
minimum pulse of its last one, which is counted; else one at the compare time, or 7.5 ns after the token where that is later, and a
token too late for that is a late edge. A duty of 0 or 1 makes none; a level at which the other pair of a three-level leg already rests
is judged by the pair in whose range it lies (R158). A leg's first duty also turns it on 7.5 ns after the token (R484). LEG_EDGE and
DEAD_TIME_ELAPSED complete whenever the main domain runs. The first makes, while the set's pulses are enabled, for each pair of the leg
its turn-on and then its edge: each when its time has come, and not before, the outgoing switch off, the incoming one requested (R60,
R62, R484). The second gives every switch of the leg that is held or requested its turn: one turns on only where the interlock allows it
(R231), then at once, in its first driving phase (R224), with its integrator cleared (R236) and a switching command noted for the
sensing (R81). -/
def Obligations.LegEdges : Prop :=
  ((∀ (m : Mach) (k : Fin 2) (leg : Fin 3) (low to_ : Bool) (ta tc : Time),
    let p := m.pwm[k]
    let x := m.pairOf k leg low
    let tx := p.afterTurn (edgeAt (if tc < ta + 7500 then ta + 7500 else tc))
    let none_ := m.modPair' k leg low (fun x => { x with pending := none })
    let made := m.modPair' k leg low (fun x => { x with pending := some tx, pendTo := to_ })
    (x.made = true → judge k leg low ta tc to_ m = m) ∧
    (x.made = false → p.hEnd ≤ tc → judge k leg low ta tc to_ m = none_) ∧
    (x.made = false → tc < p.hEnd → p.hEnd ≤ tx → judge k leg low ta tc to_ m = lateEdge k leg none_) ∧
    (x.made = false → tc < p.hEnd → tx < p.hEnd →
      (x.tPrev = none → judge k leg low ta tc to_ m = made) ∧
      ∀ tp, x.tPrev = some tp →
        (tp + m.minPulse k ≤ tx → judge k leg low ta tc to_ m = made) ∧
        (tx < tp + m.minPulse k → tc < ta + 7500 → judge k leg low ta tc to_ m = lateEdge k leg none_) ∧
        (tx < tp + m.minPulse k → ta + 7500 ≤ tc →
          judge k leg low ta tc to_ m = none_.inc (Key.minPulseDropCount k.1)))) ∧
  (∀ (m : Mach) (k : Fin 2) (leg : Fin 3) (ta tc : Time) (d : F32), m.unlit k leg = false →
    let rest := fun (low : Bool) => m.modPair' k leg low (fun x => { x with pending := none })
    (m.npc = false →
      ((fle d 0 = true ∨ fge d fOne = true) → judgeToken k leg ta tc d m = rest false) ∧
      (fle d 0 = false → fge d fOne = false → judgeToken k leg ta tc d m = judge k leg false ta tc (!m.pwm[k].rising) m)) ∧
    (∀ low, m.npc = true → fle d (fRat 1 2) = low → (m.pairOf k leg (!low)).cmd = some (!low) →
      fle (m.levelOf low d) 0 = false → fge (m.levelOf low d) fOne = false →
      judgeToken k leg ta tc d m = judge k leg low ta tc (!m.pwm[k].rising) (rest (!low)))) ∧
  (∀ (m : Mach) (k : Fin 2) (leg : Fin 3) (ta tc : Time) (d : F32), m.unlit k leg = true →
    judgeToken k leg ta tc d m = judgeDuty k leg ta tc d (m.each m.pairs2 (fun low m =>
      m.modPair' k leg low (fun x => { x with turnOn := some (edgeAt (ta + 7500)), tPrev := some (edgeAt (ta + 7500)) }))))) ∧
  ((∀ (s : Machine.State) (t : Time) (k : Fin 2) (leg : Fin 3), let m := s.core.at_ t
    m.running = true →
    (m.gate[k].pulses = false → exec (.legEdge t k leg) s = .next (s.after t m)) ∧
    (m.npc = false → m.gate[k].pulses = true → exec (.legEdge t k leg) s = .next (s.after t
      (dueEdge k leg false m.now (dueTurnOn k leg false m.now m)))) ∧
    exec (.legEdge t k leg) s = .next (s.after t (m.each m.pairs2 (fun low m =>
      if m.gate[k].pulses then dueEdge k leg low (s.core.at_ t).now (dueTurnOn k leg low (s.core.at_ t).now m) else m)))) ∧
  (∀ (m : Mach) (k : Fin 2) (leg : Fin 3) (low : Bool) (upTo te : Time),
    let x := m.pairOf k leg low
    let q := m.modPair' k leg low (fun x => { x with pending := none })
    (x.turnOn = none → dueTurnOn k leg low upTo m = m) ∧
    (x.turnOn = some te → upTo < te → dueTurnOn k leg low upTo m = m) ∧
    (x.turnOn = some te → te ≤ upTo → dueTurnOn k leg low upTo m =
      makeEdge k leg low (m.pwm[k].below (m.levelOf low (x.held.getD 0)) te) te
        (m.modPair' k leg low (fun x => { x with turnOn := none }))) ∧
    (x.pending = none → dueEdge k leg low upTo m = m) ∧
    (x.pending = some te → upTo < te → dueEdge k leg low upTo m = m) ∧
    (x.pending = some te → te ≤ upTo → x.cmd = some x.pendTo → dueEdge k leg low upTo m = q) ∧
    (x.pending = some te → te ≤ upTo → x.cmd ≠ some x.pendTo → dueEdge k leg low upTo m =
      makeEdge k leg low x.pendTo te (q.modPair' k leg low (fun x => { x with made := true, tPrev := some te })))) ∧
  (∀ (s : Machine.State) (t : Time) (k : Fin 2) (leg : Fin 3), let m := s.core.at_ t
    m.running = true → exec (.deadTimeElapsed t k leg) s = .next (s.after t
      ((m.each ((m.setChs k).filter (fun c => m.legOfCh c == leg)) releaseHeld).each
        ((m.setChs k).filter (fun c => m.legOfCh c == leg)) tryOn))) ∧
  (∀ (m : Mach) (c : Fin 12), (m.onAllowed c = false → tryOn c m = m) ∧
    (m.onAllowed c = true → tryOn c m = noteOn c (noteEdge (m.setOfCh c) (m.legOfCh c) (m.modCh c (fun x => { x with
      on := true, onAt := m.now, gateOn := false, soft := false, inRamp := true, iInt := 0, sink := 0
      source := if m.n (Key.gLiveOnT1 c.1) = 0 then m.n (Key.gOnN2 c.1) else m.n (Key.gLiveOnN1 c.1)
      phase1End := if m.n (Key.gLiveOnT1 c.1) = 0 then none else some (m.now + 80000 + 1000 * m.n (Key.gLiveOnT1 c.1)) }))))))

/-- The checks of the timebase (R55): PLL lock lost and a Lantern tick missing show in Timebase.Status and raise their events; 32 Lantern
ticks that deviate by more than 1,000 ppm raise theirs, and others end it. -/
def Obligations.TimebaseChecks : Prop :=
  (∀ (s : Machine.State) (t : Time), let m := s.core.at_ t
    m.running = true →
    exec (.pllLockLoss t) s = .next (s.after t (raiseM 0x05 0 (m.putN Key.timebaseStatus (setBit (m.n Key.timebaseStatus) 0 false)))) ∧
    exec (.lanternTickMissing t) s = .next (s.after t
      (raiseM 0x06 0xFF (m.putN Key.timebaseStatus (setBit (m.n Key.timebaseStatus) 1 false))))) ∧
  (∀ (s : Machine.State) (t : Time) (ticks : Nat), let m := s.core.at_ t
    let off : Int := (ticks : Int) - 9765625000
    let d := m.putI 32 Key.timebaseLanternDeviation (max (-1000000) (min 1000000 (Int.tdiv (off * 1000000) 9765625000)))
    let e := causesGone (fun a => a.ev == 0x06) (d.putN Key.timebaseStatus (setBit (d.n Key.timebaseStatus) 1 true))
    m.running = true →
    (9765625 < off.natAbs → exec (.lanternRateCheck t ticks) s = .next (s.after t (raiseM 0x05 1 e))) ∧
    (off.natAbs ≤ 9765625 → exec (.lanternRateCheck t ticks) s = .next (s.after t
      (causesGone (fun a => a.ev == 0x05 && a.inst == 1) e))))

/-- Commit.Request 1, 2 and 3 (R70, R71): a commit that nothing refuses is pending for the next boundary or for the one named; a refused one
leaves its code in Commit.Status, and a grove's leader begins a commit of the grove (R72); a discard gives every shadow value its live
value again. HistogramClear waits for the set's next control boundary (R52). A commit of the whole grove (R72, R73): a member that can
apply its shadow bank holds the commit for 2 ms and answers; the leader, once the last answer is in, sends the commit; a refusal or 1 ms
without an answer ends it at the leader; a member holds the commit to the boundary named, misses the swap where that has passed, and
lets its prepare lapse after 2 ms. -/
def Obligations.Commits : Prop :=
  ((∀ (s : Machine.State) (t : Time) (rq : Req) (c : Conn) (d : Dom), let m := s.core.at_ t
    let n := touch rq m
    m.accepts rq c Key.commitRequest [1] (.num 1) → domOfCode (n.n Key.commitDomain) = some d →
    (n.commitRefusal d c.role none = none → n.leads = false →
      exec (.commitNextBoundary t rq) s = .next (s.after t (reply 3 rq 0 [] (n.modDom (domIx d) (fun x => { x with
        pending := some { target := none, at_ := n.ns, safety := n.safetyCommit d }, status := 1 }))))) ∧
    (n.commitRefusal d c.role none = none → n.leads = true →
      exec (.commitNextBoundary t rq) s = .next (s.after t (reply 3 rq 0 [] (groveCommitStart d none n)))) ∧
    (∀ code, n.commitRefusal d c.role none = some code →
      exec (.commitNextBoundary t rq) s = .next (s.after t (reply 3 rq 0 [] (n.modDom (domIx d) (fun x => { x with status := code })))))) ∧
  (∀ (s : Machine.State) (t : Time) (rq : Req) (c : Conn) (d : Dom), let m := s.core.at_ t
    let n := touch rq m
    let b := n.n Key.commitTargetBoundary
    m.accepts rq c Key.commitRequest [2] (.num 2) → domOfCode (n.n Key.commitDomain) = some d →
    (n.commitRefusal d c.role (some b) = none → n.leads = false →
      exec (.commitAtBoundary t rq) s = .next (s.after t (reply 3 rq 0 [] (n.modDom (domIx d) (fun x => { x with
        pending := some { target := some b, at_ := n.ns, safety := n.safetyCommit d }, status := 1 }))))) ∧
    (n.commitRefusal d c.role (some b) = none → n.leads = true →
      exec (.commitAtBoundary t rq) s = .next (s.after t (reply 3 rq 0 [] (groveCommitStart d (some b) n)))) ∧
    (3 ≤ c.role → n.safetyCommit d = false → n.commitHeld d = false → b ≤ n.doms[domIx d].count →
      exec (.commitAtBoundary t rq) s = .next (s.after t (reply 3 rq 0 [] (n.modDom (domIx d) (fun x => { x with status := 0x10 })))))) ∧
  (∀ (s : Machine.State) (t : Time) (rq : Req) (c : Conn) (d : Dom), let m := s.core.at_ t
    let n := touch rq m
    m.accepts rq c Key.commitRequest [3] (.num 3) → domOfCode (n.n Key.commitDomain) = some d →
    (n.doms[domIx d].pending.isSome = true →
      exec (.discardShadowBank t rq) s = .next (s.after t (reply 3 rq 0 [] (n.modDom (domIx d) (fun x => { x with status := 0x13 }))))) ∧
    (n.doms[domIx d].pending = none →
      exec (.discardShadowBank t rq) s = .next (s.after t (reply 3 rq 0 []
        (((n.changedOf d).foldl (fun m k => m.putShadow k (m.val k)) n).modDom (domIx d) (fun x => { x with
          carried := [], status := if x.carried.isEmpty then x.status else 2 })))))) ∧
  (∀ (s : Machine.State) (t : Time) (rq : Req) (c : Conn) (k : Fin 2), let m := s.core.at_ t
    m.accepts rq c (Key.histogramClear k.1) [1] (.num 1) →
    exec (.histogramClear t rq k) s = .next (s.after t (reply 3 rq 0 [] ((touch rq m).modPwm k (fun p => { p with clearHist := true })))))) ∧
  ((∀ (s : Machine.State) (t : Time) (d : Dom), let m := s.core.at_ t
    m.lanesAct = true → m.follows = true → m.commitHeld d = false → m.bankOk d = true →
    exec (.groveCommitPrepare t d) s = .next (s.after t
      (let n := m.modDom (domIx d) (fun x => { x with
        pending := some { target := none, at_ := m.ns, safety := m.safetyCommit d, grove := true }, prepared := some (m.ns + 2000000), status := 1 })
       openSend n.leaderPos 5 n))) ∧
  (∀ (s : Machine.State) (t : Time) (p : Fin 8) (d : Dom) (g : Machine.GroveCommit), let m := s.core.at_ t
    let n := hear p m
    m.lanesAct = true → m.leads = true → n.gcommits.find? (fun g => g.dom == d && g.awaiting.getLsbD p.1) = some g →
    (BitVec.ofNat 8 (setBit g.awaiting.toNat p.1 false) = 0 →
      exec (.prepareAnswer t p d true) s = .next (s.after t (groveCommitSend d g.target n))) ∧
    exec (.prepareAnswer t p d false) s = .next (s.after t
      ({ prepareLapse d n with gcommits := n.gcommits.filter (fun g => g.dom != d) }))) ∧
  (∀ (s : Machine.State) (t : Time) (p : Fin 8) (d : Dom) (g : Machine.GroveCommit), let m := s.core.at_ t
    m.lanesAct = true → m.gcommits.find? (fun g => g.dom == d && g.awaiting.getLsbD p.1) = some g →
    (m.ns < g.deadline → exec (.prepareTimeout t p d) s = .next (s.after t m)) ∧
    (g.deadline ≤ m.ns → exec (.prepareTimeout t p d) s = .next (s.after t
      ({ prepareLapse d m with gcommits := m.gcommits.filter (fun g => g.dom != d) })))) ∧
  (∀ (s : Machine.State) (t : Time) (d : Dom) (n : Nat), let m := s.core.at_ t
    m.lanesAct = true → m.inGrove = true → m.leads = false →
    (n ≤ m.n Key.groveBoundaryNumber → exec (.groveCommit t d n) s = .next (s.after t (raiseM 0x08 (domCode d)
      (m.modDom (domIx d) (fun x => { x with pending := none, prepared := none, missAt := none, status := 0x17 }))))) ∧
    (m.n Key.groveBoundaryNumber < n → m.doms[domIx d].prepared.isSome = true →
      exec (.groveCommit t d n) s = .next (s.after t (m.modDom (domIx d) (fun x => { x with
        prepared := none, pending := x.pending.map (fun p => { p with target := some n }) })))) ∧
    (m.n Key.groveBoundaryNumber < n → m.doms[domIx d].prepared = none →
      exec (.groveCommit t d n) s = .next (s.after t (m.modDom (domIx d) (fun x => { x with missAt := some n }))))) ∧
  (∀ (s : Machine.State) (t : Time) (d : Dom) (e : Nat), let m := s.core.at_ t
    m.lanesAct = true → m.doms[domIx d].prepared = some e → e ≤ m.ns →
    exec (.prepareLapse t d) s = .next (s.after t (m.modDom (domIx d) (fun x => { x with pending := none, prepared := none, status := 0x16 })))))

/-- A fast comparator acts on the set of its input once its filter has met the threshold at TripConfirm outputs in a row (R79, R102): a
phase input trips the set as event 0x09, the DC-link input turns it off softly as event 0x0A or 0x0B, a low DC link only while pulses
are enabled; inputs 4 and 5 trip nothing. The filter's output is the ones of OvcOSR bits, the threshold is rounded towards zero to one
of its steps. A modulator stream is declared dead once, not before 17 bit periods without a change, nor earlier than that after the 64
bit periods from its clock's start (R89), and restored after a whole filter kernel of bits none of which stand still for 16 (R90). A
measurement at the terminals is valid from 0.5 % of full scale and from 0.5 Hz to 1,000 Hz, and is taken only with the pulses removed
(R91; what full scale is, is the model's choice: log entry 106). A neutral-point deviation that has lasted 10 ms raises its event in a
three-level set (R160). -/
def Obligations.ComparatorsAndStreams : Prop :=
  ((∀ (s : Machine.State) (t : Time) (k : Fin 2) (n : Fin 6) (high : Bool) (bits : List Bool), let m := s.core.at_ t
    let g := m.inputSet k
    let thr := m.r (if high then Key.inputTripHigh g.1 n.1 else Key.inputTripLow g.1 n.1)
    let osr := m.n (Key.senseOvcOSR g.1)
    let e := m.modInput k n (fun x => { x with tripped := true })
    let x := fRat (2 * (onesOf osr bits.reverse : Int) - osr) (max 1 osr)
    let meets := fun j => fastMeets osr high thr (bits.reverse.drop j)
    m.lanesAct = true → m.inputUsed k n = true →
    (3 < n.1 → exec (.fastComparatorTrip t k n high bits) s = .next (s.after t m)) ∧
    (∀ j < max 1 (m.n (Key.inputTripConfirm g.1 n.1)), meets j = false →
      exec (.fastComparatorTrip t k n high bits) s = .next (s.after t m)) ∧
    ((∀ j < max 1 (m.n (Key.inputTripConfirm g.1 n.1)), meets j = true) →
      (n.1 < 3 → exec (.fastComparatorTrip t k n high bits) s = .next (s.after t (tripSet g 0x09 n.1 none x thr e))) ∧
      (n = 3 → high = true → exec (.fastComparatorTrip t k n high bits) s = .next (s.after t
        (raiseV 0x0A (some g) none 3 x thr (tripTurnOff g e)))) ∧
      (n = 3 → high = false → m.gate[g].pulses = true → exec (.fastComparatorTrip t k n high bits) s = .next (s.after t
        (raiseV 0x0B (some g) none 3 x thr (tripTurnOff g e)))) ∧
      (n = 3 → high = false → m.gate[g].pulses = false → exec (.fastComparatorTrip t k n high bits) s = .next (s.after t m)))) ∧
  (∀ (osr : Nat) (high : Bool) (thr : F32) (bits : List Bool), osr ≤ bits.length → fSign thr = false →
    (fastMeets osr high thr bits = true ↔
      (if high then 2 * ((fScaleNat (fabs thr) osr / 2 : Nat) : Int) ≤ 2 * onesOf osr bits - osr
       else 2 * (onesOf osr bits : Int) - osr ≤ 2 * ((fScaleNat (fabs thr) osr / 2 : Nat) : Int))))) ∧
  ((∀ (s : Machine.State) (t : Time) (k : Fin 2) (n : Fin 6) (last t0 : Time), let m := s.core.at_ t
    let due_ := max last (t0 + 64 * m.bitPeriod (m.inputSet k)) + 17 * m.bitPeriod (m.inputSet k)
    m.running = true → m.inputUsed k n = true → m.sense[m.inputSet k].mclk = some t0 →
    (m.sense[k].inputs[n].dead = false → due_ ≤ m.now →
      exec (.modulatorStreamDead t k n last) s = .next (s.after t
        (raiseS 0x0D (m.inputSet k) n.1 (m.modInput k n (fun x => { x with dead := true, deadAt := m.now }))))) ∧
    ((m.sense[k].inputs[n].dead = true ∨ m.now < due_) →
      exec (.modulatorStreamDead t k n last) s = .next (s.after t m))) ∧
  (∀ (s : Machine.State) (t : Time) (k : Fin 2) (n : Fin 6) (bits : List Bool), let m := s.core.at_ t
    let need := 3 * m.n (Key.senseControlOSR (m.inputSet k).1)
    let e := m.modInput k n (fun x => { x with dead := false, aliveAt := m.now })
    m.running = true → m.sense[k].inputs[n].dead = true →
    (need ≤ bits.length → longestRun (bits.reverse.take need) < 16 → m.sense[k].inputs[n].deadAt + need * m.bitPeriod (m.inputSet k) ≤ m.now →
      exec (.modulatorStreamRestored t k n bits) s = .next (s.after t
        ((raiseS 0x0E (m.inputSet k) n.1 e).causeGone 0x0D (some (m.inputSet k)) none n.1))) ∧
    ((bits.length < need ∨ 16 ≤ longestRun (bits.reverse.take need) ∨ m.now < m.sense[k].inputs[n].deadAt + need * m.bitPeriod (m.inputSet k)) →
      exec (.modulatorStreamRestored t k n bits) s = .next (s.after t m))) ∧
  (∀ (s : Machine.State) (t : Time) (k : Fin 2) (stream : List (F32 × F32)), let m := s.core.at_ t
    m.running = true →
    (m.gate[k].pulses = true → exec (.terminalMeasurementDone t k stream) s = .next (s.after t m)) ∧
    (m.gate[k].pulses = false → m.terminalOf k stream = none → exec (.terminalMeasurementDone t k stream) s = .next (s.after t
      (m.modSense k (fun x => { x with termValid := false })))) ∧
    (∀ (a f : F32) (r : Bool), m.gate[k].pulses = false → m.terminalOf k stream = some (a, f, r) →
      exec (.terminalMeasurementDone t k stream) s = .next (s.after t (m.modSense k (fun x => { x with
        termValid := fge a (fmul (fRat 5 1000) (fabs (m.r (Key.inputGain k.1 4)))) && fge f (fRat 1 2) && fle f (fRat 1000 1),
        termAmpl := a, termFreq := f, termRev := r }))))) ∧
  (∀ (s : Machine.State) (t : Time) (k : Fin 2) (since : Nat), let m := s.core.at_ t
    m.lanesAct = true → m.sense[k].npSince = some since →
    (m.npc = true → since + 10000000 ≤ m.ns → exec (.neutralPointDeviation t k) s = .next (s.after t (raiseS 0x23 k 0xFF m))) ∧
    (m.ns < since + 10000000 → exec (.neutralPointDeviation t k) s = .next (s.after t m))))

/-- An interface with edges counts each one that has stood for its GlitchFilter, with its sign inverted where Invert says so; the Lantern
counts PI0 in continuous mode while the main domain is in reset, from 250 ns on (R93, R94, R423). An index pulse references the
interface and checks the counts since the last one (R93, R97). Faults of a position interface (R97, R98): a broken wire loses the
reference: a pair below 200 mV for longer than 1 us of an incremental interface (Z only after the first Z), a radius below half of the
set one over three samples of the others; a count error where two edges lie within the glitch interval, or the quadrant and the count,
aligned at the first latch, disagree; an open excitation below 2 mA for 1 ms and a tracking error above 30 degrees of a resolver,
against the tracked angle run on at the speed. The excitation has settled 20 ms after its start (R95). -/
def Obligations.PositionInterfaces : Prop :=
  ((∀ (s : Machine.State) (t : Time) (i : Fin 2) (fwd : Bool) (stable : Nat), let m := s.core.at_ t
    let mode := m.n (Key.piMode i.1)
    let step : Int := if fwd != m.b (Key.piInvert i.1) then 1 else -1
    m.running = true →
    ((mode = 1 ∧ m.n (Key.piGlitchFilter i.1) ≤ stable) ∨ mode = 2 →
      exec (.encoderEdge t i fwd false stable) s = .next (s.after t (m.modPos i (fun p => { p with
        count := p.count + step, edges := p.edges + 1, firstEdge := if p.edges = 0 then m.ns else p.firstEdge
        firstCount := if p.edges = 0 then p.count + step else p.firstCount
        prevEdge := if p.edges = 0 then p.lastEdge else p.prevEdge, lastEdge := m.ns })))) ∧
    ((mode = 1 ∧ stable < m.n (Key.piGlitchFilter i.1)) ∨ (mode ≠ 1 ∧ mode ≠ 2) →
      exec (.encoderEdge t i fwd false stable) s = .next (s.after t m)) ∧
    exec (.encoderEdge t i fwd true stable) s = .next (s.after t m)) ∧
  (∀ (s : Machine.State) (t : Time) (fwd : Bool) (stable : Nat), let m := s.core.at_ t
    m.up = none → m.n Key.lanternEncoderMode = 1 → 250 ≤ stable →
    exec (.encoderEdge t 0 fwd true stable) s = .next (s.after t
      { m with lantern := { m.lantern with count := m.lantern.count + (if fwd != m.lantern.invert then 1 else -1) } })) ∧
  (∀ (s : Machine.State) (t : Time) (i : Fin 2), let m := s.core.at_ t
    let mode := m.n (Key.piMode i.1)
    let unit : Int := if mode = 1 then 1 else 4
    let per := if mode = 1 then m.piCounts i else m.n (Key.piLinesPerRev i.1)
    let tol := m.n (Key.piZTolerance i.1)
    let p := m.pos[i]
    let d := ((p.count - p.zCount) / unit).natAbs
    let e := m.modPos i (fun q => { q with referenced := q.referenced || !(p.wireBreak || p.excOpen), zSeen := true, zCount := p.count })
    m.running = true →
    (mode ≠ 1 → mode ≠ 2 → exec (.indexPulse t i) s = .next (s.after t m)) ∧
    (mode = 1 ∨ mode = 2 →
      ((p.zSeen = false ∨ tol = 0 ∨ (per ≤ d + tol ∧ d ≤ per + tol)) → exec (.indexPulse t i) s = .next (s.after t e)) ∧
      (p.zSeen = true → tol ≠ 0 → (d + tol < per ∨ per + tol < d) →
        exec (.indexPulse t i) s = .next (s.after t
          (raise 0x12 (some (e.piSet i)) none i.1 (e.modPos i (fun p => { p with countErr := true })))))))) ∧
  (∀ (s : Machine.State) (t : Time) (i : Fin 2), let m := s.core.at_ t
    let mode := m.n (Key.piMode i.1)
    let p := m.pos[i]
    let broken := piFault 0x10 i true (referenceLost i (m.modPos i (fun p => { p with wireBreak := true })))
    m.running = true →
    (∀ (pair : Fin 3) (v : F32) (dur : Nat) (xs : Vector (F32 × F32) 3),
      let report := exec (.positionWireBreak t i pair v dur xs) s
      (mode ≠ 1 → mode ≠ 2 → mode ≠ 3 → report = .next (s.after t m)) ∧
      (mode = 1 → pair ≠ 2 ∨ p.zSeen = true → flt (fabs v) (fRat 2 10) = true → 1000 < dur → report = .next (s.after t broken)) ∧
      (mode = 1 → (pair = 2 ∧ p.zSeen = false) ∨ flt (fabs v) (fRat 2 10) = false ∨ dur ≤ 1000 → report = .next (s.after t m)) ∧
      (mode = 2 → (∀ x ∈ xs.toList, m.radiusBad i (fRat 1 2) x = true) → report = .next (s.after t broken)) ∧
      (mode = 3 → (∀ x ∈ xs.toList, m.radiusBad i (Config.resolverRadius m.live i.1) x = true) → report = .next (s.after t broken))) ∧
    (∀ (gap : Nat), (mode = 1 ∧ gap ≤ m.n (Key.piGlitchFilter i.1)) ∨ (∃ ph, mode = 2 ∧ p.phase = some ph ∧ (p.place / 16384 : Int) ≠ (p.countPrev + ph) % 4) →
      exec (.positionCountError t i gap) s = .next (s.after t
        (piFault 0x11 i false ((m.modPos i (fun p => { p with countErr := true })).inc (Key.piCountErrors i.1))))) ∧
    (∀ (rms : F32) (dur : Nat),
      (mode = 3 → flt rms (fRat 2 1) = true → 1000000 ≤ dur → exec (.resolverExcitationOpen t i rms dur) s = .next (s.after t
        (piFault 0x13 i true (m.modPos i (fun p => { p with excOpen := true }))))) ∧
      (mode ≠ 3 ∨ flt rms (fRat 2 1) = false ∨ dur < 1000000 → exec (.resolverExcitationOpen t i rms dur) s = .next (s.after t m))) ∧
    (∀ (x : F32 × F32),
      let run := fmul (fmul p.speed (fNat (6 * m.n (Key.piLinesPerRev i.1)))) (fRat (m.now - p.latchAt : Nat) 1000000000000)
      let err := wrapDiff (fsub (Config.atan2Deg (if m.b (Key.piInvert i.1) then fneg x.1 else x.1) x.2) (wrapDeg (fadd p.track run)))
      (mode = 3 → fgt (fabs err) (fRat 30 1) = true → exec (.resolverTrackingLoss t i x) s = .next (s.after t
        (piFault 0x14 i false (m.modPos i (fun p => { p with trackLoss := true }))))) ∧
      (mode ≠ 3 ∨ fgt (fabs err) (fRat 30 1) = false → exec (.resolverTrackingLoss t i x) s = .next (s.after t m))) ∧
    (p.excAt + 20000000 ≤ m.ns → exec (.excitationSettleEnd t i) s = .next (s.after t (m.modPos i (fun p => { p with settling := false })))) ∧
    (m.ns < p.excAt + 20000000 → exec (.excitationSettleEnd t i) s = .next (s.after t m)))

/-- The enabled slow analog inputs are converted in turn, at least 100 us apart, none while VANA is out of range (R99, R416). A reading is
the voltage of its 16-bit code (log entry 125), the first one unfiltered, the others through the filter, scaled; its pair is compared.
The third reading in a row outside the validity window raises event 0x15, and one inside ends it (R100). Tracks of a lever pair that
have disagreed for longer than PairTime make it invalid, for each drive that uses it (R101); once they have agreed for PairTime it is
valid again, and its drives want the lever at neutral anew (R191). -/
def Obligations.AnalogInputsAndLevers : Prop :=
  (∀ (s : Machine.State) (t : Time) (n : Fin 8) (volts : F32), let m := s.core.at_ t
    let x := m.ain[n]
    let raw := ainCode volts
    let a := fsub fOne (Config.exp (fneg (fdiv (fSeconds (m.ns - x.last)) (fRat (m.n (Key.ainFilterTime n.1)) 1000))))
    let y := if m.n (Key.ainFilterTime n.1) = 0 ∨ x.seen = false then raw else fadd x.filtered (fmul a (fsub raw x.filtered))
    let out := flt raw (m.r (Key.ainValidLow n.1)) = true ∨ fgt raw (m.r (Key.ainValidHigh n.1)) = true
    let taken := fun (cnt : Nat) => pairUpdate ⟨n.1 / 2 % 4, Nat.mod_lt _ (by decide)⟩
      (({ m with ainLast := some (n, m.ns) } : Mach).modAin n (fun x => { x with
        raw := raw, filtered := y, seen := true, last := m.ns, outside := cnt,
        value := fadd (fmul (m.r (Key.ainScale n.1)) y) (m.r (Key.ainOffset n.1)) }))
    m.running = true →
    (bit (m.n Key.supplyStatus) 5 = true ∨ m.ainNext ≠ some n ∨ (∃ l, m.ainLast = some l ∧ m.ns < l.2 + 100000) →
      exec (.ainConversion t n volts) s = .next (s.after t m)) ∧
    (bit (m.n Key.supplyStatus) 5 = false → m.ainNext = some n → (∀ l, m.ainLast = some l → l.2 + 100000 ≤ m.ns) →
      (¬ out → exec (.ainConversion t n volts) s = .next (s.after t ((taken 0).causeGone 0x15 none none n.1))) ∧
      (out → x.outside = 2 → exec (.ainConversion t n volts) s = .next (s.after t (raiseM 0x15 n.1 (taken 3)))) ∧
      (out → x.outside ≠ 2 → exec (.ainConversion t n volts) s = .next (s.after t (taken (min 3 (x.outside + 1))))))) ∧
  ((∀ (s : Machine.State) (t : Time) (k : Fin 4) (since : Nat), let m := s.core.at_ t
    let e := m.modPair k (fun x => { x with invalid := true })
    m.lanesAct = true → m.n (Key.ainPairMode (2 * k.1)) ≠ 0 → m.pairs[k].disagree = some since → m.pairs[k].invalid = false →
    (since + ms (m.n (Key.ainPairTime (2 * k.1))) < m.ns → m.leverDrives k ≠ [] →
      exec (.leverTrackDiscrepancy t k) s = .next (s.after t (e.each (m.leverDrives k) (fun d m => raise 0x16 none (some d) (2 * k.1) m)))) ∧
    (m.ns ≤ since + ms (m.n (Key.ainPairTime (2 * k.1))) → exec (.leverTrackDiscrepancy t k) s = .next (s.after t m))) ∧
  (∀ (s : Machine.State) (t : Time) (k : Fin 4) (since : Nat), let m := s.core.at_ t
    let e := m.modPair k (fun x => { x with invalid := false })
    m.lanesAct = true → m.pairs[k].agree = some since → m.pairs[k].invalid = true → since + ms (m.n (Key.ainPairTime (2 * k.1))) ≤ m.ns →
    exec (.leverPairAgreed t k) s = .next (s.after t (causesGone (fun a => a.ev == 0x16 && a.inst == 2 * k.1)
      (e.each (e.leverDrives k) (fun d m => m.modDrive d (fun x => { x with neutral := false, neutralSince := none })))))))

/-- A sample that finds the engine free is computed; one that finds it busy waits; one that finds another waiting takes its place, counted
as an overrun (R122, R123); it computes with the bank of its own sample instant (R68). The front end's windows, of both sets in the
topologies of one machine, and the latched positions come first (R83, R96, R145). A computation ends with the second active lane's
report, the first alone ends nothing; the waiting sample is then computed, and lanes still at work owe their report (R122). A lane that
is not active is not counted. Sixteen sample instants without a duty token stall the set: its pulses are removed softly and the stall is
counted and raised (R127). A carried swap group swaps ForceSwapTime after the boundary at which its commit applied, its frozen members
starting from their held output (R131). A running slot's histories are reset at its owner's next control boundary (R113). -/
def Obligations.SamplesAndComputations : Prop :=
  (∀ (s : Machine.State) (t : Time) (k : Fin 2) (smp : Sample), let m := s.core.at_ t
    let ts := m.eng[k].lastSample
    let f := takeWindows k ts smp.bits m
    let w := if f.topo ≠ 0 then takeWindows 1 ts smp.bits1 f else f
    let n := w.each (two.filter (fun i => w.piSet i == k || w.dual)) (fun i m => latchPos i ts smp m)
    let r : SampleRec := {
      at_ := ts, data := smp, count := n.doms[domIx (.ctl k)].count, peak := n.eng[k].lastPeak, old := n.eng[k].since }
    m.lanesAct = true →
    (k = 1 → m.topo ≠ 0 → exec (.sampleArrival t k smp) s = .next (s.after t m)) ∧
    ((k = 0 ∨ m.topo = 0) → n.eng[k].cur = none → exec (.sampleArrival t k smp) s = .next (s.after t
      (withOld r.old (computeSample k r) (n.modEng k (fun e => { e with
        cur := some { r with old := [] }, done := [], dropRun := 0, limitRaised := false }))))) ∧
    ((k = 0 ∨ m.topo = 0) → n.eng[k].cur.isSome = true → n.eng[k].queued = none →
      exec (.sampleArrival t k smp) s = .next (s.after t (n.modEng k (fun e => { e with queued := some r })))) ∧
    ((k = 0 ∨ m.topo = 0) → n.eng[k].cur.isSome = true → n.eng[k].queued.isSome = true →
      let o := echoFlag 2 ((n.inc (Key.engineOverrunCount k.1)).modEng k (fun e => { e with queued := some r, dropRun := e.dropRun + 1 }))
      (o.eng[k].dropRun < o.n (Key.engineDropLimit k.1) → exec (.sampleArrival t k smp) s = .next (s.after t o)) ∧
      (o.n (Key.engineDropLimit k.1) ≤ o.eng[k].dropRun → o.eng[k].limitRaised = false →
        exec (.sampleArrival t k smp) s = .next (s.after t
          (raiseS 0x19 k 0xFF (o.modEng k (fun e => { e with limitRaised := true }))))))) ∧
  ((∀ (s : Machine.State) (t : Time) (k : Fin 2) (l : Lane) (r : SampleRec), let m := s.core.at_ t
    let e := m.eng[k]
    m.lanesAct = true → e.cur = some r → e.owe.contains l = false → e.done.contains l = false → m.laneActive l = true →
    (e.done = [] → exec (.computationComplete t k l) s = .next (s.after t (m.modEng k (fun e => { e with done := [l] })))) ∧
    (∀ x, e.done = [x] → e.queued = none → exec (.computationComplete t k l) s = .next (s.after t (latchFrozen k.1 (m.modEng k (fun e => { e with
      cur := none, queued := none, done := [], owe := e.owe ++ m.activeLanes.filter (fun y => !([x, l].contains y)), lastComputed := r.at_ }))))) ∧
    (∀ x q, e.done = [x] → e.queued = some q → exec (.computationComplete t k l) s = .next (s.after t
      (startSample k q (latchFrozen k.1 (m.modEng k (fun e => { e with
        cur := none, queued := none, done := [], owe := e.owe ++ m.activeLanes.filter (fun y => !([x, l].contains y)), lastComputed := r.at_ }))))))) ∧
  (∀ (s : Machine.State) (t : Time) (k : Fin 2) (l : Lane), let m := s.core.at_ t
    m.laneActive l = false → exec (.computationComplete t k l) s = .next (s.after t m) ∧
      exec (.outerComputationComplete t l) s = .next (s.after t m)) ∧
  (∀ (s : Machine.State) (t : Time) (l x : Lane), let m := s.core.at_ t
    let o := m.outer
    let late := if m.controlPeriod < 1000 * (m.ns - o.start) then raiseM 0x1A 0xFF (m.inc Key.engineOuterLateOutputCount) else m
    m.lanesAct = true → m.laneActive l = true → o.busy = true → o.owe.contains l = false → o.done = [x] → x ≠ l → o.queued = none →
    exec (.outerComputationComplete t l) s = .next (s.after t (latchFrozen 2 { late with outer := { o with
      busy := false, queued := none, done := [], owe := o.owe ++ m.activeLanes.filter (fun y => !([x, l].contains y)) } })))) ∧
  ((∀ (s : Machine.State) (t : Time) (k : Fin 2), let m := s.core.at_ t
    m.running = true →
    (m.gate[k].pulses = true → m.directMode k = false → 16 ≤ m.eng[k].stall →
      exec (.dutyStall t k) s = .next (s.after t (raiseS 0x1B k 0xFF (stopPulses k true (m.inc (Key.engineStallCount k.1)))))) ∧
    (m.eng[k].stall < 16 → exec (.dutyStall t k) s = .next (s.after t m))) ∧
  (∀ (s : Machine.State) (t : Time) (d : Dom) (group : Nat) (g : Carried), let m := s.core.at_ t
    let due := fun (x : Carried) => decide (x.since + ms (m.n Key.engineForceSwapTime) ≤ m.ns) &&
      x.slots.any (fun i => groupLive m i == group || groupShadow m i == group)
    let e := m.each g.slots (fun i m => if m.frozenAt i then m.modSlot i (fun x => { x with
      e := [0, 0, 0], y := [fsub x.out x.ff, fsub x.out x.ff, fsub x.out x.ff] }) else m)
    m.lanesAct = true →
    (m.doms[domIx d].carried.find? due = some g →
      exec (.swapForced t d group) s = .next (s.after t (raiseM 0x1C group (swapCarried d g (e.inc Key.engineForcedSwapCount))))) ∧
    (m.doms[domIx d].carried.find? due = none → exec (.swapForced t d group) s = .next (s.after t m))) ∧
  (∀ (s : Machine.State) (t : Time) (rq : Req) (c : Conn) (i : Fin 32), let m := s.core.at_ t
    m.accepts rq c (Key.slotHistoryReset i.1) [1] (.num 1) →
    exec (.historyReset t rq i) s = .next (s.after t
      (reply 3 rq 0 [] ((touch rq m).modSlot i (fun x => if x.running then { x with clear := true } else x))))))

/-- Echo.Start owns the run: settings out of their range end it at once with code 0x05, an owner that does not run with 0x04; otherwise a
sweep begins with its first point (R132, R135); Echo.Abort ends a run with 0x01 (R138); Capture.Arm starts an empty buffer (R137). The
steps of an Echo run: a sweep point's settling ends and its measurement begins (R135), a completed measurement writes its row and the
last one ends the sweep (R135, R136), a step run steps after 10 computations and a chirp ends with its duration (R134). -/
def Obligations.EchoAndCapture : Prop :=
  ((∀ (s : Machine.State) (t : Time) (rq : Req) (c : Conn), let m := s.core.at_ t
    let n := touch rq m
    let e : Mach := { n with echo := {
      owner := some rq.handle, endAt := n.ns + ms (n.n Key.echoDuration), state := 3 } }
    m.accepts rq c Key.echoStart [1] (.num 1) →
    (e.echoRefused = true → exec (.echoStart t rq) s = .next (s.after t (reply 3 rq 0 [] (echoEnd 0x05 e)))) ∧
    (e.echoRefused = false → e.echoOwnerRuns = false → exec (.echoStart t rq) s = .next (s.after t (reply 3 rq 0 [] (echoEnd 0x04 e)))) ∧
    (e.echoRefused = false → e.echoOwnerRuns = true → n.n Key.captureTrigger ≠ 1 → n.n Key.echoType = 1 →
      (echoPoint 0 false e).shadeStops = false →
      exec (.echoStart t rq) s = .next (s.after t (reply 3 rq 0 [] (echoPoint 0 false e))))) ∧
  (∀ (s : Machine.State) (t : Time) (rq : Req) (c : Conn), let m := s.core.at_ t
    m.accepts rq c Key.echoAbort [1] (.num 1) →
    exec (.echoAbort t rq) s = .next (s.after t (reply 3 rq 0 [] (echoEnd 0x01 (touch rq m))))) ∧
  (∀ (s : Machine.State) (t : Time) (rq : Req) (c : Conn), let m := s.core.at_ t
    let n := touch rq m
    m.accepts rq c Key.captureArm [1] (.num 1) → n.n Key.captureTrigger ≠ 0 → n.shadeStops = false →
    exec (.captureArm t rq) s = .next (s.after t (reply 3 rq 0 []
      { n with capture := { state := 1, owner := some rq.handle } })))) ∧
  (∀ (s : Machine.State) (t : Time), let m := s.core.at_ t
    let e := m.echo
    m.lanesAct = true →
    (m.n Key.echoType = 1 → e.state = 2 → (m.n Key.echoSettlePeriods * e.len + e.periods - 1) / max 1 e.periods ≤ e.n →
      exec (.echoSettleEnd t) s = .next (s.after t { m with echo := { e with
        state := 3, base := e.n, accX := (0, 0), accY := (0, 0), flags := if e.repeated then 32 else 0 } })) ∧
    (m.n Key.echoType = 1 → e.state = 2 → e.n < (m.n Key.echoSettlePeriods * e.len + e.periods - 1) / max 1 e.periods →
      exec (.echoSettleEnd t) s = .next (s.after t m)) ∧
    (m.n Key.echoType = 1 → e.state = 3 → e.len ≤ e.n - e.base → m.n Key.echoPoints ≤ e.point + 1 →
      let sc := fdiv (fRat 2 1) (fNat e.len)
      let xr := fmul sc e.accX.1
      let xi := fmul sc e.accX.2
      let weak := flt (fsqrt (fadd (fmul xr xr) (fmul xi xi))) (fdiv (m.r Key.echoAmplitude) (fRat 100 1))
      let y := (fmul sc e.accY.1, fmul sc e.accY.2)
      let h := sweepH (xr, xi) y
      let row := ([fdiv (fmul (fNat e.periods) m.echoRate) (fNat e.len), xr, xi, y.1, y.2, h.1, h.2].flatMap (fun v => beBytes 4 v.toNat)) ++
        beBytes 4 (if weak then setBit e.flags 4 true else e.flags)
      exec (.echoPointComplete t) s = .next (s.after t { m with echo := { e with
        table := e.table ++ [row], valid := e.valid + 1, state := 4, value := 0 } })) ∧
    (m.n Key.echoType = 4 → e.state = 2 → 10 ≤ e.n →
      exec (.echoStep t) s = .next (s.after t { m with echo := { e with state := 3, value := m.r Key.echoAmplitude } })) ∧
    (m.n Key.echoType = 2 → e.state = 3 → e.endAt ≤ m.ns →
      exec (.echoDurationEnd t) s = .next (s.after t { m with echo := { e with state := 4, value := 0 } })) ∧
    (m.n Key.echoType = 2 → m.ns < e.endAt → exec (.echoDurationEnd t) s = .next (s.after t m)))

/-- The start decision at a measured speed (R178): standstill, a catch forward, a catch backward within its limit, a refusal beyond the
catch limit and where no speed is determined; too fast backwards waits (R180). A speed measurement of a starting PM machine without a
valid encoder decides by its terminals (R176), an induction machine with one by its encoder, and so for the start inside a safe brake
test (R286); the probe scan decides for an induction machine without: the first sign change of the sweep in the first direction, else of
the one in the other, else standstill where the back-EMF is below 1 % (R177); nothing happens outside a start. A waiting drive is
measured again every RemeasurePeriod, and its request is cancelled when its wait time has run out (R180). -/
def Obligations.StartDecisions : Prop :=
  (∀ (m : Mach) (k : Fin 2) (n : F32),
    let x := m.machSet k
    let e := (m.putR (Key.startMeasuredSpeed k.1) n).modMc k (fun y => { y with speed := n, speedAt := m.ns })
    let p := fdiv (fmul (fabs n) (fRat 100 1)) (e.r (Key.machineRatedSpeed x))
    startDecision k none m = startRefused k 0x12 m ∧
    (flt p (e.r (Key.startStandstillSpeed x)) = true → startDecision k (some n) m = startProceeds k 0x02 e) ∧
    (flt p (e.r (Key.startStandstillSpeed x)) = false →
      (fSign n = false → fle p (e.r (Key.startMaxCatchSpeed x)) = true → startDecision k (some n) m = startProceeds k 0x03 e) ∧
      (fSign n = false → fle p (e.r (Key.startMaxCatchSpeed x)) = false → startDecision k (some n) m = startRefused k 0x11 e) ∧
      (fSign n = true → fle p (e.r (Key.startReverseCatchLimit x)) = true → startDecision k (some n) m = startProceeds k 0x04 e) ∧
      (fSign n = true → fle p (e.r (Key.startReverseCatchLimit x)) = false → startDecision k (some n) m = startWaits k e))) ∧
  ((∀ (s : Machine.State) (t : Time) (k : Fin 2), let m := s.core.at_ t
    let e := m.modMc k (fun x => { x with measuring := false })
    (m.mc[k].measuring = false → exec (.speedMeasurementDone t k) s = .next (s.after t m)) ∧
    (m.lanesAct = true → m.mc[k].measuring = true → (m.drives[m.driveOf k].st = .starting ∨ m.brakeTesting (m.driveOf k) = true) → e.isPm k = true → e.encValid k = false →
      exec (.speedMeasurementDone t k) s = .next (s.after t (startDecision k (some (e.terminalSpeed k)) e))) ∧
    (∀ i, m.lanesAct = true → m.mc[k].measuring = true → (m.drives[m.driveOf k].st = .starting ∨ m.brakeTesting (m.driveOf k) = true) → e.isPm k = false → e.encValid k = true →
      e.piOf k = some i → exec (.speedMeasurementDone t k) s = .next (s.after t (startDecision k (some e.pos[i].speed) e)))) ∧
  (∀ (s : Machine.State) (t : Time) (k : Fin 2) (first second : List F32) (emf : F32), let m := s.core.at_ t
    let e := m.modMc k (fun x => { x with measuring := false, probe := 0 })
    let sweep := ms (m.n (Key.startProbeTime (m.machSet k)))
    let top := fPercent (m.r (Key.startMaxCatchSpeed (m.machSet k))) (m.r (Key.machineRatedSpeed (m.machSet k)))
    let fwd := !(m.n (Key.windmillSource k.1) != 0 && fSign (m.r (Key.windmillSpeed k.1)))
    let at_ := fun (x : F32) (up : Bool) => if up then fmul top (fsub fOne x) else fneg (fmul top (fsub fOne x))
    let weak := flt emf (fPercent fOne (fmul (m.r (Key.machineNominalFlux (m.machSet k)))
      (fmul (rpmToRad (m.r (Key.machineRatedSpeed (m.machSet k)))) (m.poles k))))
    let scan := exec (.probeScanDone t k first second emf) s
    m.lanesAct = true → m.mc[k].measuring = true → m.isPm k = false → m.encValid k = false →
    (m.drives[m.driveOf k].st = .starting ∨ m.drives[m.driveOf k].st = .waiting ∨ m.brakeTesting (m.driveOf k) = true) →
    (∀ x, signChange first = some x →
      (m.mc[k].probeAt + fScaleNat x sweep ≤ m.ns → scan = .next (s.after t (startDecision k (some (at_ x fwd)) e))) ∧
      (m.ns < m.mc[k].probeAt + fScaleNat x sweep → scan = .next (s.after t m))) ∧
    (∀ x, signChange first = none → signChange second = some x → m.mc[k].probeAt + (sweep + fScaleNat x sweep) ≤ m.ns →
      scan = .next (s.after t (startDecision k (some (at_ x (!fwd))) e))) ∧
    (signChange first = none → signChange second = none → m.mc[k].probeAt + 2 * sweep ≤ m.ns →
      (weak = true → scan = .next (s.after t (startDecision k (some 0) e))) ∧
      (weak = false → scan = .next (s.after t (startDecision k none e)))))) ∧
  (∀ (s : Machine.State) (t : Time) (k : Fin 2) (due : Nat), let m := s.core.at_ t
    let d := m.driveOf k
    m.lanesAct = true → m.drives[d].st = .waiting →
    (m.drives[d].remeasure = some due → due ≤ m.ns → exec (.remeasure t k) s = .next (s.after t (measureSpeed k
      (m.modDrive d (fun x => { x with remeasure := some (m.ns + ms (m.n (Key.startRemeasurePeriod (m.machSet k)))) }))))) ∧
    (m.drives[d].remeasure = some due → m.ns < due → exec (.remeasure t k) s = .next (s.after t m)) ∧
    (m.drives[d].waitUntil = some due → due ≤ m.ns → exec (.startWaitExpired t k) s = .next (s.after t
      (driveEnd d .off (raiseS 0x25 k 0xFF (m.each (m.startSets d) (fun s m => m.putN (Key.startStartStatus s.1) 0x15)))))) ∧
    (m.drives[d].waitUntil = some due → m.ns < due → exec (.startWaitExpired t k) s = .next (s.after t m)))

/-- A pending enable of a set that starts, or whose drive's safe brake test starts it (R286), takes effect when its measurement is at most
50 ms old and its sensors are ready (R175, R88); an older measurement is repeated; sensors that are not ready refuse the start, or end
the test, with status 0x14. In a quick release sensors that are not ready refuse the enable, and the channels must be ready (R212); in
every other state the pending enable ends. Polarity pulses (R167): each lasts 2 ms; after the second, the larger peak marks the north
pole: the angle turns by 180 degrees where it is the second's. A reacquisition that has not succeeded within its time is decided for
every set of the datapath (R173, R174). -/
def Obligations.EnablesAndReacquisition : Prop :=
  (∀ (s : Machine.State) (t : Time) (k : Fin 2), let m := s.core.at_ t
    let d := m.driveOf k
    let st := m.n (Key.startStartStatus k.1)
    let refused := (m.putN (Key.startStartStatus k.1) 0x14).modMc k (fun x => { x with enablePending := false })
    m.lanesAct = true →
    (m.mc[k].enablePending = false ∨ m.gate[k].pulses = true → exec (.pulseEnable t k) s = .next (s.after t m)) ∧
    (m.mc[k].enablePending = true → m.gate[k].pulses = false → m.drives[d].st = .quickRelease →
      (m.sensorsReady k = false → exec (.pulseEnable t k) s = .next (s.after t refused)) ∧
      (m.sensorsReady k = true → (m.setChs k).all m.ready = true → exec (.pulseEnable t k) s = .next (s.after t
        (enablePulses k false false (m.modMc k (fun x => { x with speed := m.setSpeed k }))))) ∧
      (m.sensorsReady k = true → (m.setChs k).all m.ready = false → exec (.pulseEnable t k) s = .next (s.after t m))) ∧
    (m.mc[k].enablePending = true → m.gate[k].pulses = false → m.drives[d].st ≠ .starting → m.drives[d].st ≠ .quickRelease →
      m.brakeTesting d = false →
      exec (.pulseEnable t k) s = .next (s.after t (m.modMc k (fun x => { x with enablePending := false })))) ∧
    (m.mc[k].enablePending = true → m.gate[k].pulses = false → m.drives[d].st ≠ .quickRelease →
      (m.drives[d].st = .starting ∨ m.brakeTesting d = true) →
      (m.ns ≤ m.mc[k].speedAt + 50000000 → m.sensorsReady k = true →
        exec (.pulseEnable t k) s = .next (s.after t (sbtEnabled d (enablePulses k (st == 0x03 || st == 0x04) (st == 0x02) m)))) ∧
      (m.mc[k].speedAt + 50000000 < m.ns → exec (.pulseEnable t k) s = .next (s.after t
        (m.modMc k (fun x => { x with enablePending := false, measuring := true })))) ∧
      (m.ns ≤ m.mc[k].speedAt + 50000000 → m.sensorsReady k = false → m.drives[d].st = .starting →
        exec (.pulseEnable t k) s = .next (s.after t (driveEnd d .off refused))) ∧
      (m.ns ≤ m.mc[k].speedAt + 50000000 → m.sensorsReady k = false → m.drives[d].st ≠ .starting →
        exec (.pulseEnable t k) s = .next (s.after t (sbtAbort d refused))))) ∧
  ((∀ (s : Machine.State) (t : Time) (k : Fin 2), let m := s.core.at_ t
    let x := m.mc[k]
    let turned := fun (a : F32) => if fgt x.peak2 x.peak1 then wrapDeg (fadd a (fRat 180 1)) else a
    m.lanesAct = true →
    (m.ns < x.polarityAt + 2000000 ∨ x.polarity = 0 → exec (.polarityPulseEnd t k) s = .next (s.after t m)) ∧
    (x.polarityAt + 2000000 ≤ m.ns →
      (x.polarity = 1 → exec (.polarityPulseEnd t k) s = .next (s.after t
        (m.modMc k (fun x => { x with polarity := 2, polarityAt := m.ns })))) ∧
      (x.polarity = 2 → exec (.polarityPulseEnd t k) s = .next (s.after t
        (m.modMc k (fun y => { y with polarity := 0, theta := turned x.theta, obsTheta := turned x.obsTheta })))))) ∧
  (∀ (s : Machine.State) (t : Time) (k : Fin 2), let m := s.core.at_ t
    m.lanesAct = true → m.mc[k].losState = 1 →
    (m.mc[k].losAt + ms (m.n (Key.losReacquireTime (m.machSet k))) ≤ m.ns →
      exec (.reacquireTimeout t k) s = .next (s.after t (m.each (m.setsWith k) (losDecide rz)))) ∧
    (m.ns < m.mc[k].losAt + ms (m.n (Key.losReacquireTime (m.machSet k))) → exec (.reacquireTimeout t k) s = .next (s.after t m))))

/-- Command 1 at a drive in Off (R187): with safety confirmed and nothing that holds, blocks or locks it, the drive goes to Starting, its
sets' StartStatus reads 0x01 and a Dusk test is wanted (R175, R178); before safety is confirmed event 0x52 is raised (R298); a drive
that is not Off keeps its state, and a set locked out refuses a start that is no limp start (R248, R249). Command 0 ends a held start
and begins SS1 (R187, R277). -/
def Obligations.DriveCommands : Prop :=
  (∀ (s : Machine.State) (t : Time) (rq : Req) (c : Conn) (d : Fin 2), let m := s.core.at_ t
    let n := (touch rq m).putN (Key.command d.1) 1
    m.accepts rq c (Key.command d.1) [1] (.num 1) → (n.leads = false ∨ d ≠ 0) → (startDrive d n).leads = n.leads →
    (n.drives[d].st ≠ .off → exec (.commandRun t rq d) s = .next (s.after t (reply 3 rq 0 [] n))) ∧
    (n.drives[d].st = .off → n.driveConfigured d = true → n.n Key.safetyState ≤ 1 →
      exec (.commandRun t rq d) s = .next (s.after t (reply 3 rq 0 [] (raiseD 0x52 d n)))) ∧
    (n.drives[d].st = .off → n.driveConfigured d = true → 2 ≤ n.n Key.safetyState → n.holdsStart d = true →
      exec (.commandRun t rq d) s = .next (s.after t (reply 3 rq 0 [] (n.modDrive d (fun x => { x with held := true }))))) ∧
    (n.drives[d].st = .off → n.driveConfigured d = true → 2 ≤ n.n Key.safetyState → n.holdsStart d = false →
      (n.setsOf d).any (fun k => n.gate[k].retry == 3) = true → n.limpStart d = false →
      exec (.commandRun t rq d) s = .next (s.after t (reply 3 rq 0 []
        (n.each ((n.setsOf d).filter (fun k => n.gate[k].retry == 3)) (fun k m => raiseS 0x3B k 0xFF m))))) ∧
    (n.drives[d].st = .off → n.driveConfigured d = true → n.n Key.safetyState = 2 → n.holdsStart d = false →
      (n.setsOf d).any (fun k => n.gate[k].retry == 3) = false → n.blocksStart d = false → n.lockedOut = false →
      n.demandOn [1, 2] d = false → n.stoDemand = false →
      (n.brakesOf d).any (fun k => let b := n.safety.brakes[k]; b.releaseFault || b.applyFault || b.switchFault) = false →
      two.any (fun k => n.safety.brakes[k].testFailed || n.nv.sbtMust[k]) = false → n.n Key.bankLoadState ≠ 1 →
      n.modeOf d ≠ 3 → n.modeOf d ≠ 4 → n.n Key.groveSize < 2 →
      let e := n.modDrive d (fun x => { x with
        st := .starting, step := .stoRelease, startAt := n.ns, held := false, limp := none,
        neutral := false, neutralSince := none, waitUntil := none, remeasure := none })
      let f := e.each (e.startSets d) (fun k m =>
        ((m.modMc k (fun x => { x with prevStatus := m.n (Key.startStartStatus k.1) })).modGate k (fun g => { g with duskWant := some 0 })).putN
          (Key.startStartStatus k.1) 0x01)
      f.n Key.safetyState = 2 → f.limpOf d = none →
      exec (.commandRun t rq d) s = .next (s.after t (reply 3 rq 0 [] f)))) ∧
  (∀ (s : Machine.State) (t : Time) (rq : Req) (c : Conn) (d : Fin 2), let m := s.core.at_ t
    let n := ((touch rq m).putN (Key.command d.1) 0).modDrive d (fun x => { x with held := false })
    m.accepts rq c (Key.command d.1) [0] (.num 0) →
    exec (.commandStop t rq d) s = .next (s.after t (reply 3 rq 0 [] (startSs1 d false (losStop commandStopEff.raiser d n)))))

/-- Conditions that have lasted their time: the lever at neutral is accepted (R191), a reference that has not come raises its event once
(R190), a phase-back without acknowledge is counted, raised and carried out (R196), a regeneration shortfall raises its event (R215),
and the pre-torque held for 20 ms releases the brakes (R188). Winch rules: WrapsSet gives the wraps and makes the payout valid (R197); a
shock's hold is followed by its recovery, which ends at factor 1 (R200); a fade that is over leaves its target as the gain, and a stale
motion reference fades the gain to 0 and is raised (R205). A motion record is taken only if both its time and its sequence number are
later and gPTP is synchronised (R203, R354); with ten fresh ones in a row the gain rises to Heave.Gain, once (R205). -/
def Obligations.DriveTimersAndWinch : Prop :=
  (∀ (s : Machine.State) (t : Time) (d : Fin 2) (since : Nat), let m := s.core.at_ t
    let x := m.drives[d]
    m.lanesAct = true →
    (x.neutralSince = some since → since + ms (m.n (Key.refNeutralTime d.1)) ≤ m.ns →
      exec (.leverNeutralAccepted t d) s = .next (s.after t (m.modDrive d (fun x => { x with neutral := true })))) ∧
    (x.neutralSince = some since → m.ns < since + ms (m.n (Key.refNeutralTime d.1)) →
      exec (.leverNeutralAccepted t d) s = .next (s.after t m)) ∧
    (m.driveExists d = true → m.byLever d = false → m.n (Key.refRefTimeout d.1) ≠ 0 → x.lastRef + ms (m.n (Key.refRefTimeout d.1)) ≤ m.ns → x.refTimeout = false →
      exec (.referenceTimeout t d) s = .next (s.after t (raiseD 0x26 d (m.modDrive d (fun x => { x with refTimeout := true }))))) ∧
    (m.n (Key.refRefTimeout d.1) = 0 ∨ x.refTimeout = true → exec (.referenceTimeout t d) s = .next (s.after t m)) ∧
    (∀ n e, x.phaseBack = some (n, e) → e ≤ m.ns →
      exec (.phaseBackSlow t d) s = .next (s.after t (raiseD 0x27 d (releaseNow (m.inc (Key.powerPhaseBackCount d.1)))))) ∧
    (x.shortfall = some since → since + ms (m.n (Key.regenShortfallTime 0)) ≤ m.ns →
      exec (.regenerationShortfall t d) s = .next (s.after t (raiseD 0x32 d (m.modDrive d (fun x => { x with shortfall := none }))))) ∧
    (x.preOk = some since → since + 20000000 ≤ m.ns → x.st = .starting → x.step = .preTorque →
      exec (.preTorqueHeld t d) s = .next (s.after t (startComplete d
        ((m.each (m.brakesOf d) (brakeRelease false)).modDrive d (fun x => { x with step := .probe }))))) ∧
    (x.preOk = some since → m.ns < since + 20000000 → exec (.preTorqueHeld t d) s = .next (s.after t m))) ∧
  ((∀ (s : Machine.State) (t : Time) (rq : Req) (c : Conn) (d : Fin 2) (w : F32), let m := s.core.at_ t
    let n := touch rq m
    m.accepts rq c (Key.winchWrapsSet d.1) (beBytes 4 w.toNat) (.num w.toNat) →
    (n.driveExists d = true → exec (.wrapsSet t rq d w) s = .next (s.after t (reply 3 rq 0 [] (causesGone (fun a => a.ev == 0x28 && a.drv == some d)
      ((n.modDrive d (fun x => { x with wraps := w, turnsAt := n.motorTurns d })).putB (Key.winchPayoutValid d.1) true))))) ∧
    (n.driveExists d = false → exec (.wrapsSet t rq d w) s = .next (s.after t (reply 3 rq 0 [] n)))) ∧
  (∀ (s : Machine.State) (t : Time) (d : Fin 2) (e : Nat) (f : Fade), let m := s.core.at_ t
    m.lanesAct = true →
    (m.drives[d].shockHold = some e → e ≤ m.ns → exec (.shockHoldEnd t d) s = .next (s.after t (m.modDrive d (fun x => { x with
      shockHold := none, shockRec := some { from_ := x.shock, to_ := fOne, start := m.ns, dur := ms (m.n (Key.tensionShockRecoverTime d.1)) } })))) ∧
    (m.drives[d].shockRec = some f → f.over_ m.ns = true → exec (.shockRecoveryEnd t d) s = .next (s.after t
      (m.modDrive d (fun x => { x with shockRec := none, shock := fOne })))) ∧
    (m.drives[d].fade = some f → f.over_ m.ns = true → exec (.heaveFadeEnd t d) s = .next (s.after t
      (m.modDrive d (fun x => { x with gain := f.to_, fade := none })))) ∧
    (m.driveExists d = true → m.modeOf d = 4 → m.motionStale d = true → m.drives[d].lossSeen = false →
      exec (.motionReferenceLost t d) s = .next (s.after t
      (raiseD 0x2D d (m.modDrive d (fun x => { x with
        fresh := 0, risen := false, lossSeen := true, fade := some { from_ := x.gainNow m.ns, to_ := 0, start := m.ns, dur := ms (m.n (Key.heaveFadeTime d.1)) } }))))) ∧
    (m.driveExists d = false ∨ m.modeOf d ≠ 4 ∨ m.motionStale d = false ∨ m.drives[d].lossSeen = true → exec (.motionReferenceLost t d) s = .next (s.after t m))) ∧
  (∀ (s : Machine.State) (t : Time) (d : Fin 2) (time : Nat) (p v a : F32) (sq : BitVec 16), let m := s.core.at_ t
    let at_ : Int := m.timebaseOf time
    let q := m.modDrive d (fun x => { x with motion := some { time := at_, netTime := time, pos := p, vel := v, acc := a, sq := sq } })
    let fresh := !q.motionStale d
    let e := q.modDrive d (fun x => { x with
      fresh := if fresh then x.fresh + 1 else 0, lossSeen := x.lossSeen && !fresh
      gain := if fresh && !x.risen then x.gainNow q.ns else x.gain, fade := if fresh && !x.risen then none else x.fade })
    let u := ((((e.putN (Key.heaveMotionTime d.1) time).putR (Key.heaveMotionPosition d.1) p).putR (Key.heaveMotionVelocity d.1) v).putR
      (Key.heaveMotionAcceleration d.1) a).putN (Key.heaveMotionSequence d.1) sq.toNat
    let newer := ∀ r, m.drives[d].motion = some r → r.netTime < time ∧ sq ≠ r.sq ∧ (sq - r.sq).toNat < 32768
    m.lanesAct = true →
    (m.n Key.gptpState < 2 → exec (.motionRecord t d time p v a sq) s = .next (s.after t m)) ∧
    (∀ r, m.drives[d].motion = some r → time ≤ r.netTime ∨ sq = r.sq ∨ 32768 ≤ (sq - r.sq).toNat →
      exec (.motionRecord t d time p v a sq) s = .next (s.after t m)) ∧
    (2 ≤ m.n Key.gptpState → newer → (u.drives[d].fresh < 10 ∨ u.drives[d].risen = true ∨ u.modeOf d ≠ 4) →
      exec (.motionRecord t d time p v a sq) s = .next (s.after t u)) ∧
    (2 ≤ m.n Key.gptpState → newer → 10 ≤ u.drives[d].fresh → u.drives[d].risen = false → u.modeOf d = 4 →
      exec (.motionRecord t d time p v a sq) s = .next (s.after t ((u.modDrive d (fun x => { x with
        risen := true, fade := some { from_ := x.gainNow u.ns, to_ := u.r (Key.heaveGain d.1), start := u.ns, dur := ms (u.n (Key.heaveFadeTime d.1)) }
        })).causeGone 0x2D none (some d) 0xFF)))))

/-- Quick release (R187, R211 to R214): its demand takes a drive that nothing blocks to QuickRelease; what blocks it starts its fallback, in
Locked too (R214); a drive in Off of a grove whose line test has not passed starts none (R307). Its end ramps a drive with pulses to
standstill with the way to Locked, takes one without pulses there at once, applies the brakes that the fallback had released, and else
leaves QR.State 0. Without the input's demand, or with one standing already, nothing begins. A drive that does not exist takes none
(R183). -/
def Obligations.QuickRelease : Prop :=
  ∀ (s : Machine.State) (t : Time) (d : Fin 2), let m := s.core.at_ t
    let q := m.modDrive d (fun x => { x with qrDemand := true, held := false })
    let a := startAbort d q
    let e := (m.modDrive d (fun x => { x with qrDemand := false })).causeGone 0x30 none (some d) 0xFF
    let comes := m.driveExists d = true ∧ m.qrInputDemand d = true ∧ m.drives[d].qrDemand = false ∧
      (m.drives[d].st ≠ .off ∨ m.n Key.groveSize < 2 ∨ m.safety.linePassed = true)
    let goes := m.driveExists d = true ∧ m.qrInputDemand d = false ∧ m.drives[d].qrDemand = true
    m.lanesAct = true →
    (m.driveExists d = false → exec (.quickReleaseDemand t d) s = .next (s.after t m) ∧ exec (.quickReleaseEnd t d) s = .next (s.after t m)) ∧
    (m.qrInputDemand d = false ∨ m.drives[d].qrDemand = true → exec (.quickReleaseDemand t d) s = .next (s.after t m)) ∧
    (m.drives[d].st = .off → 2 ≤ m.n Key.groveSize → m.safety.linePassed = false → exec (.quickReleaseDemand t d) s = .next (s.after t m)) ∧
    (comes → q.qrBlocked d = true →
      exec (.quickReleaseDemand t d) s = .next (s.after t (qrFallback quickReleaseDemandEff.raiser d q))) ∧
    (comes → q.qrBlocked d = false → (m.drives[d].st = .locked ∨ q.n Key.safetyState ≤ 1) →
      exec (.quickReleaseDemand t d) s = .next (s.after t q)) ∧
    (comes → q.qrBlocked d = false → m.drives[d].st ≠ .locked → 2 ≤ q.n Key.safetyState →
      exec (.quickReleaseDemand t d) s = .next (s.after t (raiseD 0x30 d (a.modDrive d (fun x => { x with
        st := .quickRelease, step := .stoRelease, qrState := 1, ss1 := none, waitUntil := none, remeasure := none,
        speedRef := a.speedOf d, render := false }))))) ∧
    (m.qrInputDemand d = true ∨ m.drives[d].qrDemand = false → exec (.quickReleaseEnd t d) s = .next (s.after t m)) ∧
    (goes → m.drives[d].st = .quickRelease → (e.setsOf d).any (fun k => e.gate[k].pulses) = true →
      exec (.quickReleaseEnd t d) s = .next (s.after t (e.modDrive d (fun x => { x with
        qrState := 4, ss1 := some { start := e.ns, n0 := e.speedOf d, lock := true } })))) ∧
    (goes → m.drives[d].st = .quickRelease → (e.setsOf d).any (fun k => e.gate[k].pulses) = false →
      exec (.quickReleaseEnd t d) s = .next (s.after t ((driveEnd d .locked e).modDrive d (fun x => { x with qrEnded := true })))) ∧
    (goes → m.drives[d].st ≠ .quickRelease → m.drives[d].qrState = 3 →
      exec (.quickReleaseEnd t d) s = .next (s.after t
        ((driveEnd d .locked (e.each (e.brakesOf d) brakeApply)).modDrive d (fun x => { x with qrState := 0, qrEnded := true })))) ∧
    (goes → m.drives[d].st ≠ .quickRelease → m.drives[d].qrState ≠ 3 →
      exec (.quickReleaseEnd t d) s = .next (s.after t (e.modDrive d (fun x => { x with qrState := 0 }))))

/-- The commands of a channel die (R222): release, off with the Off profile, soft off, both as R232 lets an inner switch, static on where
the interlock allows and nothing is latched, the two Dusk injections out of an off switch and their stop, the return of the adapted
values (R228). In Clearing safe state, and while the main domain does not run, no lane commands a die (R41). Latches are cleared but for
causes that persist, which trip again (R222, R248); a reserved command code is a trip, a code of the table is none (R222); a
configuration is accepted with its CRC and gives the adapted values their start (R223, R228). -/
def Obligations.DieCommands : Prop :=
  (∀ (s : Machine.State) (t : Time) (c : Fin 12), let m := s.core.at_ t
    (m.lanesAct = true →
      exec (.switchRelease t c) s = .next (s.after t (m.modCh c (fun x => { x with mode := .release }))) ∧
      exec (.offWithOffProfile t c) s = .next (s.after t
        ((offRequest c false m).modCh c (fun x => { x with mode := .offHold, want := false }))) ∧
      exec (.softOff t c) s = .next (s.after t
        ((offRequest c true m).modCh c (fun x => { x with mode := .softHold, want := false }))) ∧
      (m.ch[c].latches.isEmpty = true → exec (.staticOn t c) s = .next (s.after t (tryOn c (m.modCh c (fun x => { x with
        mode := .staticOn, want := true, wantSince := if x.want then x.wantSince else m.now }))))) ∧
      (m.ch[c].latches.isEmpty = false → exec (.staticOn t c) s = .next (s.after t m)) ∧
      exec (.duskInjection05Ma t c) s = .next (s.after t (m.modCh c (fun x => if x.on then x else { x with inject := 1 }))) ∧
      exec (.duskInjection2Ma t c) s = .next (s.after t (m.modCh c (fun x => if x.on then x else { x with inject := 2 }))) ∧
      exec (.duskInjectionStop t c) s = .next (s.after t (m.modCh c (fun x => if x.on then x else { x with inject := 0 }))) ∧
      exec (.resetAdaptedProfile t c) s = .next (s.after t (resetAdapted c m))) ∧
    (m.lanesAct = false →
      exec (.switchRelease t c) s = .next (s.after t m) ∧ exec (.offWithOffProfile t c) s = .next (s.after t m) ∧
      exec (.softOff t c) s = .next (s.after t m) ∧ exec (.staticOn t c) s = .next (s.after t m) ∧
      exec (.duskInjection05Ma t c) s = .next (s.after t m) ∧ exec (.duskInjection2Ma t c) s = .next (s.after t m) ∧
      exec (.duskInjectionStop t c) s = .next (s.after t m) ∧ exec (.resetAdaptedProfile t c) s = .next (s.after t m))) ∧
  ((∀ (s : Machine.State) (t : Time) (c : Fin 12) (ks : List TripCause), let m := s.core.at_ t
    let k := m.setOfCh c
    let again := m.ch[c].latches.filter (fun x => ks.contains x || m.causeStands c x)
    let e := clearLatches c again m
    let quiet := (e.setChs k).all (fun d => e.ch[d].latches.isEmpty || (d == c && !again.isEmpty))
    m.lanesAct = true →
    (again = [] → quiet = true → exec (.clearFaultLatches t c ks) s = .next (s.after t (clearTrips k e))) ∧
    (again = [] → quiet = false → exec (.clearFaultLatches t c ks) s = .next (s.after t e)) ∧
    (again ≠ [] → quiet = false → exec (.clearFaultLatches t c ks) s = .next (s.after t (e.each again (fun x m => chTrip c x 0 0 m)))) ∧
    (again ≠ [] → quiet = true →
      exec (.clearFaultLatches t c ks) s = .next (s.after t ((clearTrips k e).each again (fun x m => chTrip c x 0 0 m))))) ∧
  (∀ (s : Machine.State) (t : Time) (c : Fin 12) (code : BitVec 8), let m := s.core.at_ t
    m.lanesAct = true →
    (1 ≤ code.toNat → code.toNat ≤ 9 → exec (.invalidCommand t c code) s = .next (s.after t m)) ∧
    ((code.toNat = 0 ∨ 9 < code.toNat) → exec (.invalidCommand t c code) s = .next (s.after t
      (chTrip c .invalidCommand (fNat code.toNat) 0 (m.modCh c (fun x => { x with mode := .invalid })))))) ∧
  (∀ (s : Machine.State) (t : Time) (c : Fin 12) (cfg : List Byte) (crc : BitVec 32), let m := s.core.at_ t
    m.running = true → m.ch[c].logicOk = true →
    (crc32c cfg = crc → exec (.channelConfiguration t c cfg crc) s = .next (s.after t
      (resetAdapted c (m.modCh c (fun x => { x with config := some cfg }))))) ∧
    (crc32c cfg ≠ crc → exec (.channelConfiguration t c cfg crc) s = .next (s.after t m))))

/-- Links (R221, R444): a status frame's readings and die temperature are stored, and a latch it brings that is not known yet is a trip; a
lost downlink or uplink trips the channel once its first frame has come and both STO switches are closed; a first frame that is still
missing when its time is over trips it too. -/
def Obligations.ChannelLinks : Prop :=
  ∀ (s : Machine.State) (t : Time) (c : Fin 12), let m := s.core.at_ t
    let cut := m.modCh c (fun x => { x with linkOk := false })
    m.running = true →
    (∀ fr : UplinkFrame,
      let e := (m.modCh c (fun x => { x with
        uplinkSeen := true, linkOk := true, gateOn := fr.gateOn, vsen := fr.vsen, didt := fr.didt, temp := fr.temp })).putR (Key.gDieTemp c.1) fr.dieTemp
      let f := e.each (fr.latches.filter (fun k => !e.ch[c].latches.contains k)) (fun k m => chTrip c k 0 0 m)
      exec (.uplinkStatusFrame t c fr) s = .next (s.after t (if f.npc ∧ 2 ≤ c.1 % 4 then tryOn (chan (c.1 - 2)) f else f))) ∧
    (m.linkJudged c = true →
      exec (.downlinkLoss t c) s = .next (s.after t (chTrip c .linkLossChannel 0 0 m)) ∧
      exec (.uplinkLoss t c) s = .next (s.after t (chTrip c .linkLossMain 0 0 cut))) ∧
    (m.linkJudged c = false →
      exec (.downlinkLoss t c) s = .next (s.after t m) ∧ exec (.uplinkLoss t c) s = .next (s.after t m)) ∧
    (∀ e, m.ch[c].uplinkSeen = false → m.safety.sto.uplinkEnd = some e → e ≤ m.ns →
      exec (.channelUplinkTimeout t c) s = .next (s.after t (chTrip c .linkLossMain 0 0 cut))) ∧
    (m.ch[c].uplinkSeen = true → exec (.channelUplinkTimeout t c) s = .next (s.after t m))

/-- The three short-circuit detectors trip a channel that conducts or has not reached the end of its turn-off's first phase, above their
thresholds and after their blanking, with the readings in the event (R235, R236, R238): the DIDT voltage, the current its leaky
integrator has reached from the course of that voltage, which is held at zero while the switch is commanded off, the sense node less the
diode drop and the drop of 0.5 mA. Below the threshold, or with the detector dead, they do nothing. The ramp window ends after its time
(R235), the first phase of an edge at its instant with the segments of the second (R224). A measured edge, resolved to 2.5 ns (R226),
outside its target's dead band moves one adapted value one step towards it, within its bounds, in the mode that adapts it: the first
phase's segments in mode 1, its time in mode 2 (R227); a peak too small to judge, a soft edge and a time inside the dead band move
nothing. -/
def Obligations.DetectorsAndEdges : Prop :=
  ((∀ (s : Machine.State) (t : Time) (c : Fin 12) (v : F32) (course : List (F32 × Nat)), let m := s.core.at_ t
    let thr := fdiv (fmul (m.r (Key.gScStrayInductance c.1))
      (if m.ch[c].inRamp ∧ !m.onSince c (1000 * m.n (Key.gScRampWindow c.1)) then m.r (Key.gScDiDtLimitRamp c.1) else m.r (Key.gScDiDtLimit c.1))) (fRat 1000 1)
    let i := course.foldl (m.integrate c) 0
    let held := m.modCh c (fun x => { x with iInt := if x.on then i else 0 })
    let desat := fsub (fsub v (m.r (Key.gSenseDiodeDrop c.1))) (fmul (fRat 1 2000) (m.r (Key.gSenseResistance c.1)))
    m.running = true →
    (m.onSince c 0 = true →
      (fge v thr = true → exec (.didtTrip t c v) s = .next (s.after t (chTrip c .didt v thr m))) ∧
      (fge v thr = false → exec (.didtTrip t c v) s = .next (s.after t m))) ∧
    (m.onSince c (course.map (·.2)).sum = true →
      (fge i (m.r (Key.gScCurrentLimit c.1)) = true →
        exec (.integratorTrip t c course) s = .next (s.after t (chTrip c .integrator i (m.r (Key.gScCurrentLimit c.1)) held))) ∧
      (fge i (m.r (Key.gScCurrentLimit c.1)) = false → exec (.integratorTrip t c course) s = .next (s.after t held))) ∧
    (m.onSince c 1500000 = true → fgt desat (fRat 9 1) = true →
      exec (.desaturationTrip t c v) s = .next (s.after t (chTrip c .desaturation desat (fRat 9 1) m))) ∧
    (fgt desat (fRat 9 1) = false → exec (.desaturationTrip t c v) s = .next (s.after t m)) ∧
    (m.ch[c].on = false → (m.ch[c].confirmed = true ∨ m.ch[c].offAt + 80000 ≤ m.now) →
      exec (.didtTrip t c v) s = .next (s.after t m) ∧ exec (.integratorTrip t c course) s = .next (s.after t m) ∧
      exec (.desaturationTrip t c v) s = .next (s.after t m))) ∧
  (∀ (m : Mach) (c : Fin 12) (ps : Time), let x := m.ch[c]
    (x.on = true → x.onAt + 80000 + ps ≤ m.now → m.onSince c ps = true) ∧
    (x.on = false → x.confirmed = false → x.onAt ≤ x.offAt → m.now < x.offAt + 80000 → x.onAt + 80000 + ps ≤ m.now → m.onSince c ps = true) ∧
    (m.now < x.onAt + 80000 + ps → m.onSince c ps = false)) ∧
  (∀ (s : Machine.State) (t : Time) (c : Fin 12) (e : Time), let m := s.core.at_ t
    let x := m.ch[c]
    (m.onSince c (1000 * m.n (Key.gScRampWindow c.1)) = true →
      exec (.rampWindowEnd t c) s = .next (s.after t (m.modCh c (fun x => { x with inRamp := false })))) ∧
    (m.onSince c (1000 * m.n (Key.gScRampWindow c.1)) = false → exec (.rampWindowEnd t c) s = .next (s.after t m)) ∧
    (x.phase1End = some e → e ≤ m.now → x.on = true → exec (.profilePhase1End t c) s = .next (s.after t
      (m.modCh c (fun y => { y with phase1End := none, source := m.n (Key.gOnN2 c.1), sink := 0 })))) ∧
    (x.phase1End = some e → e ≤ m.now → x.on = false → exec (.profilePhase1End t c) s = .next (s.after t
      (m.modCh c (fun y => { y with phase1End := none, source := 0, sink := if x.soft then 16 else m.n (Key.gOffN2 c.1) })))) ∧
    (x.phase1End = some e → m.now < e → exec (.profilePhase1End t c) s = .next (s.after t m)))) ∧
  (∀ (s : Machine.State) (t : Time) (c : Fin 12) (on : Bool) (raw peak : F32), let m := s.core.at_ t
    let time := resolved raw
    let e := m.putR (if on then Key.gLastOnTime c.1 else Key.gLastOffTime c.1) time
    let tgt := fNat (e.n (if on then Key.gAdaptTargetOn c.1 else Key.gAdaptTargetOff c.1))
    let db := fNat (e.n (Key.gAdaptDeadband c.1))
    let n1 := if on then Key.gLiveOnN1 c.1 else Key.gLiveOffN1 c.1
    let t1 := if on then Key.gLiveOnT1 c.1 else Key.gLiveOffT1 c.1
    let n2 := if on then Key.gOnN2 c.1 else Key.gOffN2 c.1
    let slow := fgt time (fadd tgt db)
    m.running = true →
    (flt (fabs peak) (m.r (Key.gAdaptMinPeak c.1)) = true ∨ (on = false ∧ m.ch[c].soft = true) →
      exec (.edgeMeasurement t c on raw peak) s = .next (s.after t m)) ∧
    (flt (fabs peak) (m.r (Key.gAdaptMinPeak c.1)) = false → (on = true ∨ m.ch[c].soft = false) →
      (slow = false → flt time (fsub tgt db) = false → exec (.edgeMeasurement t c on raw peak) s = .next (s.after t e)) ∧
      (slow = true ∨ flt time (fsub tgt db) = true → e.n (Key.gAdaptMode c.1) = 1 →
        exec (.edgeMeasurement t c on raw peak) s = .next (s.after t
          (stepWithin c n1 slow 1 (e.n (Key.gAdaptN1Min c.1)) (e.n (Key.gAdaptN1Max c.1)) e))) ∧
      (slow = true ∨ flt time (fsub tgt db) = true → e.n (Key.gAdaptMode c.1) = 2 →
        exec (.edgeMeasurement t c on raw peak) s = .next (s.after t
          (stepWithin c t1 (if e.n n1 > e.n n2 then slow else flt time (fsub tgt db)) 5
            (e.n (Key.gAdaptT1Min c.1)) (e.n (Key.gAdaptT1Max c.1)) e))) ∧
      (e.n (Key.gAdaptMode c.1) ≠ 1 → e.n (Key.gAdaptMode c.1) ≠ 2 → exec (.edgeMeasurement t c on raw peak) s = .next (s.after t e))))

/-- Supply rails of a die (R233, R234): a rail that reaches its rising threshold is valid, with the latch of its expected undervoltage
cleared; one that falls below its falling threshold trips the channel with its cause and its voltage, the logic supply taking the
configuration with it; a negative rail that is not supervised trips nothing; a voltage between the thresholds changes nothing. A set's
turn-off, its retry and its trip history: the sequence takes its next step at its instant (R241); a confirmed off lets a waiting partner
turn on (R231), counted where it comes later than the dead time; both switches of a leg on at once trip the set, but for direct mode 1
and, in direct mode 2, without a conflict of the leg (R231, R232); a set that is confirmed off waits and clears its latches, those whose
cause stands tripping again (R248, R446), and the wait's end makes it ready again (R248); old trips leave both histories (R247). -/
def Obligations.RailsAndTurnOff : Prop :=
  ((∀ (s : Machine.State) (t : Time) (c : Fin 12) (r : GateRail) (v : F32), let m := s.core.at_ t
    let up := m.modCh c (setRail r true)
    let down := m.modCh c (fun x => let x := setRail r false x; if r = .logic then { x with config := none } else x)
    (m.railUp c v r = false → exec (.railValid t c r v) s = .next (s.after t m)) ∧
    (m.railUp c v r = true → up.ch[c].latches.contains (railCause r) = false → exec (.railValid t c r v) s = .next (s.after t up)) ∧
    (m.railUp c v r = true → up.lanesAct = true → up.gate[up.setOfCh c].retry = 0 → up.ch[c].latches.contains (railCause r) = true →
      exec (.railValid t c r v) s = .next (s.after t
        (clearLatches c (up.ch[c].latches.filter (· != railCause r)) (cmdCh c 0x08 up)))) ∧
    (m.railDown c v r = false → exec (.railInvalid t c r v) s = .next (s.after t m)) ∧
    (m.railDown c v r = true → r = .vneg → down.n (Key.gUvloNegRail c.1) = 0 → exec (.railInvalid t c r v) s = .next (s.after t down)) ∧
    (m.railDown c v r = true → (r ≠ .vneg ∨ down.n (Key.gUvloNegRail c.1) ≠ 0) → down.running = true →
      exec (.railInvalid t c r v) s = .next (s.after t (chTrip c (railCause r) v 0 down))) ∧
    (m.railDown c v r = true → (r ≠ .vneg ∨ down.n (Key.gUvloNegRail c.1) ≠ 0) → down.running = false →
      exec (.railInvalid t c r v) s = .next (s.after t (latch c (railCause r) (ownSoftOff c down))))) ∧
  (∀ (m : Mach) (c : Fin 12) (v : F32),
    m.railUp c v .vpos = fge v (m.posThreshold c) ∧ m.railDown c v .vpos = flt v (fsub (m.posThreshold c) fOne) ∧
    m.railUp c v .vneg = fle v (fneg (fRat 2 1)) ∧ m.railDown c v .vneg = fgt v (fneg (fRat 17 10)))) ∧
  ((∀ (s : Machine.State) (t : Time) (k : Fin 2) (x : TurnOff), let m := s.core.at_ t
    m.gate[k].turnOff = some x →
    (x.next ≤ m.now → exec (.turnOffSequenceStep t k) s = .next (s.after t (turnOffStep k x.rest x.soft m))) ∧
    (m.now < x.next → exec (.turnOffSequenceStep t k) s = .next (s.after t m))) ∧
  (∀ (s : Machine.State) (t : Time) (c : Fin 12), let m := s.core.at_ t
    let p := m.partner c
    m.running = true →
    (m.ch[c].on = true → exec (.gateOffConfirmed t c) s = .next (s.after t m)) ∧
    (m.ch[c].on = false → exec (.gateOffConfirmed t c) s = .next (s.after t
      (let late := !m.ch[c].confirmed && m.ch[p].want && !m.ch[p].on &&
         decide (m.ch[c].offAt + m.deadTime (m.setOfCh c) (m.legOfCh c) < m.now)
       let b := m.modCh c (fun x => { x with confirmed := true, soft := false })
       let e := tryOn p (if late then b.inc (Key.gOffConfirmLateCount c.1) else b)
       if e.npc ∧ c.1 % 4 ≤ 1 then releaseHeld (chan (c.1 + 2)) e else e)))) ∧
  (∀ (s : Machine.State) (t : Time) (k : Fin 2) (leg : Fin 3), let m := s.core.at_ t
    m.running = true →
    (m.n (Key.gateCommandMode k.1) = 1 ∨ (m.n (Key.gateCommandMode k.1) = 2 ∧ m.legConflict k leg = false) →
      exec (.legInterlockFault t k leg) s = .next (s.after t m)) ∧
    (m.n (Key.gateCommandMode k.1) ≠ 1 → (m.n (Key.gateCommandMode k.1) = 2 → m.legConflict k leg = true) → exec (.legInterlockFault t k leg) s = .next (s.after t
      (tripSet k 0x38 leg.1 none 0 0 (m.each ((m.setChs k).filter (fun c => m.legOfCh c == leg))
        (fun c m => latch c .legInterlock (m.modCh c (fun x => { x with want := false })))))))) ∧
  (∀ (s : Machine.State) (t : Time) (k : Fin 2), let m := s.core.at_ t
    let a := m.each (m.setChs k) (fun c m => cmdCh c 0x08 m)
    m.lanesAct = true →
    ((m.gate[k].retry ≠ 1 ∨ m.allOff k = false) → ∀ ps, exec (.setConfirmedOff t k ps) s = .next (s.after t m)) ∧
    (m.gate[k].retry = 1 → m.allOff k = true → ∀ ps, exec (.setConfirmedOff t k ps) s = .next (s.after t
      (clearTripped k (m.setChs k) ps ((a.modGate k (fun g => { g with
        retry := 2, waitEnd := some (a.ns + ms (a.n (Key.gateRetryWait k.1))), scLegs := [], multiLeg := false })).each
        ((m.setChs k).filter (fun c => !m.ch[c].latches.isEmpty)) (fun c m => raiseS 0x3C k c.1 m)))))) ∧
  (∀ (s : Machine.State) (t : Time) (k : Fin 2) (e : Nat), let m := s.core.at_ t
    let r := m.modGate k (fun g => { g with retry := 0, waitEnd := none })
    m.lanesAct = true → m.gate[k].retry = 2 → m.gate[k].waitEnd = some e →
    (m.ns < e → exec (.retryWaitEnd t k) s = .next (s.after t m)) ∧
    (e ≤ m.ns → r.b (Key.gateRetryAutoRestart k.1) = false → exec (.retryWaitEnd t k) s = .next (s.after t r))) ∧
  (∀ (s : Machine.State) (t : Time) (k : Fin 2), let m := s.core.at_ t
    exec (.tripHistoryExpiry t k) s = .next (s.after t (m.modGate k (fun g => { g with
      scHist := g.scHist.filter (fun d => m.ns < d + 1000000000 * m.n (Key.gateRetryWindow k.1)),
      otherHist := g.otherHist.filter (fun d => m.ns < d + 1000000000 * m.n (Key.gateRetryWindow k.1)) })))))

/-- Direct mode and the Dusk test on request (R230, R251): a direct enable that the set allows wants a Dusk test first, its removal takes
the pulses it gave or awaits away; SWCMD acts only while the set is directly enabled; a Dusk request is wanted, and refused with 0x0008
while the set pulses, starts or is under test; a test step whose readings fail R251 ends with verdict 0x08. -/
def Obligations.DirectModeAndDusk : Prop :=
  (∀ (s : Machine.State) (t : Time) (rq : Req) (c : Conn) (k : Fin 2), let m := s.core.at_ t
    let n := touch rq m
    let on := n.putB (Key.gateDirectEnable k.1) true
    let off := n.putB (Key.gateDirectEnable k.1) false
    (m.accepts rq c (Key.gateDirectEnable k.1) [1] (.num 1) →
      (on.directOk k = true → exec (.directEnable t rq k true) s = .next (s.after t (reply 3 rq 0 []
        (on.modGate k (fun g => { g with duskWant := some 3 }))))) ∧
      (on.directOk k = false → exec (.directEnable t rq k true) s = .next (s.after t (reply 3 rq 0 [] on)))) ∧
    (m.accepts rq c (Key.gateDirectEnable k.1) [0] (.num 0) →
      ((off.directMode k = false ∨ (off.gate[k].direct = false ∧ off.gate[k].duskWant ≠ some 3)) →
        exec (.directEnable t rq k false) s = .next (s.after t (reply 3 rq 0 [] off))) ∧
      (off.directMode k = true → (off.gate[k].direct = true ∨ off.gate[k].duskWant = some 3) →
        exec (.directEnable t rq k false) s = .next (s.after t (reply 3 rq 0 [] (stoIfUnused (stopPulses k false
          (off.modGate k (fun g => { g with duskWant := none, dusk := none }))))))))) ∧
  (∀ (s : Machine.State) (t : Time) (c : Fin 12) (h : Bool), let m := s.core.at_ t
    let e := m.modCh c (fun x => { x with swcmd := h })
    let k := m.setOfCh c
    ((m.running = false ∨ e.directMode k = false ∨ m.gate[k].direct = false ∨ m.gate[k].pulses = false) →
      exec (.swcmdTransition t c h) s = .next (s.after t e)) ∧
    (m.running = true → e.directMode k = true → m.gate[k].direct = true → m.gate[k].pulses = true → h = true →
      exec (.swcmdTransition t c h) s = .next (s.after t (tryOn c (wantOn c (noteEdge k (e.legOfCh c) e)))))) ∧
  (∀ (s : Machine.State) (t : Time) (rq : Req) (c : Conn) (k : Fin 2), let m := s.core.at_ t
    let n := touch rq m
    m.accepts rq c (Key.duskRun k.1) [1] (.num 1) →
    (n.duskRunOk k = true → exec (.duskRun t rq k) s = .next (s.after t (reply 3 rq 0 [] (n.modGate k (fun g => { g with duskWant := some 1 }))))) ∧
    (n.duskRunOk k = false → exec (.duskRun t rq k) s = .next (s.after t (reply 3 rq 0x0008 [] n)))) ∧
  (∀ (s : Machine.State) (t : Time) (k : Fin 2) (rd : DuskReading) (r : DuskRun), let m := s.core.at_ t
    m.lanesAct = true → m.gate[k].dusk = some r →
    (m.ns < r.due → exec (.duskStepEnd t k rd) s = .next (s.after t m)) ∧
    (r.due ≤ m.ns → rd.alive = false → exec (.duskStepEnd t k rd) s = .next (s.after t (duskFinish k r [0x08, 0x08, 0x08] m))) ∧
    (r.due ≤ m.ns → rd.alive = true → m.duskOk k = true → r.step = 0 → fgt rd.span (m.r (Key.duskRotationSpan k.1)) = true →
      exec (.duskStepEnd t k rd) s = .next (s.after t (duskFinish k { r with
        charged := fge (m.dcLink k) (m.r (Key.duskChargedLevel k.1)), baseUV := rd.uUV, baseVW := rd.uVW } [0x09, 0x09, 0x09] m))))

/-- Safe inputs: a channel's demand and its end once they have lasted for the input's filter, the state becoming known not before the A1
hold has ended with Source 0 and the filter has passed (R266, R485), a disagreement that has lasted for Discrepancy (R269), the dark
pulses, one of 500 us at a time and each due in its turn, and their check (R265, R267). A safe input's demand acts once its state is
known, latches under Restart 1, and its end clears its condition (R268, R270); an input whose state is not known is in demand (R485). -/
def Obligations.SafeInputs : Prop :=
  ((∀ (s : Machine.State) (t : Time) (i : Fin 6) (c : Fin 2), let m := s.core.at_ t
    m.running = true →
    (∀ since, m.filtered i c since = true → exec (.safeInputChannelDemand t i c since) s = .next (s.after t
      (siChanged i (m.modSi i (fun x => { x with ch := vmod x.ch c (fun y => { y with demand := true }) }))))) ∧
    (∀ since, m.filtered i c since = true → exec (.safeInputChannelClear t i c since) s = .next (s.after t
      (siChanged i (m.modSi i (fun x => { x with ch := vmod x.ch c (fun y => { y with demand := false }) }))))) ∧
    (∀ since, m.filtered i c since = false → exec (.safeInputChannelDemand t i c since) s = .next (s.after t m) ∧
      exec (.safeInputChannelClear t i c since) s = .next (s.after t m)) ∧
    (m.n (Key.siSource i.1) ≠ 0 ∨ m.lantern.holdUntil ≤ m.ns → two.all (m.filtered i · 0) = true →
      exec (.safeInputStateKnown t i) s = .next (s.after t
        (siChanged i (m.modSi i (fun x => { x with known := true, ch := vmap x.ch (fun _ c => { c with known := true }) }))))) ∧
    ((m.n (Key.siSource i.1) = 0 ∧ m.ns < m.lantern.holdUntil) ∨ two.all (m.filtered i · 0) = false →
      exec (.safeInputStateKnown t i) s = .next (s.after t m))) ∧
  (∀ (s : Machine.State) (t : Time) (i : Fin 6) (from_ : Nat), let m := s.core.at_ t
    m.lanesAct = true → m.n (Key.siFunction i.1) ≠ 0 → m.safety.si[i].discrep = false → m.safety.si[i].disagree = some from_ →
    (from_ + ms (m.n (Key.siDiscrepancy i.1)) ≤ m.ns → exec (.safeInputDiscrepancy t i) s = .next (s.after t
      (siUpdate i (raiseM 0x44 i.1 ((m.modSi i (fun x => { x with discrep := true, cycle := 0 })).inc (Key.siDiscrepancyCount i.1)))))) ∧
    (m.ns < from_ + ms (m.n (Key.siDiscrepancy i.1)) → exec (.safeInputDiscrepancy t i) s = .next (s.after t m))) ∧
  (∀ (s : Machine.State) (t : Time) (tp : Fin 2) (r : DarkReading), let m := s.core.at_ t
    let e := m.modLan (fun l => { l with dark := vmod l.dark tp (fun _ => false) })
    (m.ns < m.lantern.holdUntil ∨ m.lantern.darkDue tp m.now = false → exec (.darkPulseStart t tp) s = .next (s.after t m)) ∧
    (m.lantern.holdUntil ≤ m.ns → m.lantern.darkDue tp m.now = true → exec (.darkPulseStart t tp) s = .next (s.after t
      (m.modLan (fun l => { l with dark := vmod l.dark tp (fun _ => true), darkAt := vmod l.darkAt tp (fun _ => some (m.now : Int)) })))) ∧
    (∀ t0, m.lantern.darkAt[tp] = some t0 → (m.now : Int) < t0 + 500000000 →
      exec (.darkPulseEnd t tp [r]) s = .next (s.after t m)) ∧
    ((∀ t0, m.lantern.darkAt[tp] = some t0 → t0 + 500000000 ≤ (m.now : Int)) → m.lantern.dark[tp] = true → m.lanesAct = true →
      m.n (Key.siFunction r.si.1) ≠ 0 → m.n (Key.siSource r.si.1) = 0 →
      m.safety.si[r.si].ch[r.ch].demand = false → m.safety.si[r.si].ch[r.ch].testFault = false →
      (r.ch = tp → r.lowAtEnd = true → exec (.darkPulseEnd t tp [r]) s = .next (s.after t e)) ∧
      (r.ch = tp → r.lowAtEnd = false → exec (.darkPulseEnd t tp [r]) s = .next (s.after t (testFault r.si r.ch e))) ∧
      (r.ch ≠ tp → r.lowAtEnd = true → r.highAround = true →
        exec (.darkPulseEnd t tp [r]) s = .next (s.after t (testFault r.si r.ch e))) ∧
      (r.ch ≠ tp → r.lowAtEnd = false → exec (.darkPulseEnd t tp [r]) s = .next (s.after t e))))) ∧
  (∀ (m : Mach) (i : Fin 6), let f := m.n (Key.siFunction i.1)
    let lock := m.b (Key.siRestart i.1) && f != 3
    (f ≠ 0 → m.safety.si[i].known = true → m.siDemand i = true → m.safety.si[i].acted = false →
      let e := m.modSi i (fun x => { x with acted := true, awaitReset := x.awaitReset || lock })
      siUpdate i m = demandActs f (m.n (Key.siTarget i.1)) lock i.1 e) ∧
    (m.safety.si[i].known = false → m.safety.si[i].acted = false → siUpdate i m = m) ∧
    (m.siDemand i = false → m.safety.si[i].acted = true →
      siUpdate i m = (m.modSi i (fun x => { x with acted := false })).causeGone 0x43 none none i.1) ∧
    (f ≠ 3 → f ≠ 0 → (m.safety.si[i].known = false ∨ m.safety.si[i].discrep = true ∨ ∃ c : Fin 2, m.safety.si[i].ch[c].demand = true) → m.siDemand i = true))

/-- The STO release (R273): each step advances only at its end and on the readings the table gives; a wrong reading is an STO switch fault,
a lapsed condition opens both switches. Feedback that deviates for 1 ms while both are closed (R275) and a feed that still reads high at
DischargeTime (R274) are switch faults as well; a feed that reads low is discharged, and is not judged any more; neither acts on a
closed switch. -/
def Obligations.StoReleaseAndChecks : Prop :=
  (∀ (s : Machine.State) (t : Time) (p n : Bool) (k : Nat), let m := s.core.at_ t
    let e := m.modSto (fun x => { x with fbp := p, fbn := n })
    m.lanesAct = true → m.safety.sto.step = some k →
    (m.ns < m.safety.sto.stepEnd → exec (.stoReleaseStep t p n) s = .next (s.after t e)) ∧
    (m.safety.sto.stepEnd ≤ m.ns → e.stoReleaseOk = false → exec (.stoReleaseStep t p n) s = .next (s.after t (stoOpen e))) ∧
    (m.safety.sto.stepEnd ≤ m.ns → e.stoReleaseOk = true →
      (k = 1 → p = true → n = true → exec (.stoReleaseStep t p n) s = .next (s.after t
        (e.modSto (fun x => { x with step := some 2, hs := false, ls := true, stepEnd := m.ns + 10000000 })))) ∧
      (k = 2 → p = false → n = false → exec (.stoReleaseStep t p n) s = .next (s.after t
        (e.modSto (fun x => { x with step := some 3, hs := true, ls := true, stepEnd := m.ns + 5000000 })))) ∧
      (k = 3 → p = true → n = false → exec (.stoReleaseStep t p n) s = .next (s.after t
        (e.modSto (fun x => { x with step := none, fault := false, uplinkEnd := some (m.ns + 50000000) })))) ∧
      (¬ (k = 1 ∧ p = true ∧ n = true) → ¬ (k = 2 ∧ p = false ∧ n = false) → ¬ (k = 3 ∧ p = true ∧ n = false) → 1 ≤ k → k ≤ 3 →
        exec (.stoReleaseStep t p n) s = .next (s.after t (stoFault e))))) ∧
  (∀ (s : Machine.State) (t : Time) (p n : Bool) (since : Time), let m := s.core.at_ t
    let e := m.modSto (fun x => { x with fbp := p, fbn := n })
    m.lanesAct = true → m.safety.sto.hs = true → m.safety.sto.ls = true →
    ((p = true ∧ n = false) ∨ m.now < since + 1000000000 → exec (.stoFeedbackDeviation t p n since) s = .next (s.after t e)) ∧
    (p = false ∨ n = true → since + 1000000000 ≤ m.now →
      exec (.stoFeedbackDeviation t p n since) s = .next (s.after t (stoFault e)))) ∧
  (∀ (s : Machine.State) (t : Time), let m := s.core.at_ t
    m.safety.sto.hs = false → m.safety.sto.ls = false →
    (m.running = true → ∀ n, exec (.stoFeedDischarged t n) s = .next (s.after t
      (m.modSto (fun x => { x with discharged := true, openedAt := none, fbp := false, fbn := n })))) ∧
    (m.lanesAct = true →
      (∀ o, m.safety.sto.openedAt = some o → o + ms (m.n Key.stoDischargeTime) ≤ m.ns →
        exec (.stoDischargeTimeout t) s = .next (s.after t (stoFault m))) ∧
      (∀ o, m.safety.sto.openedAt = some o → m.ns < o + ms (m.n Key.stoDischargeTime) →
        exec (.stoDischargeTimeout t) s = .next (s.after t m)) ∧
      (m.safety.sto.openedAt = none → exec (.stoDischargeTimeout t) s = .next (s.after t m)))) ∧
  (∀ (s : Machine.State) (t : Time), let m := s.core.at_ t
    m.safety.sto.hs = true ∨ m.safety.sto.ls = true →
    (∀ n, exec (.stoFeedDischarged t n) s = .next (s.after t m)) ∧ exec (.stoDischargeTimeout t) s = .next (s.after t m)) ∧
  (∀ (m : Mach), (stoFault m).safety.sto.hs = false ∧ (stoFault m).safety.sto.ls = false ∧ (stoFault m).safety.sto.fault = true)

/-- SS1 ends: a winch with a brake applies it at standstill, once that has lasted for StandstillTime, and holds its torque for ApplyTime,
then pulses go; a thruster ends at standstill at once; Ss1.Time ends it in any case (R277 to R280). The checks of a brake (R283): the
release within ReleaseTime, the hold for 20 ms, the overcurrent that opens both switches, the apply within ApplyTime; a failed one is a
brake release fault or a brake apply fault. -/
def Obligations.Ss1AndBrakeChecks : Prop :=
  (∀ (s : Machine.State) (t : Time) (d : Fin 2) (r : Ss1Run), let m := s.core.at_ t
    let still := ∃ since, m.drives[d].slowSince = some since ∧ since + ms (m.n (Key.ss1StandstillTime d.1)) ≤ m.ns
    m.lanesAct = true → m.drives[d].ss1 = some r →
    (¬ still → exec (.ss1Standstill t d) s = .next (s.after t m)) ∧
    (still → r.braking = false → m.n (Key.application d.1) = 1 → m.brakesOf d ≠ [] →
      let wait := ((m.brakesOf d).map (fun k => m.n (Key.brakeApplyTime k.1))).foldl max 0
      exec (.ss1Standstill t d) s = .next (s.after t ((m.each (m.brakesOf d) brakeApply).modDrive d
        (fun x => { x with ss1 := some { r with braking := true, brakeEnd := some (m.ns + ms wait) } })))) ∧
    (r.braking = true → exec (.ss1Standstill t d) s = .next (s.after t m)) ∧
    (still → r.braking = false → (m.n (Key.application d.1) ≠ 1 ∨ m.brakesOf d = []) → exec (.ss1Standstill t d) s = .next (s.after t (ss1End d m))) ∧
    (∀ end_, r.braking = true → r.brakeEnd = some end_ → end_ ≤ m.ns →
      exec (.brakeApplyTimeEnd t d) s = .next (s.after t (ss1End d m))) ∧
    (∀ end_, r.brakeEnd = some end_ → m.ns < end_ → exec (.brakeApplyTimeEnd t d) s = .next (s.after t m)) ∧
    (m.drives[d].st = .stopping → r.start + ms (m.n (Key.ss1Time d.1)) ≤ m.ns →
      exec (.ss1TimeElapsed t d) s = .next (s.after t (ss1End d m))) ∧
    (m.ns < r.start + ms (m.n (Key.ss1Time d.1)) → exec (.ss1TimeElapsed t d) s = .next (s.after t m))) ∧
  ((∀ (s : Machine.State) (t : Time) (k : Fin 2) (raw : F32) (p n : Bool) (end_ : Nat), let m := s.core.at_ t
    let i := coilRead raw
    let lim := m.r (Key.brakeHoldCurrentMin k.1)
    let e := (m.putR (Key.brakeCoilCurrent k.1) i).modBrake k (fun b => { b with checkEnd := none, fbp := p, fbn := n })
    m.lanesAct = true → m.safety.brakes[k].hs = true → m.safety.brakes[k].ls = true → m.safety.brakes[k].released = false →
    m.safety.brakes[k].checkEnd = some end_ → e.r (Key.brakeHoldCurrentMin k.1) = lim →
    (m.ns < end_ → exec (.brakeReleaseCheck t k raw p n) s = .next (s.after t m)) ∧
    (end_ ≤ m.ns → fge i lim = true → p = true → n = false → exec (.brakeReleaseCheck t k raw p n) s = .next (s.after t
      (e.modBrake k (fun b => { b with
        released := true, verified := true, lsNext := false, testBase := m.ns,
        nextTest := some (m.ns + 1000000000 * e.n (Key.brakeTestPeriod k.1)) })))) ∧
    (end_ ≤ m.ns → (fge i lim = false ∨ p = false ∨ n = true) → exec (.brakeReleaseCheck t k raw p n) s = .next (s.after t
      (brakeReleaseFault k i lim e)))) ∧
  (∀ (s : Machine.State) (t : Time) (k : Fin 2) (raw : F32) (since : Time), let m := s.core.at_ t
    let i := coilRead raw
    let long := since + 20000000000 ≤ m.now
    let lo := m.r (Key.brakeHoldCurrentMin k.1)
    let hi := m.r (Key.brakeCurrentMax k.1)
    let e := m.putR (Key.brakeCoilCurrent k.1) i
    m.lanesAct = true →
    (long → m.safety.brakes[k].released = true → flt i lo = true → exec (.brakeHoldFault t k raw since) s = .next (s.after t (brakeReleaseFault k i lo e))) ∧
    (long → m.safety.brakes[k].released = true → flt i lo = false → fgt i hi = true →
      exec (.brakeHoldFault t k raw since) s = .next (s.after t (brakeReleaseFault k i hi e))) ∧
    ((flt i lo = false ∧ fgt i hi = false) ∨ ¬ long → exec (.brakeHoldFault t k raw since) s = .next (s.after t m)) ∧
    (m.safety.brakes[k].hs = true ∨ m.safety.brakes[k].ls = true → fgt i hi = true →
      exec (.brakeOvercurrent t k raw) s = .next (s.after t (brakeReleaseFault k i hi e))) ∧
    (fgt i hi = false → exec (.brakeOvercurrent t k raw) s = .next (s.after t m))) ∧
  (∀ (s : Machine.State) (t : Time) (k : Fin 2) (raw : F32) (p : Bool) (end_ : Nat), let m := s.core.at_ t
    let i := coilRead raw
    let e := (m.putR (Key.brakeCoilCurrent k.1) i).modBrake k (fun b => { b with checkEnd := none, fbp := p })
    let lim := e.r (Key.brakeApplyCurrent k.1)
    m.lanesAct = true → m.safety.brakes[k].hs = false → m.safety.brakes[k].ls = false → m.safety.brakes[k].checkEnd = some end_ →
    (m.ns < end_ → exec (.brakeApplyCheck t k raw p) s = .next (s.after t m)) ∧
    (end_ ≤ m.ns → fle i lim = true → p = false → exec (.brakeApplyCheck t k raw p) s = .next (s.after t
      (e.modBrake k (fun b => { b with verified := true })))) ∧
    (end_ ≤ m.ns → fle i lim = false ∨ p = true → exec (.brakeApplyCheck t k raw p) s = .next (s.after t
      (raiseV 0x4A none (e.driveOfBrake k) k.1 i lim (e.modBrake k (fun b => { b with applyFault := true })))))))

/-- The switch test of a released brake (R284): each switch opens alone for TestPulse, the low-side one 1 s after the high-side one; a
feedback that does not follow is a brake switch fault and applies the brake. The safe brake test (R285 to R288): Sbt.Run is refused with
its result or starts the test; its torque phases last 200, 2,000, 400, 2,000 and 200 ms; the test falls due after Interval, kept over a
restart, and overdue an hour later. -/
def Obligations.BrakeTests : Prop :=
  (∀ (s : Machine.State) (t : Time) (k : Fin 2) (p n : Bool) (end_ : Nat), let m := s.core.at_ t
    let b := m.safety.brakes[k]
    let pulse := some (m.ns + us (m.n (Key.brakeTestPulse k.1)))
    let e := m.modBrake k (fun b => { b with fbp := p, fbn := n })
    m.lanesAct = true →
    (b.released = true → b.test = .idle → b.nextTest = some end_ →
      (m.ns < end_ → exec (.brakeSwitchTest t k) s = .next (s.after t m)) ∧
      (end_ ≤ m.ns → b.lsNext = false → exec (.brakeSwitchTest t k) s = .next (s.after t
        (m.modBrake k (fun b => { b with test := .hs, hs := false, pulseEnd := pulse, testBase := m.ns })))) ∧
      (end_ ≤ m.ns → b.lsNext = true → exec (.brakeSwitchTest t k) s = .next (s.after t
        (m.modBrake k (fun b => { b with test := .ls, ls := false, pulseEnd := pulse }))))) ∧
    (b.pulseEnd = some end_ → m.ns < end_ → exec (.brakeTestPulseEnd t k p n) s = .next (s.after t m)) ∧
    (b.pulseEnd = some end_ → end_ ≤ m.ns → b.test = .hs → p = false → exec (.brakeTestPulseEnd t k p n) s = .next (s.after t
      (e.modBrake k (fun b => { b with
        hs := true, ls := true, test := .idle, pulseEnd := none, lsNext := true, nextTest := some (b.testBase + 1000000000) })))) ∧
    (b.pulseEnd = some end_ → end_ ≤ m.ns → b.test = .ls → n = true → exec (.brakeTestPulseEnd t k p n) s = .next (s.after t
      (e.modBrake k (fun b => { b with
        hs := true, ls := true, test := .idle, pulseEnd := none, lsNext := false,
        nextTest := some (b.testBase + 1000000000 * e.n (Key.brakeTestPeriod k.1)) })))) ∧
    (b.pulseEnd = some end_ → end_ ≤ m.ns → (b.test = .hs ∧ p = true) ∨ (b.test = .ls ∧ n = false) →
      let f := brakeApply k (e.modBrake k (fun b => { b with switchFault := true }))
      exec (.brakeTestPulseEnd t k p n) s = .next (s.after t (raise 0x4B none (f.driveOfBrake k) k.1 f)))) ∧
  ((∀ (s : Machine.State) (t : Time) (rq : Req) (c : Conn) (k d : Fin 2), let m := s.core.at_ t
    let n := touch rq m
    m.accepts rq c (Key.sbtRun k.1) [1] (.num 1) →
    (∀ res, n.sbtRefusal k = some res → exec (.sbtRun t rq k) s = .next (s.after t (reply 3 rq 0 [] (n.putDevice (Key.sbtResult k.1) (.num res))))) ∧
    (n.sbtRefusal k = none → n.driveOfBrake k = some d → n.sbtBlocked d = true →
      exec (.sbtRun t rq k) s = .next (s.after t (reply 3 rq 0 [] (n.putDevice (Key.sbtResult k.1) (.num 3))))) ∧
    (n.sbtRefusal k = none → n.driveOfBrake k = some d → n.sbtBlocked d = false →
      let e := n.modSafety (fun s => { s with sbt := vmod s.sbt k (fun _ => some { phase := 0, torque := n.sbtTorque k, start := n.ns }) })
      exec (.sbtRun t rq k) s = .next (s.after t (reply 3 rq 0 []
        (e.each (e.setsOf d) (fun s m => m.modGate s (fun g => { g with duskWant := some 2 }))))))) ∧
  (∀ (s : Machine.State) (t : Time) (k : Fin 2) (r : SbtRun) (len : Nat), let m := s.core.at_ t
    m.lanesAct = true → m.safety.sbt[k] = some r →
    (r.phase, len) ∈ [(2, 200), (3, 2000), (4, 400), (5, 2000), (6, 200)] →
    (m.ns < r.start + 1000000 * len → exec (.sbtPhaseEnd t k) s = .next (s.after t m)) ∧
    (r.start + 1000000 * len ≤ m.ns → r.phase ≠ 6 → exec (.sbtPhaseEnd t k) s = .next (s.after t
      (m.modSafety (fun s => { s with sbt := vmod s.sbt k (fun _ => some { r with phase := r.phase + 1, start := m.ns }) })))) ∧
    (r.start + 1000000 * len ≤ m.ns → r.phase = 6 → exec (.sbtPhaseEnd t k) s = .next (s.after t (sbtPass k m)))) ∧
  (∀ (s : Machine.State) (t : Time) (k : Fin 2), let m := s.core.at_ t
    m.lanesAct = true → m.sbtConfigured k = true →
    (m.b (Key.sbtAuto k.1) = true → 3600 * m.n (Key.sbtInterval k.1) ≤ m.sincePass k →
      exec (.sbtDue t k) s = .next (s.after t { m with nv := { m.nv with sbtDue := vmod m.nv.sbtDue k (fun _ => true) } })) ∧
    (m.sincePass k < 3600 * m.n (Key.sbtInterval k.1) → exec (.sbtDue t k) s = .next (s.after t m)) ∧
    (m.safety.brakes[k].overdue = false → 3600 * (m.n (Key.sbtInterval k.1) + 1) ≤ m.sincePass k →
      exec (.brakeTestOverdue t k) s = .next (s.after t (raise 0x4D none (m.driveOfBrake k) k.1
        (m.modBrake k (fun b => { b with overdue := true })))))))

/-- Sbt.Run is refused with the result of R285 in each of its cases, and runs into none of them otherwise. -/
def Obligations.BrakeTestRefusals : Prop :=
  ∀ (s : Machine.State) (t : Time) (rq : Req) (c : Conn) (k d : Fin 2), let m := s.core.at_ t
    let n := touch rq m
    let refused := fun (code : Nat) => exec (.sbtRun t rq k) s =
      .next (s.after t (reply 3 rq 0 [] (n.putDevice (Key.sbtResult k.1) (.num code))))
    m.accepts rq c (Key.sbtRun k.1) [1] (.num 1) → n.driveOfBrake k = some d → n.driveConfigured d = true →
    (n.drives[d].st ≠ .off → refused 0x05) ∧
    (n.drives[d].st = .off → (n.setsOf d).any n.encValid = false → refused 0x04) ∧
    (n.drives[d].st = .off → (n.setsOf d).any n.encValid = true →
      let most := fsum ((n.setsOf d).map n.torqueAtLimit)
      let test := fmul (n.r (Key.sbtFactor k.1)) (n.r (Key.sbtHoldTorque k.1))
      (fgt test most = true → refused 0x06) ∧
      (fgt test most = false → n.safety.brakes[k].verified = false ∨ n.safety.brakes[k].hs = true ∨ n.safety.brakes[k].ls = true → refused 0x07) ∧
      (fgt test most = false → n.safety.brakes[k].verified = true → n.safety.brakes[k].hs = false → n.safety.brakes[k].ls = false →
        n.sbtBlocked d = false → exec (.sbtRun t rq k) s = .next (s.after t (reply 3 rq 0 [] (sbtStart k n)))))

/-- The reset button (R290): a press of 100 ms to 5 s resets at the debounced open state, no other one does; a longer press is "reset held",
once. The seal (R295, R296): a matching value confirms and is stored, another raises "seal mismatch"; the expiry takes effect at the
next boundary; the switches of R299 only raise an event. -/
def Obligations.ResetAndSeal : Prop :=
  (∀ (s : Machine.State) (t : Time), let m := s.core.at_ t
    let b := m.safety.button
    let open_ := m.modSafety (fun s => { s with button := { closed := false, since := m.ns, held := false, blocked := false } })
    m.running = true →
    (b.closed = false → exec (.rstbtnDebounced t true) s = .next (s.after t (m.modSafety (fun s => { s with
      button := { s.button with closed := true, since := m.ns, held := false } })))) ∧
    (b.closed = true → b.blocked = false → b.held = false → b.since + 100000000 ≤ m.ns → m.ns ≤ b.since + 5000000000 →
      exec (.rstbtnDebounced t false) s = .next (s.after t (deliberateReset open_))) ∧
    (b.closed = false ∨ b.blocked = true ∨ b.held = true ∨ m.ns < b.since + 100000000 ∨ b.since + 5000000000 < m.ns →
      exec (.rstbtnDebounced t false) s = .next (s.after t open_)) ∧
    (m.lanesAct = true → b.closed = true → b.held = false → b.blocked = false → (∀ c : Fin 4, m.safety.isf[c].pressed = none) →
      (b.since + 5000000000 < m.ns →
        let e := raiseM 0x4E 0 (m.modSafety (fun s => { s with button := { s.button with held := true } }))
        (∀ c : Fin 4, e.safety.isf[c].pressed = none) → exec (.resetHeld t) s = .next (s.after t e)) ∧
      (m.ns ≤ b.since + 5000000000 → exec (.resetHeld t) s = .next (s.after t m)))) ∧
  (∀ (s : Machine.State) (t : Time) (rq : Req) (c : Conn) (v : BitVec 32), let m := s.core.at_ t
    let n := touch rq m
    m.accepts rq c Key.safetySealConfirm (beBytes 4 v.toNat) (.num v.toNat) → n.sealOpen = true →
    (v.toNat ≠ n.seal → exec (.sealConfirm t rq v) s = .next (s.after t (reply 3 rq 0 [] (raiseM 0x50 0xFF n)))) ∧
    (v.toNat = n.seal →
      let e := ((n.putN Key.safetyState 2).modSafety (fun s => { s with sealEnd := none }))
      let e := e.putDevice Key.safetyConfirmedSeal (.num e.seal)
      let cred := match n.conn? (ownerOf rq) with | some c => c.credId | none => []
      let e := writeArea .commissioning (e.comRecord cred rq.src) .nobody e
      exec (.sealConfirm t rq v) s = .next (s.after t (reply 3 rq 0 [] (storeBank (bank4 (e.n Key.bankActive)) e))))) ∧
  (∀ (s : Machine.State) (t : Time) (end_ : Nat), let m := s.core.at_ t
    m.lanesAct = true →
    (m.n Key.safetyState = 1 → m.safety.sealEnd = some end_ → end_ ≤ m.ns → exec (.sealConfirmationExpired t) s = .next (s.after t
      (m.modSafety (fun s => { s with sealOver := true })))) ∧
    (m.safety.sealEnd = some end_ → m.ns < end_ → exec (.sealConfirmationExpired t) s = .next (s.after t m)) ∧
    exec (.fallbackSwitchesChanged t) s = .next (s.after t (raiseM 0x54 0xFF m)))

/-- The Ifeo Safe Frame (R301 to R304): a consumer counts a frame with a bad check value and counts it no further; a good frame with a wrong
identity fails the connection; the third consecutive accepted frame makes its data live; the expired time expectation fails it; a
producer sends its next frame once per cycle, its sequence from 65535 back to 1. The grove stop (R305 to R307): a line low for 20 us
acts once on every drive, under Restart 1 until a reset; released lines end it; lines that disagree for 100 ms and a step of the line
test that some member does not follow are a grove stop line fault; a step lasts 1 ms, and the last good one passes the test. -/
def Obligations.SafeFramesAndGroveStop : Prop :=
  ((∀ (s : Machine.State) (t : Time) (c : Fin 4) (f : List Byte), let m := s.core.at_ t
    let l := imgNat f 6 1
    m.running = true → m.n (Key.isfRole c.1) = 1 →
    (f.length < 12 ∨ f.length ≠ 12 + l ∨ crcIsf (f.take (8 + l)) ≠ BitVec.ofNat 32 (imgNat f (8 + l) 4) →
      exec (.isfFrame t c f) s = .next (s.after t ((isfDiscard c m).inc (Key.isfErrorCount c.1)))) ∧
    (12 ≤ f.length → f.length = 12 + l → crcIsf (f.take (8 + l)) = BitVec.ofNat 32 (imgNat f (8 + l) 4) →
      (imgNat f 0 4 ≠ m.n (Key.isfConnId c.1) → m.clr.safeState = false →
        exec (.isfFrame t c f) s = .next (s.after t (isfFailSafe c 0x56 m))) ∧
      (imgNat f 0 4 = m.n (Key.isfConnId c.1) → l ≠ m.n (Key.isfDataLength c.1) →
        exec (.isfFrame t c f) s = .next (s.after t ((isfDiscard c m).inc (Key.isfErrorCount c.1)))) ∧
      (imgNat f 0 4 = m.n (Key.isfConnId c.1) → l = m.n (Key.isfDataLength c.1) →
        (∀ last, m.safety.isf[c].lastSeq = some last →
          (imgNat f 4 2 + 65535 - last.toNat) % 65535 = 0 ∨
            m.n (Key.isfSeqWindow c.1) < (imgNat f 4 2 + 65535 - last.toNat) % 65535 →
          exec (.isfFrame t c f) s = .next (s.after t (isfDiscard c m))) ∧
        (m.safety.isf[c].lastSeq = none → imgNat f 4 2 ≠ 0 → m.clr.safeState = false → m.safety.isf[c].accepted < 2 →
          let a := m.modIsf c (fun x => { x with
            lastSeq := some (BitVec.ofNat 16 (imgNat f 4 2)), accepted := min 3 (x.accepted + 1),
            failSafe := x.failSafe && min 3 (x.accepted + 1) < 3, data := (f.drop 8).take l,
            deadline := some (m.ns + ms (m.n (Key.isfTimeExpectation c.1))) })
          let e := vsiOf c a
          a.lanesAct = true →
          exec (.isfFrame t c f) s = .next (s.after t (isfResetBit c (bit (imgNat f 7 1) 0) e)))))) ∧
  (∀ (s : Machine.State) (t : Time) (c : Fin 4) (end_ : Nat), let m := s.core.at_ t
    m.lanesAct = true → m.n (Key.isfRole c.1) = 1 → m.safety.isf[c].deadline = some end_ →
    (end_ ≤ m.ns → exec (.isfTimeout t c) s = .next (s.after t (isfFailSafe c 0x55 m))) ∧
    (m.ns < end_ → exec (.isfTimeout t c) s = .next (s.after t m))) ∧
  (∀ (s : Machine.State) (t : Time) (c : Fin 4) (end_ : Nat), let m := s.core.at_ t
    let l := m.n (Key.isfDataLength c.1)
    let body := beBytes 4 (m.n (Key.isfConnId c.1)) ++ beBytes 2 m.safety.isf[c].txSeq.toNat ++ beBytes 1 l ++ [0] ++ m.isfData l
    let e := (m.modIsf c (fun x => { x with
      txSeq := if x.txSeq = 0xFFFF then 1 else x.txSeq + 1, nextTx := some (m.ns + ms (m.n (Key.isfCycle c.1))) }))
    m.lanesAct = true → m.n (Key.isfRole c.1) = 2 →
    (m.safety.isf[c].nextTx = some end_ → m.ns < end_ → exec (.isfProducerCycle t c) s = .next (s.after t m)) ∧
    ((m.safety.isf[c].nextTx = none ∨ (m.safety.isf[c].nextTx = some end_ ∧ end_ ≤ m.ns)) → e.n (Key.isfPath c.1) = 0 → (valBytes (e.val (Key.isfPeer c.1))).all (· == 0) = true →
      exec (.isfProducerCycle t c) s = .next (s.after t (sendPdu anyUnit 0x08 (body ++ beBytes 4 (crcIsf body).toNat) e))))) ∧
  ((∀ (s : Machine.State) (t : Time) (a b : Bool) (since : Time), let m := s.core.at_ t
    let n := linesRead a b m
    let lock := n.b Key.groveStopRestart
    (m.running = true → m.now < since + 20000000 → exec (.groveStopDemand t a b since) s = .next (s.after t n)) ∧
    (since + 20000000 ≤ m.now → m.lanesAct = true → n.lanesAct = true → n.safety.lineTest = none → n.safety.gstopActed = false →
    (a = true ∨ b = true →
      let e := raiseM 0x57 0xFF (n.modSafety (fun s => { s with gstopActed := true, gstopWait := s.gstopWait || lock }))
      (e.n Key.groveStopAction = 0 → exec (.groveStopDemand t a b since) s = .next (s.after t (demandSto 3 lock e))) ∧
      (e.n Key.groveStopAction ≠ 0 → exec (.groveStopDemand t a b since) s = .next (s.after t (demandSs1 3 lock e)))) ∧
    (a = false → b = false → exec (.groveStopDemand t a b since) s = .next (s.after t n))) ∧
    (m.running = true → n.lanesAct = false ∨ n.safety.lineTest.isSome = true ∨ n.safety.gstopActed = true →
      exec (.groveStopDemand t a b since) s = .next (s.after t n))) ∧
  (∀ (s : Machine.State) (t : Time) (line : Fin 2) (from_ : Nat), let m := s.core.at_ t
    m.lanesAct = true →
    exec (.groveStopLinesReleased t) s = .next (s.after t (causesGone (fun a => a.ev == 0x57 || a.ev == 0x58)
      ((linesRead false false m).modSafety (fun s => { s with gstopActed := false })))) ∧
    (m.safety.gstopSince = some from_ → m.safety.lineTest = none →
      (from_ + 100000000 ≤ m.ns → exec (.groveStopLineFault t line) s = .next (s.after t
        (raiseM 0x58 line.1 (m.modSafety (fun s => { s with lineFault := true }))))) ∧
      (m.ns < from_ + 100000000 → exec (.groveStopLineFault t line) s = .next (s.after t m)))) ∧
  (∀ (s : Machine.State) (t : Time) (reads : List (Bool × Bool)), let m := s.core.at_ t
    let k := m.safety.lineTest.getD 0
    let follows := m.memberCount ≤ reads.length ∧ ∀ r ∈ reads, r = (decide (k % 2 = 0), decide (k % 2 = 1))
    m.lanesAct = true → m.inGrove = true →
    (m.safety.lineTest.isSome = true → m.ns < m.safety.lineAt + 1000000 → exec (.groveStopLineTestStep t reads) s = .next (s.after t m)) ∧
    (m.safety.lineTest = none ∨ m.safety.lineAt + 1000000 ≤ m.ns →
      (¬ follows → exec (.groveStopLineTestStep t reads) s = .next (s.after t (raiseM 0x58 (k % 2)
        (m.modSafety (fun s => { s with lineAt := m.ns, lineTest := none, linePassed := false, lineFault := true }))))) ∧
      (follows → k + 1 < 2 * m.memberCount → exec (.groveStopLineTestStep t reads) s = .next (s.after t
        (m.modSafety (fun s => { s with lineAt := m.ns, lineTest := some (k + 1), linePassed := false })))) ∧
      (follows → 2 * m.memberCount ≤ k + 1 → exec (.groveStopLineTestStep t reads) s = .next (s.after t
        (causesGone (fun a => a.ev == 0x58)
          (m.modSafety (fun s => { s with lineAt := m.ns, lineTest := none, linePassed := true, lineFault := false }))))))))

/-- Canopy ports (R312, R313, R320): a lane that loses symbol lock, a port both of whose lanes have been without it for 2 us, a port that
comes up after 1 ms of idle in the ring's order or out of it, a self-check every 10 us; every change is broadcast as LINK_STATE. A
LINK_STATE of another member is kept. Link delays (R325): every 10 ms requests go out on every port that is up, a request is answered at
once (how a VC 1 message lays its times out is the model's free function, log entry 28), an answer gives ((t4 − t1) − (t3 − t2)) / 2. -/
def Obligations.CanopyPortsAndDelays : Prop :=
  ((∀ (s : Machine.State) (t : Time) (p lane : Fin 2), let m := s.core.at_ t
    m.running = true →
    (m.canopy[p].lanes[lane] = true → exec (.canopyLaneDown t p lane) s = .next (s.after t
      (linkStateSend (raiseM 0x59 p.1 (m.modPort p (fun x => { x with lanes := vmod x.lanes lane (fun _ => false) })))))) ∧
    (m.canopy[p].lanes[lane] = false → exec (.canopyLaneDown t p lane) s = .next (s.after t m)) ∧
    (∀ since, let u := m.modPort p (fun x => { x with lanes := Vector.replicate 2 false })
      since + 2000000 ≤ m.now →
      (m.canopy[p].up = true → u.canopy[p].up = true → exec (.canopyPortDown t p since) s = .next (s.after t (portDown p u))) ∧
      (m.canopy[p].up = false → (m.canopy[p].lanes[0] || m.canopy[p].lanes[1]) = false → exec (.canopyPortDown t p since) s = .next (s.after t m)) ∧
      (m.canopy[p].up = false → u.canopy[p].up = false → (m.canopy[p].lanes[0] || m.canopy[p].lanes[1]) = true →
        exec (.canopyPortDown t p since) s = .next (s.after t (linkStateSend u)))) ∧
    (∀ since, m.now < since + 2000000 → exec (.canopyPortDown t p since) s = .next (s.after t m))) ∧
  (∀ (s : Machine.State) (t : Time) (p : Fin 2) (n : Fin 8) (idle : Time), let m := s.core.at_ t
    m.running = true → m.inGrove = true → m.canopy[p].up = false → m.canopy[p].selfOk = true → m.n Key.supplyStatus / 64 % 4 = 0 →
    (m.now < idle + 1000000000 → exec (.canopyPortUp t p n idle) s = .next (s.after t m)) ∧
    (idle + 1000000000 ≤ m.now → m.ringRight p n = false → exec (.canopyPortUp t p n idle) s = .next (s.after t
      (linkStateSend (m.modPort p (fun x => { x with neighbour := some n, orderFault := true }))))) ∧
    (idle + 1000000000 ≤ m.now → m.ringRight p n = true → exec (.canopyPortUp t p n idle) s = .next (s.after t
      (linkStateSend (causesGone (fun a => (a.ev == 0x59 || a.ev == 0x5A) && a.inst == p.1)
        ((m.modPort p (fun x => {
          lanes := Vector.replicate 2 true, up := true, selfOk := x.selfOk, neighbour := some n,
          lastSent := m.now, ackAt := m.now, checkedAt := x.checkedAt })).modGrove (fun g => { g with firstUp := some (g.firstUp.getD m.ns) }))))))) ∧
  (∀ (s : Machine.State) (t : Time) (p : Fin 2) (ok : Bool), let m := s.core.at_ t
    let c := m.modPort p (fun x => { x with checkedAt := some m.now })
    let e := c.modPort p (fun x => { x with selfOk := ok })
    m.running = true →
    (∀ last, m.canopy[p].checkedAt = some last → m.now < last + 10000000 → exec (.portSelfCheck t p ok) s = .next (s.after t m)) ∧
    ((∀ last, m.canopy[p].checkedAt = some last → last + 10000000 ≤ m.now) →
      (c.canopy[p].selfOk = ok → exec (.portSelfCheck t p ok) s = .next (s.after t c)) ∧
      (c.canopy[p].selfOk = true → ok = false → e.canopy[p].up = true → exec (.portSelfCheck t p ok) s = .next (s.after t (portDown p e))) ∧
      (c.canopy[p].selfOk = true → ok = false → e.canopy[p].up = false → exec (.portSelfCheck t p ok) s = .next (s.after t (linkStateSend e))) ∧
      (c.canopy[p].selfOk = false → ok = true → exec (.portSelfCheck t p ok) s = .next (s.after t (linkStateSend e))))) ∧
  (∀ (s : Machine.State) (t : Time) (p : Fin 8) (e w : BitVec 8), let m := s.core.at_ t
    let n := m.modMember p (fun x => { x with links := (e.toNat, w.toNat), heard := m.ns })
    m.running = true → p ≠ m.me →
    (n.lanesAct = true → exec (.linkState t p e w) s = .next (s.after t (suspensions n))) ∧
    (n.lanesAct = false → exec (.linkState t p e w) s = .next (s.after t n)))) ∧
  (∀ (s : Machine.State) (t : Time) (p : Fin 2) (t1 t2 t3 : Nat), let m := s.core.at_ t
    m.running = true →
    (∀ last, m.grove.delayAt = some last → m.ns < last + 10000000 → exec (.linkDelayTimer t) s = .next (s.after t m)) ∧
    ((∀ last, m.grove.delayAt = some last → last + 10000000 ≤ m.ns) → exec (.linkDelayTimer t) s = .next (s.after t
      ((m.modGrove (fun g => { g with delayAt := some m.ns })).each (two.filter (fun p => m.canopy[p].up))
        (fun p n => timeSend p 1 (n.nextTo p) 0 (Config.delayRequest n.ns) (n.modPort p (fun x => { x with asked := some n.ns })))))) ∧
    exec (.delayRequest t p t1) s = .next (s.after t (timeSend p 2 (m.nextTo p) 0 (Config.delayResponse m.ns m.ns) m)) ∧
    (m.canopy[p].asked = some t1 → exec (.delayResponse t p t1 t2 t3) s = .next (s.after t
      ((m.modPort p (fun x => { x with asked := none })).putN (if p = 0 then Key.canopyEastLinkDelay else Key.canopyWestLinkDelay)
        ((((m.ns : Int) - t1) - ((t3 : Int) - t2)) / 2).toNat))) ∧
    (m.canopy[p].asked ≠ some t1 → exec (.delayResponse t p t1 t2 t3) s = .next (s.after t m)))

/-- Packets (R315, R316, R318, R319, R321): a received header frees replay buffers and credits, is accepted in sequence only, and asks for a
replay over a gap; a NAK replays; a bad CRC is counted and asked for again; 1 µs without sending sends an empty packet, 2 µs without
acknowledgement replays. -/
def Obligations.CanopyPackets : Prop :=
  (∀ (m : Mach) (p : Fin 2) (h : PacketHeader),
    let a := m.modPort p (fun x => (x.ackTo h.ack m.now).creditTo h.crVc h.credits)
    let e := drainPort p (if h.nak then replayPort p a else a)
    let d := (h.sq - e.canopy[p].rxSeq).toNat
    (d = 1 → receiveHeader p h m = (e.modPort p (fun x => { x with
      rxSeq := h.sq, discard := false, freed := vmod x.freed h.vc (fun f => f + creditsOf h.len) }), true)) ∧
    (d = 0 ∨ 2048 ≤ d → receiveHeader p h m = (e, false)) ∧
    (1 < d → d < 2048 → receiveHeader p h m = (nakSend p e, false))) ∧
  (∀ (s : Machine.State) (t : Time) (p : Fin 2) (h : PacketHeader) (b : List Byte), let m := s.core.at_ t
    let r := receiveHeader p h m
    m.running = true → m.canopy[p].up = true →
    exec (.emptyPacket t p h) s = .next (s.after t r.1) ∧
    (∀ crc, crc = linkCrc h b →
      let n := if votedOk h b ∧ reservedType h.vc h.ty.toNat then r.1.inc Key.canopyCrcErrorCount else r.1
      let o := if votedOk h b then imageTake h b n else n
      (r.2 = false → exec (.forwardedPacket t p h b crc) s = .next (s.after t r.1)) ∧
      (r.2 = true → h.dest.toNat = m.me.1 → exec (.forwardedPacket t p h b crc) s = .next (s.after t o)) ∧
      (r.2 = true → h.dest.toNat ≠ m.me.1 → h.dest = 0xF → exec (.forwardedPacket t p h b crc) s = .next (s.after t
        (forwardOn p h b true o))) ∧
      (r.2 = true → h.dest.toNat ≠ m.me.1 → h.dest ≠ 0xF → exec (.forwardedPacket t p h b crc) s = .next (s.after t
        (forwardOn p h b true r.1)))) ∧
    (∀ crc, crc ≠ linkCrc h b →
      (h.dest.toNat = m.me.1 → exec (.forwardedPacket t p h b crc) s = .next (s.after t (nakSend p (m.inc Key.canopyCrcErrorCount)))) ∧
      (h.dest.toNat ≠ m.me.1 → exec (.forwardedPacket t p h b crc) s = .next (s.after t
        (nakSend p ((forwardOn p h b false m).inc Key.canopyCrcErrorCount)))))) ∧
  (∀ (s : Machine.State) (t : Time) (p : Fin 2) (a : BitVec 12), let m := s.core.at_ t
    m.running = true → m.canopy[p].up = true →
    exec (.linkNak t p (.nak a)) s = .next (s.after t (replayPort p (m.modPort p (fun x => x.ackTo a m.now)))) ∧
    exec (.linkNak t p .badCrc) s = .next (s.after t (nakSend p (m.inc Key.canopyCrcErrorCount))) ∧
    exec (.linkNak t p .gap) s = .next (s.after t (nakSend p m)) ∧
    (m.canopy[p].lastSent + 1000000 ≤ m.now → exec (.emptyPacketTimer t p) s = .next (s.after t (emptySend p m))) ∧
    (m.now < m.canopy[p].lastSent + 1000000 → exec (.emptyPacketTimer t p) s = .next (s.after t m)) ∧
    (m.canopy[p].ackAt + 2000000 ≤ m.now → exec (.replayTimeout t p) s = .next (s.after t (replayPort p m))) ∧
    (m.now < m.canopy[p].ackAt + 2000000 → exec (.replayTimeout t p) s = .next (s.after t m)))

/-- Formation (R322, R323): HELLOs are kept and sent every 1 ms, FormTime decides over who leads, a JOIN_REQ is refused with the first code
that applies or admits the sender, a refusal is retried after 1 s. -/
def Obligations.GroveFormation : Prop :=
  (∀ (s : Machine.State) (t : Time) (p : Fin 8) (h : Hello), let m := s.core.at_ t
    let n := hear p (m.modMember p (fun x => { x with hello := some h }))
    m.lanesAct = true → m.inGrove = true → p ≠ m.me →
    (n.leads = false → exec (.hello t p h) s = .next (s.after t (formNow false n))) ∧
    (n.leads = true → n.helloCode h ≠ 0 → exec (.hello t p h) s = .next (s.after t (joinAnswerSend p (n.helloCode h) n))) ∧
    (n.leads = true → n.helloCode h = 0 → exec (.hello t p h) s = .next (s.after t n))) ∧
  (∀ (s : Machine.State) (t : Time) (last up_ retry : Nat), let m := s.core.at_ t
    m.lanesAct = true → m.inGrove = true →
    (m.n Key.groveState = 1 → m.grove.helloAt = some last → last + 1000000 ≤ m.ns → exec (.helloTimer t) s = .next (s.after t
      (canopySend none 0 1 m.helloBody (m.modGrove (fun g => { g with helloAt := some m.ns }))))) ∧
    (m.grove.helloAt = some last → m.ns < last + 1000000 → exec (.helloTimer t) s = .next (s.after t m)) ∧
    (m.grove.firstUp = some up_ → up_ + ms (m.n Key.groveFormTime) ≤ m.ns → exec (.formTimeExpiry t) s = .next (s.after t (formNow true m))) ∧
    (m.grove.firstUp = some up_ → m.ns < up_ + ms (m.n Key.groveFormTime) → exec (.formTimeExpiry t) s = .next (s.after t m)) ∧
    (m.n Key.groveState = 4 → m.grove.retryAt = some retry → retry ≤ m.ns →
      let e := m.modGrove (fun g => { g with retryAt := some (m.ns + 1000000000) })
      (∀ p, e.leaderPos = some p → exec (.joinRetry t) s = .next (s.after t (canopySend (some p) 0 2 e.helloBody e))) ∧
      (e.leaderPos = none → exec (.joinRetry t) s = .next (s.after t (canopySend none 0 1 e.helloBody e)))) ∧
    (m.grove.retryAt = some retry → m.ns < retry → exec (.joinRetry t) s = .next (s.after t m))) ∧
  (∀ (s : Machine.State) (t : Time) (p : Fin 8) (h : Hello), let m := s.core.at_ t
    let n := hear p m
    m.lanesAct = true → m.leads = true →
    (m.joinCode p h ≠ 0 → exec (.joinReq t p h) s = .next (s.after t (joinAnswerSend p (m.joinCode p h) n))) ∧
    (m.joinCode p h = 0 →
      let e := n.modMember p (fun x => { x with
        hello := some h, joined := true, missed := 0, suspended := false, status := none, report := none, booked := 0 })
      exec (.joinReq t p h) s = .next (s.after t (causesGone (fun a => a.ev == 0x5C && a.inst == p.1) (lineTestStart
        (joinSend p (joinAnswerSend p 0 (e.putN Key.groveMemberMap (setBit (e.n Key.groveMemberMap) p.1 true))))))))) ∧
  (∀ (s : Machine.State) (t : Time) (code map : BitVec 8) (period n tN : Nat) (bank : List (Nat × List Byte)), let m := s.core.at_ t
    m.lanesAct = true → m.inGrove = true → m.n Key.groveState = 1 ∨ m.n Key.groveState = 4 →
    (code ≠ 0 → exec (.joinAnswer t code map period n tN bank) s = .next (s.after t
      (raiseM 0x5B code.toNat (((m.modGrove (fun g => { g with holding := 0, retryAt := some (m.ns + 1000000000) })).putN
        Key.groveState 4).putN Key.groveJoinRefuseCode code.toNat)))) ∧
    (code = 0 →
      let e := (groveBankTake bank m).putBoth Key.groveBoundaryPeriod (.num period)
      let e := (((e.putN Key.groveState 2).putN Key.groveJoinRefuseCode 0).putN Key.groveMemberMap map.toNat).putN Key.groveBoundaryNumber n
      let e := e.putI 64 Key.groveBoundaryOffset ((n : Int) - e.doms[domIx .grove].count)
      let e := e.modGrove (fun g => { g with
        tN := tN, heardN := n, holding := 0, lastSeq := 0, release := none, relDone := (0, 0), lapsed := true, aligned := 0, syncAt := none,
        wideAt := none, stepDue := true, claimAt := none, retryAt := none, share := none })
      exec (.joinAnswer t code map period n tN bank) s = .next (s.after t
        (groveTimeValid false (phaseCarriers (lineTestStart (causesGone (fun a => a.ev == 0x5B) e)))))))

/-- Grove boundaries (R67, R327, R331, R335): the device counts its own, in safe state as well, a member answers with its AUDIT_REPORT; the
leader's BOUNDARY is taken over with its map and renews the lease of a device it lists; one from another leader makes a leader of higher
position give up. SYNC measures the offset: the first after a join steps the device's time, its carriers following, while both sets'
pulses are removed, the others set the validity, and a second offset beyond 50 ns at the next boundary is an event (R54, R55, R325).
STATUS is kept and reallocates when the weight has changed (R328, R332), a late SHARE is applied at once, counted and raised (R340). -/
def Obligations.GroveBoundaries : Prop :=
  (∀ (s : Machine.State) (t : Time), let m := s.core.at_ t
    let b := boundaryOf .grove ((m.modGrove (fun g => { g with tN := g.tN + m.bp })).add Key.groveBoundaryNumber 1)
    let e := sleepBoundary (missedSwaps b)
    m.running = true →
    (m.ns < m.grove.tN + m.bp → exec (.groveBoundary t) s = .next (s.after t m)) ∧
    (m.grove.tN + m.bp ≤ m.ns → b.lanesAct = false → exec (.groveBoundary t) s = .next (s.after t b)) ∧
    (m.grove.tN + m.bp ≤ m.ns → b.lanesAct = true → e.inGrove = false → exec (.groveBoundary t) s = .next (s.after t e)) ∧
    (m.grove.tN + m.bp ≤ m.ns → b.lanesAct = true → e.inGrove = true → e.n Key.groveState = 3 →
      exec (.groveBoundary t) s = .next (s.after t (leaderBoundary e))) ∧
    (m.grove.tN + m.bp ≤ m.ns → b.lanesAct = true → e.inGrove = true → e.n Key.groveState = 5 →
      exec (.groveBoundary t) s = .next (s.after t (if e.mayLead then leaderBoundary (e.putN Key.groveState 3) else e))) ∧
    (m.grove.tN + m.bp ≤ m.ns → b.lanesAct = true → e.inGrove = true → e.n Key.groveState = 2 → exec (.groveBoundary t) s = .next (s.after t
      (toLeader 2 6 (beBytes 8 (e.n Key.groveBoundaryNumber) ++ beBytes 2 e.grove.holding ++ [0, 0] ++ beBytes 4 e.grove.lastSeq) e)))) ∧
  (∀ (s : Machine.State) (t : Time) (p : Fin 8) (n tN : Nat) (map mode : BitVec 8), let m := s.core.at_ t
    let h := hear p m
    m.lanesAct = true → m.inGrove = true → p ≠ m.me →
    (h.n Key.groveState = 1 → exec (.boundary t p n tN map mode) s = .next (s.after t
      (let e := h.putN Key.groveLeaderPosition p.1; canopySend (some p) 0 2 h.helloBody e))) ∧
    (h.n Key.groveState = 2 → h.leaderPos = some p →
      let e := h.modGrove (fun g => { g with heardN := n, listed := tN, flights := [], members := vmap g.members (fun _ x => { x with claim := none }) })
      let e := (e.putN Key.groveMemberMap map.toNat).putN Key.groveTokenMode mode.toNat
      (bit map.toNat e.me.1 = true → exec (.boundary t p n tN map mode) s = .next (s.after t (renewLease tN e))) ∧
      (bit map.toNat e.me.1 = false → exec (.boundary t p n tN map mode) s = .next (s.after t (rejoin p e)))) ∧
    (h.n Key.groveState = 2 → h.leaderPos = none → exec (.boundary t p n tN map mode) s = .next (s.after t (rejoin p h))) ∧
    (∀ l, h.n Key.groveState = 2 → h.leaderPos = some l → l ≠ p →
      exec (.boundary t p n tN map mode) s = .next (s.after t (if p < l then rejoin p h else h))) ∧
    (h.n Key.groveState = 4 → exec (.boundary t p n tN map mode) s = .next (s.after t (h.putN Key.groveLeaderPosition p.1))) ∧
    (h.n Key.groveState = 3 ∨ h.n Key.groveState = 5 →
      (p < h.me → exec (.boundary t p n tN map mode) s = .next (s.after t (rejoin p h))) ∧
      (h.me ≤ p → exec (.boundary t p n tN map mode) s = .next (s.after t h)))) ∧
  (∀ (s : Machine.State) (t : Time) (p : Fin 8) (port : Fin 2) (tN corr : Nat), let m := s.core.at_ t
    let delay := m.n (if port = 0 then Key.canopyEastLinkDelay else Key.canopyWestLinkDelay)
    let off : Int := (tN : Int) + corr + delay - m.ns
    let d := m.putI 32 Key.timebaseGroveDeviation (deviation off)
    let e := d.modGrove (fun g => { g with
      syncAt := some tN, wideAt := if 50 < off.natAbs then some tN else none
      aligned := if 4 ≤ g.aligned then g.aligned else if off.natAbs ≤ 20 then g.aligned + 1 else 0 })
    let v := groveTimeValid (decide (4 ≤ e.grove.aligned)) e
    let f := d.modGrove (fun g => { g with syncAt := some tN, stepDue := false, aligned := 0, wideAt := none })
    m.running = true → m.fromLeader p = true →
    (m.grove.syncAt = some tN → exec (.sync t p port tN corr) s = .next (s.after t m)) ∧
    (m.grove.syncAt ≠ some tN → d.grove.stepDue = true → f.gate[0].pulses = false → f.gate[1].pulses = false →
      exec (.sync t p port tN corr) s = .next (s.after t (phaseCarriers (stepTime off f)))) ∧
    (m.grove.syncAt ≠ some tN → d.grove.stepDue = true → f.gate[0].pulses = true ∨ f.gate[1].pulses = true →
      exec (.sync t p port tN corr) s = .next (s.after t f)) ∧
    (m.grove.syncAt ≠ some tN → d.grove.stepDue = false → off.natAbs ≤ 50 → exec (.sync t p port tN corr) s = .next (s.after t
      (causesGone (fun a => a.ev == 0x05 && a.inst == 2) v))) ∧
    (m.grove.syncAt ≠ some tN → d.grove.stepDue = false → 50 < off.natAbs → d.grove.wideAt ≠ some (tN - d.bp) →
      exec (.sync t p port tN corr) s = .next (s.after t v)) ∧
    (m.grove.syncAt ≠ some tN → d.grove.stepDue = false → 50 < off.natAbs → d.grove.wideAt = some (tN - d.bp) →
      exec (.sync t p port tN corr) s = .next (s.after t (raiseM 0x05 2 v)))) ∧
  (∀ (s : Machine.State) (t : Time) (p : Fin 8) (st : StatusMsg), let m := s.core.at_ t
    let e := (hear p m).modMember p (fun x => { x with status := some st, missed := 0, suspended := false })
    m.lanesAct = true → m.leads = true → m.grove.members[p].joined = true →
    (e.memberWeight p = (hear p m).memberWeight p → exec (.status t p st) s = .next (s.after t e)) ∧
    (e.memberWeight p ≠ (hear p m).memberWeight p → exec (.status t p st) s = .next (s.after t (allocate e)))) ∧
  (∀ (s : Machine.State) (t : Time) (p : Fin 8) (at_ : Nat) (total : F32) (refs : List F32), let m := s.core.at_ t
    let e := ((hear p m).putR Key.shareGroveTorqueRef total).modGrove (fun g => { g with share := some (at_, refs) })
    m.lanesAct = true → m.fromLeader p = true →
    (m.ns ≤ at_ → exec (.share t p at_ total refs) s = .next (s.after t e)) ∧
    (m.ns > at_ → exec (.share t p at_ total refs) s = .next (s.after t
      (raiseM 0x61 0xFF ((shareTake (shareApply e)).inc Key.shareLateShareCount)))))

/-- Losses and the hand-over (R329 to R331): the leader drops a member it neither reaches nor has heard for a period; a member whose leader
is late by half a period claims; claims are kept, and after 20 µs the lowest claimant with the right to lead takes over; a TAKEOVER is
followed by a member it lists, and makes a leader of higher position give up. -/
def Obligations.LossesAndHandOver : Prop :=
  (∀ (s : Machine.State) (t : Time) (p : Fin 8), let m := s.core.at_ t
    m.lanesAct = true → m.leads = true → p ≠ m.me → m.grove.members[p].joined = true →
    (bit m.reachable p.1 = false ∨ m.grove.members[p].heard + m.bp ≤ m.ns → exec (.memberLost t p) s = .next (s.after t
      (allocate (raiseM 0x5C p.1 (dropMember p m))))) ∧
    (bit m.reachable p.1 = true → m.ns < m.grove.members[p].heard + m.bp → exec (.memberLost t p) s = .next (s.after t m))) ∧
  (∀ (s : Machine.State) (t : Time) (l : Fin 8), let m := s.core.at_ t
    m.lanesAct = true → m.follows = true → m.grove.claimAt = none → m.leaderPos = some l →
    (bit m.reachable l.1 = false ∨ (m.grove.heardN < m.n Key.groveBoundaryNumber ∧ m.grove.tN + m.bp / 2 ≤ m.ns) →
      let e := canopySend none 0 6 m.claimBody m
      exec (.leaderLost t) s = .next (s.after t (preparesLapse (e.modGrove (fun g => { g with claimAt := some (e.ns + 20000) }))))) ∧
    (bit m.reachable l.1 = true → m.n Key.groveBoundaryNumber ≤ m.grove.heardN → exec (.leaderLost t) s = .next (s.after t m))) ∧
  (∀ (s : Machine.State) (t : Time) (p : Fin 8) (ok : Bool) (reach : BitVec 8) (holding sq amt : Nat), let m := s.core.at_ t
    let h := hear p m
    m.lanesAct = true → m.inGrove = true → p ≠ m.me →
    (h.follows = false → exec (.claim t p ok reach holding sq amt) s = .next (s.after t h)) ∧
    (h.follows = true → exec (.claim t p ok reach holding sq amt) s = .next (s.after t
      (let e := h.modMember p (fun x => { x with
        claim := some (rightToLead (h.n Key.groveSize) reach.toNat ok), booked := holding + amt })
       preparesLapse (e.modGrove (fun g => { g with
        flights := g.flights.filter (fun f => f.pos != p) ++
          (if amt = 0 then [] else [{ sq := sq, amount := amt, pos := p, grant := false, sentAt := e.ns }]) })))))) ∧
  (∀ (s : Machine.State) (t : Time) (end_ : Nat), let m := s.core.at_ t
    let e := m.modGrove (fun g => { g with claimAt := none })
    m.lanesAct = true → m.follows = true → m.grove.claimAt = some end_ →
    (m.ns < end_ → exec (.claimWindowEnd t) s = .next (s.after t m)) ∧
    (end_ ≤ m.ns → e.mayLead = true → (∀ p ∈ positions, e.me ≤ p ∨ e.grove.members[p].claim ≠ some true) →
      exec (.claimWindowEnd t) s = .next (s.after t (takeOver e))) ∧
    (end_ ≤ m.ns → e.mayLead = false ∨ (∃ p : Fin 8, p < e.me ∧ e.grove.members[p].claim = some true) → exec (.claimWindowEnd t) s = .next (s.after t e))) ∧
  (∀ (s : Machine.State) (t : Time) (p : Fin 8) (n tN next : Nat) (map mode : BitVec 8), let m := s.core.at_ t
    let h := hear p m
    m.lanesAct = true → m.inGrove = true → p ≠ m.me →
    (h.n Key.groveState = 1 → exec (.takeover t p n tN map mode next) s = .next (s.after t
      (canopySend (some p) 0 2 h.helloBody (h.putN Key.groveLeaderPosition p.1)))) ∧
    (h.n Key.groveState = 3 ∨ h.n Key.groveState = 5 →
      exec (.takeover t p n tN map mode next) s = .next (s.after t (if p < h.me then rejoin p h else h))) ∧
    (h.n Key.groveState = 2 →
    let e := preparesLapse ((h.putN Key.groveLeaderPosition p.1).inc Key.groveHandOverCount)
    let e := raiseM 0x5D p.1 ((e.putN Key.groveMemberMap map.toNat).putN Key.groveTokenMode mode.toNat)
    let e := e.modGrove (fun g => { g with
      heardN := n, listed := tN, claimAt := none, flights := [], nextSeq := next, members := vmap g.members (fun _ x => { x with claim := none }) })
    (bit map.toNat e.me.1 = true → exec (.takeover t p n tN map mode next) s = .next (s.after t (renewLease tN e))) ∧
    (bit map.toNat e.me.1 = false → exec (.takeover t p n tN map mode next) s = .next (s.after t (rejoin p e)))))

/-- Token transfers (R333): a grant is credited once and acknowledged always; the leader books it at the acknowledgement; a release request
reduces the holding once and is answered again when repeated; a release is credited once and acknowledged; 100 µs without an
acknowledgement repeats the message. The audit and the leases (R335, R337, R338, R344): reports are taken while their boundary is
audited, the deadline is half a period after it; a lease that has run out stops the use of the holding and ends the exact mode; a stand
whose other grove has been silent for its lease and 10 ms apportions its budget again without that grove (R344); tokens of a lost member
return when their lease has; a stand's lease that has run out leaves a total of 0; Tokens.Total written where the budget is held takes
effect at once, and goes on to the leader at a member (R332, R366). -/
def Obligations.TokensAndLeases : Prop :=
  ((∀ (s : Machine.State) (t : Time) (p : Fin 8) (q k : Nat), let m := s.core.at_ t
    let h := hear p m
    m.lanesAct = true → m.fromLeader p = true →
    (h.grove.lastSeq < q → exec (.grant t p q k) s = .next (s.after t (canopySend (some p) 2 2 (beBytes 4 q)
      ((h.modGrove (fun g => { g with holding := g.holding + k, lastSeq := q })).putN Key.tokensLastTransferSeq q)))) ∧
    (q ≤ h.grove.lastSeq → exec (.grant t p q k) s = .next (s.after t (canopySend (some p) 2 2 (beBytes 4 q) h))) ∧
    (h.grove.release = none → h.grove.relDone.1 < q → exec (.releaseReq t p q k) s = .next (s.after t (ownRelease q k h))) ∧
    (h.grove.release = none → q = h.grove.relDone.1 → exec (.releaseReq t p q k) s = .next (s.after t
      (canopySend (some p) 2 4 (transferBody q h.grove.relDone.2) h))) ∧
    (h.grove.release = none → q < h.grove.relDone.1 → exec (.releaseReq t p q k) s = .next (s.after t h)) ∧
    (∀ r, h.grove.release = some r → r.sq = q → r.asked = false →
      exec (.releaseReq t p q k) s = .next (s.after t (canopySend (some p) 2 4 (transferBody r.sq r.amount) h)) ∧
      exec (.releaseAck t p q) s = .next (s.after t (h.modGrove (fun g => { g with release := none, relDone := (q, r.amount) }))))) ∧
  (∀ (s : Machine.State) (t : Time) (p : Fin 8) (q k : Nat), let m := s.core.at_ t
    let h := hear p m
    m.lanesAct = true → m.leads = true →
    (∀ f, h.grove.flights.find? (fun f => f.grant && f.pos == p && f.sq == q) = some f →
      exec (.grantAck t p q) s = .next (s.after t (allocate ((h.modGrove (fun g => { g with
        flights := g.flights.filter (fun x => x != f) })).modMember p (fun x => { x with booked := x.booked + f.amount }))))) ∧
    (h.grove.flights.find? (fun f => f.grant && f.pos == p && f.sq == q) = none → exec (.grantAck t p q) s = .next (s.after t h)) ∧
    exec (.release t p q k) s = .next (s.after t (allocate (canopySend (some p) 2 5 (beBytes 4 q) (creditRelease p q k h)))) ∧
    (∀ f, m.grove.flights.find? (fun f => (f.sq == q && decide (f.sentAt + 100000 ≤ m.ns)) && f.pos != m.me) = some f →
      exec (.transferResend t q) s = .next (s.after t (canopySend (some f.pos) 2 (if f.grant then 1 else 3) (transferBody f.sq f.amount)
        ((m.inc Key.tokensRetransmitCount).modGrove (fun g => { g with
          flights := g.flights.map (fun x => if x.sq = q then { x with sentAt := m.ns } else x) })))))) ∧
  (∀ (s : Machine.State) (t : Time) (q : Nat) (r : Transfer), let m := s.core.at_ t
    m.lanesAct = true → m.leads = false → m.grove.release = some r →
    (r.asked = false → r.sq = q → r.sentAt + 100000 ≤ m.ns → exec (.transferResend t q) s = .next (s.after t
      (toLeader 2 4 (transferBody r.sq r.amount) ((m.inc Key.tokensRetransmitCount).modGrove (fun g => { g with
        release := some { r with sentAt := m.ns } }))))) ∧
    (r.asked = true ∨ r.sq ≠ q ∨ m.ns < r.sentAt + 100000 → exec (.transferResend t q) s = .next (s.after t m))) ∧
  (∀ (m : Mach) (p : Fin 8) (q k : Nat),
    (q ≤ m.grove.members[p].lastRel → creditRelease p q k m = m) ∧
    (m.grove.members[p].lastRel < q →
      (creditRelease p q k m).grove.pool = m.grove.pool + (k - min m.grove.recalled k) ∧
      (creditRelease p q k m).grove.recalled = m.grove.recalled - min m.grove.recalled k ∧
      (creditRelease p q k m).grove.members[p].booked = m.grove.members[p].booked - k))) ∧
  ((∀ (s : Machine.State) (t : Time) (p : Fin 8) (n holding last : Nat), let m := s.core.at_ t
    let h := hear p m
    m.lanesAct = true → m.leads = true →
    (h.grove.auditing = true → n = h.n Key.groveBoundaryNumber → h.grove.members[p].joined = true →
      exec (.auditReport t p n holding last) s = .next (s.after t (h.modMember p (fun x => { x with report := some (holding, last) })))) ∧
    (h.grove.auditing = false ∨ n ≠ h.n Key.groveBoundaryNumber → exec (.auditReport t p n holding last) s = .next (s.after t h))) ∧
  (∀ (s : Machine.State) (t : Time) (pool total expiring recalled : Nat), let m := s.core.at_ t
    let book := fun (p : Fin 8) => m.auditOf p
    let joined := fun (p : Fin 8) => p == m.me || m.grove.members[p].joined
    let rep := fun (p : Fin 8) => (m.grove.members[p].report).getD (0, 0)
    let flight := (positions.map (fun p => (book p).2)).sum
    let record := beBytes 8 (m.n Key.groveBoundaryNumber) ++ beBytes 2 total ++ beBytes 2 pool ++ beBytes 2 flight ++ beBytes 2 expiring ++
      beBytes 1 (m.n Key.groveTokenMode) ++ beBytes 1 0 ++ beBytes 2 recalled ++
      positions.flatMap (fun p => beBytes 2 (if joined p then (book p).1 else 0xFFFF) ++ beBytes 2 (rep p).1 ++ beBytes 4 (rep p).2)
    m.lanesAct = true → m.leads = true → m.grove.auditing = true → m.grove.snap = (pool, total, expiring, recalled) →
    (m.ns < m.grove.tN + m.bp / 2 → exec (.auditDeadline t) s = .next (s.after t m)) ∧
    (m.grove.tN + m.bp / 2 ≤ m.ns →
      total + recalled = pool + (positions.map (fun p => (book p).1)).sum + flight + expiring →
      (∀ p ∈ positions, joined p = true → (rep p).1 = (book p).1) →
      exec (.auditDeadline t) s = .next (s.after t
        ((m.put Key.tokensAuditRecord (.bytes record)).modGrove (fun g => { g with auditing := false, auditOk := true }))))) ∧
  (∀ (s : Machine.State) (t : Time) (p : Fin 8), let m := s.core.at_ t
    m.lanesAct = true →
    (m.inGrove = true → m.grove.lapsed = false → m.grove.lease ≤ m.ns → exec (.leaseExpiry t) s = .next (s.after t
      (raiseM 0x5E 0xFF (setMode 1 (m.modGrove (fun g => { g with lapsed := true })))))) ∧
    (m.ns < m.grove.lease → exec (.leaseExpiry t) s = .next (s.after t m)) ∧
    (m.leads = true → m.grove.members[p].expiring ≠ 0 → m.grove.members[p].expireAt ≤ m.ns →
      exec (.expiringTokensReturn t p) s = .next (s.after t (allocate ((m.modMember p (fun x => { x with expiring := 0 })).modGrove
        (fun g => { g with pool := g.pool + m.grove.members[p].expiring }))))) ∧
    (m.ns < m.grove.members[p].expireAt → exec (.expiringTokensReturn t p) s = .next (s.after t m)) ∧
    (m.standRole = 1 → m.grove.renewed.getD 0 + ms (m.n Key.unitStandLeaseTime) ≤ m.ns →
      exec (.standLeaseExpiry t) s = .next (s.after t (raiseM 0x62 0xFF (setTotal 0
        (m.each (m.sess.opened.filter (fun s => s.ty == 7)) (fun s m => abortTell 0x0E s m)))))) ∧
    (m.standRole ≠ 1 ∨ m.ns < m.grove.renewed.getD 0 + ms (m.n Key.unitStandLeaseTime) →
      exec (.standLeaseExpiry t) s = .next (s.after t m))) ∧
  (∀ (s : Machine.State) (t : Time) (g : BitVec 8) (heard : Nat), let m := s.core.at_ t
    m.lanesAct = true → 2 ≤ m.standRole → g.toNat ≠ m.n Key.unitGroveNumber →
    (m.ns < heard + ms (m.n Key.unitStandLeaseTime + 10) → exec (.standSilentGroveReassign t g heard) s = .next (s.after t m)) ∧
    (heard + ms (m.n Key.unitStandLeaseTime + 10) ≤ m.ns → exec (.standSilentGroveReassign t g heard) s = .next (s.after t
      (apportion (m.modGrove (fun x => { x with
        seen := x.seen.filter (fun y => !(y.stand == m.n Key.unitStandNumber && y.grove == g.toNat)), given := erase g.toNat x.given })))))) ∧
  (∀ (s : Machine.State) (t : Time) (rq : Req) (c : Conn) (total : Nat), let m := s.core.at_ t
    let n := touch rq m
    m.accepts rq c Key.tokensTotal (beBytes 2 total) (.num total) →
    (n.inGrove = false ∨ n.leads = true →
      exec (.tokensTotalWrite t rq total) s = .next (s.after t (reply 3 rq 0 [] (setTotal total n)))) ∧
    (n.inGrove = true → n.leads = false → n.leaderPos = none →
      exec (.tokensTotalWrite t rq total) s = .next (s.after t (reply 3 rq 0x0009 [] n))) ∧
    (∀ p, n.inGrove = true → n.leads = false → n.leaderPos = some p → exec (.tokensTotalWrite t rq total) s = .next (s.after t
      (forward rq c.role p (n.requestPdu 3 rq p (writeBody Key.tokensTotal (beBytes 2 total))) n)))))

/-- Reads and writes (R361, R365, R395): a served one is answered from the unit it names, a handle that is not bound to its source gets
0x000C, a repeated identifier the last answer again, a fifth outstanding one 0x000A, an address that cannot be reached 0x0009, one of
another member sends the PDU on with the role it was checked for (R366; log entry 41); the shaft group's budget has an effect of its own
(R345); a write that fails a check of R395 is answered with that check's status and changes nothing else; ENTRY_WRITE is a plain write. -/
def Obligations.ReadsAndWrites : Prop :=
  (∀ (s : Machine.State) (t : Time) (rq : Req) (unit : BitVec 48) (ix : BitVec 16) (sub : BitVec 8) (sh : Bool) (c : Conn),
    let m := s.core.at_ t
    let n := touch rq m
    let k := ix.toNat * 256 + sub.toNat
    m.serves rq c →
    (∀ u, n.place unit = .here u → exec (.read t rq unit ix sub sh) s = .next (s.after t
      (reply 2 rq (n.readUnit u k sh c.role).1 (n.readUnit u k sh c.role).2 n))) ∧
    (n.place unit = .nowhere → exec (.read t rq unit ix sub sh) s = .next (s.after t (reply 2 rq 0x0009 [] n))) ∧
    (∀ p, n.place unit = .member p → exec (.read t rq unit ix sub sh) s = .next (s.after t
      (forward rq c.role p (unitPdu 2 rq unit (beBytes 2 (k / 256) ++ beBytes 1 (k % 256) ++ beBytes 1 (b2n sh))) n)))) ∧
  (∀ (s : Machine.State) (t : Time) (rq : Req) (unit : BitVec 48) (ix : BitVec 16) (sub : BitVec 8) (b : List Byte), let m := s.core.at_ t
    m.lanesAct = true → m.takes rq.src = true →
    (m.connOf rq = none → exec (.write t rq unit ix sub b) s = .next (s.after t (m.emit (.reply 131 rq 0x000C [])))) ∧
    (∀ c st body, m.connOf rq = some c → c.answered = some (rq.rid, st, body) →
      exec (.write t rq unit ix sub b) s = .next (s.after t ((touch rq m).emit (.reply 131 rq st body)))) ∧
    (∀ c, m.connOf rq = some c → c.answered.map (fun a => a.1) ≠ some rq.rid → 4 ≤ m.outstanding rq.handle →
      exec (.write t rq unit ix sub b) s = .next (s.after t (reply 3 rq 0x000A [] (touch rq m))))) ∧
  (∀ (s : Machine.State) (t : Time) (rq : Req) (unit : BitVec 48) (ix : BitVec 16) (sub : BitVec 8) (b : List Byte) (c : Conn) (u : UnitId)
    (k : Nat), let m := s.core.at_ t
    let n := touch rq m
    m.serves rq c →
    (n.place unit = .nowhere → exec (.write t rq unit ix sub b) s = .next (s.after t (reply 3 rq 0x0009 [] n))) ∧
    (∀ p, n.place unit = .member p → exec (.write t rq unit ix sub b) s = .next (s.after t
      (forward rq c.role p (unitPdu 3 rq unit (writeBody (ix.toNat * 256 + sub.toNat) b)) n))) ∧
    (∀ st, n.place unit = .here u → n.unitTarget u (ix.toNat * 256 + sub.toNat) = .error st →
      exec (.write t rq unit ix sub b) s = .next (s.after t (reply 3 rq st [] n))) ∧
    (n.place unit = .here .shaft → n.unitTarget .shaft (ix.toNat * 256 + sub.toNat) = .ok Key.unitBudget →
      let r := shaftBudgetWrite Key.unitBudget b n
      exec (.write t rq unit ix sub b) s = .next (s.after t
        (if c.role < writeRole Key.unitBudget then reply 3 rq 0x0004 [] n else reply 3 rq r.2 [] r.1))) ∧
    (n.place unit = .here u → n.unitTarget u (ix.toNat * 256 + sub.toNat) = .ok k → (u ≠ .shaft ∨ k ≠ Key.unitBudget) →
    (∀ st, n.writeOf k b c.role = .error st → exec (.write t rq unit ix sub b) s = .next (s.after t (reply 3 rq st [] n))) ∧
    (∀ v e, n.writeOf k b c.role = .ok v → k ≠ Key.fwActivate → perform rq c.role k v n = (e, some 0) →
      exec (.write t rq unit ix sub b) s = .next (s.after t (reply 3 rq 0 [] e))))) ∧
  (∀ (s : Machine.State) (t : Time) (rq : Req) (ix : BitVec 16) (sub : BitVec 8) (b : List Byte) (c : Conn) (v : Val) (e : Mach),
    let k := ix.toNat * 256 + sub.toNat
    (s.core.at_ t).accepts rq c k b v → k / 256 ≠ 0x2840 → k ≠ Key.fwActivate →
    perform rq c.role k v (touch rq (s.core.at_ t)) = (e, some 0) →
    exec (.entryWrite t rq ix sub b) s = .next (s.after t (reply 3 rq 0 [] e)))

/-- The checks of a write come in the order of R395: the index, the sub-index, the access, the role, then the length, the range, the state,
the swap domain; a write that passes them all has its value. -/
def Obligations.WriteChecksInOrder : Prop :=
  ∀ (m : Mach) (k : Nat) (b : List Byte) (role : Nat),
    (rowsAt (k / 256) = none → m.writeOf k b role = .error 0x0001) ∧
    (rowsAt (k / 256) ≠ none → k % 256 ≠ 0 → rowOf k = none → m.writeOf k b role = .error 0x0002) ∧
    (∀ r, rowsAt (k / 256) ≠ none → k % 256 ≠ 0 → rowOf k = some r → (∀ n, r.ty ≠ .dom n) →
      (r.acc = .ro → m.writeOf k b role = .error 0x0003) ∧
      (r.acc = .rw → k ≠ Key.safetySealConfirm →
        (role < writeRole k → m.writeOf k b role = .error 0x0004) ∧
        (writeRole k ≤ role →
          (∀ c, parseVal r.ty b = .error c → m.writeOf k b role = .error c) ∧
          (∀ v, parseVal r.ty b = .ok v →
            (m.inRange k r v = false → m.writeOf k b role = .error 0x0005) ∧
            (m.inRange k r v = true → m.held k = true → m.writeOf k b role = .error 0x0008) ∧
            (m.inRange k r v = true → m.held k = false →
              (∀ d, m.domOf k = some d → m.commitHeld d = true → m.writeOf k b role = .error 0x0007) ∧
              (m.domOf k = none ∨ (∃ d, m.domOf k = some d ∧ m.commitHeld d = false) → m.writeOf k b role = .ok v))))))

/-- Connections and logins (R361 to R364): CONNECT answers with a free handle, a ninth gets 0x000A; a login's proof over its nonce within 10
s gives the role, another one fails; one of a blocked source gets 0x000D, LOGOUT gives the role back; a connection without a PDU for its
timeout closes, and one whose port has been down as long. Requests between members (R366): one that is not answered in time is answered
0x0010; the answer of the serving member goes to its requester. A malformed PDU is counted (R358), the address answers ARP and ICMP once
it is set (R357). -/
def Obligations.ConnectionsAndForwarding : Prop :=
  ((∀ (s : Machine.State) (t : Time) (rq : Req) (sub : BitVec 8) (name : List Byte), let m := s.core.at_ t
    m.lanesAct = true → m.takes rq.src = true → (∀ c ∈ m.net.conns, sameSource c.src rq.src = false) →
    (6 < sub.toNat ∨ name.length ≠ 16 → exec (.connect t rq sub name) s = .next (s.after t (m.emit (.reply 132 rq 0x000E [])))) ∧
    (sub.toNat ≤ 6 → name.length = 16 → 8 ≤ m.net.conns.length →
      exec (.connect t rq sub name) s = .next (s.after t (m.emit (.reply 132 rq 0x000A [])))) ∧
    (sub.toNat ≤ 6 → name.length = 16 → m.net.conns.length < 8 →
      let h := freeHandle m.net.conns 9 m.net.nextHandle
      exec (.connect t rq sub name) s = .next (s.after t (reply 4 { rq with handle := BitVec.ofNat 16 h } 0 []
        (m.modNet (fun n => { n with nextHandle := h % 0xFFFE + 1, conns := n.conns ++ [{
          handle := BitVec.ofNat 16 h, src := rq.src, role := m.baseRole, sub := sub.toNat, name := name, last := m.ns,
          limit := m.n Key.netConnectionTimeout }] })))))) ∧
  (∀ (s : Machine.State) (t : Time) (rq : Req) (c : Conn) (role : BitVec 8), let m := s.core.at_ t
    let n := touch rq m
    m.servesPdu rq c →
    (role.toNat < 1 ∨ 4 < role.toNat → exec (.loginStep1 t rq role) s = .next (s.after t (reply 5 rq 0x000E [] n))) ∧
    (1 ≤ role.toNat → role.toNat ≤ 4 → n.loginBlocked rq.src = true → exec (.loginStep1 t rq role) s = .next (s.after t (reply 5 rq 0x000D [] n))) ∧
    (1 ≤ role.toNat → role.toNat ≤ 4 → n.loginBlocked rq.src = false →
      let r := freeBytes 16 n
      exec (.loginStep1 t rq role) s = .next (s.after t (reply 5 rq 0 (beBytes 1 1 ++ beBytes 1 role.toNat ++ r.2)
        (r.1.modConn rq.handle (fun c => { c with nonce := some (r.2, n.ns, role.toNat) }))))) ∧
    exec (.logout t rq) s = .next (s.after t (reply 6 rq 0 [] (echoOrphan rq.handle
      (n.modConn rq.handle (fun c => { c with role := n.baseRole, credId := [] })))))) ∧
  (∀ (s : Machine.State) (t : Time) (rq : Req) (c : Conn) (proof nonce : List Byte) (at_ role : Nat), let m := s.core.at_ t
    let n := touch rq m
    let e := n.modConn rq.handle (fun c => { c with nonce := none })
    let cred := valBytes (e.val (Key.credential (role - 1)))
    m.servesPdu rq c →
    (n.loginBlocked rq.src = true → exec (.loginStep2 t rq proof) s = .next (s.after t (reply 5 rq 0x000D [] n))) ∧
    (n.loginBlocked rq.src = false → c.nonce = none → exec (.loginStep2 t rq proof) s = .next (s.after t (loginFailed rq 0 e))) ∧
    (n.loginBlocked rq.src = false → c.nonce = some (nonce, at_, role) →
      (proof ≠ hmacSha256 cred nonce ∨ at_ + 10000000000 < e.ns →
        exec (.loginStep2 t rq proof) s = .next (s.after t (loginFailed rq role e))) ∧
      (proof = hmacSha256 cred nonce → e.ns ≤ at_ + 10000000000 →
        let f := if role < 3 then echoOrphan rq.handle e else e
        exec (.loginStep2 t rq proof) s = .next (s.after t (reply 5 rq 0 []
          (f.modConn rq.handle (fun c => { c with role := role, credId := (sha256 cred).take 8 }))))))) ∧
  (∀ (s : Machine.State) (t : Time) (h : BitVec 16) (src : Source), let m := s.core.at_ t
    m.up ≠ none →
    exec (.loginBlockEnd t src) s = .next (s.after t
      (m.modNet (fun n => { n with blocks := n.blocks.filter (fun b => !(sameSource b.1 src && decide (b.2 ≤ m.ns))) }))) ∧
    (∀ c, m.conn? h = some c →
      let over_ := c.last + c.limit * 1000000000 ≤ m.ns
      let down := fun (p : Fin 2) => m.net.ports[p].up = false ∧ m.net.ports[p].downAt + c.limit * 1000000000 ≤ m.ns
      (over_ → exec (.connectionTimeout t h) s = .next (s.after t (closeConn h m))) ∧
      (¬ over_ → c.src = .usb → exec (.connectionTimeout t h) s = .next (s.after t m)) ∧
      (∀ p, (∃ mac, c.src = .eth p mac) ∨ (∃ ip q, c.src = .udp ip q p) → ¬ over_ →
        (down p → exec (.connectionTimeout t h) s = .next (s.after t (closeConn h m))) ∧
        (¬ down p → exec (.connectionTimeout t h) s = .next (s.after t m)))))) ∧
  ((∀ (s : Machine.State) (t : Time) (rq : Req) (end_ kind : Nat), let m := s.core.at_ t
    m.lanesAct = true →
    (m.net.forwarded = [(rq, end_, kind)] → end_ ≤ m.ns → exec (.forwardTimeout t rq) s = .next (s.after t
      (reply kind rq 0x0010 [] (m.modNet (fun n => { n with forwarded := [] }))))) ∧
    (m.net.forwarded = [(rq, end_, kind)] → m.ns < end_ → exec (.forwardTimeout t rq) s = .next (s.after t m)) ∧
    (∀ p (role : Fin 5) pdu, m.inGrove = true →
      exec (.forwardedRequest t p true role pdu) s = .next (s.after t (memberAnswer pdu (hear p m))) ∧
      exec (.forwardedRequest t p false role pdu) s = .next (s.after t (serveMember p role.1 pdu (hear p m))))) ∧
  (∀ (s : Machine.State) (t : Time) (pdu : List Byte), let m := s.core.at_ t
    m.running = true →
    (pduMalformed pdu = true → exec (.malformedPdu t pdu) s = .next (s.after t (m.inc Key.netMalformedCount))) ∧
    (pduMalformed pdu = false → exec (.malformedPdu t pdu) s = .next (s.after t m))) ∧
  (∀ (s : Machine.State) (t : Time) (ip asker : BitVec 32) (mac : BitVec 48) (data : List Byte), let m := s.core.at_ t
    let own := m.mac
    m.lanesAct = true →
    (m.n Key.netIpAddress = 0 → exec (.arpRequest t ip mac asker) s = .next (s.after t m) ∧
      exec (.icmpEcho t ip data) s = .next (s.after t m)) ∧
    (ip.toNat ≠ m.n Key.netIpAddress → exec (.arpRequest t ip mac asker) s = .next (s.after t m)) ∧
    (m.n Key.netIpAddress ≠ 0 → exec (.icmpEcho t ip data) s = .next (s.after t
      (m.emit (.content 4 0xFF (beBytes 4 ip.toNat ++ [0, 0] ++ data))))) ∧
    (m.n Key.netIpAddress ≠ 0 → ip.toNat = m.n Key.netIpAddress → exec (.arpRequest t ip mac asker) s = .next (s.after t
      (m.emit (.content 4 0xFF (beBytes 6 mac.toNat ++ own ++ [0x08, 0x06, 0x00, 0x01, 0x08, 0x00, 6, 4, 0, 2] ++ own ++
        beBytes 4 ip.toNat ++ beBytes 6 mac.toNat ++ beBytes 4 asker.toNat)))))))

/-- Ethernet and USB ports (R350 to R352, R386, R387): a port that goes down is counted, raised and opens the ring; a frame for another
device leaves by the other port, its own and local ones do not, a bad FCS is counted; the manager's test frame closes the ring, a client
tells the ring of its links; the USB port is enumerated and detached, counted and raised. gPTP and the transmit schedule (R353 to R356):
a sync keeps offset and rate and is relayed (on which port no command tells: a free value, log entry 42), the second one in a row from
one grandmaster synchronises, three sync intervals without one lose it; a better clock is followed from its announce, and without one
the device may be the grandmaster; the gates follow the schedule and frames whose gate has opened leave. -/
def Obligations.PortsAndNetworkTime : Prop :=
  ((∀ (s : Machine.State) (t : Time) (p : Fin 2) (speed : Fin 3), let m := s.core.at_ t
    m.running = true →
    (m.net.ports[p].up = true → exec (.ethernetPortDown t p) s = .next (s.after t
      (let e := m.modEth p (fun x => { x with up := false, downAt := m.ns, waiting := [] })
       linkTell p false (ringOpen (raiseM 0x63 (p.1 + 1) (e.inc (Key.portLinkDownCount p.1))))))) ∧
    (m.net.ports[p].up = false → exec (.ethernetPortDown t p) s = .next (s.after t m)) ∧
    ((∀ full, m.net.ports[p].up = true ∨ m.speedAllowed p speed = false → exec (.ethernetPortUp t p speed full) s = .next (s.after t m)) ∧
      exec (.ethernetPortUp t p speed false) s = .next (s.after t m)) ∧
    (m.net.ports[p].up = false → m.speedAllowed p speed = true → m.n Key.supplyStatus / 64 % 4 = 0 →
      let e := linkTell p true (raiseM 0x64 (p.1 + 1) ((m.modEth p (fun x => { x with up := true, speed := speed })).causeGone 0x63 none none (p.1 + 1)))
      (e.n Key.ringRole ≠ 1 ∨ e.net.ports[0].up = false ∨ e.net.ports[1].up = false → exec (.ethernetPortUp t p speed true) s = .next (s.after t e)) ∧
      (e.n Key.ringRole = 1 → e.net.ports[0].up = true → e.net.ports[1].up = true →
        exec (.ethernetPortUp t p speed true) s = .next (s.after t (ringClose e))))) ∧
  (∀ (s : Machine.State) (t : Time) (p : Fin 2) (f : List Byte), let m := s.core.at_ t
    let own := beNat (valBytes (m.val Key.netMacAddress))
    let dst := beNat (f.take 6)
    m.running = true → m.net.ports[p].up = true → m.net.ports[other p].up = true → m.net.ports[p].blocked = false →
    m.net.ports[other p].blocked = false →
    (fcsOk f = true →
      (dst ≠ own → dst / 16 ≠ 0x0180C200000 → exec (.frameForward t p f) s = .next (s.after t
        (frameOut (other p) (m.scheduled (framePrio f)) f m))) ∧
      (dst = own ∨ dst / 16 = 0x0180C200000 → exec (.frameForward t p f) s = .next (s.after t m))) ∧
    (fcsOk f = false →
      let e := m.inc (Key.portFcsErrorCount p.1)
      (m.net.ports[p].speed ≠ 2 ∨ m.net.ports[other p].speed ≠ 2 ∨ m.b Key.cutThroughEnable = false →
        exec (.frameForward t p f) s = .next (s.after t e)) ∧
      (m.net.ports[p].speed = 2 → m.net.ports[other p].speed = 2 → m.b Key.cutThroughEnable = true → dst ≠ own →
        dst / 16 ≠ 0x0180C200000 → exec (.frameForward t p f) s = .next (s.after t
          (frameOut (other p) (e.scheduled (framePrio f)) f e))))) ∧
  (∀ (s : Machine.State) (t : Time) (p : Fin 2), let m := s.core.at_ t
    m.running = true →
    (m.n Key.ringRole = 2 →
      exec (.mrpFrame t p (.test true)) s = .next (s.after t (ringClose (m.modNet (fun n => { n with mrpSeen := m.ns })))) ∧
      exec (.mrpFrame t p .linkDown) s = .next (s.after t (ringBreak m))) ∧
    (m.n Key.ringRole ≠ 2 → exec (.mrpFrame t p (.test true)) s = .next (s.after t m) ∧
      exec (.mrpFrame t p .linkDown) s = .next (s.after t m)) ∧
    exec (.mrpFrame t p (.test false)) s = .next (s.after t m) ∧
    exec (.mrpFrame t p .linkUp) s = .next (s.after t m) ∧
    (m.n Key.ringRole = 1 → m.net.ports[0].up = false ∨ m.net.ports[1].up = false →
      exec (.mrpFrame t p .topologyChange) s = .next (s.after t (ringOpen m))) ∧
    (m.n Key.ringRole ≠ 1 ∨ (m.net.ports[0].up = true ∧ m.net.ports[1].up = true) →
      exec (.mrpFrame t p .topologyChange) s = .next (s.after t m)) ∧
    (m.n Key.usbState = 0 → m.b Key.usbEnable = true → m.n Key.supplyStatus / 64 % 4 = 0 → exec (.usbAttach t) s = .next (s.after t
      (whenUp (raiseM 0x6D 1) ((m.putN Key.usbState 2).inc Key.usbAttachCount)))) ∧
    (m.n Key.usbState = 0 → exec (.usbDetach t) s = .next (s.after t m)) ∧
    (m.n Key.usbState ≠ 0 → (∀ c ∈ m.net.conns, c.src ≠ .usb) → exec (.usbDetach t) s = .next (s.after t
      (whenUp (raiseM 0x6D 0) (m.putN Key.usbState 0)))))) ∧
  ((∀ (s : Machine.State) (t : Time) (gm : BitVec 64) (time : Nat), let m := s.core.at_ t
    let n := if m.net.gptp.gm = gm then m else syncLost m
    let g := n.net.gptp
    let run := decide (g.syncs ≠ 0 ∧ n.ns < g.lastSync + 3 * n.syncInterval ∧ g.lastSync < n.ns)
    let e := n.modNet (fun x => { x with gptp := { x.gptp with
      gm := gm, rateNum := if run then time - g.lastTime else 1, rateDen := if run then n.ns - g.lastSync else 1, lastSync := n.ns,
      lastTime := time, syncs := if run then g.syncs + 1 else 1 } })
    let e := (e.putI 64 Key.gptpOffsetToTimebase ((time : Int) - n.ns)).put Key.gptpGrandmasterId (.bytes (beBytes 8 gm.toNat))
    let relay := fun (x : Mach) => gptpSend gm time (fin2 (x.freeNow.toNat % 2)) x.drew
    m.running = true → m.b Key.gptpEnable = true →
    (2 ≤ e.net.gptp.syncs → e.n Key.gptpState ≠ 2 → exec (.gptpSync t gm time) s = .next (s.after t (relay (syncGained 2 e)))) ∧
    (e.net.gptp.syncs < 2 ∨ e.n Key.gptpState = 2 → exec (.gptpSync t gm time) s = .next (s.after t (relay e)))) ∧
  (∀ (s : Machine.State) (t : Time) (gm : BitVec 64), let m := s.core.at_ t
    m.running = true →
    (m.b Key.gptpEnable = false → (∀ b, exec (.gptpAnnounce t gm b) s = .next (s.after t m)) ∧
      ∀ time, exec (.gptpSync t gm time) s = .next (s.after t m)) ∧
    (m.b Key.gptpEnable = true → gm ≠ m.net.gptp.gm → exec (.gptpAnnounce t gm true) s = .next (s.after t
      ((syncLost m).modNet (fun n => { n with gptp := { n.gptp with gm := gm, syncs := 0 } })))) ∧
    (m.b Key.gptpEnable = true → gm = m.net.gptp.gm → exec (.gptpAnnounce t gm true) s = .next (s.after t m)) ∧
    (m.b Key.gptpEnable = true → m.net.gptp.gm = 0 → m.n Key.gptpPriority1 < 255 →
      exec (.gptpAnnounce t gm false) s = .next (s.after t (syncGained 3 m))) ∧
    (m.b Key.gptpEnable = true → m.net.gptp.gm ≠ 0 ∨ 255 ≤ m.n Key.gptpPriority1 →
      exec (.gptpAnnounce t gm false) s = .next (s.after t m)) ∧
    (m.n Key.gptpState = 2 → m.net.gptp.lastSync + 3 * m.syncInterval ≤ m.ns → exec (.gptpSyncTimeout t) s = .next (s.after t (syncLost m))) ∧
    (m.ns < m.net.gptp.lastSync + 3 * m.syncInterval → exec (.gptpSyncTimeout t) s = .next (s.after t m))) ∧
  (∀ (s : Machine.State) (t : Time) (p : Fin 2), let m := s.core.at_ t
    let g := m.gatesNow p
    let goes := fun (w : Nat × Bool × List Byte) => if w.2.1 then g.1 else g.2
    m.running = true → exec (.gateControlChange t p) s = .next (s.after t
      ((m.modEth p (fun x => { x with gates := g, waiting := x.waiting.filter (fun w => !goes w) })).each (m.net.ports[p].waiting.filter goes)
        (fun w n => n.emit (.frame p w.2.2))))))

/-- Process data (R367 to R371): a later frame of the owner with the map's length replaces the one that waits, which is counted; the
boundary writes the received values and latches the transmitted ones; they leave at TxOffset; Pd.Timeout boundaries without a frame are
a timeout; Pd.Control takes and gives back the ownership. -/
def Obligations.ProcessData : Prop :=
  (∀ (s : Machine.State) (t : Time) (src : Source) (n last : BitVec 16) (b : List Byte) (c : Conn), let m := s.core.at_ t
    let len := ((m.pdMap Key.pdRxMapCount Key.pdRxMapEntry).map (fun e => tyWidth e.2)).sum
    m.lanesAct = true → m.net.conns.find? (fun c => c.handle.toNat == m.n Key.pdOwner && sameSource c.src src) = some c → m.net.pd.lastRx = some last →
    ((n - last).toNat = 0 ∨ 32767 < (n - last).toNat ∨ b.length ≠ len → exec (.processData t src n b) s = .next (s.after t m)) ∧
    (1 ≤ (n - last).toNat → (n - last).toNat ≤ 32767 → b.length = len →
      let e := touch { handle := c.handle, rid := 0, src := src } m
      let e := (if e.net.pd.frame.isSome then e.inc Key.pdRxOverwriteCount else e).modNet (fun x => { x with
        pd := { x.pd with lastRx := some n, frame := some b, missed := 0 } })
      exec (.processData t src n b) s = .next (s.after t ((e.putN Key.pdState 2).causeGone 0x69 none none 0xFF)))) ∧
  (∀ (s : Machine.State) (t : Time) (at_ : Nat), let m := s.core.at_ t
    let d := m.modNet (fun n => { n with pd := { n.pd with cycleAt := at_ } })
    let e := standCycle (standProgress (boundaryOf .network (pdApply d)))
    (m.running = true → m.networkDue = none → exec (.networkBoundary t) s = .next (s.after t m)) ∧
    (m.running = true → m.networkDue = some at_ → d.lanesAct = false →
      exec (.networkBoundary t) s = .next (s.after t (boundaryOf .network d))) ∧
    (m.running = true → m.networkDue = some at_ → d.lanesAct = true →
      exec (.networkBoundary t) s = .next (s.after t
      (let data := (e.pdMap Key.pdTxMapCount Key.pdTxMapEntry).flatMap
        (fun x => carryVal x.2 (if x.1 / 256 = 0x2840 then e.unitView .device (x.1 % 256) else e.view x.1))
       e.modNet (fun x => { x with pd := { x.pd with
        missed := if m.net.pd.frame.isSome then 0 else x.pd.missed + 1, txCount := x.pd.txCount + 1, txData := data,
        txAt := some (e.ns + us (e.n Key.pdTxOffset)) } }))))) ∧
  (∀ (s : Machine.State) (t : Time) (at_ : Nat), let m := s.core.at_ t
    let e := m.modNet (fun n => { n with pd := { n.pd with txAt := none } })
    let pdu := pduHeader 1 (16 + m.net.pd.txData.length) 0 m.net.pd.txCount.toNat 0 anyUnit ++ m.net.pd.txData
    m.lanesAct = true → m.net.pd.txAt = some at_ →
    (m.ns < at_ → exec (.pdTransmit t) s = .next (s.after t m)) ∧
    (at_ ≤ m.ns → e.b Key.pdTxBroadcast = true →
      exec (.pdTransmit t) s = .next (s.after t (sendCyclic two (List.replicate 6 0xFF) pdu e))) ∧
    (at_ ≤ m.ns → e.b Key.pdTxBroadcast = false → e.conn? (BitVec.ofNat 16 (e.n Key.pdOwner)) = none →
      exec (.pdTransmit t) s = .next (s.after t e)) ∧
    (∀ c p mac, at_ ≤ m.ns → e.b Key.pdTxBroadcast = false → e.conn? (BitVec.ofNat 16 (e.n Key.pdOwner)) = some c → c.src = .eth p mac →
      exec (.pdTransmit t) s = .next (s.after t (sendCyclic [p] (beBytes 6 mac.toNat) pdu e))) ∧
    (∀ c, at_ ≤ m.ns → e.b Key.pdTxBroadcast = false → e.conn? (BitVec.ofNat 16 (e.n Key.pdOwner)) = some c →
      (∀ p mac, c.src ≠ .eth p mac) → exec (.pdTransmit t) s = .next (s.after t
        (e.emit (.reply 1 { handle := 0, rid := m.net.pd.txCount, src := c.src } 0 m.net.pd.txData))))) ∧
  (∀ (s : Machine.State) (t : Time), let m := s.core.at_ t
    m.lanesAct = true → m.n Key.pdState = 1 ∨ m.n Key.pdState = 2 →
    (m.n Key.pdTimeout ≤ m.net.pd.missed → exec (.processDataTimeout t) s = .next (s.after t (raiseM 0x69 0xFF (m.putN Key.pdState 3)))) ∧
    (m.net.pd.missed < m.n Key.pdTimeout → exec (.processDataTimeout t) s = .next (s.after t m))) ∧
  (∀ (s : Machine.State) (t : Time) (rq : Req) (c : Conn), let m := s.core.at_ t
    let n := touch rq m
    let h := ownerOf rq
    (m.accepts rq c Key.pdControl [1] (.num 1) → n.n Key.pdOwner = 0 → h.toNat ≠ 0 → h ≠ 0xFFFF →
      exec (.pdControl t rq true) s = .next (s.after t
      (reply 3 rq 0 [] ((((n.putN Key.pdOwner h.toNat).putN Key.pdControl 1).putN Key.pdState 1).modNet (fun x => { x with
        pd := { cycleAt := x.pd.cycleAt, txCount := x.pd.txCount } }))))) ∧
    (m.accepts rq c Key.pdControl [1] (.num 1) → n.n Key.pdOwner ≠ 0 ∨ h = 0xFFFF → n.n Key.pdOwner ≠ h.toNat →
      exec (.pdControl t rq true) s = .next (s.after t (reply 3 rq 8 [] n))) ∧
    (m.accepts rq c Key.pdControl [1] (.num 1) → n.n Key.pdOwner = h.toNat →
      exec (.pdControl t rq true) s = .next (s.after t (reply 3 rq 0 [] n))) ∧
    (m.accepts rq c Key.pdControl [0] (.num 0) → n.n Key.pdOwner = h.toNat →
      exec (.pdControl t rq false) s = .next (s.after t (reply 3 rq 0 [] (pdRelease n)))) ∧
    (m.accepts rq c Key.pdControl [0] (.num 0) → n.n Key.pdOwner ≠ h.toNat →
      exec (.pdControl t rq false) s = .next (s.after t (reply 3 rq 0 [] n))))

/-- Sessions open and run (R374 to R378): an OPEN is refused with its code or granted, an old token within 10 s is answered as before;
segments join in order within the window, a firmware image's also go to their slot (R385), others are acknowledged or asked for again;
an upload's acknowledgements move its window and end it. -/
def Obligations.SessionsRun : Prop :=
  (∀ (s : Machine.State) (t : Time) (rq : Req) (o : OpenArgs) (c : Conn), let m := s.core.at_ t
    let n := touch rq m
    m.servesPdu rq c → (∀ r ∈ n.sess.recent, r.1 ≠ rq.handle ∨ r.2.1 ≠ o.token) →
    (n.falling = true → exec (.sessionOpen t rq o) s = .next (s.after t (reply 9 rq 8 [] n))) ∧
    (n.falling = false →
      (∀ code, n.openRefusal o c.role = some code → exec (.sessionOpen t rq o) s = .next (s.after t
        (say rq 0 9 0 [1, BitVec.ofNat 8 code, 0, 0] n))) ∧
      (n.openRefusal o c.role = none → exec (.sessionOpen t rq o) s = .next (s.after t (openGranted rq o n))))) ∧
  (∀ (s : Machine.State) (t : Time) (rq : Req) (sid : BitVec 32) (q : BitVec 16) (off : Nat) (data : List Byte) (c : Conn) (z : Session),
    let m := s.core.at_ t
    let y := { z with last := (touch rq m).ns }
    let n := modSession sid (fun x => { x with last := (touch rq m).ns }) (touch rq m)
    let d := (q - BitVec.ofNat 16 y.e).toNat
    m.inSession rq sid c z → y.down = true →
    (32768 ≤ d → exec (.sessionData t rq sid q off data) s = .next (s.after t (say rq sid 4 y.e [] n))) ∧
    (d < 32768 → y.window ≤ d → exec (.sessionData t rq sid q off data) s = .next (s.after t (nak rq y n))) ∧
    (d < 32768 → d < y.window → off ≠ (y.e + d) * y.seg ∨ y.total < off + data.length →
      exec (.sessionData t rq sid q off data) s = .next (s.after t (abortTell 0x04 y n))) ∧
    (d < 32768 → d < y.window → off = (y.e + d) * y.seg → off + data.length ≤ y.total →
      let y' := gather (y.window + 1) { y with stored := ins (y.e + d) data (erase (y.e + d) y.stored) }
      let w := modSession sid (fun _ => y') n
      let had := y.content.length
      (y.ty ≠ 3 ∨ y'.content.length ≤ had → exec (.sessionData t rq sid q off data) s = .next (s.after t (say rq sid 4 y'.e [] w))) ∧
      (y.ty = 3 → had < y'.content.length → exec (.sessionData t rq sid q off data) s = .next (s.after t (say rq sid 4 y'.e []
        ((pieces (y'.content.length / 4064 + 1) (fwAddr w.spareSlot + had) (y'.content.drop had)).foldl (fun m j => m.nvJob j) w)))))) ∧
  (∀ (s : Machine.State) (t : Time) (rq : Req) (sid : BitVec 32) (q : BitVec 16) (c : Conn) (z : Session), let m := s.core.at_ t
    let y := { z with last := (touch rq m).ns }
    let n := modSession sid (fun x => { x with last := (touch rq m).ns }) (touch rq m)
    m.inSession rq sid c z → y.down = false →
    (y.sentTo < q.toNat → exec (.sessionAck t rq sid q) s = .next (s.after t (abortTell 0x04 y n))) ∧
    (q.toNat ≤ y.sentTo → q.toNat ≤ y.e → exec (.sessionAck t rq sid q) s = .next (s.after t n)) ∧
    (q.toNat ≤ y.sentTo → y.e < q.toNat → y.parts ≤ q.toNat → exec (.sessionAck t rq sid q) s = .next (s.after t (completeSession y n))) ∧
    (q.toNat ≤ y.sentTo → y.e < q.toNat → q.toNat < y.parts → exec (.sessionAck t rq sid q) s = .next (s.after t
      (pump sid (modSession sid (fun x => { x with e := q.toNat, resends := 0 }) n)))) ∧
    (q.toNat ≤ y.e → exec (.sessionNak t rq sid q) s = .next (s.after t (resend y (modSession sid (fun _ => y) n)))) ∧
    (y.e < q.toNat → q.toNat ≤ y.sentTo → exec (.sessionNak t rq sid q) s = .next (s.after t
      (let w := { y with e := q.toNat, resends := 0 }; resend w (modSession sid (fun _ => w) n)))))

/-- Sessions end (R379 to R383): a FINISH before every segment is there is asked for the rest, one over a wrong CRC aborts with 0x03, a good
one goes on to the checks of its type; an unknown session is answered 0x000B; the partner's abort wins before the commit point; a
session idle for IdleTimeout aborts with 0x02; RetryTime without an acknowledgement sends again. -/
def Obligations.SessionsEnd : Prop :=
  (∀ (s : Machine.State) (t : Time) (rq : Req) (sid : BitVec 32) (c : Conn) (z : Session), let m := s.core.at_ t
    let n := touch rq m
    let y := { z with last := n.ns, finish := some rq }
    m.inSession rq sid c z → z.down = true →
    (z.segments ≤ z.e → z.committing = false →
      (crc32c z.content ≠ z.crc → exec (.sessionFinish t rq sid) s = .next (s.after t (abortSession 0x03 0 y (modSession sid (fun _ => y) n)))) ∧
      (crc32c z.content = z.crc → exec (.sessionFinish t rq sid) s = .next (s.after t (finishEff c.role y (modSession sid (fun _ => y) n))))) ∧
    (z.e < z.segments → exec (.sessionFinish t rq sid) s = .next (s.after t
      (nak rq { z with last := n.ns } (modSession sid (fun x => { x with last := n.ns }) n)))) ∧
    exec (.sessionAbort t rq sid 0) s = .next (s.after t (say rq sid 9 0 [1, 1, 0, 0] (abortSession 0x01 0 z n)))) ∧
  (∀ (s : Machine.State) (t : Time) (rq : Req) (sid : BitVec 32) (c : Conn), let m := s.core.at_ t
    let n := touch rq m
    m.servesPdu rq c → (∀ x ∈ n.sess.opened, x.sid ≠ sid) →
    (n.sess.done.contains (sid, rq.handle, true) = true → exec (.sessionFinish t rq sid) s = .next (s.after t (say rq sid 7 0 [0, 0, 0, 0] n))) ∧
    (n.sess.done.any (fun d => d.1 == sid && d.2.1 == rq.handle) = true → ∀ code, exec (.sessionAbort t rq sid code) s = .next (s.after t (say rq sid 9 0 [0, 0, 0, 0] n))) ∧
    (n.sess.done.contains (sid, rq.handle, true) = false → exec (.sessionFinish t rq sid) s = .next (s.after t (reply 9 rq 0x000B [] n))) ∧
    (n.sess.done.any (fun d => d.1 == sid && d.2.1 == rq.handle) = false → ∀ code,
      exec (.sessionAbort t rq sid code) s = .next (s.after t (reply 9 rq 0x000B [] n))) ∧
    (∀ q, exec (.sessionAck t rq sid q) s = .next (s.after t (reply 9 rq 0x000B [] n)))) ∧
  (∀ (s : Machine.State) (t : Time) (sid : BitVec 32) (z : Session), let m := s.core.at_ t
    m.lanesAct = true → m.sessOf sid = some z →
    (z.down = false → z.retryAt ≤ m.ns → exec (.sessionRetryTimeout t sid) s = .next (s.after t (resend z m))) ∧
    (z.down = true ∨ m.ns < z.retryAt → exec (.sessionRetryTimeout t sid) s = .next (s.after t m)) ∧
    (z.last + ms (m.n Key.sessionIdleTimeout) ≤ m.ns → exec (.sessionIdleTimeout t sid) s = .next (s.after t (abortTell 0x02 z m))) ∧
    (m.ns < z.last + ms (m.n Key.sessionIdleTimeout) → exec (.sessionIdleTimeout t sid) s = .next (s.after t m)))

/-- Firmware (R385): an activation with every drive Off and an image in the slot is answered, then resets into that slot on trial; a
confirmation makes the trial image the active one; a member's valid slot completes the leader's session when every member has it. Bank
commands (R407 to R409): each is refused with its status or does its work; a store and an erase become jobs of the NV memory, a restore
puts the defaults into the shadow banks, an activation loads, validates and commits. -/
def Obligations.FirmwareAndBanks : Prop :=
  ((∀ (s : Machine.State) (t : Time) (rq : Req) (c : Conn) (slot : Fin 2), let m := s.core.at_ t
    let n := touch rq m
    m.accepts rq c Key.fwActivate [BitVec.ofNat 8 slot.1] (.num slot.1) →
    (n.activateOk slot = false → exec (.fwActivate t rq slot) s = .next (s.after t (reply 3 rq 8 [] n))) ∧
    (n.activateOk slot = true → exec (.fwActivate t rq slot) s = .next (s.after t
      (let e := reply 3 rq 0 [] n; mainReset 0x05 { e with fw := { e.fw with trialNext := some slot } })))) ∧
  (∀ (s : Machine.State) (t : Time) (rq : Req) (c : Conn), let m := s.core.at_ t
    let n := touch rq m
    m.accepts rq c Key.fwConfirm [1] (.num 1) →
    (n.fw.trial = false → exec (.fwConfirm t rq) s = .next (s.after t (reply 3 rq 0 [] n))) ∧
    (n.fw.trial = true → exec (.fwConfirm t rq) s = .next (s.after t (reply 3 rq 0 []
      (let e := { n with fw := { n.fw with trial := false, rolled := false, confirmed := n.fw.active } }
       e.putDevice Key.fwSecurityVersionMin (.num (e.slotNumber e.fw.active 12))))))) ∧
  (∀ (s : Machine.State) (t : Time) (p : Fin 8), let m := s.core.at_ t
    let e := (hear p m).modGrove (fun g => { g with fwValid := setBit g.fwValid p.1 true })
    m.lanesAct = true → m.leads = true →
    (e.groveFwDone = false → exec (.groveFirmwareSlotValid t p) s = .next (s.after t e)) ∧
    (e.groveFwDone = true → exec (.groveFirmwareSlotValid t p) s = .next (s.after t
      (e.each (e.sess.opened.filter (fun s => s.ty == 3 && s.target == 1 && s.committing && e.nv.slot[e.spareSlot].isSome))
        (fun s m => completeSession s m)))))) ∧
  (∀ (s : Machine.State) (t : Time) (rq : Req) (c : Conn) (b : Fin 4), let m := s.core.at_ t
    let n := touch rq m
    (m.accepts rq c Key.bankStore [BitVec.ofNat 8 b.1] (.num b.1) →
      (n.bankSafetyDiffers b = true → c.role < 4 → exec (.bankStore t rq b) s = .next (s.after t (reply 3 rq 0 [] (bankStatus 0x14 n)))) ∧
      (n.bankSafetyDiffers b = false → n.n Key.safetyState ≠ 1 → n.bankTarget b = false → n.nv.stopped = false →
        exec (.bankStore t rq b) s = .next (s.after t (reply 3 rq 0 [] (storeBank b n))))) ∧
    (m.accepts rq c Key.bankErase [BitVec.ofNat 8 b.1] (.num b.1) →
      (n.n Key.bankActive = b.1 → exec (.bankErase t rq b) s = .next (s.after t (reply 3 rq 0 [] (bankStatus 0x16 n)))) ∧
      (n.n Key.bankActive ≠ b.1 → n.bankTarget b = false → n.nv.stopped = false →
        exec (.bankErase t rq b) s = .next (s.after t (reply 3 rq 0 [] ((bankStatus 1 n).nvJob (.area (.bank b) none .bankErase)))))) ∧
    (m.accepts rq c Key.bankRestoreDefaults [1] (.num 1) →
      (n.drivesOff = false → exec (.bankRestoreDefaults t rq) s = .next (s.after t (reply 3 rq 0 [] (bankStatus 0x10 n)))) ∧
      (n.drivesOff = true → n.anyCommit = true → exec (.bankRestoreDefaults t rq) s = .next (s.after t (reply 3 rq 0 [] (bankStatus 0x11 n)))) ∧
      (n.drivesOff = true → n.anyCommit = false → exec (.bankRestoreDefaults t rq) s = .next (s.after t (reply 3 rq 0 []
        (bankStatus 2 ((bankKeys.filter (fun k => c.role == 4 || !safetyFlag k)).foldl
          (fun x k => if (x.domOf k).isSome then x.putShadow k (dfltOf k) else x.putBoth k (dfltOf k)) n)))))) ∧
    (m.accepts rq c Key.bankActivate [BitVec.ofNat 8 b.1] (.num b.1) →
      (n.drivesOff = false → exec (.bankActivate t rq b) s = .next (s.after t (reply 3 rq 0 [] (bankStatus 0x10 n)))) ∧
      (n.drivesOff = true → n.anyCommit = false → n.bankBytes b = none →
        exec (.bankActivate t rq b) s = .next (s.after t (reply 3 rq 0 [] (bankStatus 0x12 n)))) ∧
      (∀ img, n.drivesOff = true → n.anyCommit = false → n.bankBytes b = some img → imageFrameOk img = true →
        let vs := (n.bankLoad img).filter (fun p => match n.domOf p.1 with | some d => n.activated.contains d | none => true)
        let x := vs.foldl (fun m p => if (m.domOf p.1).isSome then m.putShadow p.1 p.2 else m) n
        x.failingDomain = none → (n.safetyWith img).2 = false →
        let y := vs.foldl (fun x p => if (x.domOf p.1).isSome then x else x.putBoth p.1 p.2) x
        let z : Mach := { bankStatus 1 y with nv := { y.nv with activating := some (b, 0) } }
        exec (.bankActivate t rq b) s = .next (s.after t (reply 3 rq 0 [] (z.each n.activated (fun d x =>
          if d = .grove ∧ x.leads then groveCommitStart d none x
          else x.modDom (domIx d) (fun y => { y with pending := some { target := none, at_ := x.ns }, status := 1 }))))))))

/-- Lane rails (R415): a rail that leaves its range is read, raised and makes its lane dissent, once an episode; a restored one clears; two
rails more than 50 mV apart are a mismatch. A main rail out of range puts the main domain into reset with source 3, and rails that fail
to start drop MAIN_EN until they are tried again with source 6 (R414, R416). VANA and the PHY rails (R416), the power failure (R417): a
supply's fault sets its bit and its event and stops what it feeds, its return clears them; VANA's takes the main die's temperatures with
it, a loss of sensing (DEDUCED, log entry 55); a power failure stops NV writing, its release resumes it unless a shutdown stands. -/
def Obligations.Supplies : Prop :=
  ((∀ (s : Machine.State) (t : Time) (l : Lane) (v : F32) (since : Time), let m := s.core.at_ t
    let i := laneIx l
    let e := spreadMax (railVolts i.1 v m)
    m.running = true →
    (m.clr.lanes[i].railOk = false ∨ railOut 58 93 v = false ∨ m.now < since + 10000000 →
      exec (.laneSupplyFault t l v since) s = .next (s.after t e)) ∧
    (m.clr.lanes[i].railOk = true → railOut 58 93 v = true → since + 10000000 ≤ m.now →
      exec (.laneSupplyFault t l v since) s = .next (s.after t
        (railDissent l (raiseV 0x03 none none i.1 v (railLimit 58 93 v)
          (supplyBit i.1 true (e.modLane i (fun x => { x with railOk := false }))))))) ∧
    (railOut 58 93 v = true ∨ m.now < since + 1000000000 → exec (.laneRailRestored t l v since) s = .next (s.after t e)) ∧
    (railOut 58 93 v = false → since + 1000000000 ≤ m.now → exec (.laneRailRestored t l v since) s = .next (s.after t
      ((supplyBit i.1 false (e.modLane i (fun x => { x with railOk := true }))).causeGone 0x03 none none i.1)))) ∧
  (∀ (s : Machine.State) (t : Time) (a b c : F32) (since : Time), let m := s.core.at_ t
    let e := spreadMax (railVolts 2 c (railVolts 1 b (railVolts 0 a m)))
    m.running = true →
    (fgt e.laneSpread (fRat 50 1000) = true → since + 100000000000 ≤ m.now → exec (.laneRailMismatch t a b c since) s = .next (s.after t
      (raiseV 0x04 none none 0xFF e.laneSpread (fRat 50 1000) (supplyBit 11 true e)))) ∧
    (fgt e.laneSpread (fRat 50 1000) = true → m.now < since + 100000000000 →
      exec (.laneRailMismatch t a b c since) s = .next (s.after t e)) ∧
    (fgt e.laneSpread (fRat 50 1000) = false → exec (.laneRailMismatch t a b c since) s = .next (s.after t
      ((supplyBit 11 false e).causeGone 0x04 none none 0xFF)))) ∧
  (∀ (s : Machine.State) (t : Time) (r : MainRail) (v : F32) (since : Time), let m := s.core.at_ t
    let out : Bool := match r with | .vddCl => railOut 78 93 v | .vio => railOut 290 360 v
    (m.up ≠ none → out = true → since + 10000000 ≤ m.now → exec (.mainRailFault t r v since) s = .next (s.after t (mainReset 0x03 m))) ∧
    (m.up = none ∨ out = false ∨ m.now < since + 10000000 → exec (.mainRailFault t r v since) s = .next (s.after t m)) ∧
    (m.up = none → m.lantern.mainEn = true → m.lantern.enAt + 100000000000 ≤ m.now →
      exec (.mainRailsFailedToStart t) s = .next (s.after t
        ((m.modLan (fun l => { l with mainEn := false, retry := true, enAt := m.now })).putN Key.lanternStatus
          (setBit (m.n Key.lanternStatus) 2 true)))) ∧
    (m.lantern.retry = true → m.lantern.enAt + 10000000000000 ≤ m.now → exec (.mainRailsRetry t) s = .next (s.after t
      (m.modLan (fun l => { l with mainEn := true, enAt := m.now, retry := false, source := 0x06 })))) ∧
    (m.lantern.retry = false ∨ m.now < m.lantern.enAt + 10000000000000 → exec (.mainRailsRetry t) s = .next (s.after t m)))) ∧
  ((∀ (s : Machine.State) (t : Time) (v : F32) (since : Time) (k : Fin 2), let m := s.core.at_ t
    m.running = true →
    (railOut 300 360 v = true → since + 10000000 ≤ m.now → exec (.analogSupplyFault t v since) s = .next (s.after t
      (sensingLost (raiseV 0x72 none none 0xFF v (railLimit 300 360 v)
        ((supplyBit 5 true (railVolts 5 v m)).each two (fun i m => m.modPos i (fun p => { p with valid := false }))))))) ∧
    (railOut 300 360 v = false ∨ m.now < since + 10000000 →
      exec (.analogSupplyFault t v since) s = .next (s.after t (railVolts 5 v m))) ∧
    (railOut 300 360 v = false → since + 10000000000 ≤ m.now →
      let e := ((supplyBit 5 false (railVolts 5 v m)).each two (fun i m => m.modPos i (fun p => { p with valid := true }))).causeGone
        0x72 none none 0xFF
      (e.dieSensorsLost = true → exec (.analogSupplyRestored t v since) s = .next (s.after t e)) ∧
      (e.dieSensorsLost = false → exec (.analogSupplyRestored t v since) s = .next (s.after t (e.causeGone 0x79 none none 0xFF)))) ∧
    (railOut 300 360 v = true ∨ m.now < since + 10000000000 →
      exec (.analogSupplyRestored t v since) s = .next (s.after t (railVolts 5 v m))) ∧
    (let r := phyRange k
     let e := raiseV 0x73 none none k.1 v (railLimit r.1 r.2 v) (supplyBit (6 + k.1) true (railVolts (6 + k.1) v m))
     (railOut r.1 r.2 v = true → since + 10000000 ≤ m.now → exec (.phySupplyFault t k v since) s = .next (s.after t
       (usbGone ((e.each two ethDown).each two unlocked)))) ∧
     (railOut r.1 r.2 v = false → exec (.phySupplyFault t k v since) s = .next (s.after t (railVolts (6 + k.1) v m)) ∧
       exec (.phySupplyRestored t k v) s = .next (s.after t
         ((supplyBit (6 + k.1) false (railVolts (6 + k.1) v m)).causeGone 0x73 none none k.1))))) ∧
  (∀ (s : Machine.State) (t : Time) (cause : PowerFailCause) (since : Time), let m := s.core.at_ t
    let below : Bool := match cause with | .pin => true | .vioWarning v => flt v (fRat 3 1)
    m.up ≠ none →
    (below = true → since + 2000000 ≤ m.now →
      let e := nvStop (supplyBit (match cause with | .pin => 10 | .vioWarning _ => 9) true m)
      exec (.powerFail t cause since) s = .next (s.after t { e with nv := { e.nv with powerFailed := true } })) ∧
    (below = false ∨ m.now < since + 2000000 → exec (.powerFail t cause since) s = .next (s.after t m)) ∧
    (let e := supplyBit 10 false (supplyBit 9 false m)
     (e.shutDown = true → exec (.powerFailReleased t) s = .next (s.after t e)) ∧
     (e.shutDown = false → exec (.powerFailReleased t) s = .next (s.after t (nvResume e))))))

/-- Sleep (R418, R419): a request that meets a condition against it is refused with its status; a device alone enters; a grove's leader
names a boundary, a member holds the order or refuses it; idle time asks by itself; a refusal abandons the request. The Lantern (R421 to
R427): a sample takes its tick count, shifts into the three last samples and judges nothing before three are there; a rule whose
comparison holds for its hold count fires, and its wake action raises MAIN_EN of a sleeping device; the power-on reset leaves the
Lantern as it starts; LANTERN_ACKNOWLEDGE clears the two latched bits. -/
def Obligations.SleepAndLantern : Prop :=
  ((∀ (s : Machine.State) (t : Time) (rq : Req) (c : Conn), let m := s.core.at_ t
    let n := touch rq m
    m.accepts rq c Key.powerSleepRequest [1] (.num 1) → n.sleep.entering = false →
    (∀ code, n.sleepBlocked = some code → exec (.sleepRequest t rq) s = .next (s.after t (reply 3 rq 0 [] (n.putN Key.powerSleepStatus code)))) ∧
    (n.sleepBlocked = none → n.inGrove = false → exec (.sleepRequest t rq) s = .next (s.after t (reply 3 rq 0 [] (sleepBegin n)))) ∧
    (n.sleepBlocked = none → n.inGrove = true → n.leads = false →
      exec (.sleepRequest t rq) s = .next (s.after t (reply 3 rq 0 [] (n.putN Key.powerSleepStatus 6))))) ∧
  (∀ (s : Machine.State) (t : Time) (since : Nat), let m := s.core.at_ t
    m.lanesAct = true → m.sleep.idleSince = some since →
    (m.n Key.powerIdleSleepTime ≠ 0 → since + m.n Key.powerIdleSleepTime * 60000000000 ≤ m.ns →
      exec (.idleSleepTimeout t) s = .next (s.after t (sleepAsk m))) ∧
    (m.n Key.powerIdleSleepTime = 0 ∨ m.ns < since + m.n Key.powerIdleSleepTime * 60000000000 →
      exec (.idleSleepTimeout t) s = .next (s.after t m))) ∧
  (∀ (s : Machine.State) (t : Time) (p : Fin 8) (n : Nat), let m := s.core.at_ t
    m.lanesAct = true →
    (m.fromLeader p = true → m.sleepBlocked = none → exec (.groveSleepOrder t p n) s = .next (s.after t
      { m with sleep := { m.sleep with boundary := some n } })) ∧
    (∀ c, m.fromLeader p = true → m.sleepBlocked = some c → exec (.groveSleepOrder t p n) s = .next (s.after t
      (openSend (some p) 5 (m.putN Key.powerSleepStatus c)))) ∧
    (m.leads = true → exec (.groveSleepRefusal t p) s = .next (s.after t (openSend none 5 (sleepAbandon (hear p m))))) ∧
    (m.leads = false → m.fromLeader p = true → exec (.groveSleepRefusal t p) s = .next (s.after t (sleepAbandon m))))) ∧
  ((∀ (s : Machine.State) (t : Time) (x : LanternInputs), let m := s.core.at_ t
    let a := m.putN Key.lanternTickCount (x.tick % 2 ^ 64)
    let b := lanternCount x.a x.b a
    m.sampleDue x.tick = true → m.lantern.period = a.n Key.lanternSamplePeriod → b.lantern.samples.length < 2 →
    exec (.lanternSample t x) s = .next (s.after t (windmillAges
      (let e := b.modLan (fun l => { l with
        samples := (x :: l.samples).take 3, speeds := (b.lanternSpeed :: l.speeds).take 3, lastCount := l.count })
       (e.putN Key.lanternStatus (setBit (e.n Key.lanternStatus) 0 false)).putI 32 Key.lanternEncoderCount e.lantern.count)))) ∧
  (∀ (m : Mach) (r : Fin 16) (v : F32),
    let w := m.n (Key.lanternRule r.1)
    m.lantern.words[r] = w → m.ruleActive w = true → m.ruleValue (ruleSignal w) = some (v, false) → ruleCompare w = 0 →
    fge v (ruleThreshold w) = true → m.lantern.milling[r] = false → bit w 46 = false →
    let e := m.modLan (fun l => { l with
      holds := vmod l.holds r (fun n => n + 1), milling := vmod l.milling r (fun _ => false) })
    (ruleHold w ≤ m.lantern.holds[r] + 1 → (ruleFire r w v e).lantern.milling[r] = false → ruleSample r m = ruleFire r w v e) ∧
    (m.lantern.holds[r] + 1 < ruleHold w → ruleSample r m = e)) ∧
  (∀ (m : Mach) (r : Fin 16),
    (m.sleep.entering = false → m.lantern.asleep = true → ruleWake r m = m.modLan (fun l => { l with
      mainEn := true, enAt := m.now, source := 0x02, wakeCause := setBit l.wakeCause r.1 true })) ∧
    (m.sleep.entering = false → m.lantern.asleep = false → ruleWake r m = m)) ∧
  (∀ (s : Machine.State) (t : Time) (rq : Req) (c : Conn), let m := s.core.at_ t
    let n := touch rq m
    exec (.lanternPowerOnReset t) s = .next (s.after t { mainReset 0x01 m with lantern := {}, live := [] }) ∧
    (m.accepts rq c Key.lanternAcknowledge [1] (.num 1) → exec (.lanternAcknowledge t rq) s = .next (s.after t
      (reply 3 rq 0 [] (causesGone (fun a => a.ev == 0x77)
        (n.putN Key.lanternStatus (setBit (setBit (n.n Key.lanternStatus) 2 false) 3 false))))))))

/-- Temperatures (R246, R429 to R433): a reading goes through its cross-check and is held against its levels; nothing is taken from the main
die while VANA is out of range; an NTC conversion within its range is held against its set's warning and trip. -/
def Obligations.Temperatures : Prop :=
  (∀ (s : Machine.State) (t : Time) (k : Fin 16) (c : Fin 12) (v : F32), let m := s.core.at_ t
    m.running = true →
    (bit (m.n Key.supplyStatus) 5 = true ∨ m.readDue k.1 = false → exec (.temperatureReading t (.main k) v) s = .next (s.after t m)) ∧
    (bit (m.n Key.supplyStatus) 5 = false → m.readDue k.1 = true → exec (.temperatureReading t (.main k) v) s = .next (s.after t
      (let e := takeReading k.1 (gridNeighbours k.1) false v (ageTick m)
       let n := if fge (e.r (Key.tempMainDie k.1)) (celsius 150) then (look k.1 e.thermal.hot).getD 0 + 1 else 0
       mainDie (e.modThermal (fun x => { x with hot := putAt (fun _ => 0) k.1 n x.hot }))))) ∧
    (m.readDue (16 + c.1) = true → exec (.temperatureReading t (.channel c) v) s = .next (s.after t
      (channelDie c (takeReading (16 + c.1) (dieNeighbours c.1) false v m))))) ∧
  (∀ (s : Machine.State) (t : Time) (c : Fin 12) (volts : F32) (who : Nat) (temp : F32), let m := s.core.at_ t
    let k := m.setOfCh c
    let fault := flt volts (fRat 20 1000) || fgt volts (fRat 24 10)
    let nbs := if m.b Key.thermalNtcCrossCheck then ((m.setChs k).filter (fun x => x != c)).map (fun x => 28 + x.1) else []
    let e := takeReading (28 + c.1) nbs false (m.ntcTemp k volts) m
    let lv := level (16 + k.1) [e.r (Key.gateSwitchTempWarn k.1), e.r (Key.gateSwitchTempTrip k.1)] temp e
    m.running = true → m.readDue (28 + c.1) = true → fault = false → e.hottestSwitch k = (who, temp) →
    (lv.2.1 = lv.2.2 → exec (.ntcConversion t c volts) s = .next (s.after t lv.1)) ∧
    (lv.2.1 = 0 → lv.2.2 = 1 → exec (.ntcConversion t c volts) s = .next (s.after t
      (raiseV 0x3F (some k) none who temp (e.r (Key.gateSwitchTempWarn k.1)) lv.1))) ∧
    (lv.2.1 = 1 → lv.2.2 = 2 → exec (.ntcConversion t c volts) s = .next (s.after t
      (raiseV 0x40 (some k) none who temp (e.r (Key.gateSwitchTempTrip k.1)) lv.1))))

/-- NV memory (R393, R435, R436, R456): the record at the head of the queue completes: a log record takes the next slot of the ring, a write
that waited is journalled, answered and in force, content is written, an area's commit puts its copy in use; with no record nothing
happens. The scrub counts corrections and bad words and judges the retention used. -/
def Obligations.NvRecords : Prop :=
  (∀ (s : Machine.State) (t : Time) (rest : List NvJob), let m := s.core.at_ t
    let n := { m with nv := { m.nv with jobs := rest } }
    m.up ≠ none →
    (m.nv.jobs = [] → exec (.nvRecordComplete t) s = .next (s.after t m)) ∧
    (∀ r, m.nv.jobs = .log r :: rest → exec (.nvRecordComplete t) s = .next (s.after t (compact (putLog r n)))) ∧
    (∀ k v, m.nv.jobs = .entry k v .nobody :: rest → exec (.nvRecordComplete t) s = .next (s.after t
      (compact (journalPut 3 0 (entryPayload k v) true (.entry k v) n)))) ∧
    (∀ k v rq, m.nv.jobs = .entry k v (.answer rq) :: rest → exec (.nvRecordComplete t) s = .next (s.after t
      (compact (reply 3 rq 0 [] ((journalPut 3 0 (entryPayload k v) true (.entry k v) n).putBoth k v))))) ∧
    (∀ a b, m.nv.jobs = .content a b :: rest → exec (.nvRecordComplete t) s = .next (s.after t
      (compact (journalPut 1 a b false .content (n.nvPut a b))))) ∧
    (∀ a c, m.nv.jobs = .area a c .nobody :: rest → exec (.nvRecordComplete t) s = .next (s.after t
      (compact (putArea a c (journalPut 2 0 (areaPayload a c) true (.area a c) n)))))) ∧
  (∀ (s : Machine.State) (t : Time) (bad : List Nat) (n : Nat), let m := s.core.at_ t
    let x := m.add Key.nvCorrectedCount (n + 1)
    let e := ageTick ((x.nvJob (.entry Key.nvCorrectedCount (x.val Key.nvCorrectedCount) .nobody)).each bad badWord)
    let f := e.putDevice Key.nvRetentionUsed (.num e.nv.retention.toNat)
    m.running = true →
    (fge e.nv.retention (fRat 90 1) = true → f.running = true → exec (.nvScrub t (n + 1) bad) s = .next (s.after t
      (raiseV 0x7F none none 0xFF e.nv.retention (fRat 90 1) f))) ∧
    (fge e.nv.retention (fRat 90 1) = false → exec (.nvScrub t (n + 1) bad) s = .next (s.after t (f.causeGone 0x7F none none 0xFF)))) ∧
  (∀ (m : Mach) (r : List Byte), (putLog r m).nv.logSlot = (m.nv.logSlot + 1) % 16384 ∧
    (putLog r m).nv.logCount = min 16384 (m.nv.logCount + 1) ∧ (putLog r m).mram = (m.nvPut (0x500000 + 64 * m.nv.logSlot) r).mram)

/-- The end of the power-up reset (R385, R442, R443): nothing without MAIN_EN or with the domain out of reset already; with no slot that
passes its check, or without its voters and two lanes, the device stays in the boot state; with them it runs, in state Ready, its boot
counted. FAULT_RESET is answered and takes effect at the next boundary (R453). -/
def Obligations.StartsAndFaultReset : Prop :=
  (∀ (s : Machine.State) (t : Time) (b : BootInputs), let m := s.core.at_ t
    let n := bootJournal (((bootSwitches b { m with lantern := m.lantern.rebase m.now, now := 0 }).putN Key.canopyPosition b.gpos.1).putN Key.timebaseStatus 3)
    (m.up ≠ none ∨ m.lantern.mainEn = false ∨ b.railsFor < 2000000000 → exec (.powerUpResetEnd t b) s = .next (s.after t m)) ∧
    (m.up = none → m.lantern.mainEn = true → 2000000000 ≤ b.railsFor → bootSlot n = none →
      exec (.powerUpResetEnd t b) s = .next (s.after t (bootState m.lantern.source b n))) ∧
    (∀ f, m.up = none → m.lantern.mainEn = true → 2000000000 ≤ b.railsFor → bootSlot n = some f →
      b.votersOk = false ∨ (([0, 1, 2] : List (Fin 3)).filter (fun i => b.lanes[i])).length < 2 →
      exec (.powerUpResetEnd t b) s = .next (s.after t (bootState m.lantern.source b { n with fw := f }))) ∧
    (∀ f, m.up = none → m.lantern.mainEn = true → 2000000000 ≤ b.railsFor → bootSlot n = some f → b.votersOk = true →
      2 ≤ (([0, 1, 2] : List (Fin 3)).filter (fun i => b.lanes[i])).length →
      let e := bootLanes b { n with up := some true, fw := f }
      let e := match e.lastClearing with
        | some r => (e.putN Key.clearingSafeStateCause (imgNat r 0 1)).put Key.clearingRecord (.bytes r)
        | none => e
      let e := bootLantern ((e.incDevice Key.identityBootCount).putN Key.startResetSource m.lantern.source)
      let e := bootInForce (bootBank (e.putN Key.identityFirmwareVersion (e.slotNumber f.active 8)))
      let e := e.each (List.finRange 12) resetAdapted
      let e := ((bootPosition e).each two bootWraps).modSafety (fun x => { x with
        button := { closed := b.buttonClosed, blocked := b.buttonClosed, since := 0 } })
      let e := bootEvents m.lantern.source f.rolled (bit (m.n Key.lanternStatus) 1) b (bootCarriers e)
      exec (.powerUpResetEnd t b) s = .next (s.after t ((e.putN Key.startState 2).putN Key.startReadyTime b.readyUs)))) ∧
  (∀ (s : Machine.State) (t : Time) (rq : Req) (c : Conn), let m := s.core.at_ t
    let n := touch rq m
    m.accepts rq c Key.faultReset [1] (.num 1) →
    exec (.faultReset t rq) s = .next (s.after t (reply 3 rq 0 [] (n.modEv (fun x => { x with resetAt := some n.ns })))))
end

