-- ==== Sys2Proof/Laws/Exec.lean ====
section
/-! SUPPORT. What each command answers: the state after its effect. One lemma per command, cited in place of unfolding `exec`. -/

set_option Elab.async false

namespace Sys2Proof.Laws

open Sys2Proof.Machine

theorem exec_inputFanoutDelivery (t : Time) (words : List (BitVec 32)) (upsets : List (Lane × Nat × BitVec 33)) (s : State) :
    exec (.inputFanoutDelivery t words upsets) s = .next (s.after t (inputFanoutDeliveryEff words upsets (s.core.at_ t))) := rfl

theorem exec_laneSelfDissent (t : Time) (lane : Lane) (s : State) :
    exec (.laneSelfDissent t lane) s = .next (s.after t (whenUp (selfDissent lane) (s.core.at_ t))) := rfl

theorem exec_tokenArrival (t : Time) (lane : Lane) (tok : BitVec 128) (refl : ReflVerdict) (s : State) :
    exec (.tokenArrival t lane tok refl) s = .next (s.after t (tokenArrivalEff lane tok refl (s.core.at_ t))) := rfl

theorem exec_agreementWindowClose (t : Time) (v : VoteId) (refl : ReflVerdict) (s : State) :
    exec (.agreementWindowClose t v refl) s = .next (s.after t (agreementWindowCloseEff v refl (s.core.at_ t))) := rfl

theorem exec_contentCopyComplete (t : Time) (v : VoteId) (content : List Byte) (s : State) :
    exec (.contentCopyComplete t v content) s = .next (s.after t (contentCopyCompleteEff v content (s.core.at_ t))) := rfl

theorem exec_controlCycleBoundary (t : Time) (calib : Nat) (exercised : Bool) (dirty : List (Fin 4096)) (s : State) :
    exec (.controlCycleBoundary t calib exercised dirty) s =
      .next (s.after t (controlCycleBoundaryEff calib exercised dirty (s.core.at_ t))) := rfl

theorem exec_resyncFailed (t : Time) (lane : Lane) (s : State) :
    exec (.resyncFailed t lane) s = .next (s.after t (resyncFailedEff lane (s.core.at_ t))) := rfl

theorem exec_signatureComplete (t : Time) (lane : Lane) (refl : ReflVerdict) (s : State) :
    exec (.signatureComplete t lane refl) s = .next (s.after t (signatureCompleteEff lane refl (s.core.at_ t))) := rfl

theorem exec_dissentEntryExpiry (t : Time) (lane : Lane) (s : State) :
    exec (.dissentEntryExpiry t lane) s = .next (s.after t (dissentEntryExpiryEff lane (s.core.at_ t))) := rfl

theorem exec_deadStateScrub (t : Time) (s : State) :
    exec (.deadStateScrub t) s = .next (s.after t (deadStateScrubEff (s.core.at_ t))) := rfl

theorem exec_safeOutputWatchdog (t : Time) (voter : Voter) (s : State) :
    exec (.safeOutputWatchdog t voter) s = .next (s.after t (safeOutputWatchdogEff voter (s.core.at_ t))) := rfl

theorem exec_safeStateBrakeDelay (t : Time) (brake : Fin 2) (voter : Voter) (s : State) :
    exec (.safeStateBrakeDelay t brake voter) s = .next (s.after t (safeStateBrakeDelayEff brake voter (s.core.at_ t))) := rfl

theorem exec_dutyToken (t : Time) (set : Fin 2) (leg : Fin 3) (slot : Bool) (compare : BitVec 32) (duty : F32) (s : State) :
    exec (.dutyToken t set leg slot compare duty) s =
      .next (s.after t (dutyTokenEff set leg slot compare duty (s.core.at_ t))) := rfl

theorem exec_safeOutputToken (t : Time) (payload : BitVec 64) (s : State) :
    exec (.safeOutputToken t payload) s = .next (s.after t (safeOutputTokenEff payload (s.core.at_ t))) := rfl

theorem exec_switchRelease (t : Time) (ch : Fin 12) (s : State) :
    exec (.switchRelease t ch) s = .next (s.after t (switchReleaseEff ch (s.core.at_ t))) := rfl

theorem exec_offWithOffProfile (t : Time) (ch : Fin 12) (s : State) :
    exec (.offWithOffProfile t ch) s = .next (s.after t (offWithOffProfileEff ch (s.core.at_ t))) := rfl

theorem exec_softOff (t : Time) (ch : Fin 12) (s : State) :
    exec (.softOff t ch) s = .next (s.after t (softOffEff ch (s.core.at_ t))) := rfl

theorem exec_staticOn (t : Time) (ch : Fin 12) (s : State) :
    exec (.staticOn t ch) s = .next (s.after t (staticOnEff ch (s.core.at_ t))) := rfl

theorem exec_duskInjection05Ma (t : Time) (ch : Fin 12) (s : State) :
    exec (.duskInjection05Ma t ch) s = .next (s.after t (injectEff ch 1 (s.core.at_ t))) := rfl

theorem exec_duskInjection2Ma (t : Time) (ch : Fin 12) (s : State) :
    exec (.duskInjection2Ma t ch) s = .next (s.after t (injectEff ch 2 (s.core.at_ t))) := rfl

theorem exec_duskInjectionStop (t : Time) (ch : Fin 12) (s : State) :
    exec (.duskInjectionStop t ch) s = .next (s.after t (injectEff ch 0 (s.core.at_ t))) := rfl

theorem exec_clearFaultLatches (t : Time) (ch : Fin 12) (persists : List TripCause) (s : State) :
    exec (.clearFaultLatches t ch persists) s = .next (s.after t (clearFaultLatchesEff ch persists (s.core.at_ t))) := rfl

theorem exec_resetAdaptedProfile (t : Time) (ch : Fin 12) (s : State) :
    exec (.resetAdaptedProfile t ch) s = .next (s.after t (resetAdaptedProfileEff ch (s.core.at_ t))) := rfl

theorem exec_invalidCommand (t : Time) (ch : Fin 12) (code : BitVec 8) (s : State) :
    exec (.invalidCommand t ch code) s = .next (s.after t (invalidCommandEff ch code (s.core.at_ t))) := rfl

theorem exec_safeStateCommand (t : Time) (ch : Fin 12) (s : State) :
    exec (.safeStateCommand t ch) s = .next (s.after t (safeStateCommandEff ch (s.core.at_ t))) := rfl

theorem exec_powerUpResetEnd (t : Time) (b : BootInputs) (s : State) :
    exec (.powerUpResetEnd t b) s = .next (s.after t (powerUpResetEndEff b (s.core.at_ t))) := rfl

theorem exec_pllLockLoss (t : Time) (s : State) :
    exec (.pllLockLoss t) s = .next (s.after t (pllLockLossEff (s.core.at_ t))) := rfl

theorem exec_lanternRateCheck (t : Time) (ticksNs : Nat) (s : State) :
    exec (.lanternRateCheck t ticksNs) s = .next (s.after t (lanternRateCheckEff ticksNs (s.core.at_ t))) := rfl

theorem exec_lanternTickMissing (t : Time) (s : State) :
    exec (.lanternTickMissing t) s = .next (s.after t (lanternTickMissingEff (s.core.at_ t))) := rfl

theorem exec_carrierValley (t : Time) (set : Fin 2) (s : State) :
    exec (.carrierValley t set) s = .next (s.after t (carrierValleyEff set (s.core.at_ t))) := rfl

theorem exec_carrierPeak (t : Time) (set : Fin 2) (s : State) :
    exec (.carrierPeak t set) s = .next (s.after t (carrierPeakEff set (s.core.at_ t))) := rfl

theorem exec_sampleArrival (t : Time) (set : Fin 2) (smp : Sample) (s : State) :
    exec (.sampleArrival t set smp) s = .next (s.after t (sampleArrivalEff set smp (s.core.at_ t))) := rfl

theorem exec_computationComplete (t : Time) (set : Fin 2) (lane : Lane) (s : State) :
    exec (.computationComplete t set lane) s = .next (s.after t (computationCompleteEff set lane (s.core.at_ t))) := rfl

theorem exec_outerComputationComplete (t : Time) (lane : Lane) (s : State) :
    exec (.outerComputationComplete t lane) s = .next (s.after t (outerComputationCompleteEff lane (s.core.at_ t))) := rfl

theorem exec_legEdge (t : Time) (set : Fin 2) (leg : Fin 3) (s : State) :
    exec (.legEdge t set leg) s = .next (s.after t (legEdgeEff set leg (s.core.at_ t))) := rfl

theorem exec_deadTimeElapsed (t : Time) (set : Fin 2) (leg : Fin 3) (s : State) :
    exec (.deadTimeElapsed t set leg) s = .next (s.after t (deadTimeElapsedEff set leg (s.core.at_ t))) := rfl

theorem exec_pulseEnable (t : Time) (set : Fin 2) (s : State) :
    exec (.pulseEnable t set) s = .next (s.after t (pulseEnableEff set (s.core.at_ t))) := rfl

theorem exec_commitNextBoundary (t : Time) (rq : Req) (s : State) :
    exec (.commitNextBoundary t rq) s = .next (s.after t (writeHere rq Key.commitRequest [1] (s.core.at_ t))) := rfl

theorem exec_commitAtBoundary (t : Time) (rq : Req) (s : State) :
    exec (.commitAtBoundary t rq) s = .next (s.after t (writeHere rq Key.commitRequest [2] (s.core.at_ t))) := rfl

theorem exec_discardShadowBank (t : Time) (rq : Req) (s : State) :
    exec (.discardShadowBank t rq) s = .next (s.after t (writeHere rq Key.commitRequest [3] (s.core.at_ t))) := rfl

theorem exec_histogramClear (t : Time) (rq : Req) (set : Fin 2) (s : State) :
    exec (.histogramClear t rq set) s = .next (s.after t (writeHere rq (Key.histogramClear set.1) [1] (s.core.at_ t))) := rfl

theorem exec_groveCommitPrepare (t : Time) (dom : Dom) (s : State) :
    exec (.groveCommitPrepare t dom) s = .next (s.after t (groveCommitPrepareEff dom (s.core.at_ t))) := rfl

theorem exec_prepareAnswer (t : Time) (pos : Fin 8) (dom : Dom) (ok : Bool) (s : State) :
    exec (.prepareAnswer t pos dom ok) s = .next (s.after t (prepareAnswerEff pos dom ok (s.core.at_ t))) := rfl

theorem exec_prepareTimeout (t : Time) (pos : Fin 8) (dom : Dom) (s : State) :
    exec (.prepareTimeout t pos dom) s = .next (s.after t (prepareTimeoutEff pos dom (s.core.at_ t))) := rfl

theorem exec_groveCommit (t : Time) (dom : Dom) (n : Nat) (s : State) :
    exec (.groveCommit t dom n) s = .next (s.after t (groveCommitEff dom n (s.core.at_ t))) := rfl

theorem exec_prepareLapse (t : Time) (dom : Dom) (s : State) :
    exec (.prepareLapse t dom) s = .next (s.after t (prepareLapseEff dom (s.core.at_ t))) := rfl

theorem exec_fastComparatorTrip (t : Time) (set : Fin 2) (input : Fin 6) (high : Bool) (bits : List Bool) (s : State) :
    exec (.fastComparatorTrip t set input high bits) s =
      .next (s.after t (fastComparatorTripEff set input high bits (s.core.at_ t))) := rfl

theorem exec_modulatorStreamDead (t : Time) (set : Fin 2) (input : Fin 6) (last : Time) (s : State) :
    exec (.modulatorStreamDead t set input last) s =
      .next (s.after t (modulatorStreamDeadEff set input last (s.core.at_ t))) := rfl

theorem exec_modulatorStreamRestored (t : Time) (set : Fin 2) (input : Fin 6) (bits : List Bool) (s : State) :
    exec (.modulatorStreamRestored t set input bits) s =
      .next (s.after t (modulatorStreamRestoredEff set input bits (s.core.at_ t))) := rfl

theorem exec_terminalMeasurementDone (t : Time) (set : Fin 2) (stream : List (F32 × F32)) (s : State) :
    exec (.terminalMeasurementDone t set stream) s =
      .next (s.after t (terminalMeasurementDoneEff set stream (s.core.at_ t))) := rfl

theorem exec_indexPulse (t : Time) (pi : Fin 2) (s : State) :
    exec (.indexPulse t pi) s = .next (s.after t (indexPulseEff pi (s.core.at_ t))) := rfl

theorem exec_positionWireBreak (t : Time) (pi : Fin 2) (pair : Fin 3) (volts : F32) (dur : Nat) (samples : Vector (F32 × F32) 3) (s : State) :
    exec (.positionWireBreak t pi pair volts dur samples) s =
      .next (s.after t (positionWireBreakEff pi pair volts dur samples (s.core.at_ t))) := rfl

theorem exec_positionCountError (t : Time) (pi : Fin 2) (gap : Nat) (s : State) :
    exec (.positionCountError t pi gap) s = .next (s.after t (positionCountErrorEff pi gap (s.core.at_ t))) := rfl

theorem exec_resolverExcitationOpen (t : Time) (pi : Fin 2) (rms : F32) (dur : Nat) (s : State) :
    exec (.resolverExcitationOpen t pi rms dur) s =
      .next (s.after t (resolverExcitationOpenEff pi rms dur (s.core.at_ t))) := rfl

theorem exec_resolverTrackingLoss (t : Time) (pi : Fin 2) (pair : F32 × F32) (s : State) :
    exec (.resolverTrackingLoss t pi pair) s = .next (s.after t (resolverTrackingLossEff pi pair (s.core.at_ t))) := rfl

theorem exec_excitationSettleEnd (t : Time) (pi : Fin 2) (s : State) :
    exec (.excitationSettleEnd t pi) s = .next (s.after t (excitationSettleEndEff pi (s.core.at_ t))) := rfl

theorem exec_ainConversion (t : Time) (ain : Fin 8) (raw : F32) (s : State) :
    exec (.ainConversion t ain raw) s = .next (s.after t (ainConversionEff ain raw (s.core.at_ t))) := rfl

theorem exec_leverTrackDiscrepancy (t : Time) (pair : Fin 4) (s : State) :
    exec (.leverTrackDiscrepancy t pair) s = .next (s.after t (leverTrackDiscrepancyEff pair (s.core.at_ t))) := rfl

theorem exec_leverPairAgreed (t : Time) (pair : Fin 4) (s : State) :
    exec (.leverPairAgreed t pair) s = .next (s.after t (leverPairAgreedEff pair (s.core.at_ t))) := rfl

theorem exec_dutyStall (t : Time) (set : Fin 2) (s : State) :
    exec (.dutyStall t set) s = .next (s.after t (dutyStallEff set (s.core.at_ t))) := rfl

theorem exec_swapForced (t : Time) (dom : Dom) (group : Nat) (s : State) :
    exec (.swapForced t dom group) s = .next (s.after t (swapForcedEff dom group (s.core.at_ t))) := rfl

theorem exec_historyReset (t : Time) (rq : Req) (slot : Fin 32) (s : State) :
    exec (.historyReset t rq slot) s = .next (s.after t (writeHere rq (Key.slotHistoryReset slot.1) [1] (s.core.at_ t))) := rfl

theorem exec_echoStart (t : Time) (rq : Req) (s : State) :
    exec (.echoStart t rq) s = .next (s.after t (writeHere rq Key.echoStart [1] (s.core.at_ t))) := rfl

theorem exec_echoAbort (t : Time) (rq : Req) (s : State) :
    exec (.echoAbort t rq) s = .next (s.after t (writeHere rq Key.echoAbort [1] (s.core.at_ t))) := rfl

theorem exec_echoSettleEnd (t : Time) (s : State) :
    exec (.echoSettleEnd t) s = .next (s.after t (echoSettleEndEff (s.core.at_ t))) := rfl

theorem exec_echoPointComplete (t : Time) (s : State) :
    exec (.echoPointComplete t) s = .next (s.after t (echoPointCompleteEff (s.core.at_ t))) := rfl

theorem exec_echoStep (t : Time) (s : State) :
    exec (.echoStep t) s = .next (s.after t (echoStepEff (s.core.at_ t))) := rfl

theorem exec_echoDurationEnd (t : Time) (s : State) :
    exec (.echoDurationEnd t) s = .next (s.after t (echoDurationEndEff (s.core.at_ t))) := rfl

theorem exec_captureArm (t : Time) (rq : Req) (s : State) :
    exec (.captureArm t rq) s = .next (s.after t (writeHere rq Key.captureArm [1] (s.core.at_ t))) := rfl

theorem exec_reacquireTimeout (t : Time) (set : Fin 2) (s : State) :
    exec (.reacquireTimeout t set) s = .next (s.after t (reacquireTimeoutEff set (s.core.at_ t))) := rfl

theorem exec_speedMeasurementDone (t : Time) (set : Fin 2) (s : State) :
    exec (.speedMeasurementDone t set) s = .next (s.after t (speedMeasurementDoneEff set (s.core.at_ t))) := rfl

theorem exec_probeScanDone (t : Time) (set : Fin 2) (first : List F32) (second : List F32) (emf : F32) (s : State) :
    exec (.probeScanDone t set first second emf) s =
      .next (s.after t (probeScanDoneEff set first second emf (s.core.at_ t))) := rfl

theorem exec_remeasure (t : Time) (set : Fin 2) (s : State) :
    exec (.remeasure t set) s = .next (s.after t (remeasureEff set (s.core.at_ t))) := rfl

theorem exec_startWaitExpired (t : Time) (set : Fin 2) (s : State) :
    exec (.startWaitExpired t set) s = .next (s.after t (startWaitExpiredEff set (s.core.at_ t))) := rfl

theorem exec_polarityPulseEnd (t : Time) (set : Fin 2) (s : State) :
    exec (.polarityPulseEnd t set) s = .next (s.after t (polarityPulseEndEff set (s.core.at_ t))) := rfl

theorem exec_neutralPointDeviation (t : Time) (set : Fin 2) (s : State) :
    exec (.neutralPointDeviation t set) s = .next (s.after t (neutralPointDeviationEff set (s.core.at_ t))) := rfl

theorem exec_commandRun (t : Time) (rq : Req) (drv : Fin 2) (s : State) :
    exec (.commandRun t rq drv) s = .next (s.after t (writeHere rq (Key.command drv.1) [1] (s.core.at_ t))) := rfl

theorem exec_commandStop (t : Time) (rq : Req) (drv : Fin 2) (s : State) :
    exec (.commandStop t rq drv) s = .next (s.after t (writeHere rq (Key.command drv.1) [0] (s.core.at_ t))) := rfl

theorem exec_preTorqueHeld (t : Time) (drv : Fin 2) (s : State) :
    exec (.preTorqueHeld t drv) s = .next (s.after t (preTorqueHeldEff drv (s.core.at_ t))) := rfl

theorem exec_leverNeutralAccepted (t : Time) (drv : Fin 2) (s : State) :
    exec (.leverNeutralAccepted t drv) s = .next (s.after t (leverNeutralAcceptedEff drv (s.core.at_ t))) := rfl

theorem exec_referenceTimeout (t : Time) (drv : Fin 2) (s : State) :
    exec (.referenceTimeout t drv) s = .next (s.after t (referenceTimeoutEff drv (s.core.at_ t))) := rfl

theorem exec_phaseBackSlow (t : Time) (drv : Fin 2) (s : State) :
    exec (.phaseBackSlow t drv) s = .next (s.after t (phaseBackSlowEff drv (s.core.at_ t))) := rfl

theorem exec_wrapsSet (t : Time) (rq : Req) (drv : Fin 2) (wraps : F32) (s : State) :
    exec (.wrapsSet t rq drv wraps) s =
      .next (s.after t (writeHere rq (Key.winchWrapsSet drv.1) (beBytes 4 wraps.toNat) (s.core.at_ t))) := rfl

theorem exec_shockHoldEnd (t : Time) (drv : Fin 2) (s : State) :
    exec (.shockHoldEnd t drv) s = .next (s.after t (shockHoldEndEff drv (s.core.at_ t))) := rfl

theorem exec_shockRecoveryEnd (t : Time) (drv : Fin 2) (s : State) :
    exec (.shockRecoveryEnd t drv) s = .next (s.after t (shockRecoveryEndEff drv (s.core.at_ t))) := rfl

theorem exec_motionRecord (t : Time) (drv : Fin 2) (time : Nat) (pos vel acc : F32) (seq : BitVec 16) (s : State) :
    exec (.motionRecord t drv time pos vel acc seq) s =
      .next (s.after t (motionRecordEff drv time pos vel acc seq (s.core.at_ t))) := rfl

theorem exec_motionReferenceLost (t : Time) (drv : Fin 2) (s : State) :
    exec (.motionReferenceLost t drv) s = .next (s.after t (motionReferenceLostEff drv (s.core.at_ t))) := rfl

theorem exec_heaveFadeEnd (t : Time) (drv : Fin 2) (s : State) :
    exec (.heaveFadeEnd t drv) s = .next (s.after t (heaveFadeEndEff drv (s.core.at_ t))) := rfl

theorem exec_quickReleaseDemand (t : Time) (drv : Fin 2) (s : State) :
    exec (.quickReleaseDemand t drv) s = .next (s.after t (quickReleaseDemandEff drv (s.core.at_ t))) := rfl

theorem exec_quickReleaseEnd (t : Time) (drv : Fin 2) (s : State) :
    exec (.quickReleaseEnd t drv) s = .next (s.after t (quickReleaseEndEff drv (s.core.at_ t))) := rfl

theorem exec_regenerationShortfall (t : Time) (drv : Fin 2) (s : State) :
    exec (.regenerationShortfall t drv) s = .next (s.after t (regenerationShortfallEff drv (s.core.at_ t))) := rfl

theorem exec_uplinkStatusFrame (t : Time) (ch : Fin 12) (fr : UplinkFrame) (s : State) :
    exec (.uplinkStatusFrame t ch fr) s = .next (s.after t (uplinkStatusFrameEff ch fr (s.core.at_ t))) := rfl

theorem exec_downlinkLoss (t : Time) (ch : Fin 12) (s : State) :
    exec (.downlinkLoss t ch) s = .next (s.after t (downlinkLossEff ch (s.core.at_ t))) := rfl

theorem exec_uplinkLoss (t : Time) (ch : Fin 12) (s : State) :
    exec (.uplinkLoss t ch) s = .next (s.after t (uplinkLossEff ch (s.core.at_ t))) := rfl

theorem exec_channelUplinkTimeout (t : Time) (ch : Fin 12) (s : State) :
    exec (.channelUplinkTimeout t ch) s = .next (s.after t (channelUplinkTimeoutEff ch (s.core.at_ t))) := rfl

theorem exec_channelConfiguration (t : Time) (ch : Fin 12) (cfg : List Byte) (crc : BitVec 32) (s : State) :
    exec (.channelConfiguration t ch cfg crc) s = .next (s.after t (channelConfigurationEff ch cfg crc (s.core.at_ t))) := rfl

theorem exec_profilePhase1End (t : Time) (ch : Fin 12) (s : State) :
    exec (.profilePhase1End t ch) s = .next (s.after t (profilePhase1EndEff ch (s.core.at_ t))) := rfl

theorem exec_edgeMeasurement (t : Time) (ch : Fin 12) (on : Bool) (time peak : F32) (s : State) :
    exec (.edgeMeasurement t ch on time peak) s = .next (s.after t (edgeMeasurementEff ch on time peak (s.core.at_ t))) := rfl

theorem exec_railValid (t : Time) (ch : Fin 12) (rail : GateRail) (volts : F32) (s : State) :
    exec (.railValid t ch rail volts) s = .next (s.after t (railValidEff ch rail volts (s.core.at_ t))) := rfl

theorem exec_railInvalid (t : Time) (ch : Fin 12) (rail : GateRail) (volts : F32) (s : State) :
    exec (.railInvalid t ch rail volts) s = .next (s.after t (railInvalidEff ch rail volts (s.core.at_ t))) := rfl

theorem exec_didtTrip (t : Time) (ch : Fin 12) (volts : F32) (s : State) :
    exec (.didtTrip t ch volts) s = .next (s.after t (didtTripEff ch volts (s.core.at_ t))) := rfl

theorem exec_rampWindowEnd (t : Time) (ch : Fin 12) (s : State) :
    exec (.rampWindowEnd t ch) s = .next (s.after t (rampWindowEndEff ch (s.core.at_ t))) := rfl

theorem exec_integratorTrip (t : Time) (ch : Fin 12) (course : List (F32 × Nat)) (s : State) :
    exec (.integratorTrip t ch course) s = .next (s.after t (integratorTripEff ch course (s.core.at_ t))) := rfl

theorem exec_desaturationTrip (t : Time) (ch : Fin 12) (volts : F32) (s : State) :
    exec (.desaturationTrip t ch volts) s = .next (s.after t (desaturationTripEff ch volts (s.core.at_ t))) := rfl

theorem exec_turnOffSequenceStep (t : Time) (set : Fin 2) (s : State) :
    exec (.turnOffSequenceStep t set) s = .next (s.after t (turnOffSequenceStepEff set (s.core.at_ t))) := rfl

theorem exec_gateOffConfirmed (t : Time) (ch : Fin 12) (s : State) :
    exec (.gateOffConfirmed t ch) s = .next (s.after t (gateOffConfirmedEff ch (s.core.at_ t))) := rfl

theorem exec_legInterlockFault (t : Time) (set : Fin 2) (leg : Fin 3) (s : State) :
    exec (.legInterlockFault t set leg) s = .next (s.after t (legInterlockFaultEff set leg (s.core.at_ t))) := rfl

theorem exec_swcmdTransition (t : Time) (ch : Fin 12) (high : Bool) (s : State) :
    exec (.swcmdTransition t ch high) s = .next (s.after t (swcmdTransitionEff ch high (s.core.at_ t))) := rfl

theorem exec_directEnable (t : Time) (rq : Req) (set : Fin 2) (on : Bool) (s : State) :
    exec (.directEnable t rq set on) s =
      .next (s.after t (writeHere rq (Key.gateDirectEnable set.1) [if on then 1 else 0] (s.core.at_ t))) := rfl

theorem exec_setConfirmedOff (t : Time) (set : Fin 2) (persists : List (Fin 12 × TripCause)) (s : State) :
    exec (.setConfirmedOff t set persists) s = .next (s.after t (setConfirmedOffEff set persists (s.core.at_ t))) := rfl

theorem exec_retryWaitEnd (t : Time) (set : Fin 2) (s : State) :
    exec (.retryWaitEnd t set) s = .next (s.after t (retryWaitEndEff set (s.core.at_ t))) := rfl

theorem exec_tripHistoryExpiry (t : Time) (set : Fin 2) (s : State) :
    exec (.tripHistoryExpiry t set) s = .next (s.after t (tripHistoryExpiryEff set (s.core.at_ t))) := rfl

theorem exec_ntcConversion (t : Time) (ch : Fin 12) (volts : F32) (s : State) :
    exec (.ntcConversion t ch volts) s = .next (s.after t (ntcConversionEff ch volts (s.core.at_ t))) := rfl

theorem exec_duskRun (t : Time) (rq : Req) (set : Fin 2) (s : State) :
    exec (.duskRun t rq set) s = .next (s.after t (writeHere rq (Key.duskRun set.1) [1] (s.core.at_ t))) := rfl

theorem exec_duskStepEnd (t : Time) (set : Fin 2) (rd : DuskReading) (s : State) :
    exec (.duskStepEnd t set rd) s = .next (s.after t (duskStepEndEff set rd (s.core.at_ t))) := rfl

theorem exec_darkPulseStart (t : Time) (tp : Fin 2) (s : State) :
    exec (.darkPulseStart t tp) s = .next (s.after t (darkPulseStartEff tp (s.core.at_ t))) := rfl

theorem exec_darkPulseEnd (t : Time) (tp : Fin 2) (rd : List DarkReading) (s : State) :
    exec (.darkPulseEnd t tp rd) s = .next (s.after t (darkPulseEndEff tp rd (s.core.at_ t))) := rfl

theorem exec_safeInputChannelDemand (t : Time) (si : Fin 6) (ch : Fin 2) (since : Time) (s : State) :
    exec (.safeInputChannelDemand t si ch since) s =
      .next (s.after t (safeInputChannelDemandEff si ch since (s.core.at_ t))) := rfl

theorem exec_safeInputChannelClear (t : Time) (si : Fin 6) (ch : Fin 2) (since : Time) (s : State) :
    exec (.safeInputChannelClear t si ch since) s =
      .next (s.after t (safeInputChannelClearEff si ch since (s.core.at_ t))) := rfl

theorem exec_safeInputDiscrepancy (t : Time) (si : Fin 6) (s : State) :
    exec (.safeInputDiscrepancy t si) s = .next (s.after t (safeInputDiscrepancyEff si (s.core.at_ t))) := rfl

theorem exec_safeInputStateKnown (t : Time) (si : Fin 6) (s : State) :
    exec (.safeInputStateKnown t si) s = .next (s.after t (safeInputStateKnownEff si (s.core.at_ t))) := rfl

theorem exec_stoFeedDischarged (t : Time) (fbn : Bool) (s : State) :
    exec (.stoFeedDischarged t fbn) s = .next (s.after t (stoFeedDischargedEff fbn (s.core.at_ t))) := rfl

theorem exec_stoReleaseStep (t : Time) (fbp fbn : Bool) (s : State) :
    exec (.stoReleaseStep t fbp fbn) s = .next (s.after t (stoReleaseStepEff fbp fbn (s.core.at_ t))) := rfl

theorem exec_stoDischargeTimeout (t : Time) (s : State) :
    exec (.stoDischargeTimeout t) s = .next (s.after t (stoDischargeTimeoutEff (s.core.at_ t))) := rfl

theorem exec_stoFeedbackDeviation (t : Time) (fbp fbn : Bool) (since : Time) (s : State) :
    exec (.stoFeedbackDeviation t fbp fbn since) s =
      .next (s.after t (stoFeedbackDeviationEff fbp fbn since (s.core.at_ t))) := rfl

theorem exec_ss1Standstill (t : Time) (drv : Fin 2) (s : State) :
    exec (.ss1Standstill t drv) s = .next (s.after t (ss1StandstillEff drv (s.core.at_ t))) := rfl

theorem exec_ss1TimeElapsed (t : Time) (drv : Fin 2) (s : State) :
    exec (.ss1TimeElapsed t drv) s = .next (s.after t (ss1TimeElapsedEff drv (s.core.at_ t))) := rfl

theorem exec_brakeApplyTimeEnd (t : Time) (drv : Fin 2) (s : State) :
    exec (.brakeApplyTimeEnd t drv) s = .next (s.after t (brakeApplyTimeEndEff drv (s.core.at_ t))) := rfl

theorem exec_brakeReleaseCheck (t : Time) (brake : Fin 2) (isns : F32) (fbp fbn : Bool) (s : State) :
    exec (.brakeReleaseCheck t brake isns fbp fbn) s =
      .next (s.after t (brakeReleaseCheckEff brake isns fbp fbn (s.core.at_ t))) := rfl

theorem exec_brakeHoldFault (t : Time) (brake : Fin 2) (isns : F32) (since : Time) (s : State) :
    exec (.brakeHoldFault t brake isns since) s = .next (s.after t (brakeHoldFaultEff brake isns since (s.core.at_ t))) := rfl

theorem exec_brakeOvercurrent (t : Time) (brake : Fin 2) (isns : F32) (s : State) :
    exec (.brakeOvercurrent t brake isns) s = .next (s.after t (brakeOvercurrentEff brake isns (s.core.at_ t))) := rfl

theorem exec_brakeApplyCheck (t : Time) (brake : Fin 2) (isns : F32) (fbp : Bool) (s : State) :
    exec (.brakeApplyCheck t brake isns fbp) s = .next (s.after t (brakeApplyCheckEff brake isns fbp (s.core.at_ t))) := rfl

theorem exec_brakeSwitchTest (t : Time) (brake : Fin 2) (s : State) :
    exec (.brakeSwitchTest t brake) s = .next (s.after t (brakeSwitchTestEff brake (s.core.at_ t))) := rfl

theorem exec_brakeTestPulseEnd (t : Time) (brake : Fin 2) (fbp fbn : Bool) (s : State) :
    exec (.brakeTestPulseEnd t brake fbp fbn) s = .next (s.after t (brakeTestPulseEndEff brake fbp fbn (s.core.at_ t))) := rfl

theorem exec_sbtRun (t : Time) (rq : Req) (brake : Fin 2) (s : State) :
    exec (.sbtRun t rq brake) s = .next (s.after t (writeHere rq (Key.sbtRun brake.1) [1] (s.core.at_ t))) := rfl

theorem exec_sbtPhaseEnd (t : Time) (brake : Fin 2) (s : State) :
    exec (.sbtPhaseEnd t brake) s = .next (s.after t (sbtPhaseEndEff brake (s.core.at_ t))) := rfl

theorem exec_sbtDue (t : Time) (brake : Fin 2) (s : State) :
    exec (.sbtDue t brake) s = .next (s.after t (sbtDueEff brake (s.core.at_ t))) := rfl

theorem exec_brakeTestOverdue (t : Time) (brake : Fin 2) (s : State) :
    exec (.brakeTestOverdue t brake) s = .next (s.after t (brakeTestOverdueEff brake (s.core.at_ t))) := rfl

theorem exec_rstbtnDebounced (t : Time) (closed : Bool) (s : State) :
    exec (.rstbtnDebounced t closed) s = .next (s.after t (rstbtnDebouncedEff closed (s.core.at_ t))) := rfl

theorem exec_resetHeld (t : Time) (s : State) :
    exec (.resetHeld t) s = .next (s.after t (resetHeldEff (s.core.at_ t))) := rfl

theorem exec_sealConfirm (t : Time) (rq : Req) (value : BitVec 32) (s : State) :
    exec (.sealConfirm t rq value) s =
      .next (s.after t (writeHere rq Key.safetySealConfirm (beBytes 4 value.toNat) (s.core.at_ t))) := rfl

theorem exec_sealConfirmationExpired (t : Time) (s : State) :
    exec (.sealConfirmationExpired t) s = .next (s.after t (sealConfirmationExpiredEff (s.core.at_ t))) := rfl

theorem exec_isfFrame (t : Time) (conn : Fin 4) (frame : List Byte) (s : State) :
    exec (.isfFrame t conn frame) s = .next (s.after t (isfFrameEff conn frame (s.core.at_ t))) := rfl

theorem exec_isfTimeout (t : Time) (conn : Fin 4) (s : State) :
    exec (.isfTimeout t conn) s = .next (s.after t (isfTimeoutEff conn (s.core.at_ t))) := rfl

theorem exec_isfProducerCycle (t : Time) (conn : Fin 4) (s : State) :
    exec (.isfProducerCycle t conn) s = .next (s.after t (isfProducerCycleEff conn (s.core.at_ t))) := rfl

theorem exec_groveStopDemand (t : Time) (aLow bLow : Bool) (since : Time) (s : State) :
    exec (.groveStopDemand t aLow bLow since) s = .next (s.after t (groveStopDemandEff aLow bLow since (s.core.at_ t))) := rfl

theorem exec_groveStopLineFault (t : Time) (line : Fin 2) (s : State) :
    exec (.groveStopLineFault t line) s = .next (s.after t (groveStopLineFaultEff line (s.core.at_ t))) := rfl

theorem exec_groveStopLineTestStep (t : Time) (reads : List (Bool × Bool)) (s : State) :
    exec (.groveStopLineTestStep t reads) s = .next (s.after t (groveStopLineTestStepEff reads (s.core.at_ t))) := rfl

theorem exec_emptyPacket (t : Time) (port : Fin 2) (h : PacketHeader) (s : State) :
    exec (.emptyPacket t port h) s = .next (s.after t (emptyPacketEff port h (s.core.at_ t))) := rfl

theorem exec_emptyPacketTimer (t : Time) (port : Fin 2) (s : State) :
    exec (.emptyPacketTimer t port) s = .next (s.after t (emptyPacketTimerEff port (s.core.at_ t))) := rfl

theorem exec_linkNak (t : Time) (port : Fin 2) (k : NakKind) (s : State) :
    exec (.linkNak t port k) s = .next (s.after t (linkNakEff port k (s.core.at_ t))) := rfl

theorem exec_replayTimeout (t : Time) (port : Fin 2) (s : State) :
    exec (.replayTimeout t port) s = .next (s.after t (replayTimeoutEff port (s.core.at_ t))) := rfl

theorem exec_forwardedPacket (t : Time) (port : Fin 2) (h : PacketHeader) (payload : List Byte) (crc : BitVec 32) (s : State) :
    exec (.forwardedPacket t port h payload crc) s =
      .next (s.after t (forwardedPacketEff port h payload crc (s.core.at_ t))) := rfl

theorem exec_canopyLaneDown (t : Time) (port : Fin 2) (lane : Fin 2) (s : State) :
    exec (.canopyLaneDown t port lane) s = .next (s.after t (canopyLaneDownEff port lane (s.core.at_ t))) := rfl

theorem exec_canopyPortDown (t : Time) (port : Fin 2) (since : Time) (s : State) :
    exec (.canopyPortDown t port since) s = .next (s.after t (canopyPortDownEff port since (s.core.at_ t))) := rfl

theorem exec_canopyPortUp (t : Time) (port : Fin 2) (neighbour : Fin 8) (idleSince : Time) (s : State) :
    exec (.canopyPortUp t port neighbour idleSince) s =
      .next (s.after t (canopyPortUpEff port neighbour idleSince (s.core.at_ t))) := rfl

theorem exec_portSelfCheck (t : Time) (port : Fin 2) (ok : Bool) (s : State) :
    exec (.portSelfCheck t port ok) s = .next (s.after t (portSelfCheckEff port ok (s.core.at_ t))) := rfl

theorem exec_hello (t : Time) (src : Fin 8) (h : Hello) (s : State) :
    exec (.hello t src h) s = .next (s.after t (helloEff src h (s.core.at_ t))) := rfl

theorem exec_helloTimer (t : Time) (s : State) :
    exec (.helloTimer t) s = .next (s.after t (helloTimerEff (s.core.at_ t))) := rfl

theorem exec_formTimeExpiry (t : Time) (s : State) :
    exec (.formTimeExpiry t) s = .next (s.after t (formTimeExpiryEff (s.core.at_ t))) := rfl

theorem exec_joinReq (t : Time) (src : Fin 8) (h : Hello) (s : State) :
    exec (.joinReq t src h) s = .next (s.after t (joinReqEff src h (s.core.at_ t))) := rfl

theorem exec_joinAnswer (t : Time) (code : BitVec 8) (map : BitVec 8) (period : Nat) (n tN : Nat) (bank : List (Nat × List Byte)) (s : State) :
    exec (.joinAnswer t code map period n tN bank) s =
      .next (s.after t (joinAnswerEff code map period n tN bank (s.core.at_ t))) := rfl

theorem exec_joinRetry (t : Time) (s : State) :
    exec (.joinRetry t) s = .next (s.after t (joinRetryEff (s.core.at_ t))) := rfl

theorem exec_groveBoundary (t : Time) (s : State) :
    exec (.groveBoundary t) s = .next (s.after t (groveBoundaryEff (s.core.at_ t))) := rfl

theorem exec_boundary (t : Time) (src : Fin 8) (n tN : Nat) (map : BitVec 8) (mode : BitVec 8) (s : State) :
    exec (.boundary t src n tN map mode) s = .next (s.after t (boundaryEff src n tN map mode (s.core.at_ t))) := rfl

theorem exec_linkState (t : Time) (src : Fin 8) (east west : BitVec 8) (s : State) :
    exec (.linkState t src east west) s = .next (s.after t (linkStateEff src east west (s.core.at_ t))) := rfl

theorem exec_sync (t : Time) (src : Fin 8) (port : Fin 2) (tN corr : Nat) (s : State) :
    exec (.sync t src port tN corr) s = .next (s.after t (syncEff src port tN corr (s.core.at_ t))) := rfl

theorem exec_linkDelayTimer (t : Time) (s : State) :
    exec (.linkDelayTimer t) s = .next (s.after t (linkDelayTimerEff (s.core.at_ t))) := rfl

theorem exec_delayRequest (t : Time) (port : Fin 2) (_t1 : Nat) (s : State) :
    exec (.delayRequest t port _t1) s = .next (s.after t (delayRequestEff port (s.core.at_ t))) := rfl

theorem exec_delayResponse (t : Time) (port : Fin 2) (t1 t2 t3 : Nat) (s : State) :
    exec (.delayResponse t port t1 t2 t3) s = .next (s.after t (delayResponseEff port t1 t2 t3 (s.core.at_ t))) := rfl

theorem exec_status (t : Time) (src : Fin 8) (st : StatusMsg) (s : State) :
    exec (.status t src st) s = .next (s.after t (statusEff src st (s.core.at_ t))) := rfl

theorem exec_memberLost (t : Time) (pos : Fin 8) (s : State) :
    exec (.memberLost t pos) s = .next (s.after t (memberLostEff pos (s.core.at_ t))) := rfl

theorem exec_leaderLost (t : Time) (s : State) :
    exec (.leaderLost t) s = .next (s.after t (leaderLostEff (s.core.at_ t))) := rfl

theorem exec_claim (t : Time) (src : Fin 8) (selfCheck : Bool) (reach : BitVec 8) (holding : Nat) (relSeq relAmt : Nat) (s : State) :
    exec (.claim t src selfCheck reach holding relSeq relAmt) s =
      .next (s.after t (claimEff src selfCheck reach holding relSeq relAmt (s.core.at_ t))) := rfl

theorem exec_claimWindowEnd (t : Time) (s : State) :
    exec (.claimWindowEnd t) s = .next (s.after t (claimWindowEndEff (s.core.at_ t))) := rfl

theorem exec_takeover (t : Time) (src : Fin 8) (n tN : Nat) (map : BitVec 8) (mode : BitVec 8) (nextSeq : Nat) (s : State) :
    exec (.takeover t src n tN map mode nextSeq) s =
      .next (s.after t (takeoverEff src n tN map mode nextSeq (s.core.at_ t))) := rfl

theorem exec_share (t : Time) (src : Fin 8) (applyTime : Nat) (total : F32) (refs : List F32) (s : State) :
    exec (.share t src applyTime total refs) s = .next (s.after t (shareEff src applyTime total refs (s.core.at_ t))) := rfl

theorem exec_grant (t : Time) (src : Fin 8) (sq amt : Nat) (s : State) :
    exec (.grant t src sq amt) s = .next (s.after t (grantEff src sq amt (s.core.at_ t))) := rfl

theorem exec_grantAck (t : Time) (src : Fin 8) (sq : Nat) (s : State) :
    exec (.grantAck t src sq) s = .next (s.after t (grantAckEff src sq (s.core.at_ t))) := rfl

theorem exec_releaseReq (t : Time) (src : Fin 8) (sq amt : Nat) (s : State) :
    exec (.releaseReq t src sq amt) s = .next (s.after t (releaseReqEff src sq amt (s.core.at_ t))) := rfl

theorem exec_release (t : Time) (src : Fin 8) (sq amt : Nat) (s : State) :
    exec (.release t src sq amt) s = .next (s.after t (releaseEff src sq amt (s.core.at_ t))) := rfl

theorem exec_releaseAck (t : Time) (src : Fin 8) (sq : Nat) (s : State) :
    exec (.releaseAck t src sq) s = .next (s.after t (releaseAckEff src sq (s.core.at_ t))) := rfl

theorem exec_transferResend (t : Time) (sq : Nat) (s : State) :
    exec (.transferResend t sq) s = .next (s.after t (transferResendEff sq (s.core.at_ t))) := rfl

theorem exec_auditReport (t : Time) (src : Fin 8) (n holding lastSeq : Nat) (s : State) :
    exec (.auditReport t src n holding lastSeq) s =
      .next (s.after t (auditReportEff src n holding lastSeq (s.core.at_ t))) := rfl

theorem exec_auditDeadline (t : Time) (s : State) :
    exec (.auditDeadline t) s = .next (s.after t (auditDeadlineEff (s.core.at_ t))) := rfl

theorem exec_leaseExpiry (t : Time) (s : State) :
    exec (.leaseExpiry t) s = .next (s.after t (leaseExpiryEff (s.core.at_ t))) := rfl

theorem exec_expiringTokensReturn (t : Time) (pos : Fin 8) (s : State) :
    exec (.expiringTokensReturn t pos) s = .next (s.after t (expiringTokensReturnEff pos (s.core.at_ t))) := rfl

theorem exec_tokensTotalWrite (t : Time) (rq : Req) (total : Nat) (s : State) :
    exec (.tokensTotalWrite t rq total) s =
      .next (s.after t (writeHere rq Key.tokensTotal (beBytes 2 total) (s.core.at_ t))) := rfl

theorem exec_standLeaseExpiry (t : Time) (s : State) :
    exec (.standLeaseExpiry t) s = .next (s.after t (standLeaseExpiryEff (s.core.at_ t))) := rfl

theorem exec_forwardedRequest (t : Time) (src : Fin 8) (answer : Bool) (role : Fin 5) (pdu : List Byte) (s : State) :
    exec (.forwardedRequest t src answer role pdu) s =
      .next (s.after t (forwardedRequestEff src answer role pdu (s.core.at_ t))) := rfl

theorem exec_forwardTimeout (t : Time) (rq : Req) (s : State) :
    exec (.forwardTimeout t rq) s = .next (s.after t (forwardTimeoutEff rq (s.core.at_ t))) := rfl

theorem exec_ethernetPortDown (t : Time) (port : Fin 2) (s : State) :
    exec (.ethernetPortDown t port) s = .next (s.after t (ethernetPortDownEff port (s.core.at_ t))) := rfl

theorem exec_ethernetPortUp (t : Time) (port : Fin 2) (speed : Fin 3) (full : Bool) (s : State) :
    exec (.ethernetPortUp t port speed full) s = .next (s.after t (ethernetPortUpEff port speed full (s.core.at_ t))) := rfl

theorem exec_frameForward (t : Time) (port : Fin 2) (frame : List Byte) (s : State) :
    exec (.frameForward t port frame) s = .next (s.after t (frameForwardEff port frame (s.core.at_ t))) := rfl

theorem exec_mrpFrame (t : Time) (port : Fin 2) (k : MrpKind) (s : State) :
    exec (.mrpFrame t port k) s = .next (s.after t (mrpFrameEff port k (s.core.at_ t))) := rfl

theorem exec_gptpSync (t : Time) (gm : BitVec 64) (time : Nat) (s : State) :
    exec (.gptpSync t gm time) s = .next (s.after t (gptpSyncEff gm time (s.core.at_ t))) := rfl

theorem exec_gptpSyncTimeout (t : Time) (s : State) :
    exec (.gptpSyncTimeout t) s = .next (s.after t (gptpSyncTimeoutEff (s.core.at_ t))) := rfl

theorem exec_gateControlChange (t : Time) (port : Fin 2) (s : State) :
    exec (.gateControlChange t port) s = .next (s.after t (gateControlChangeEff port (s.core.at_ t))) := rfl

theorem exec_processData (t : Time) (src : Source) (counter : BitVec 16) (body : List Byte) (s : State) :
    exec (.processData t src counter body) s = .next (s.after t (processDataEff src counter body (s.core.at_ t))) := rfl

theorem exec_networkBoundary (t : Time) (s : State) :
    exec (.networkBoundary t) s = .next (s.after t (networkBoundaryEff (s.core.at_ t))) := rfl

theorem exec_pdTransmit (t : Time) (s : State) :
    exec (.pdTransmit t) s = .next (s.after t (pdTransmitEff (s.core.at_ t))) := rfl

theorem exec_processDataTimeout (t : Time) (s : State) :
    exec (.processDataTimeout t) s = .next (s.after t (processDataTimeoutEff (s.core.at_ t))) := rfl

theorem exec_pdControl (t : Time) (rq : Req) (run : Bool) (s : State) :
    exec (.pdControl t rq run) s = .next (s.after t (writeHere rq Key.pdControl [if run then 1 else 0] (s.core.at_ t))) := rfl

theorem exec_read (t : Time) (rq : Req) (unit : BitVec 48) (index : BitVec 16) (sub : BitVec 8) (shadow : Bool) (s : State) :
    exec (.read t rq unit index sub shadow) s =
      .next (s.after t (readEff rq unit (index.toNat * 256 + sub.toNat) shadow (s.core.at_ t))) := rfl

theorem exec_write (t : Time) (rq : Req) (unit : BitVec 48) (index : BitVec 16) (sub : BitVec 8) (value : List Byte) (s : State) :
    exec (.write t rq unit index sub value) s =
      .next (s.after t (writeEff rq unit (index.toNat * 256 + sub.toNat) value (s.core.at_ t))) := rfl

theorem exec_connect (t : Time) (rq : Req) (sub : BitVec 8) (name : List Byte) (s : State) :
    exec (.connect t rq sub name) s = .next (s.after t (connectEff rq sub name (s.core.at_ t))) := rfl

theorem exec_loginStep1 (t : Time) (rq : Req) (role : BitVec 8) (s : State) :
    exec (.loginStep1 t rq role) s = .next (s.after t (loginStep1Eff rq role (s.core.at_ t))) := rfl

theorem exec_loginStep2 (t : Time) (rq : Req) (proof : List Byte) (s : State) :
    exec (.loginStep2 t rq proof) s = .next (s.after t (loginStep2Eff rq proof (s.core.at_ t))) := rfl

theorem exec_loginBlockEnd (t : Time) (src : Source) (s : State) :
    exec (.loginBlockEnd t src) s = .next (s.after t (loginBlockEndEff src (s.core.at_ t))) := rfl

theorem exec_logout (t : Time) (rq : Req) (s : State) :
    exec (.logout t rq) s = .next (s.after t (logoutEff rq (s.core.at_ t))) := rfl

theorem exec_malformedPdu (t : Time) (pdu : List Byte) (s : State) :
    exec (.malformedPdu t pdu) s = .next (s.after t (malformedPduEff pdu (s.core.at_ t))) := rfl

theorem exec_arpRequest (t : Time) (ip : BitVec 32) (mac : BitVec 48) (asker : BitVec 32) (s : State) :
    exec (.arpRequest t ip mac asker) s = .next (s.after t (arpRequestEff ip mac asker (s.core.at_ t))) := rfl

theorem exec_icmpEcho (t : Time) (src : BitVec 32) (data : List Byte) (s : State) :
    exec (.icmpEcho t src data) s = .next (s.after t (icmpEchoEff src data (s.core.at_ t))) := rfl

theorem exec_connectionTimeout (t : Time) (handle : BitVec 16) (s : State) :
    exec (.connectionTimeout t handle) s = .next (s.after t (connectionTimeoutEff handle (s.core.at_ t))) := rfl

theorem exec_sessionOpen (t : Time) (rq : Req) (o : OpenArgs) (s : State) :
    exec (.sessionOpen t rq o) s = .next (s.after t (sessionOpenEff rq o (s.core.at_ t))) := rfl

theorem exec_sessionData (t : Time) (rq : Req) (sid : BitVec 32) (sq : BitVec 16) (offset : Nat) (data : List Byte) (s : State) :
    exec (.sessionData t rq sid sq offset data) s =
      .next (s.after t (sessionDataEff rq sid sq offset data (s.core.at_ t))) := rfl

theorem exec_sessionAck (t : Time) (rq : Req) (sid : BitVec 32) (next : BitVec 16) (s : State) :
    exec (.sessionAck t rq sid next) s = .next (s.after t (sessionAckEff rq sid next (s.core.at_ t))) := rfl

theorem exec_sessionNak (t : Time) (rq : Req) (sid : BitVec 32) (next : BitVec 16) (s : State) :
    exec (.sessionNak t rq sid next) s = .next (s.after t (sessionNakEff rq sid next (s.core.at_ t))) := rfl

theorem exec_sessionFinish (t : Time) (rq : Req) (sid : BitVec 32) (s : State) :
    exec (.sessionFinish t rq sid) s = .next (s.after t (sessionFinishEff rq sid (s.core.at_ t))) := rfl

theorem exec_sessionAbort (t : Time) (rq : Req) (sid : BitVec 32) (_code : BitVec 8) (s : State) :
    exec (.sessionAbort t rq sid _code) s = .next (s.after t (sessionAbortEff rq sid (s.core.at_ t))) := rfl

theorem exec_sessionRetryTimeout (t : Time) (sid : BitVec 32) (s : State) :
    exec (.sessionRetryTimeout t sid) s = .next (s.after t (sessionRetryTimeoutEff sid (s.core.at_ t))) := rfl

theorem exec_sessionIdleTimeout (t : Time) (sid : BitVec 32) (s : State) :
    exec (.sessionIdleTimeout t sid) s = .next (s.after t (sessionIdleTimeoutEff sid (s.core.at_ t))) := rfl

theorem exec_fwActivate (t : Time) (rq : Req) (slot : Fin 2) (s : State) :
    exec (.fwActivate t rq slot) s =
      .next (s.after t (writeHere rq Key.fwActivate [BitVec.ofNat 8 slot.1] (s.core.at_ t))) := rfl

theorem exec_fwConfirm (t : Time) (rq : Req) (s : State) :
    exec (.fwConfirm t rq) s = .next (s.after t (writeHere rq Key.fwConfirm [1] (s.core.at_ t))) := rfl

theorem exec_usbAttach (t : Time) (s : State) :
    exec (.usbAttach t) s = .next (s.after t (usbAttachEff (s.core.at_ t))) := rfl

theorem exec_usbDetach (t : Time) (s : State) :
    exec (.usbDetach t) s = .next (s.after t (usbDetachEff (s.core.at_ t))) := rfl

theorem exec_bankStore (t : Time) (rq : Req) (n : Fin 4) (s : State) :
    exec (.bankStore t rq n) s = .next (s.after t (writeHere rq Key.bankStore [BitVec.ofNat 8 n.1] (s.core.at_ t))) := rfl

theorem exec_bankActivate (t : Time) (rq : Req) (n : Fin 4) (s : State) :
    exec (.bankActivate t rq n) s = .next (s.after t (writeHere rq Key.bankActivate [BitVec.ofNat 8 n.1] (s.core.at_ t))) := rfl

theorem exec_bankRestoreDefaults (t : Time) (rq : Req) (s : State) :
    exec (.bankRestoreDefaults t rq) s = .next (s.after t (writeHere rq Key.bankRestoreDefaults [1] (s.core.at_ t))) := rfl

theorem exec_bankErase (t : Time) (rq : Req) (n : Fin 4) (s : State) :
    exec (.bankErase t rq n) s = .next (s.after t (writeHere rq Key.bankErase [BitVec.ofNat 8 n.1] (s.core.at_ t))) := rfl

theorem exec_entryWrite (t : Time) (rq : Req) (index : BitVec 16) (sub : BitVec 8) (value : List Byte) (s : State) :
    exec (.entryWrite t rq index sub value) s =
      .next (s.after t (writeHere rq (index.toNat * 256 + sub.toNat) value (s.core.at_ t))) := rfl

theorem exec_laneSupplyFault (t : Time) (lane : Lane) (volts : F32) (since : Time) (s : State) :
    exec (.laneSupplyFault t lane volts since) s = .next (s.after t (laneSupplyFaultEff lane volts since (s.core.at_ t))) := rfl

theorem exec_laneRailRestored (t : Time) (lane : Lane) (volts : F32) (since : Time) (s : State) :
    exec (.laneRailRestored t lane volts since) s =
      .next (s.after t (laneRailRestoredEff lane volts since (s.core.at_ t))) := rfl

theorem exec_laneRailMismatch (t : Time) (a b c : F32) (since : Time) (s : State) :
    exec (.laneRailMismatch t a b c since) s = .next (s.after t (laneRailMismatchEff a b c since (s.core.at_ t))) := rfl

theorem exec_mainRailFault (t : Time) (rail : MainRail) (volts : F32) (since : Time) (s : State) :
    exec (.mainRailFault t rail volts since) s = .next (s.after t (mainRailFaultEff rail volts since (s.core.at_ t))) := rfl

theorem exec_analogSupplyFault (t : Time) (volts : F32) (since : Time) (s : State) :
    exec (.analogSupplyFault t volts since) s = .next (s.after t (analogSupplyFaultEff volts since (s.core.at_ t))) := rfl

theorem exec_analogSupplyRestored (t : Time) (volts : F32) (since : Time) (s : State) :
    exec (.analogSupplyRestored t volts since) s = .next (s.after t (analogSupplyRestoredEff volts since (s.core.at_ t))) := rfl

theorem exec_phySupplyFault (t : Time) (rail : Fin 2) (volts : F32) (since : Time) (s : State) :
    exec (.phySupplyFault t rail volts since) s = .next (s.after t (phySupplyFaultEff rail volts since (s.core.at_ t))) := rfl

theorem exec_mainRailsFailedToStart (t : Time) (s : State) :
    exec (.mainRailsFailedToStart t) s = .next (s.after t (mainRailsFailedToStartEff (s.core.at_ t))) := rfl

theorem exec_mainRailsRetry (t : Time) (s : State) :
    exec (.mainRailsRetry t) s = .next (s.after t (mainRailsRetryEff (s.core.at_ t))) := rfl

theorem exec_powerFail (t : Time) (cause : PowerFailCause) (since : Time) (s : State) :
    exec (.powerFail t cause since) s = .next (s.after t (powerFailEff cause since (s.core.at_ t))) := rfl

theorem exec_sleepRequest (t : Time) (rq : Req) (s : State) :
    exec (.sleepRequest t rq) s = .next (s.after t (writeHere rq Key.powerSleepRequest [1] (s.core.at_ t))) := rfl

theorem exec_idleSleepTimeout (t : Time) (s : State) :
    exec (.idleSleepTimeout t) s = .next (s.after t (idleSleepTimeoutEff (s.core.at_ t))) := rfl

theorem exec_lanternPowerOnReset (t : Time) (s : State) :
    exec (.lanternPowerOnReset t) s = .next (s.after t (lanternPowerOnResetEff (s.core.at_ t))) := rfl

theorem exec_lanternSample (t : Time) (ls : LanternInputs) (s : State) :
    exec (.lanternSample t ls) s = .next (s.after t (lanternSampleEff ls (s.core.at_ t))) := rfl

theorem exec_lanternAcknowledge (t : Time) (rq : Req) (s : State) :
    exec (.lanternAcknowledge t rq) s = .next (s.after t (writeHere rq Key.lanternAcknowledge [1] (s.core.at_ t))) := rfl

theorem exec_temperatureReading (t : Time) (sensor : TempSensor) (temp : F32) (s : State) :
    exec (.temperatureReading t sensor temp) s = .next (s.after t (temperatureReadingEff sensor temp (s.core.at_ t))) := rfl

theorem exec_nvRecordComplete (t : Time) (s : State) :
    exec (.nvRecordComplete t) s = .next (s.after t (nvRecordCompleteEff (s.core.at_ t))) := rfl

theorem exec_nvScrub (t : Time) (corrected : Nat) (bad : List Nat) (s : State) :
    exec (.nvScrub t corrected bad) s = .next (s.after t (nvScrubEff corrected bad (s.core.at_ t))) := rfl

theorem exec_faultReset (t : Time) (rq : Req) (s : State) :
    exec (.faultReset t rq) s = .next (s.after t (writeHere rq Key.faultReset [1] (s.core.at_ t))) := rfl

theorem exec_groveStopLinesReleased (t : Time) (s : State) :
    exec (.groveStopLinesReleased t) s = .next (s.after t (groveStopLinesReleasedEff (s.core.at_ t))) := rfl

theorem exec_encoderEdge (t : Time) (pi : Fin 2) (forward : Bool) (lantern : Bool) (stable : Nat) (s : State) :
    exec (.encoderEdge t pi forward lantern stable) s =
      .next (s.after t (encoderEdgeEff pi forward lantern stable (s.core.at_ t))) := rfl

theorem exec_gptpAnnounce (t : Time) (gm : BitVec 64) (better : Bool) (s : State) :
    exec (.gptpAnnounce t gm better) s = .next (s.after t (gptpAnnounceEff gm better (s.core.at_ t))) := rfl

theorem exec_phySupplyRestored (t : Time) (rail : Fin 2) (volts : F32) (s : State) :
    exec (.phySupplyRestored t rail volts) s = .next (s.after t (phySupplyRestoredEff rail volts (s.core.at_ t))) := rfl

theorem exec_powerFailReleased (t : Time) (s : State) :
    exec (.powerFailReleased t) s = .next (s.after t (powerFailReleasedEff (s.core.at_ t))) := rfl

theorem exec_fallbackSwitchesChanged (t : Time) (s : State) :
    exec (.fallbackSwitchesChanged t) s = .next (s.after t (fallbackSwitchesChangedEff (s.core.at_ t))) := rfl

theorem exec_standSilentGroveReassign (t : Time) (grove : BitVec 8) (heard : Nat) (s : State) :
    exec (.standSilentGroveReassign t grove heard) s =
      .next (s.after t (standSilentGroveReassignEff grove heard (s.core.at_ t))) := rfl

theorem exec_groveSleepOrder (t : Time) (src : Fin 8) (n : Nat) (s : State) :
    exec (.groveSleepOrder t src n) s = .next (s.after t (groveSleepOrderEff src n (s.core.at_ t))) := rfl

theorem exec_groveSleepRefusal (t : Time) (src : Fin 8) (s : State) :
    exec (.groveSleepRefusal t src) s = .next (s.after t (groveSleepRefusalEff src (s.core.at_ t))) := rfl

theorem exec_groveFirmwareSlotValid (t : Time) (src : Fin 8) (s : State) :
    exec (.groveFirmwareSlotValid t src) s = .next (s.after t (groveFirmwareSlotValidEff src (s.core.at_ t))) := rfl

end Sys2Proof.Laws
end

