-- ==== Sys2Proof/Laws/Memory.lean ====
section
/-! SUPPORT. Sparse data: what a write reads back as, and that every operation of the memory keeps its canonical form. -/

set_option Elab.async false

namespace Sys2Proof.Laws

open Sys2Proof.Machine

section sparse

variable {α : Type}

theorem look_nil (k : Nat) : look k ([] : Sparse α) = none := rfl

theorem look_cons (k : Nat) (c : Nat × α) (l : Sparse α) : look k (c :: l) = if c.1 = k then some c.2 else look k l := by
  by_cases h : c.1 = k <;> simp [look, h]

theorem look_erase_self (k : Nat) (l : Sparse α) : look k (erase k l) = none := by
  simp [look, erase]

theorem look_erase_other {j k : Nat} (l : Sparse α) (h : j ≠ k) : look j (erase k l) = look j l := by
  induction l with
  | nil => rfl
  | cons c t ih =>
    have he : erase k (c :: t) = if c.1 = k then erase k t else c :: erase k t := by
      by_cases hc : c.1 = k <;> simp [erase, hc]
    rw [he]
    split
    · rename_i hc; rw [ih, look_cons, if_neg (by omega)]
    · rw [look_cons, look_cons, ih]

theorem look_ins_self (k : Nat) (v : α) (l : Sparse α) (h : look k l = none) : look k (ins k v l) = some v := by
  induction l with
  | nil => simp [ins, look_cons]
  | cons c t ih =>
    rw [look_cons] at h
    split at h
    · cases h
    · rename_i hc
      simp only [ins]
      split
      · simp [look_cons]
      · rw [look_cons, if_neg hc, ih h]

theorem look_ins_other {j k : Nat} (v : α) (l : Sparse α) (h : j ≠ k) : look j (ins k v l) = look j l := by
  induction l with
  | nil => simp [ins, look_cons, Ne.symm h]
  | cons c t ih =>
    simp only [ins]
    split
    · rw [look_cons, if_neg (Ne.symm h)]
    · rw [look_cons, look_cons, ih]

variable [DecidableEq α]

/-- A write reads back as the value written. -/
theorem read_putAt_self (d : Nat → α) (k : Nat) (v : α) (l : Sparse α) : (look k (putAt d k v l)).getD (d k) = v := by
  unfold putAt
  split
  · rename_i h; simp [look_erase_self, h]
  · simp [look_ins_self _ _ _ (look_erase_self k l)]

/-- A write leaves every other key. -/
theorem look_putAt_other (d : Nat → α) {j k : Nat} (v : α) (l : Sparse α) (h : j ≠ k) : look j (putAt d k v l) = look j l := by
  unfold putAt
  split
  · exact look_erase_other l h
  · rw [look_ins_other v _ h, look_erase_other l h]

theorem wfFrom_mono (d : Nat → α) {lo hi : Nat} (l : Sparse α) (h : lo ≤ hi) (w : wfFrom d (some hi) l = true) :
    wfFrom d (some lo) l = true := by
  cases l with
  | nil => rfl
  | cons c t =>
    simp only [wfFrom, Bool.and_eq_true, decide_eq_true_eq] at w ⊢
    exact ⟨⟨by omega, w.1.2⟩, w.2⟩

theorem wfFrom_none (d : Nat → α) {lo : Nat} (l : Sparse α) (w : wfFrom d (some lo) l = true) : wfFrom d none l = true := by
  cases l with
  | nil => rfl
  | cons c t =>
    simp only [wfFrom, Bool.and_eq_true, decide_eq_true_eq] at w ⊢
    exact ⟨⟨trivial, w.1.2⟩, w.2⟩

/-- Taking entries out keeps the form. -/
theorem wfFrom_filter (d : Nat → α) (p : Nat × α → Bool) (l : Sparse α) (lo : Option Nat) (w : wfFrom d lo l = true) :
    wfFrom d lo (l.filter p) = true := by
  induction l generalizing lo with
  | nil => exact w
  | cons c t ih =>
    simp only [wfFrom, Bool.and_eq_true] at w
    have ht := ih (some c.1) w.2
    by_cases hp : p c = true
    · simp only [List.filter_cons, hp, if_true, wfFrom, Bool.and_eq_true]
      exact ⟨w.1, ht⟩
    · simp only [List.filter_cons, hp, if_false, Bool.false_eq_true]
      cases lo with
      | none => exact wfFrom_none d _ ht
      | some x =>
        have hx : x < c.1 := by simpa using w.1.1
        exact wfFrom_mono d _ (by omega) ht

/-- Putting a pair with a value of its own in its place keeps the form. -/
theorem wfFrom_ins (d : Nat → α) (k : Nat) (v : α) (l : Sparse α) (lo : Option Nat) (hv : v ≠ d k) (hk : look k l = none)
    (hlo : ∀ x, lo = some x → x < k) (w : wfFrom d lo l = true) : wfFrom d lo (ins k v l) = true := by
  induction l generalizing lo with
  | nil => cases lo <;> simp_all [ins, wfFrom]
  | cons c t ih =>
    rw [look_cons] at hk
    split at hk
    · cases hk
    · rename_i hc
      simp only [wfFrom, Bool.and_eq_true] at w
      simp only [ins]
      split
      · rename_i hlt
        cases lo <;> simp_all [wfFrom]
      · simp only [wfFrom, Bool.and_eq_true]
        exact ⟨w.1, ih (some c.1) hk (fun x h => by cases h; omega) w.2⟩

/-- A write keeps the canonical form. -/
theorem sparseWf_putAt (d : Nat → α) (k : Nat) (v : α) (l : Sparse α) (w : sparseWf d l = true) : sparseWf d (putAt d k v l) = true := by
  unfold putAt
  split
  · exact wfFrom_filter d _ l none w
  · rename_i h
    exact wfFrom_ins d k v _ none h (look_erase_self k l) (fun x h => by cases h) (wfFrom_filter d _ l none w)

end sparse

/-! ### The MRAM (R434) -/

@[simp] theorem memGet_memPut_self (mem : List Host.Cell) (a : Nat) (b : Byte) : memGet (memPut mem a b) a = b :=
  read_putAt_self memDefault a b mem

theorem memGet_memPut_other (mem : List Host.Cell) {a c : Nat} (b : Byte) (h : c ≠ a) : memGet (memPut mem a b) c = memGet mem c := by
  simp [memGet, memPut, look_putAt_other memDefault b mem h]

theorem memPut_wf (mem : List Host.Cell) (a : Nat) (b : Byte) (w : Memory.wf mem = true) : Memory.wf (memPut mem a b) = true :=
  sparseWf_putAt memDefault a b mem w

theorem memPutAll_wf (mem : List Host.Cell) (a : Nat) (bs : List Byte) (w : Memory.wf mem = true) :
    Memory.wf (memPutAll mem a bs) = true := by
  induction bs generalizing mem a with
  | nil => exact w
  | cons b t ih => exact ih _ _ (memPut_wf mem a b w)

theorem memGet_memPutAll_below (mem : List Host.Cell) (a : Nat) (bs : List Byte) {c : Nat} (h : c < a ∨ a + bs.length ≤ c) :
    memGet (memPutAll mem a bs) c = memGet mem c := by
  induction bs generalizing mem a with
  | nil => rfl
  | cons b t ih =>
    simp only [List.length_cons] at h
    rw [memPutAll, ih _ _ (by omega), memGet_memPut_other mem b (by omega)]

theorem memZero_wf (mem : List Host.Cell) (a n : Nat) (w : Memory.wf mem = true) : Memory.wf (memZero mem a n) = true :=
  wfFrom_filter memDefault _ mem none w

theorem nvPut_wf (m : Mach) (a : Nat) (bs : List Byte) (w : Memory.wf m.mram = true) : Memory.wf (m.nvPut a bs).mram = true := by
  unfold Mach.nvPut
  split
  · exact memPutAll_wf m.mram a bs w
  · exact w

theorem reset_mram_wf : Memory.wf State.reset.core.mram = true := rfl

/-! ### Entries of the dictionary (R65, R405) -/

@[simp] theorem val_put_self (m : Mach) (k : Nat) (v : Val) : (m.put k v).val k = v := read_putAt_self dfltOf k v m.live

theorem val_put_other (m : Mach) {j k : Nat} (v : Val) (h : j ≠ k) : (m.put k v).val j = m.val j := by
  simp [Mach.val, Mach.put, look_putAt_other dfltOf v m.live h]

@[simp] theorem shVal_putShadow_self (m : Mach) (k : Nat) (v : Val) : (m.putShadow k v).shVal k = v :=
  read_putAt_self dfltOf k v m.shadow

theorem shVal_putShadow_other (m : Mach) {j k : Nat} (v : Val) (h : j ≠ k) : (m.putShadow k v).shVal j = m.shVal j := by
  simp [Mach.shVal, Mach.putShadow, look_putAt_other dfltOf v m.shadow h]

@[simp] theorem n_put_self (m : Mach) (k : Nat) (v : Val) : (m.put k v).n k = valNat v := by
  simp [Mach.n]

theorem n_put_other (m : Mach) {j k : Nat} (v : Val) (h : j ≠ k) : (m.put k v).n j = m.n j := by
  simp [Mach.n, val_put_other m _ h]

@[simp] theorem n_putShadow (m : Mach) (j k : Nat) (v : Val) : (m.putShadow k v).n j = m.n j := rfl

@[simp] theorem val_putShadow (m : Mach) (j k : Nat) (v : Val) : (m.putShadow k v).val j = m.val j := rfl
@[simp] theorem shVal_put (m : Mach) (j k : Nat) (v : Val) : (m.put k v).shVal j = m.shVal j := rfl

@[simp] theorem sig_setSig_self (m : Mach) (c : Nat) (x : F32) : (m.setSig c x).sig c = x :=
  read_putAt_self (fun _ => 0) c x m.signals

theorem sig_setSig_other (m : Mach) {b c : Nat} (x : F32) (h : b ≠ c) : (m.setSig c x).sig b = m.sig b := by
  unfold Mach.sig Mach.setSig
  rw [look_putAt_other (fun _ => (0 : F32)) x m.signals h]

/-! ### Elements of a vector -/

@[simp] theorem vmod_self {α : Type} {n : Nat} (v : Vector α n) (i : Fin n) (f : α → α) : (vmod v i f)[i] = f v[i] := by
  simp [vmod]

theorem vmod_other {α : Type} {n : Nat} (v : Vector α n) {i j : Fin n} (f : α → α) (h : j ≠ i) : (vmod v i f)[j] = v[j] := by
  have : i.1 ≠ j.1 := fun e => h (Fin.ext e.symm)
  simp [vmod, this]

/-- An operation on each element of a list keeps what each keeps. -/
theorem each_keeps {α : Type} (P : Mach → Prop) (xs : List α) (f : α → Mach → Mach) (m : Mach)
    (hf : ∀ x m, P m → P (f x m)) (h : P m) : P (m.each xs f) := by
  induction xs generalizing m with
  | nil => exact h
  | cons x t ih => exact ih (f x m) (hf x m h)

end Sys2Proof.Laws
end

