-- ==== Sys2Proof/Laws/PerInstr.lean ====
section
/-! SUPPORT. What holds of each command as syntax: one that can act with the main domain in reset needs no lane, and a well-formed
one names an instant that the 64-bit nanosecond counter can show (R41, R53, R442). -/

set_option Elab.async false

namespace Sys2Proof.Laws

theorem wellFormed_bounds {i : Instr} (h : wellFormed i = true) : i.time < 2 ^ 64 * 1000 ∧ operandsOk i = true := by
  simpa [wellFormed, timeOk] using h

end Sys2Proof.Laws

namespace Sys2Proof.Laws.Reach

/-- What the family says of a command. -/
def Statement (i : Instr) : Prop :=
  (i.actsInReset = true → i.needsNoLane = true) ∧ (wellFormed i = true → i.time < 2 ^ 64 * 1000 ∧ operandsOk i = true)

theorem inputFanoutDelivery (t : Time) (words : List (BitVec 32)) (upsets : List (Lane × Nat × BitVec 33)) : Statement (.inputFanoutDelivery t words upsets) :=
  ⟨nofun, wellFormed_bounds⟩
theorem laneSelfDissent (t : Time) (lane : Lane) : Statement (.laneSelfDissent t lane) :=
  ⟨nofun, wellFormed_bounds⟩
theorem tokenArrival (t : Time) (lane : Lane) (tok : BitVec 128) (refl : ReflVerdict) : Statement (.tokenArrival t lane tok refl) :=
  ⟨nofun, wellFormed_bounds⟩
theorem agreementWindowClose (t : Time) (v : VoteId) (refl : ReflVerdict) : Statement (.agreementWindowClose t v refl) :=
  ⟨nofun, wellFormed_bounds⟩
theorem contentCopyComplete (t : Time) (v : VoteId) (content : List Byte) : Statement (.contentCopyComplete t v content) :=
  ⟨nofun, wellFormed_bounds⟩
theorem controlCycleBoundary (t : Time) (calib : Nat) (exercised : Bool) (dirty : List (Fin 4096)) : Statement (.controlCycleBoundary t calib exercised dirty) :=
  ⟨nofun, wellFormed_bounds⟩
theorem resyncFailed (t : Time) (lane : Lane) : Statement (.resyncFailed t lane) :=
  ⟨nofun, wellFormed_bounds⟩
theorem signatureComplete (t : Time) (lane : Lane) (refl : ReflVerdict) : Statement (.signatureComplete t lane refl) :=
  ⟨nofun, wellFormed_bounds⟩
theorem dissentEntryExpiry (t : Time) (lane : Lane) : Statement (.dissentEntryExpiry t lane) :=
  ⟨fun _ => rfl, wellFormed_bounds⟩
theorem deadStateScrub (t : Time) : Statement (.deadStateScrub t) :=
  ⟨nofun, wellFormed_bounds⟩
theorem safeOutputWatchdog (t : Time) (voter : Voter) : Statement (.safeOutputWatchdog t voter) :=
  ⟨nofun, wellFormed_bounds⟩
theorem safeStateBrakeDelay (t : Time) (brake : Fin 2) (voter : Voter) : Statement (.safeStateBrakeDelay t brake voter) :=
  ⟨fun _ => rfl, wellFormed_bounds⟩
theorem dutyToken (t : Time) (set : Fin 2) (leg : Fin 3) (slot : Bool) (compare : BitVec 32) (duty : F32) : Statement (.dutyToken t set leg slot compare duty) :=
  ⟨nofun, wellFormed_bounds⟩
theorem safeOutputToken (t : Time) (payload : BitVec 64) : Statement (.safeOutputToken t payload) :=
  ⟨nofun, wellFormed_bounds⟩
theorem switchRelease (t : Time) (ch : Fin 12) : Statement (.switchRelease t ch) :=
  ⟨nofun, wellFormed_bounds⟩
theorem offWithOffProfile (t : Time) (ch : Fin 12) : Statement (.offWithOffProfile t ch) :=
  ⟨nofun, wellFormed_bounds⟩
theorem softOff (t : Time) (ch : Fin 12) : Statement (.softOff t ch) :=
  ⟨nofun, wellFormed_bounds⟩
theorem staticOn (t : Time) (ch : Fin 12) : Statement (.staticOn t ch) :=
  ⟨nofun, wellFormed_bounds⟩
theorem duskInjection05Ma (t : Time) (ch : Fin 12) : Statement (.duskInjection05Ma t ch) :=
  ⟨nofun, wellFormed_bounds⟩
theorem duskInjection2Ma (t : Time) (ch : Fin 12) : Statement (.duskInjection2Ma t ch) :=
  ⟨nofun, wellFormed_bounds⟩
theorem duskInjectionStop (t : Time) (ch : Fin 12) : Statement (.duskInjectionStop t ch) :=
  ⟨nofun, wellFormed_bounds⟩
theorem clearFaultLatches (t : Time) (ch : Fin 12) (persists : List TripCause) : Statement (.clearFaultLatches t ch persists) :=
  ⟨nofun, wellFormed_bounds⟩
theorem resetAdaptedProfile (t : Time) (ch : Fin 12) : Statement (.resetAdaptedProfile t ch) :=
  ⟨nofun, wellFormed_bounds⟩
theorem invalidCommand (t : Time) (ch : Fin 12) (code : BitVec 8) : Statement (.invalidCommand t ch code) :=
  ⟨nofun, wellFormed_bounds⟩
theorem safeStateCommand (t : Time) (ch : Fin 12) : Statement (.safeStateCommand t ch) :=
  ⟨fun _ => rfl, wellFormed_bounds⟩
theorem powerUpResetEnd (t : Time) (b : BootInputs) : Statement (.powerUpResetEnd t b) :=
  ⟨fun _ => rfl, wellFormed_bounds⟩
theorem pllLockLoss (t : Time) : Statement (.pllLockLoss t) :=
  ⟨nofun, wellFormed_bounds⟩
theorem lanternRateCheck (t : Time) (ticksNs : Nat) : Statement (.lanternRateCheck t ticksNs) :=
  ⟨nofun, wellFormed_bounds⟩
theorem lanternTickMissing (t : Time) : Statement (.lanternTickMissing t) :=
  ⟨nofun, wellFormed_bounds⟩
theorem carrierValley (t : Time) (set : Fin 2) : Statement (.carrierValley t set) :=
  ⟨nofun, wellFormed_bounds⟩
theorem carrierPeak (t : Time) (set : Fin 2) : Statement (.carrierPeak t set) :=
  ⟨nofun, wellFormed_bounds⟩
theorem sampleArrival (t : Time) (set : Fin 2) (smp : Sample) : Statement (.sampleArrival t set smp) :=
  ⟨nofun, wellFormed_bounds⟩
theorem computationComplete (t : Time) (set : Fin 2) (lane : Lane) : Statement (.computationComplete t set lane) :=
  ⟨nofun, wellFormed_bounds⟩
theorem outerComputationComplete (t : Time) (lane : Lane) : Statement (.outerComputationComplete t lane) :=
  ⟨nofun, wellFormed_bounds⟩
theorem legEdge (t : Time) (set : Fin 2) (leg : Fin 3) : Statement (.legEdge t set leg) :=
  ⟨nofun, wellFormed_bounds⟩
theorem deadTimeElapsed (t : Time) (set : Fin 2) (leg : Fin 3) : Statement (.deadTimeElapsed t set leg) :=
  ⟨nofun, wellFormed_bounds⟩
theorem pulseEnable (t : Time) (set : Fin 2) : Statement (.pulseEnable t set) :=
  ⟨nofun, wellFormed_bounds⟩
theorem commitNextBoundary (t : Time) (rq : Req) : Statement (.commitNextBoundary t rq) :=
  ⟨nofun, wellFormed_bounds⟩
theorem commitAtBoundary (t : Time) (rq : Req) : Statement (.commitAtBoundary t rq) :=
  ⟨nofun, wellFormed_bounds⟩
theorem discardShadowBank (t : Time) (rq : Req) : Statement (.discardShadowBank t rq) :=
  ⟨nofun, wellFormed_bounds⟩
theorem histogramClear (t : Time) (rq : Req) (set : Fin 2) : Statement (.histogramClear t rq set) :=
  ⟨nofun, wellFormed_bounds⟩
theorem groveCommitPrepare (t : Time) (dom : Dom) : Statement (.groveCommitPrepare t dom) :=
  ⟨nofun, wellFormed_bounds⟩
theorem prepareAnswer (t : Time) (pos : Fin 8) (dom : Dom) (ok : Bool) : Statement (.prepareAnswer t pos dom ok) :=
  ⟨nofun, wellFormed_bounds⟩
theorem prepareTimeout (t : Time) (pos : Fin 8) (dom : Dom) : Statement (.prepareTimeout t pos dom) :=
  ⟨nofun, wellFormed_bounds⟩
theorem groveCommit (t : Time) (dom : Dom) (n : Nat) : Statement (.groveCommit t dom n) :=
  ⟨nofun, wellFormed_bounds⟩
theorem prepareLapse (t : Time) (dom : Dom) : Statement (.prepareLapse t dom) :=
  ⟨nofun, wellFormed_bounds⟩
theorem fastComparatorTrip (t : Time) (set : Fin 2) (input : Fin 6) (high : Bool) (bits : List Bool) : Statement (.fastComparatorTrip t set input high bits) :=
  ⟨nofun, wellFormed_bounds⟩
theorem modulatorStreamDead (t : Time) (set : Fin 2) (input : Fin 6) (last : Time) : Statement (.modulatorStreamDead t set input last) :=
  ⟨nofun, wellFormed_bounds⟩
theorem modulatorStreamRestored (t : Time) (set : Fin 2) (input : Fin 6) (bits : List Bool) : Statement (.modulatorStreamRestored t set input bits) :=
  ⟨nofun, wellFormed_bounds⟩
theorem terminalMeasurementDone (t : Time) (set : Fin 2) (stream : List (F32 × F32)) : Statement (.terminalMeasurementDone t set stream) :=
  ⟨nofun, wellFormed_bounds⟩
theorem indexPulse (t : Time) (pi : Fin 2) : Statement (.indexPulse t pi) :=
  ⟨nofun, wellFormed_bounds⟩
theorem positionWireBreak (t : Time) (pi : Fin 2) (pair : Fin 3) (volts : F32) (dur : Nat) (samples : Vector (F32 × F32) 3) : Statement (.positionWireBreak t pi pair volts dur samples) :=
  ⟨nofun, wellFormed_bounds⟩
theorem positionCountError (t : Time) (pi : Fin 2) (gap : Nat) : Statement (.positionCountError t pi gap) :=
  ⟨nofun, wellFormed_bounds⟩
theorem resolverExcitationOpen (t : Time) (pi : Fin 2) (rms : F32) (dur : Nat) : Statement (.resolverExcitationOpen t pi rms dur) :=
  ⟨nofun, wellFormed_bounds⟩
theorem resolverTrackingLoss (t : Time) (pi : Fin 2) (pair : F32 × F32) : Statement (.resolverTrackingLoss t pi pair) :=
  ⟨nofun, wellFormed_bounds⟩
theorem excitationSettleEnd (t : Time) (pi : Fin 2) : Statement (.excitationSettleEnd t pi) :=
  ⟨nofun, wellFormed_bounds⟩
theorem ainConversion (t : Time) (ain : Fin 8) (raw : F32) : Statement (.ainConversion t ain raw) :=
  ⟨nofun, wellFormed_bounds⟩
theorem leverTrackDiscrepancy (t : Time) (pair : Fin 4) : Statement (.leverTrackDiscrepancy t pair) :=
  ⟨nofun, wellFormed_bounds⟩
theorem leverPairAgreed (t : Time) (pair : Fin 4) : Statement (.leverPairAgreed t pair) :=
  ⟨nofun, wellFormed_bounds⟩
theorem dutyStall (t : Time) (set : Fin 2) : Statement (.dutyStall t set) :=
  ⟨nofun, wellFormed_bounds⟩
theorem swapForced (t : Time) (dom : Dom) (group : Nat) : Statement (.swapForced t dom group) :=
  ⟨nofun, wellFormed_bounds⟩
theorem historyReset (t : Time) (rq : Req) (slot : Fin 32) : Statement (.historyReset t rq slot) :=
  ⟨nofun, wellFormed_bounds⟩
theorem echoStart (t : Time) (rq : Req) : Statement (.echoStart t rq) :=
  ⟨nofun, wellFormed_bounds⟩
theorem echoAbort (t : Time) (rq : Req) : Statement (.echoAbort t rq) :=
  ⟨nofun, wellFormed_bounds⟩
theorem echoSettleEnd (t : Time) : Statement (.echoSettleEnd t) :=
  ⟨nofun, wellFormed_bounds⟩
theorem echoPointComplete (t : Time) : Statement (.echoPointComplete t) :=
  ⟨nofun, wellFormed_bounds⟩
theorem echoStep (t : Time) : Statement (.echoStep t) :=
  ⟨nofun, wellFormed_bounds⟩
theorem echoDurationEnd (t : Time) : Statement (.echoDurationEnd t) :=
  ⟨nofun, wellFormed_bounds⟩
theorem captureArm (t : Time) (rq : Req) : Statement (.captureArm t rq) :=
  ⟨nofun, wellFormed_bounds⟩
theorem reacquireTimeout (t : Time) (set : Fin 2) : Statement (.reacquireTimeout t set) :=
  ⟨nofun, wellFormed_bounds⟩
theorem speedMeasurementDone (t : Time) (set : Fin 2) : Statement (.speedMeasurementDone t set) :=
  ⟨nofun, wellFormed_bounds⟩
theorem probeScanDone (t : Time) (set : Fin 2) (first : List F32) (second : List F32) (emf : F32) : Statement (.probeScanDone t set first second emf) :=
  ⟨nofun, wellFormed_bounds⟩
theorem remeasure (t : Time) (set : Fin 2) : Statement (.remeasure t set) :=
  ⟨nofun, wellFormed_bounds⟩
theorem startWaitExpired (t : Time) (set : Fin 2) : Statement (.startWaitExpired t set) :=
  ⟨nofun, wellFormed_bounds⟩
theorem polarityPulseEnd (t : Time) (set : Fin 2) : Statement (.polarityPulseEnd t set) :=
  ⟨nofun, wellFormed_bounds⟩
theorem neutralPointDeviation (t : Time) (set : Fin 2) : Statement (.neutralPointDeviation t set) :=
  ⟨nofun, wellFormed_bounds⟩
theorem commandRun (t : Time) (rq : Req) (drv : Fin 2) : Statement (.commandRun t rq drv) :=
  ⟨nofun, wellFormed_bounds⟩
theorem commandStop (t : Time) (rq : Req) (drv : Fin 2) : Statement (.commandStop t rq drv) :=
  ⟨nofun, wellFormed_bounds⟩
theorem preTorqueHeld (t : Time) (drv : Fin 2) : Statement (.preTorqueHeld t drv) :=
  ⟨nofun, wellFormed_bounds⟩
theorem leverNeutralAccepted (t : Time) (drv : Fin 2) : Statement (.leverNeutralAccepted t drv) :=
  ⟨nofun, wellFormed_bounds⟩
theorem referenceTimeout (t : Time) (drv : Fin 2) : Statement (.referenceTimeout t drv) :=
  ⟨nofun, wellFormed_bounds⟩
theorem phaseBackSlow (t : Time) (drv : Fin 2) : Statement (.phaseBackSlow t drv) :=
  ⟨nofun, wellFormed_bounds⟩
theorem wrapsSet (t : Time) (rq : Req) (drv : Fin 2) (wraps : F32) : Statement (.wrapsSet t rq drv wraps) :=
  ⟨nofun, wellFormed_bounds⟩
theorem shockHoldEnd (t : Time) (drv : Fin 2) : Statement (.shockHoldEnd t drv) :=
  ⟨nofun, wellFormed_bounds⟩
theorem shockRecoveryEnd (t : Time) (drv : Fin 2) : Statement (.shockRecoveryEnd t drv) :=
  ⟨nofun, wellFormed_bounds⟩
theorem motionRecord (t : Time) (drv : Fin 2) (time : Nat) (pos vel acc : F32) (seq : BitVec 16) : Statement (.motionRecord t drv time pos vel acc seq) :=
  ⟨nofun, wellFormed_bounds⟩
theorem motionReferenceLost (t : Time) (drv : Fin 2) : Statement (.motionReferenceLost t drv) :=
  ⟨nofun, wellFormed_bounds⟩
theorem heaveFadeEnd (t : Time) (drv : Fin 2) : Statement (.heaveFadeEnd t drv) :=
  ⟨nofun, wellFormed_bounds⟩
theorem quickReleaseDemand (t : Time) (drv : Fin 2) : Statement (.quickReleaseDemand t drv) :=
  ⟨nofun, wellFormed_bounds⟩
theorem quickReleaseEnd (t : Time) (drv : Fin 2) : Statement (.quickReleaseEnd t drv) :=
  ⟨nofun, wellFormed_bounds⟩
theorem regenerationShortfall (t : Time) (drv : Fin 2) : Statement (.regenerationShortfall t drv) :=
  ⟨nofun, wellFormed_bounds⟩
theorem uplinkStatusFrame (t : Time) (ch : Fin 12) (fr : UplinkFrame) : Statement (.uplinkStatusFrame t ch fr) :=
  ⟨nofun, wellFormed_bounds⟩
theorem downlinkLoss (t : Time) (ch : Fin 12) : Statement (.downlinkLoss t ch) :=
  ⟨nofun, wellFormed_bounds⟩
theorem uplinkLoss (t : Time) (ch : Fin 12) : Statement (.uplinkLoss t ch) :=
  ⟨nofun, wellFormed_bounds⟩
theorem channelUplinkTimeout (t : Time) (ch : Fin 12) : Statement (.channelUplinkTimeout t ch) :=
  ⟨nofun, wellFormed_bounds⟩
theorem channelConfiguration (t : Time) (ch : Fin 12) (cfg : List Byte) (crc : BitVec 32) : Statement (.channelConfiguration t ch cfg crc) :=
  ⟨nofun, wellFormed_bounds⟩
theorem profilePhase1End (t : Time) (ch : Fin 12) : Statement (.profilePhase1End t ch) :=
  ⟨fun _ => rfl, wellFormed_bounds⟩
theorem edgeMeasurement (t : Time) (ch : Fin 12) (on : Bool) (time peak : F32) : Statement (.edgeMeasurement t ch on time peak) :=
  ⟨nofun, wellFormed_bounds⟩
theorem railValid (t : Time) (ch : Fin 12) (rail : GateRail) (volts : F32) : Statement (.railValid t ch rail volts) :=
  ⟨fun _ => rfl, wellFormed_bounds⟩
theorem railInvalid (t : Time) (ch : Fin 12) (rail : GateRail) (volts : F32) : Statement (.railInvalid t ch rail volts) :=
  ⟨fun _ => rfl, wellFormed_bounds⟩
theorem didtTrip (t : Time) (ch : Fin 12) (volts : F32) : Statement (.didtTrip t ch volts) :=
  ⟨nofun, wellFormed_bounds⟩
theorem rampWindowEnd (t : Time) (ch : Fin 12) : Statement (.rampWindowEnd t ch) :=
  ⟨fun _ => rfl, wellFormed_bounds⟩
theorem integratorTrip (t : Time) (ch : Fin 12) (course : List (F32 × Nat)) : Statement (.integratorTrip t ch course) :=
  ⟨nofun, wellFormed_bounds⟩
theorem desaturationTrip (t : Time) (ch : Fin 12) (volts : F32) : Statement (.desaturationTrip t ch volts) :=
  ⟨nofun, wellFormed_bounds⟩
theorem turnOffSequenceStep (t : Time) (set : Fin 2) : Statement (.turnOffSequenceStep t set) :=
  ⟨fun _ => rfl, wellFormed_bounds⟩
theorem gateOffConfirmed (t : Time) (ch : Fin 12) : Statement (.gateOffConfirmed t ch) :=
  ⟨nofun, wellFormed_bounds⟩
theorem legInterlockFault (t : Time) (set : Fin 2) (leg : Fin 3) : Statement (.legInterlockFault t set leg) :=
  ⟨nofun, wellFormed_bounds⟩
theorem swcmdTransition (t : Time) (ch : Fin 12) (high : Bool) : Statement (.swcmdTransition t ch high) :=
  ⟨fun _ => rfl, wellFormed_bounds⟩
theorem directEnable (t : Time) (rq : Req) (set : Fin 2) (on : Bool) : Statement (.directEnable t rq set on) :=
  ⟨nofun, wellFormed_bounds⟩
theorem setConfirmedOff (t : Time) (set : Fin 2) (persists : List (Fin 12 × TripCause)) : Statement (.setConfirmedOff t set persists) :=
  ⟨nofun, wellFormed_bounds⟩
theorem retryWaitEnd (t : Time) (set : Fin 2) : Statement (.retryWaitEnd t set) :=
  ⟨nofun, wellFormed_bounds⟩
theorem tripHistoryExpiry (t : Time) (set : Fin 2) : Statement (.tripHistoryExpiry t set) :=
  ⟨fun _ => rfl, wellFormed_bounds⟩
theorem ntcConversion (t : Time) (ch : Fin 12) (volts : F32) : Statement (.ntcConversion t ch volts) :=
  ⟨nofun, wellFormed_bounds⟩
theorem duskRun (t : Time) (rq : Req) (set : Fin 2) : Statement (.duskRun t rq set) :=
  ⟨nofun, wellFormed_bounds⟩
theorem duskStepEnd (t : Time) (set : Fin 2) (rd : DuskReading) : Statement (.duskStepEnd t set rd) :=
  ⟨nofun, wellFormed_bounds⟩
theorem darkPulseStart (t : Time) (tp : Fin 2) : Statement (.darkPulseStart t tp) :=
  ⟨fun _ => rfl, wellFormed_bounds⟩
theorem darkPulseEnd (t : Time) (tp : Fin 2) (rd : List DarkReading) : Statement (.darkPulseEnd t tp rd) :=
  ⟨fun _ => rfl, wellFormed_bounds⟩
theorem safeInputChannelDemand (t : Time) (si : Fin 6) (ch : Fin 2) (since : Time) : Statement (.safeInputChannelDemand t si ch since) :=
  ⟨nofun, wellFormed_bounds⟩
theorem safeInputChannelClear (t : Time) (si : Fin 6) (ch : Fin 2) (since : Time) : Statement (.safeInputChannelClear t si ch since) :=
  ⟨nofun, wellFormed_bounds⟩
theorem safeInputDiscrepancy (t : Time) (si : Fin 6) : Statement (.safeInputDiscrepancy t si) :=
  ⟨nofun, wellFormed_bounds⟩
theorem safeInputStateKnown (t : Time) (si : Fin 6) : Statement (.safeInputStateKnown t si) :=
  ⟨nofun, wellFormed_bounds⟩
theorem stoFeedDischarged (t : Time) (fbn : Bool) : Statement (.stoFeedDischarged t fbn) :=
  ⟨nofun, wellFormed_bounds⟩
theorem stoReleaseStep (t : Time) (fbp fbn : Bool) : Statement (.stoReleaseStep t fbp fbn) :=
  ⟨nofun, wellFormed_bounds⟩
theorem stoDischargeTimeout (t : Time) : Statement (.stoDischargeTimeout t) :=
  ⟨nofun, wellFormed_bounds⟩
theorem stoFeedbackDeviation (t : Time) (fbp fbn : Bool) (since : Time) : Statement (.stoFeedbackDeviation t fbp fbn since) :=
  ⟨nofun, wellFormed_bounds⟩
theorem ss1Standstill (t : Time) (drv : Fin 2) : Statement (.ss1Standstill t drv) :=
  ⟨nofun, wellFormed_bounds⟩
theorem ss1TimeElapsed (t : Time) (drv : Fin 2) : Statement (.ss1TimeElapsed t drv) :=
  ⟨nofun, wellFormed_bounds⟩
theorem brakeApplyTimeEnd (t : Time) (drv : Fin 2) : Statement (.brakeApplyTimeEnd t drv) :=
  ⟨nofun, wellFormed_bounds⟩
theorem brakeReleaseCheck (t : Time) (brake : Fin 2) (isns : F32) (fbp fbn : Bool) : Statement (.brakeReleaseCheck t brake isns fbp fbn) :=
  ⟨nofun, wellFormed_bounds⟩
theorem brakeHoldFault (t : Time) (brake : Fin 2) (isns : F32) (since : Time) : Statement (.brakeHoldFault t brake isns since) :=
  ⟨nofun, wellFormed_bounds⟩
theorem brakeOvercurrent (t : Time) (brake : Fin 2) (isns : F32) : Statement (.brakeOvercurrent t brake isns) :=
  ⟨nofun, wellFormed_bounds⟩
theorem brakeApplyCheck (t : Time) (brake : Fin 2) (isns : F32) (fbp : Bool) : Statement (.brakeApplyCheck t brake isns fbp) :=
  ⟨nofun, wellFormed_bounds⟩
theorem brakeSwitchTest (t : Time) (brake : Fin 2) : Statement (.brakeSwitchTest t brake) :=
  ⟨nofun, wellFormed_bounds⟩
theorem brakeTestPulseEnd (t : Time) (brake : Fin 2) (fbp fbn : Bool) : Statement (.brakeTestPulseEnd t brake fbp fbn) :=
  ⟨nofun, wellFormed_bounds⟩
theorem sbtRun (t : Time) (rq : Req) (brake : Fin 2) : Statement (.sbtRun t rq brake) :=
  ⟨nofun, wellFormed_bounds⟩
theorem sbtPhaseEnd (t : Time) (brake : Fin 2) : Statement (.sbtPhaseEnd t brake) :=
  ⟨nofun, wellFormed_bounds⟩
theorem sbtDue (t : Time) (brake : Fin 2) : Statement (.sbtDue t brake) :=
  ⟨nofun, wellFormed_bounds⟩
theorem brakeTestOverdue (t : Time) (brake : Fin 2) : Statement (.brakeTestOverdue t brake) :=
  ⟨nofun, wellFormed_bounds⟩
theorem rstbtnDebounced (t : Time) (closed : Bool) : Statement (.rstbtnDebounced t closed) :=
  ⟨nofun, wellFormed_bounds⟩
theorem resetHeld (t : Time) : Statement (.resetHeld t) :=
  ⟨nofun, wellFormed_bounds⟩
theorem sealConfirm (t : Time) (rq : Req) (value : BitVec 32) : Statement (.sealConfirm t rq value) :=
  ⟨nofun, wellFormed_bounds⟩
theorem sealConfirmationExpired (t : Time) : Statement (.sealConfirmationExpired t) :=
  ⟨nofun, wellFormed_bounds⟩
theorem isfFrame (t : Time) (conn : Fin 4) (frame : List Byte) : Statement (.isfFrame t conn frame) :=
  ⟨nofun, wellFormed_bounds⟩
theorem isfTimeout (t : Time) (conn : Fin 4) : Statement (.isfTimeout t conn) :=
  ⟨nofun, wellFormed_bounds⟩
theorem isfProducerCycle (t : Time) (conn : Fin 4) : Statement (.isfProducerCycle t conn) :=
  ⟨nofun, wellFormed_bounds⟩
theorem groveStopDemand (t : Time) (aLow bLow : Bool) (since : Time) : Statement (.groveStopDemand t aLow bLow since) :=
  ⟨nofun, wellFormed_bounds⟩
theorem groveStopLineFault (t : Time) (line : Fin 2) : Statement (.groveStopLineFault t line) :=
  ⟨nofun, wellFormed_bounds⟩
theorem groveStopLineTestStep (t : Time) (reads : List (Bool × Bool)) : Statement (.groveStopLineTestStep t reads) :=
  ⟨nofun, wellFormed_bounds⟩
theorem emptyPacket (t : Time) (port : Fin 2) (h : PacketHeader) : Statement (.emptyPacket t port h) :=
  ⟨nofun, wellFormed_bounds⟩
theorem emptyPacketTimer (t : Time) (port : Fin 2) : Statement (.emptyPacketTimer t port) :=
  ⟨nofun, wellFormed_bounds⟩
theorem linkNak (t : Time) (port : Fin 2) (k : NakKind) : Statement (.linkNak t port k) :=
  ⟨nofun, wellFormed_bounds⟩
theorem replayTimeout (t : Time) (port : Fin 2) : Statement (.replayTimeout t port) :=
  ⟨nofun, wellFormed_bounds⟩
theorem forwardedPacket (t : Time) (port : Fin 2) (h : PacketHeader) (payload : List Byte) (crc : BitVec 32) : Statement (.forwardedPacket t port h payload crc) :=
  ⟨nofun, wellFormed_bounds⟩
theorem canopyLaneDown (t : Time) (port : Fin 2) (lane : Fin 2) : Statement (.canopyLaneDown t port lane) :=
  ⟨nofun, wellFormed_bounds⟩
theorem canopyPortDown (t : Time) (port : Fin 2) (since : Time) : Statement (.canopyPortDown t port since) :=
  ⟨nofun, wellFormed_bounds⟩
theorem canopyPortUp (t : Time) (port : Fin 2) (neighbour : Fin 8) (idleSince : Time) : Statement (.canopyPortUp t port neighbour idleSince) :=
  ⟨nofun, wellFormed_bounds⟩
theorem portSelfCheck (t : Time) (port : Fin 2) (ok : Bool) : Statement (.portSelfCheck t port ok) :=
  ⟨nofun, wellFormed_bounds⟩
theorem hello (t : Time) (src : Fin 8) (h : Hello) : Statement (.hello t src h) :=
  ⟨nofun, wellFormed_bounds⟩
theorem helloTimer (t : Time) : Statement (.helloTimer t) :=
  ⟨nofun, wellFormed_bounds⟩
theorem formTimeExpiry (t : Time) : Statement (.formTimeExpiry t) :=
  ⟨nofun, wellFormed_bounds⟩
theorem joinReq (t : Time) (src : Fin 8) (h : Hello) : Statement (.joinReq t src h) :=
  ⟨nofun, wellFormed_bounds⟩
theorem joinAnswer (t : Time) (code : BitVec 8) (map : BitVec 8) (period : Nat) (n tN : Nat) (bank : List (Nat × List Byte)) : Statement (.joinAnswer t code map period n tN bank) :=
  ⟨nofun, wellFormed_bounds⟩
theorem joinRetry (t : Time) : Statement (.joinRetry t) :=
  ⟨nofun, wellFormed_bounds⟩
theorem groveBoundary (t : Time) : Statement (.groveBoundary t) :=
  ⟨nofun, wellFormed_bounds⟩
theorem boundary (t : Time) (src : Fin 8) (n tN : Nat) (map : BitVec 8) (mode : BitVec 8) : Statement (.boundary t src n tN map mode) :=
  ⟨nofun, wellFormed_bounds⟩
theorem linkState (t : Time) (src : Fin 8) (east west : BitVec 8) : Statement (.linkState t src east west) :=
  ⟨nofun, wellFormed_bounds⟩
theorem sync (t : Time) (src : Fin 8) (port : Fin 2) (tN corr : Nat) : Statement (.sync t src port tN corr) :=
  ⟨nofun, wellFormed_bounds⟩
theorem linkDelayTimer (t : Time) : Statement (.linkDelayTimer t) :=
  ⟨nofun, wellFormed_bounds⟩
theorem delayRequest (t : Time) (port : Fin 2) (t1 : Nat) : Statement (.delayRequest t port t1) :=
  ⟨nofun, wellFormed_bounds⟩
theorem delayResponse (t : Time) (port : Fin 2) (t1 t2 t3 : Nat) : Statement (.delayResponse t port t1 t2 t3) :=
  ⟨nofun, wellFormed_bounds⟩
theorem status (t : Time) (src : Fin 8) (st : StatusMsg) : Statement (.status t src st) :=
  ⟨nofun, wellFormed_bounds⟩
theorem memberLost (t : Time) (pos : Fin 8) : Statement (.memberLost t pos) :=
  ⟨nofun, wellFormed_bounds⟩
theorem leaderLost (t : Time) : Statement (.leaderLost t) :=
  ⟨nofun, wellFormed_bounds⟩
theorem claim (t : Time) (src : Fin 8) (selfCheck : Bool) (reach : BitVec 8) (holding : Nat) (relSeq relAmt : Nat) : Statement (.claim t src selfCheck reach holding relSeq relAmt) :=
  ⟨nofun, wellFormed_bounds⟩
theorem claimWindowEnd (t : Time) : Statement (.claimWindowEnd t) :=
  ⟨nofun, wellFormed_bounds⟩
theorem takeover (t : Time) (src : Fin 8) (n tN : Nat) (map : BitVec 8) (mode : BitVec 8) (nextSeq : Nat) : Statement (.takeover t src n tN map mode nextSeq) :=
  ⟨nofun, wellFormed_bounds⟩
theorem share (t : Time) (src : Fin 8) (applyTime : Nat) (total : F32) (refs : List F32) : Statement (.share t src applyTime total refs) :=
  ⟨nofun, wellFormed_bounds⟩
theorem grant (t : Time) (src : Fin 8) (sq amt : Nat) : Statement (.grant t src sq amt) :=
  ⟨nofun, wellFormed_bounds⟩
theorem grantAck (t : Time) (src : Fin 8) (sq : Nat) : Statement (.grantAck t src sq) :=
  ⟨nofun, wellFormed_bounds⟩
theorem releaseReq (t : Time) (src : Fin 8) (sq amt : Nat) : Statement (.releaseReq t src sq amt) :=
  ⟨nofun, wellFormed_bounds⟩
theorem release (t : Time) (src : Fin 8) (sq amt : Nat) : Statement (.release t src sq amt) :=
  ⟨nofun, wellFormed_bounds⟩
theorem releaseAck (t : Time) (src : Fin 8) (sq : Nat) : Statement (.releaseAck t src sq) :=
  ⟨nofun, wellFormed_bounds⟩
theorem transferResend (t : Time) (sq : Nat) : Statement (.transferResend t sq) :=
  ⟨nofun, wellFormed_bounds⟩
theorem auditReport (t : Time) (src : Fin 8) (n holding lastSeq : Nat) : Statement (.auditReport t src n holding lastSeq) :=
  ⟨nofun, wellFormed_bounds⟩
theorem auditDeadline (t : Time) : Statement (.auditDeadline t) :=
  ⟨nofun, wellFormed_bounds⟩
theorem leaseExpiry (t : Time) : Statement (.leaseExpiry t) :=
  ⟨nofun, wellFormed_bounds⟩
theorem expiringTokensReturn (t : Time) (pos : Fin 8) : Statement (.expiringTokensReturn t pos) :=
  ⟨nofun, wellFormed_bounds⟩
theorem tokensTotalWrite (t : Time) (rq : Req) (total : Nat) : Statement (.tokensTotalWrite t rq total) :=
  ⟨nofun, wellFormed_bounds⟩
theorem standLeaseExpiry (t : Time) : Statement (.standLeaseExpiry t) :=
  ⟨nofun, wellFormed_bounds⟩
theorem forwardedRequest (t : Time) (src : Fin 8) (answer : Bool) (role : Fin 5) (pdu : List Byte) : Statement (.forwardedRequest t src answer role pdu) :=
  ⟨nofun, wellFormed_bounds⟩
theorem forwardTimeout (t : Time) (rq : Req) : Statement (.forwardTimeout t rq) :=
  ⟨nofun, wellFormed_bounds⟩
theorem ethernetPortDown (t : Time) (port : Fin 2) : Statement (.ethernetPortDown t port) :=
  ⟨nofun, wellFormed_bounds⟩
theorem ethernetPortUp (t : Time) (port : Fin 2) (speed : Fin 3) (full : Bool) : Statement (.ethernetPortUp t port speed full) :=
  ⟨nofun, wellFormed_bounds⟩
theorem frameForward (t : Time) (port : Fin 2) (frame : List Byte) : Statement (.frameForward t port frame) :=
  ⟨nofun, wellFormed_bounds⟩
theorem mrpFrame (t : Time) (port : Fin 2) (k : MrpKind) : Statement (.mrpFrame t port k) :=
  ⟨nofun, wellFormed_bounds⟩
theorem gptpSync (t : Time) (gm : BitVec 64) (time : Nat) : Statement (.gptpSync t gm time) :=
  ⟨nofun, wellFormed_bounds⟩
theorem gptpSyncTimeout (t : Time) : Statement (.gptpSyncTimeout t) :=
  ⟨nofun, wellFormed_bounds⟩
theorem gateControlChange (t : Time) (port : Fin 2) : Statement (.gateControlChange t port) :=
  ⟨nofun, wellFormed_bounds⟩
theorem processData (t : Time) (src : Source) (counter : BitVec 16) (body : List Byte) : Statement (.processData t src counter body) :=
  ⟨nofun, wellFormed_bounds⟩
theorem networkBoundary (t : Time) : Statement (.networkBoundary t) :=
  ⟨nofun, wellFormed_bounds⟩
theorem pdTransmit (t : Time) : Statement (.pdTransmit t) :=
  ⟨nofun, wellFormed_bounds⟩
theorem processDataTimeout (t : Time) : Statement (.processDataTimeout t) :=
  ⟨nofun, wellFormed_bounds⟩
theorem pdControl (t : Time) (rq : Req) (run : Bool) : Statement (.pdControl t rq run) :=
  ⟨nofun, wellFormed_bounds⟩
theorem read (t : Time) (rq : Req) (unit : BitVec 48) (index : BitVec 16) (sub : BitVec 8) (shadow : Bool) : Statement (.read t rq unit index sub shadow) :=
  ⟨nofun, wellFormed_bounds⟩
theorem write (t : Time) (rq : Req) (unit : BitVec 48) (index : BitVec 16) (sub : BitVec 8) (value : List Byte) : Statement (.write t rq unit index sub value) :=
  ⟨nofun, wellFormed_bounds⟩
theorem connect (t : Time) (rq : Req) (sub : BitVec 8) (name : List Byte) : Statement (.connect t rq sub name) :=
  ⟨nofun, wellFormed_bounds⟩
theorem loginStep1 (t : Time) (rq : Req) (role : BitVec 8) : Statement (.loginStep1 t rq role) :=
  ⟨nofun, wellFormed_bounds⟩
theorem loginStep2 (t : Time) (rq : Req) (proof : List Byte) : Statement (.loginStep2 t rq proof) :=
  ⟨nofun, wellFormed_bounds⟩
theorem loginBlockEnd (t : Time) (src : Source) : Statement (.loginBlockEnd t src) :=
  ⟨nofun, wellFormed_bounds⟩
theorem logout (t : Time) (rq : Req) : Statement (.logout t rq) :=
  ⟨nofun, wellFormed_bounds⟩
theorem malformedPdu (t : Time) (pdu : List Byte) : Statement (.malformedPdu t pdu) :=
  ⟨nofun, wellFormed_bounds⟩
theorem arpRequest (t : Time) (ip : BitVec 32) (mac : BitVec 48) (asker : BitVec 32) : Statement (.arpRequest t ip mac asker) :=
  ⟨nofun, wellFormed_bounds⟩
theorem icmpEcho (t : Time) (src : BitVec 32) (data : List Byte) : Statement (.icmpEcho t src data) :=
  ⟨nofun, wellFormed_bounds⟩
theorem connectionTimeout (t : Time) (handle : BitVec 16) : Statement (.connectionTimeout t handle) :=
  ⟨nofun, wellFormed_bounds⟩
theorem sessionOpen (t : Time) (rq : Req) (o : OpenArgs) : Statement (.sessionOpen t rq o) :=
  ⟨nofun, wellFormed_bounds⟩
theorem sessionData (t : Time) (rq : Req) (sid : BitVec 32) (sq : BitVec 16) (offset : Nat) (data : List Byte) : Statement (.sessionData t rq sid sq offset data) :=
  ⟨nofun, wellFormed_bounds⟩
theorem sessionAck (t : Time) (rq : Req) (sid : BitVec 32) (next : BitVec 16) : Statement (.sessionAck t rq sid next) :=
  ⟨nofun, wellFormed_bounds⟩
theorem sessionNak (t : Time) (rq : Req) (sid : BitVec 32) (next : BitVec 16) : Statement (.sessionNak t rq sid next) :=
  ⟨nofun, wellFormed_bounds⟩
theorem sessionFinish (t : Time) (rq : Req) (sid : BitVec 32) : Statement (.sessionFinish t rq sid) :=
  ⟨nofun, wellFormed_bounds⟩
theorem sessionAbort (t : Time) (rq : Req) (sid : BitVec 32) (code : BitVec 8) : Statement (.sessionAbort t rq sid code) :=
  ⟨nofun, wellFormed_bounds⟩
theorem sessionRetryTimeout (t : Time) (sid : BitVec 32) : Statement (.sessionRetryTimeout t sid) :=
  ⟨nofun, wellFormed_bounds⟩
theorem sessionIdleTimeout (t : Time) (sid : BitVec 32) : Statement (.sessionIdleTimeout t sid) :=
  ⟨nofun, wellFormed_bounds⟩
theorem fwActivate (t : Time) (rq : Req) (slot : Fin 2) : Statement (.fwActivate t rq slot) :=
  ⟨nofun, wellFormed_bounds⟩
theorem fwConfirm (t : Time) (rq : Req) : Statement (.fwConfirm t rq) :=
  ⟨nofun, wellFormed_bounds⟩
theorem usbAttach (t : Time) : Statement (.usbAttach t) :=
  ⟨nofun, wellFormed_bounds⟩
theorem usbDetach (t : Time) : Statement (.usbDetach t) :=
  ⟨nofun, wellFormed_bounds⟩
theorem bankStore (t : Time) (rq : Req) (n : Fin 4) : Statement (.bankStore t rq n) :=
  ⟨nofun, wellFormed_bounds⟩
theorem bankActivate (t : Time) (rq : Req) (n : Fin 4) : Statement (.bankActivate t rq n) :=
  ⟨nofun, wellFormed_bounds⟩
theorem bankRestoreDefaults (t : Time) (rq : Req) : Statement (.bankRestoreDefaults t rq) :=
  ⟨nofun, wellFormed_bounds⟩
theorem bankErase (t : Time) (rq : Req) (n : Fin 4) : Statement (.bankErase t rq n) :=
  ⟨nofun, wellFormed_bounds⟩
theorem entryWrite (t : Time) (rq : Req) (index : BitVec 16) (sub : BitVec 8) (value : List Byte) : Statement (.entryWrite t rq index sub value) :=
  ⟨nofun, wellFormed_bounds⟩
theorem laneSupplyFault (t : Time) (lane : Lane) (volts : F32) (since : Time) : Statement (.laneSupplyFault t lane volts since) :=
  ⟨nofun, wellFormed_bounds⟩
theorem laneRailRestored (t : Time) (lane : Lane) (volts : F32) (since : Time) : Statement (.laneRailRestored t lane volts since) :=
  ⟨nofun, wellFormed_bounds⟩
theorem laneRailMismatch (t : Time) (a b c : F32) (since : Time) : Statement (.laneRailMismatch t a b c since) :=
  ⟨nofun, wellFormed_bounds⟩
theorem mainRailFault (t : Time) (rail : MainRail) (volts : F32) (since : Time) : Statement (.mainRailFault t rail volts since) :=
  ⟨nofun, wellFormed_bounds⟩
theorem analogSupplyFault (t : Time) (volts : F32) (since : Time) : Statement (.analogSupplyFault t volts since) :=
  ⟨nofun, wellFormed_bounds⟩
theorem analogSupplyRestored (t : Time) (volts : F32) (since : Time) : Statement (.analogSupplyRestored t volts since) :=
  ⟨nofun, wellFormed_bounds⟩
theorem phySupplyFault (t : Time) (rail : Fin 2) (volts : F32) (since : Time) : Statement (.phySupplyFault t rail volts since) :=
  ⟨nofun, wellFormed_bounds⟩
theorem mainRailsFailedToStart (t : Time) : Statement (.mainRailsFailedToStart t) :=
  ⟨fun _ => rfl, wellFormed_bounds⟩
theorem mainRailsRetry (t : Time) : Statement (.mainRailsRetry t) :=
  ⟨fun _ => rfl, wellFormed_bounds⟩
theorem powerFail (t : Time) (cause : PowerFailCause) (since : Time) : Statement (.powerFail t cause since) :=
  ⟨nofun, wellFormed_bounds⟩
theorem sleepRequest (t : Time) (rq : Req) : Statement (.sleepRequest t rq) :=
  ⟨nofun, wellFormed_bounds⟩
theorem idleSleepTimeout (t : Time) : Statement (.idleSleepTimeout t) :=
  ⟨nofun, wellFormed_bounds⟩
theorem lanternPowerOnReset (t : Time) : Statement (.lanternPowerOnReset t) :=
  ⟨fun _ => rfl, wellFormed_bounds⟩
theorem lanternSample (t : Time) (ls : LanternInputs) : Statement (.lanternSample t ls) :=
  ⟨fun _ => rfl, wellFormed_bounds⟩
theorem lanternAcknowledge (t : Time) (rq : Req) : Statement (.lanternAcknowledge t rq) :=
  ⟨nofun, wellFormed_bounds⟩
theorem temperatureReading (t : Time) (sensor : TempSensor) (temp : F32) : Statement (.temperatureReading t sensor temp) :=
  ⟨nofun, wellFormed_bounds⟩
theorem nvRecordComplete (t : Time) : Statement (.nvRecordComplete t) :=
  ⟨nofun, wellFormed_bounds⟩
theorem nvScrub (t : Time) (corrected : Nat) (bad : List Nat) : Statement (.nvScrub t corrected bad) :=
  ⟨nofun, wellFormed_bounds⟩
theorem faultReset (t : Time) (rq : Req) : Statement (.faultReset t rq) :=
  ⟨nofun, wellFormed_bounds⟩
theorem groveStopLinesReleased (t : Time) : Statement (.groveStopLinesReleased t) :=
  ⟨nofun, wellFormed_bounds⟩
theorem encoderEdge (t : Time) (pi : Fin 2) (forward : Bool) (lantern : Bool) (stable : Nat) : Statement (.encoderEdge t pi forward lantern stable) :=
  ⟨fun _ => rfl, wellFormed_bounds⟩
theorem gptpAnnounce (t : Time) (gm : BitVec 64) (better : Bool) : Statement (.gptpAnnounce t gm better) :=
  ⟨nofun, wellFormed_bounds⟩
theorem phySupplyRestored (t : Time) (rail : Fin 2) (volts : F32) : Statement (.phySupplyRestored t rail volts) :=
  ⟨nofun, wellFormed_bounds⟩
theorem powerFailReleased (t : Time) : Statement (.powerFailReleased t) :=
  ⟨nofun, wellFormed_bounds⟩
theorem fallbackSwitchesChanged (t : Time) : Statement (.fallbackSwitchesChanged t) :=
  ⟨nofun, wellFormed_bounds⟩
theorem standSilentGroveReassign (t : Time) (grove : BitVec 8) (heard : Nat) : Statement (.standSilentGroveReassign t grove heard) :=
  ⟨nofun, wellFormed_bounds⟩
theorem groveSleepOrder (t : Time) (src : Fin 8) (n : Nat) : Statement (.groveSleepOrder t src n) :=
  ⟨nofun, wellFormed_bounds⟩
theorem groveSleepRefusal (t : Time) (src : Fin 8) : Statement (.groveSleepRefusal t src) :=
  ⟨nofun, wellFormed_bounds⟩
theorem groveFirmwareSlotValid (t : Time) (src : Fin 8) : Statement (.groveFirmwareSlotValid t src) :=
  ⟨nofun, wellFormed_bounds⟩

end Sys2Proof.Laws.Reach
end

