-- ==== Sys2Proof/Laws/Requests.lean ====
section
/-! SUPPORT. What a served request comes to, said once: the statements on request rows cite these and never unfold the service. -/

set_option Elab.async false

namespace Sys2Proof.Laws

open Sys2Proof.Machine

/-- A served request reaches its effect, after its connection was touched (R361, R365). -/
theorem serveOnce_serves {m : Mach} {kind : Nat} {rq : Req} {c : Conn} (f : Conn → Mach → Mach) (h : m.serves rq c) :
    serveOnce kind rq f m = f c (touch rq m) := by
  obtain ⟨hl, ht, hc, ha, ho⟩ := h
  have ho' : ¬ (4 ≤ (touch rq m).outstanding rq.handle) := by
    have : (touch rq m).outstanding rq.handle = m.outstanding rq.handle := rfl
    omega
  simp only [serveOnce, serve, whenLanes, hl, if_true, toConn, ht, hc]
  simp
  split
  · rename_i rid st b e
    have : rid ≠ rq.rid := by intro he; apply ha; rw [e, he]; rfl
    simp [this, ho']
  · simp [ho']

/-- The all-ones unit name is this device. -/
theorem place_all_ones (m : Mach) : m.place (BitVec.ofNat 48 (2 ^ 48 - 1)) = .here .device := by
  simp [Mach.place]

/-- An accepted write of an entry of the device does what the entry does and is answered with its status (R363, R395). -/
theorem writeHere_accepted {m e : Mach} {rq : Req} {c : Conn} {k st : Nat} {b : List Byte} {v : Val}
    (h : m.accepts rq c k b v) (hu : k / 256 ≠ 0x2840) (hk : k ≠ Key.fwActivate)
    (hp : perform rq c.role k v (touch rq m) = (e, some st)) : writeHere rq k b m = reply 3 rq st [] e := by
  obtain ⟨hs, hw⟩ := h
  simp only [writeHere, writeEff]
  rw [serveOnce_serves _ hs]
  simp only [place_all_ones, writeUnit, Mach.unitTarget, hu, ne_eq, not_false_eq_true, if_true, reduceCtorEq, false_and, if_false, writeEntry, hw, hp]
  simp [afterAnswer, hk]

/-- An accepted write whose answer comes later only does what the entry does (R384). -/
theorem writeHere_accepted_later {m e : Mach} {rq : Req} {c : Conn} {k : Nat} {b : List Byte} {v : Val}
    (h : m.accepts rq c k b v) (hu : k / 256 ≠ 0x2840)
    (hp : perform rq c.role k v (touch rq m) = (e, none)) : writeHere rq k b m = e := by
  obtain ⟨hs, hw⟩ := h
  simp only [writeHere, writeEff]
  rw [serveOnce_serves _ hs]
  simp only [place_all_ones, writeUnit, Mach.unitTarget, hu, ne_eq, not_false_eq_true, if_true, reduceCtorEq, false_and, if_false, writeEntry, hw, hp]

/-- A write that fails a check of R395 is answered with its status and does nothing (R363). -/
theorem writeHere_refused {m : Mach} {rq : Req} {c : Conn} {k st : Nat} {b : List Byte}
    (hs : m.serves rq c) (hw : (touch rq m).writeOf k b c.role = .error st) (hu : k / 256 ≠ 0x2840) :
    writeHere rq k b m = reply 3 rq st [] (touch rq m) := by
  simp only [writeHere, writeEff]
  rw [serveOnce_serves _ hs]
  simp only [place_all_ones, writeUnit, Mach.unitTarget, hu, ne_eq, not_false_eq_true, if_true, reduceCtorEq, false_and, if_false, writeEntry, hw]

end Sys2Proof.Laws
end

