-- ==== Sys2Proof/Laws/State.lean ====
section
/-! SUPPORT. Each field of the state after each operation that changes one part of it: later proofs unfold no record update. -/

set_option Elab.async false

namespace Sys2Proof.Laws

open Sys2Proof.Machine

@[simp] theorem at_now (m : Mach) (t : Time) : (m.at_ t).now = max m.now t := rfl
@[simp] theorem at_live (m : Mach) (t : Time) : (m.at_ t).live = m.live := rfl
@[simp] theorem at_shadow (m : Mach) (t : Time) : (m.at_ t).shadow = m.shadow := rfl
@[simp] theorem at_up (m : Mach) (t : Time) : (m.at_ t).up = m.up := rfl
@[simp] theorem at_clr (m : Mach) (t : Time) : (m.at_ t).clr = m.clr := rfl
@[simp] theorem at_voters (m : Mach) (t : Time) : (m.at_ t).voters = m.voters := rfl
@[simp] theorem at_pwm (m : Mach) (t : Time) : (m.at_ t).pwm = m.pwm := rfl
@[simp] theorem at_ch (m : Mach) (t : Time) : (m.at_ t).ch = m.ch := rfl
@[simp] theorem at_gate (m : Mach) (t : Time) : (m.at_ t).gate = m.gate := rfl
@[simp] theorem at_safety (m : Mach) (t : Time) : (m.at_ t).safety = m.safety := rfl
@[simp] theorem at_drives (m : Mach) (t : Time) : (m.at_ t).drives = m.drives := rfl
@[simp] theorem at_ev (m : Mach) (t : Time) : (m.at_ t).ev = m.ev := rfl
@[simp] theorem at_doms (m : Mach) (t : Time) : (m.at_ t).doms = m.doms := rfl
@[simp] theorem at_gcommits (m : Mach) (t : Time) : (m.at_ t).gcommits = m.gcommits := rfl
@[simp] theorem at_sense (m : Mach) (t : Time) : (m.at_ t).sense = m.sense := rfl
@[simp] theorem at_pos (m : Mach) (t : Time) : (m.at_ t).pos = m.pos := rfl
@[simp] theorem at_ain (m : Mach) (t : Time) : (m.at_ t).ain = m.ain := rfl
@[simp] theorem at_ainLast (m : Mach) (t : Time) : (m.at_ t).ainLast = m.ainLast := rfl
@[simp] theorem at_pairs (m : Mach) (t : Time) : (m.at_ t).pairs = m.pairs := rfl
@[simp] theorem at_slots (m : Mach) (t : Time) : (m.at_ t).slots = m.slots := rfl
@[simp] theorem at_signals (m : Mach) (t : Time) : (m.at_ t).signals = m.signals := rfl
@[simp] theorem at_eng (m : Mach) (t : Time) : (m.at_ t).eng = m.eng := rfl
@[simp] theorem at_mc (m : Mach) (t : Time) : (m.at_ t).mc = m.mc := rfl
@[simp] theorem at_outer (m : Mach) (t : Time) : (m.at_ t).outer = m.outer := rfl
@[simp] theorem at_echo (m : Mach) (t : Time) : (m.at_ t).echo = m.echo := rfl
@[simp] theorem at_capture (m : Mach) (t : Time) : (m.at_ t).capture = m.capture := rfl
@[simp] theorem at_nv (m : Mach) (t : Time) : (m.at_ t).nv = m.nv := rfl
@[simp] theorem at_lantern (m : Mach) (t : Time) : (m.at_ t).lantern = m.lantern := rfl
@[simp] theorem at_sleep (m : Mach) (t : Time) : (m.at_ t).sleep = m.sleep := rfl
@[simp] theorem at_thermal (m : Mach) (t : Time) : (m.at_ t).thermal = m.thermal := rfl
@[simp] theorem at_canopy (m : Mach) (t : Time) : (m.at_ t).canopy = m.canopy := rfl
@[simp] theorem at_grove (m : Mach) (t : Time) : (m.at_ t).grove = m.grove := rfl
@[simp] theorem at_net (m : Mach) (t : Time) : (m.at_ t).net = m.net := rfl
@[simp] theorem at_sess (m : Mach) (t : Time) : (m.at_ t).sess = m.sess := rfl
@[simp] theorem at_fw (m : Mach) (t : Time) : (m.at_ t).fw = m.fw := rfl
@[simp] theorem at_mram (m : Mach) (t : Time) : (m.at_ t).mram = m.mram := rfl
@[simp] theorem at_sent (m : Mach) (t : Time) : (m.at_ t).sent = m.sent := rfl
@[simp] theorem at_faultN (m : Mach) (t : Time) : (m.at_ t).faultN = m.faultN := rfl
@[simp] theorem at_free (m : Mach) (t : Time) : (m.at_ t).free = m.free := rfl

@[simp] theorem put_now (m : Mach) (k : Nat) (v : Val) : (m.put k v).now = m.now := rfl
@[simp] theorem put_live (m : Mach) (k : Nat) (v : Val) : (m.put k v).live = putAt dfltOf k v m.live := rfl
@[simp] theorem put_shadow (m : Mach) (k : Nat) (v : Val) : (m.put k v).shadow = m.shadow := rfl
@[simp] theorem put_up (m : Mach) (k : Nat) (v : Val) : (m.put k v).up = m.up := rfl
@[simp] theorem put_clr (m : Mach) (k : Nat) (v : Val) : (m.put k v).clr = m.clr := rfl
@[simp] theorem put_voters (m : Mach) (k : Nat) (v : Val) : (m.put k v).voters = m.voters := rfl
@[simp] theorem put_pwm (m : Mach) (k : Nat) (v : Val) : (m.put k v).pwm = m.pwm := rfl
@[simp] theorem put_ch (m : Mach) (k : Nat) (v : Val) : (m.put k v).ch = m.ch := rfl
@[simp] theorem put_gate (m : Mach) (k : Nat) (v : Val) : (m.put k v).gate = m.gate := rfl
@[simp] theorem put_safety (m : Mach) (k : Nat) (v : Val) : (m.put k v).safety = m.safety := rfl
@[simp] theorem put_drives (m : Mach) (k : Nat) (v : Val) : (m.put k v).drives = m.drives := rfl
@[simp] theorem put_ev (m : Mach) (k : Nat) (v : Val) : (m.put k v).ev = m.ev := rfl
@[simp] theorem put_doms (m : Mach) (k : Nat) (v : Val) : (m.put k v).doms = m.doms := rfl
@[simp] theorem put_gcommits (m : Mach) (k : Nat) (v : Val) : (m.put k v).gcommits = m.gcommits := rfl
@[simp] theorem put_sense (m : Mach) (k : Nat) (v : Val) : (m.put k v).sense = m.sense := rfl
@[simp] theorem put_pos (m : Mach) (k : Nat) (v : Val) : (m.put k v).pos = m.pos := rfl
@[simp] theorem put_ain (m : Mach) (k : Nat) (v : Val) : (m.put k v).ain = m.ain := rfl
@[simp] theorem put_ainLast (m : Mach) (k : Nat) (v : Val) : (m.put k v).ainLast = m.ainLast := rfl
@[simp] theorem put_pairs (m : Mach) (k : Nat) (v : Val) : (m.put k v).pairs = m.pairs := rfl
@[simp] theorem put_slots (m : Mach) (k : Nat) (v : Val) : (m.put k v).slots = m.slots := rfl
@[simp] theorem put_signals (m : Mach) (k : Nat) (v : Val) : (m.put k v).signals = m.signals := rfl
@[simp] theorem put_eng (m : Mach) (k : Nat) (v : Val) : (m.put k v).eng = m.eng := rfl
@[simp] theorem put_mc (m : Mach) (k : Nat) (v : Val) : (m.put k v).mc = m.mc := rfl
@[simp] theorem put_outer (m : Mach) (k : Nat) (v : Val) : (m.put k v).outer = m.outer := rfl
@[simp] theorem put_echo (m : Mach) (k : Nat) (v : Val) : (m.put k v).echo = m.echo := rfl
@[simp] theorem put_capture (m : Mach) (k : Nat) (v : Val) : (m.put k v).capture = m.capture := rfl
@[simp] theorem put_nv (m : Mach) (k : Nat) (v : Val) : (m.put k v).nv = m.nv := rfl
@[simp] theorem put_lantern (m : Mach) (k : Nat) (v : Val) : (m.put k v).lantern = m.lantern := rfl
@[simp] theorem put_sleep (m : Mach) (k : Nat) (v : Val) : (m.put k v).sleep = m.sleep := rfl
@[simp] theorem put_thermal (m : Mach) (k : Nat) (v : Val) : (m.put k v).thermal = m.thermal := rfl
@[simp] theorem put_canopy (m : Mach) (k : Nat) (v : Val) : (m.put k v).canopy = m.canopy := rfl
@[simp] theorem put_grove (m : Mach) (k : Nat) (v : Val) : (m.put k v).grove = m.grove := rfl
@[simp] theorem put_net (m : Mach) (k : Nat) (v : Val) : (m.put k v).net = m.net := rfl
@[simp] theorem put_sess (m : Mach) (k : Nat) (v : Val) : (m.put k v).sess = m.sess := rfl
@[simp] theorem put_fw (m : Mach) (k : Nat) (v : Val) : (m.put k v).fw = m.fw := rfl
@[simp] theorem put_mram (m : Mach) (k : Nat) (v : Val) : (m.put k v).mram = m.mram := rfl
@[simp] theorem put_sent (m : Mach) (k : Nat) (v : Val) : (m.put k v).sent = m.sent := rfl
@[simp] theorem put_faultN (m : Mach) (k : Nat) (v : Val) : (m.put k v).faultN = m.faultN := rfl
@[simp] theorem put_free (m : Mach) (k : Nat) (v : Val) : (m.put k v).free = m.free := rfl

@[simp] theorem putShadow_now (m : Mach) (k : Nat) (v : Val) : (m.putShadow k v).now = m.now := rfl
@[simp] theorem putShadow_live (m : Mach) (k : Nat) (v : Val) : (m.putShadow k v).live = m.live := rfl
@[simp] theorem putShadow_shadow (m : Mach) (k : Nat) (v : Val) : (m.putShadow k v).shadow = putAt dfltOf k v m.shadow := rfl
@[simp] theorem putShadow_up (m : Mach) (k : Nat) (v : Val) : (m.putShadow k v).up = m.up := rfl
@[simp] theorem putShadow_clr (m : Mach) (k : Nat) (v : Val) : (m.putShadow k v).clr = m.clr := rfl
@[simp] theorem putShadow_voters (m : Mach) (k : Nat) (v : Val) : (m.putShadow k v).voters = m.voters := rfl
@[simp] theorem putShadow_pwm (m : Mach) (k : Nat) (v : Val) : (m.putShadow k v).pwm = m.pwm := rfl
@[simp] theorem putShadow_ch (m : Mach) (k : Nat) (v : Val) : (m.putShadow k v).ch = m.ch := rfl
@[simp] theorem putShadow_gate (m : Mach) (k : Nat) (v : Val) : (m.putShadow k v).gate = m.gate := rfl
@[simp] theorem putShadow_safety (m : Mach) (k : Nat) (v : Val) : (m.putShadow k v).safety = m.safety := rfl
@[simp] theorem putShadow_drives (m : Mach) (k : Nat) (v : Val) : (m.putShadow k v).drives = m.drives := rfl
@[simp] theorem putShadow_ev (m : Mach) (k : Nat) (v : Val) : (m.putShadow k v).ev = m.ev := rfl
@[simp] theorem putShadow_doms (m : Mach) (k : Nat) (v : Val) : (m.putShadow k v).doms = m.doms := rfl
@[simp] theorem putShadow_gcommits (m : Mach) (k : Nat) (v : Val) : (m.putShadow k v).gcommits = m.gcommits := rfl
@[simp] theorem putShadow_sense (m : Mach) (k : Nat) (v : Val) : (m.putShadow k v).sense = m.sense := rfl
@[simp] theorem putShadow_pos (m : Mach) (k : Nat) (v : Val) : (m.putShadow k v).pos = m.pos := rfl
@[simp] theorem putShadow_ain (m : Mach) (k : Nat) (v : Val) : (m.putShadow k v).ain = m.ain := rfl
@[simp] theorem putShadow_ainLast (m : Mach) (k : Nat) (v : Val) : (m.putShadow k v).ainLast = m.ainLast := rfl
@[simp] theorem putShadow_pairs (m : Mach) (k : Nat) (v : Val) : (m.putShadow k v).pairs = m.pairs := rfl
@[simp] theorem putShadow_slots (m : Mach) (k : Nat) (v : Val) : (m.putShadow k v).slots = m.slots := rfl
@[simp] theorem putShadow_signals (m : Mach) (k : Nat) (v : Val) : (m.putShadow k v).signals = m.signals := rfl
@[simp] theorem putShadow_eng (m : Mach) (k : Nat) (v : Val) : (m.putShadow k v).eng = m.eng := rfl
@[simp] theorem putShadow_mc (m : Mach) (k : Nat) (v : Val) : (m.putShadow k v).mc = m.mc := rfl
@[simp] theorem putShadow_outer (m : Mach) (k : Nat) (v : Val) : (m.putShadow k v).outer = m.outer := rfl
@[simp] theorem putShadow_echo (m : Mach) (k : Nat) (v : Val) : (m.putShadow k v).echo = m.echo := rfl
@[simp] theorem putShadow_capture (m : Mach) (k : Nat) (v : Val) : (m.putShadow k v).capture = m.capture := rfl
@[simp] theorem putShadow_nv (m : Mach) (k : Nat) (v : Val) : (m.putShadow k v).nv = m.nv := rfl
@[simp] theorem putShadow_lantern (m : Mach) (k : Nat) (v : Val) : (m.putShadow k v).lantern = m.lantern := rfl
@[simp] theorem putShadow_sleep (m : Mach) (k : Nat) (v : Val) : (m.putShadow k v).sleep = m.sleep := rfl
@[simp] theorem putShadow_thermal (m : Mach) (k : Nat) (v : Val) : (m.putShadow k v).thermal = m.thermal := rfl
@[simp] theorem putShadow_canopy (m : Mach) (k : Nat) (v : Val) : (m.putShadow k v).canopy = m.canopy := rfl
@[simp] theorem putShadow_grove (m : Mach) (k : Nat) (v : Val) : (m.putShadow k v).grove = m.grove := rfl
@[simp] theorem putShadow_net (m : Mach) (k : Nat) (v : Val) : (m.putShadow k v).net = m.net := rfl
@[simp] theorem putShadow_sess (m : Mach) (k : Nat) (v : Val) : (m.putShadow k v).sess = m.sess := rfl
@[simp] theorem putShadow_fw (m : Mach) (k : Nat) (v : Val) : (m.putShadow k v).fw = m.fw := rfl
@[simp] theorem putShadow_mram (m : Mach) (k : Nat) (v : Val) : (m.putShadow k v).mram = m.mram := rfl
@[simp] theorem putShadow_sent (m : Mach) (k : Nat) (v : Val) : (m.putShadow k v).sent = m.sent := rfl
@[simp] theorem putShadow_faultN (m : Mach) (k : Nat) (v : Val) : (m.putShadow k v).faultN = m.faultN := rfl
@[simp] theorem putShadow_free (m : Mach) (k : Nat) (v : Val) : (m.putShadow k v).free = m.free := rfl

@[simp] theorem drew_now (m : Mach) : (m.drew).now = m.now := rfl
@[simp] theorem drew_live (m : Mach) : (m.drew).live = m.live := rfl
@[simp] theorem drew_shadow (m : Mach) : (m.drew).shadow = m.shadow := rfl
@[simp] theorem drew_up (m : Mach) : (m.drew).up = m.up := rfl
@[simp] theorem drew_clr (m : Mach) : (m.drew).clr = m.clr := rfl
@[simp] theorem drew_voters (m : Mach) : (m.drew).voters = m.voters := rfl
@[simp] theorem drew_pwm (m : Mach) : (m.drew).pwm = m.pwm := rfl
@[simp] theorem drew_ch (m : Mach) : (m.drew).ch = m.ch := rfl
@[simp] theorem drew_gate (m : Mach) : (m.drew).gate = m.gate := rfl
@[simp] theorem drew_safety (m : Mach) : (m.drew).safety = m.safety := rfl
@[simp] theorem drew_drives (m : Mach) : (m.drew).drives = m.drives := rfl
@[simp] theorem drew_ev (m : Mach) : (m.drew).ev = m.ev := rfl
@[simp] theorem drew_doms (m : Mach) : (m.drew).doms = m.doms := rfl
@[simp] theorem drew_gcommits (m : Mach) : (m.drew).gcommits = m.gcommits := rfl
@[simp] theorem drew_sense (m : Mach) : (m.drew).sense = m.sense := rfl
@[simp] theorem drew_pos (m : Mach) : (m.drew).pos = m.pos := rfl
@[simp] theorem drew_ain (m : Mach) : (m.drew).ain = m.ain := rfl
@[simp] theorem drew_ainLast (m : Mach) : (m.drew).ainLast = m.ainLast := rfl
@[simp] theorem drew_pairs (m : Mach) : (m.drew).pairs = m.pairs := rfl
@[simp] theorem drew_slots (m : Mach) : (m.drew).slots = m.slots := rfl
@[simp] theorem drew_signals (m : Mach) : (m.drew).signals = m.signals := rfl
@[simp] theorem drew_eng (m : Mach) : (m.drew).eng = m.eng := rfl
@[simp] theorem drew_mc (m : Mach) : (m.drew).mc = m.mc := rfl
@[simp] theorem drew_outer (m : Mach) : (m.drew).outer = m.outer := rfl
@[simp] theorem drew_echo (m : Mach) : (m.drew).echo = m.echo := rfl
@[simp] theorem drew_capture (m : Mach) : (m.drew).capture = m.capture := rfl
@[simp] theorem drew_nv (m : Mach) : (m.drew).nv = m.nv := rfl
@[simp] theorem drew_lantern (m : Mach) : (m.drew).lantern = m.lantern := rfl
@[simp] theorem drew_sleep (m : Mach) : (m.drew).sleep = m.sleep := rfl
@[simp] theorem drew_thermal (m : Mach) : (m.drew).thermal = m.thermal := rfl
@[simp] theorem drew_canopy (m : Mach) : (m.drew).canopy = m.canopy := rfl
@[simp] theorem drew_grove (m : Mach) : (m.drew).grove = m.grove := rfl
@[simp] theorem drew_net (m : Mach) : (m.drew).net = m.net := rfl
@[simp] theorem drew_sess (m : Mach) : (m.drew).sess = m.sess := rfl
@[simp] theorem drew_fw (m : Mach) : (m.drew).fw = m.fw := rfl
@[simp] theorem drew_mram (m : Mach) : (m.drew).mram = m.mram := rfl
@[simp] theorem drew_sent (m : Mach) : (m.drew).sent = m.sent := rfl
@[simp] theorem drew_faultN (m : Mach) : (m.drew).faultN = m.faultN := rfl
@[simp] theorem drew_free (m : Mach) : (m.drew).free = m.free + 1 := rfl

@[simp] theorem setSig_now (m : Mach) (c : Nat) (x : F32) : (m.setSig c x).now = m.now := rfl
@[simp] theorem setSig_live (m : Mach) (c : Nat) (x : F32) : (m.setSig c x).live = m.live := rfl
@[simp] theorem setSig_shadow (m : Mach) (c : Nat) (x : F32) : (m.setSig c x).shadow = m.shadow := rfl
@[simp] theorem setSig_up (m : Mach) (c : Nat) (x : F32) : (m.setSig c x).up = m.up := rfl
@[simp] theorem setSig_clr (m : Mach) (c : Nat) (x : F32) : (m.setSig c x).clr = m.clr := rfl
@[simp] theorem setSig_voters (m : Mach) (c : Nat) (x : F32) : (m.setSig c x).voters = m.voters := rfl
@[simp] theorem setSig_pwm (m : Mach) (c : Nat) (x : F32) : (m.setSig c x).pwm = m.pwm := rfl
@[simp] theorem setSig_ch (m : Mach) (c : Nat) (x : F32) : (m.setSig c x).ch = m.ch := rfl
@[simp] theorem setSig_gate (m : Mach) (c : Nat) (x : F32) : (m.setSig c x).gate = m.gate := rfl
@[simp] theorem setSig_safety (m : Mach) (c : Nat) (x : F32) : (m.setSig c x).safety = m.safety := rfl
@[simp] theorem setSig_drives (m : Mach) (c : Nat) (x : F32) : (m.setSig c x).drives = m.drives := rfl
@[simp] theorem setSig_ev (m : Mach) (c : Nat) (x : F32) : (m.setSig c x).ev = m.ev := rfl
@[simp] theorem setSig_doms (m : Mach) (c : Nat) (x : F32) : (m.setSig c x).doms = m.doms := rfl
@[simp] theorem setSig_gcommits (m : Mach) (c : Nat) (x : F32) : (m.setSig c x).gcommits = m.gcommits := rfl
@[simp] theorem setSig_sense (m : Mach) (c : Nat) (x : F32) : (m.setSig c x).sense = m.sense := rfl
@[simp] theorem setSig_pos (m : Mach) (c : Nat) (x : F32) : (m.setSig c x).pos = m.pos := rfl
@[simp] theorem setSig_ain (m : Mach) (c : Nat) (x : F32) : (m.setSig c x).ain = m.ain := rfl
@[simp] theorem setSig_ainLast (m : Mach) (c : Nat) (x : F32) : (m.setSig c x).ainLast = m.ainLast := rfl
@[simp] theorem setSig_pairs (m : Mach) (c : Nat) (x : F32) : (m.setSig c x).pairs = m.pairs := rfl
@[simp] theorem setSig_slots (m : Mach) (c : Nat) (x : F32) : (m.setSig c x).slots = m.slots := rfl
@[simp] theorem setSig_signals (m : Mach) (c : Nat) (x : F32) : (m.setSig c x).signals = putAt (fun _ => 0) c x m.signals := rfl
@[simp] theorem setSig_eng (m : Mach) (c : Nat) (x : F32) : (m.setSig c x).eng = m.eng := rfl
@[simp] theorem setSig_mc (m : Mach) (c : Nat) (x : F32) : (m.setSig c x).mc = m.mc := rfl
@[simp] theorem setSig_outer (m : Mach) (c : Nat) (x : F32) : (m.setSig c x).outer = m.outer := rfl
@[simp] theorem setSig_echo (m : Mach) (c : Nat) (x : F32) : (m.setSig c x).echo = m.echo := rfl
@[simp] theorem setSig_capture (m : Mach) (c : Nat) (x : F32) : (m.setSig c x).capture = m.capture := rfl
@[simp] theorem setSig_nv (m : Mach) (c : Nat) (x : F32) : (m.setSig c x).nv = m.nv := rfl
@[simp] theorem setSig_lantern (m : Mach) (c : Nat) (x : F32) : (m.setSig c x).lantern = m.lantern := rfl
@[simp] theorem setSig_sleep (m : Mach) (c : Nat) (x : F32) : (m.setSig c x).sleep = m.sleep := rfl
@[simp] theorem setSig_thermal (m : Mach) (c : Nat) (x : F32) : (m.setSig c x).thermal = m.thermal := rfl
@[simp] theorem setSig_canopy (m : Mach) (c : Nat) (x : F32) : (m.setSig c x).canopy = m.canopy := rfl
@[simp] theorem setSig_grove (m : Mach) (c : Nat) (x : F32) : (m.setSig c x).grove = m.grove := rfl
@[simp] theorem setSig_net (m : Mach) (c : Nat) (x : F32) : (m.setSig c x).net = m.net := rfl
@[simp] theorem setSig_sess (m : Mach) (c : Nat) (x : F32) : (m.setSig c x).sess = m.sess := rfl
@[simp] theorem setSig_fw (m : Mach) (c : Nat) (x : F32) : (m.setSig c x).fw = m.fw := rfl
@[simp] theorem setSig_mram (m : Mach) (c : Nat) (x : F32) : (m.setSig c x).mram = m.mram := rfl
@[simp] theorem setSig_sent (m : Mach) (c : Nat) (x : F32) : (m.setSig c x).sent = m.sent := rfl
@[simp] theorem setSig_faultN (m : Mach) (c : Nat) (x : F32) : (m.setSig c x).faultN = m.faultN := rfl
@[simp] theorem setSig_free (m : Mach) (c : Nat) (x : F32) : (m.setSig c x).free = m.free := rfl

@[simp] theorem emit_now (m : Mach) (x : Sent) : (m.emit x).now = m.now := rfl
@[simp] theorem emit_live (m : Mach) (x : Sent) : (m.emit x).live = m.live := rfl
@[simp] theorem emit_shadow (m : Mach) (x : Sent) : (m.emit x).shadow = m.shadow := rfl
@[simp] theorem emit_up (m : Mach) (x : Sent) : (m.emit x).up = m.up := rfl
@[simp] theorem emit_clr (m : Mach) (x : Sent) : (m.emit x).clr = m.clr := rfl
@[simp] theorem emit_voters (m : Mach) (x : Sent) : (m.emit x).voters = m.voters := rfl
@[simp] theorem emit_pwm (m : Mach) (x : Sent) : (m.emit x).pwm = m.pwm := rfl
@[simp] theorem emit_ch (m : Mach) (x : Sent) : (m.emit x).ch = m.ch := rfl
@[simp] theorem emit_gate (m : Mach) (x : Sent) : (m.emit x).gate = m.gate := rfl
@[simp] theorem emit_safety (m : Mach) (x : Sent) : (m.emit x).safety = m.safety := rfl
@[simp] theorem emit_drives (m : Mach) (x : Sent) : (m.emit x).drives = m.drives := rfl
@[simp] theorem emit_ev (m : Mach) (x : Sent) : (m.emit x).ev = m.ev := rfl
@[simp] theorem emit_doms (m : Mach) (x : Sent) : (m.emit x).doms = m.doms := rfl
@[simp] theorem emit_gcommits (m : Mach) (x : Sent) : (m.emit x).gcommits = m.gcommits := rfl
@[simp] theorem emit_sense (m : Mach) (x : Sent) : (m.emit x).sense = m.sense := rfl
@[simp] theorem emit_pos (m : Mach) (x : Sent) : (m.emit x).pos = m.pos := rfl
@[simp] theorem emit_ain (m : Mach) (x : Sent) : (m.emit x).ain = m.ain := rfl
@[simp] theorem emit_ainLast (m : Mach) (x : Sent) : (m.emit x).ainLast = m.ainLast := rfl
@[simp] theorem emit_pairs (m : Mach) (x : Sent) : (m.emit x).pairs = m.pairs := rfl
@[simp] theorem emit_slots (m : Mach) (x : Sent) : (m.emit x).slots = m.slots := rfl
@[simp] theorem emit_signals (m : Mach) (x : Sent) : (m.emit x).signals = m.signals := rfl
@[simp] theorem emit_eng (m : Mach) (x : Sent) : (m.emit x).eng = m.eng := rfl
@[simp] theorem emit_mc (m : Mach) (x : Sent) : (m.emit x).mc = m.mc := rfl
@[simp] theorem emit_outer (m : Mach) (x : Sent) : (m.emit x).outer = m.outer := rfl
@[simp] theorem emit_echo (m : Mach) (x : Sent) : (m.emit x).echo = m.echo := rfl
@[simp] theorem emit_capture (m : Mach) (x : Sent) : (m.emit x).capture = m.capture := rfl
@[simp] theorem emit_nv (m : Mach) (x : Sent) : (m.emit x).nv = m.nv := rfl
@[simp] theorem emit_lantern (m : Mach) (x : Sent) : (m.emit x).lantern = m.lantern := rfl
@[simp] theorem emit_sleep (m : Mach) (x : Sent) : (m.emit x).sleep = m.sleep := rfl
@[simp] theorem emit_thermal (m : Mach) (x : Sent) : (m.emit x).thermal = m.thermal := rfl
@[simp] theorem emit_canopy (m : Mach) (x : Sent) : (m.emit x).canopy = m.canopy := rfl
@[simp] theorem emit_grove (m : Mach) (x : Sent) : (m.emit x).grove = m.grove := rfl
@[simp] theorem emit_net (m : Mach) (x : Sent) : (m.emit x).net = m.net := rfl
@[simp] theorem emit_sess (m : Mach) (x : Sent) : (m.emit x).sess = m.sess := rfl
@[simp] theorem emit_fw (m : Mach) (x : Sent) : (m.emit x).fw = m.fw := rfl
@[simp] theorem emit_mram (m : Mach) (x : Sent) : (m.emit x).mram = m.mram := rfl
@[simp] theorem emit_sent (m : Mach) (x : Sent) : (m.emit x).sent = m.sent ++ [x] := rfl
@[simp] theorem emit_faultN (m : Mach) (x : Sent) : (m.emit x).faultN = m.faultN := rfl
@[simp] theorem emit_free (m : Mach) (x : Sent) : (m.emit x).free = m.free := rfl

@[simp] theorem modClr_now (m : Mach) (f : Clearing → Clearing) : (m.modClr f).now = m.now := rfl
@[simp] theorem modClr_live (m : Mach) (f : Clearing → Clearing) : (m.modClr f).live = m.live := rfl
@[simp] theorem modClr_shadow (m : Mach) (f : Clearing → Clearing) : (m.modClr f).shadow = m.shadow := rfl
@[simp] theorem modClr_up (m : Mach) (f : Clearing → Clearing) : (m.modClr f).up = m.up := rfl
@[simp] theorem modClr_clr (m : Mach) (f : Clearing → Clearing) : (m.modClr f).clr = f m.clr := rfl
@[simp] theorem modClr_voters (m : Mach) (f : Clearing → Clearing) : (m.modClr f).voters = m.voters := rfl
@[simp] theorem modClr_pwm (m : Mach) (f : Clearing → Clearing) : (m.modClr f).pwm = m.pwm := rfl
@[simp] theorem modClr_ch (m : Mach) (f : Clearing → Clearing) : (m.modClr f).ch = m.ch := rfl
@[simp] theorem modClr_gate (m : Mach) (f : Clearing → Clearing) : (m.modClr f).gate = m.gate := rfl
@[simp] theorem modClr_safety (m : Mach) (f : Clearing → Clearing) : (m.modClr f).safety = m.safety := rfl
@[simp] theorem modClr_drives (m : Mach) (f : Clearing → Clearing) : (m.modClr f).drives = m.drives := rfl
@[simp] theorem modClr_ev (m : Mach) (f : Clearing → Clearing) : (m.modClr f).ev = m.ev := rfl
@[simp] theorem modClr_doms (m : Mach) (f : Clearing → Clearing) : (m.modClr f).doms = m.doms := rfl
@[simp] theorem modClr_gcommits (m : Mach) (f : Clearing → Clearing) : (m.modClr f).gcommits = m.gcommits := rfl
@[simp] theorem modClr_sense (m : Mach) (f : Clearing → Clearing) : (m.modClr f).sense = m.sense := rfl
@[simp] theorem modClr_pos (m : Mach) (f : Clearing → Clearing) : (m.modClr f).pos = m.pos := rfl
@[simp] theorem modClr_ain (m : Mach) (f : Clearing → Clearing) : (m.modClr f).ain = m.ain := rfl
@[simp] theorem modClr_ainLast (m : Mach) (f : Clearing → Clearing) : (m.modClr f).ainLast = m.ainLast := rfl
@[simp] theorem modClr_pairs (m : Mach) (f : Clearing → Clearing) : (m.modClr f).pairs = m.pairs := rfl
@[simp] theorem modClr_slots (m : Mach) (f : Clearing → Clearing) : (m.modClr f).slots = m.slots := rfl
@[simp] theorem modClr_signals (m : Mach) (f : Clearing → Clearing) : (m.modClr f).signals = m.signals := rfl
@[simp] theorem modClr_eng (m : Mach) (f : Clearing → Clearing) : (m.modClr f).eng = m.eng := rfl
@[simp] theorem modClr_mc (m : Mach) (f : Clearing → Clearing) : (m.modClr f).mc = m.mc := rfl
@[simp] theorem modClr_outer (m : Mach) (f : Clearing → Clearing) : (m.modClr f).outer = m.outer := rfl
@[simp] theorem modClr_echo (m : Mach) (f : Clearing → Clearing) : (m.modClr f).echo = m.echo := rfl
@[simp] theorem modClr_capture (m : Mach) (f : Clearing → Clearing) : (m.modClr f).capture = m.capture := rfl
@[simp] theorem modClr_nv (m : Mach) (f : Clearing → Clearing) : (m.modClr f).nv = m.nv := rfl
@[simp] theorem modClr_lantern (m : Mach) (f : Clearing → Clearing) : (m.modClr f).lantern = m.lantern := rfl
@[simp] theorem modClr_sleep (m : Mach) (f : Clearing → Clearing) : (m.modClr f).sleep = m.sleep := rfl
@[simp] theorem modClr_thermal (m : Mach) (f : Clearing → Clearing) : (m.modClr f).thermal = m.thermal := rfl
@[simp] theorem modClr_canopy (m : Mach) (f : Clearing → Clearing) : (m.modClr f).canopy = m.canopy := rfl
@[simp] theorem modClr_grove (m : Mach) (f : Clearing → Clearing) : (m.modClr f).grove = m.grove := rfl
@[simp] theorem modClr_net (m : Mach) (f : Clearing → Clearing) : (m.modClr f).net = m.net := rfl
@[simp] theorem modClr_sess (m : Mach) (f : Clearing → Clearing) : (m.modClr f).sess = m.sess := rfl
@[simp] theorem modClr_fw (m : Mach) (f : Clearing → Clearing) : (m.modClr f).fw = m.fw := rfl
@[simp] theorem modClr_mram (m : Mach) (f : Clearing → Clearing) : (m.modClr f).mram = m.mram := rfl
@[simp] theorem modClr_sent (m : Mach) (f : Clearing → Clearing) : (m.modClr f).sent = m.sent := rfl
@[simp] theorem modClr_faultN (m : Mach) (f : Clearing → Clearing) : (m.modClr f).faultN = m.faultN := rfl
@[simp] theorem modClr_free (m : Mach) (f : Clearing → Clearing) : (m.modClr f).free = m.free := rfl

@[simp] theorem modPwm_now (m : Mach) (i : Fin 2) (f : Pwm → Pwm) : (m.modPwm i f).now = m.now := rfl
@[simp] theorem modPwm_live (m : Mach) (i : Fin 2) (f : Pwm → Pwm) : (m.modPwm i f).live = m.live := rfl
@[simp] theorem modPwm_shadow (m : Mach) (i : Fin 2) (f : Pwm → Pwm) : (m.modPwm i f).shadow = m.shadow := rfl
@[simp] theorem modPwm_up (m : Mach) (i : Fin 2) (f : Pwm → Pwm) : (m.modPwm i f).up = m.up := rfl
@[simp] theorem modPwm_clr (m : Mach) (i : Fin 2) (f : Pwm → Pwm) : (m.modPwm i f).clr = m.clr := rfl
@[simp] theorem modPwm_voters (m : Mach) (i : Fin 2) (f : Pwm → Pwm) : (m.modPwm i f).voters = m.voters := rfl
@[simp] theorem modPwm_pwm (m : Mach) (i : Fin 2) (f : Pwm → Pwm) : (m.modPwm i f).pwm = vmod m.pwm i f := rfl
@[simp] theorem modPwm_ch (m : Mach) (i : Fin 2) (f : Pwm → Pwm) : (m.modPwm i f).ch = m.ch := rfl
@[simp] theorem modPwm_gate (m : Mach) (i : Fin 2) (f : Pwm → Pwm) : (m.modPwm i f).gate = m.gate := rfl
@[simp] theorem modPwm_safety (m : Mach) (i : Fin 2) (f : Pwm → Pwm) : (m.modPwm i f).safety = m.safety := rfl
@[simp] theorem modPwm_drives (m : Mach) (i : Fin 2) (f : Pwm → Pwm) : (m.modPwm i f).drives = m.drives := rfl
@[simp] theorem modPwm_ev (m : Mach) (i : Fin 2) (f : Pwm → Pwm) : (m.modPwm i f).ev = m.ev := rfl
@[simp] theorem modPwm_doms (m : Mach) (i : Fin 2) (f : Pwm → Pwm) : (m.modPwm i f).doms = m.doms := rfl
@[simp] theorem modPwm_gcommits (m : Mach) (i : Fin 2) (f : Pwm → Pwm) : (m.modPwm i f).gcommits = m.gcommits := rfl
@[simp] theorem modPwm_sense (m : Mach) (i : Fin 2) (f : Pwm → Pwm) : (m.modPwm i f).sense = m.sense := rfl
@[simp] theorem modPwm_pos (m : Mach) (i : Fin 2) (f : Pwm → Pwm) : (m.modPwm i f).pos = m.pos := rfl
@[simp] theorem modPwm_ain (m : Mach) (i : Fin 2) (f : Pwm → Pwm) : (m.modPwm i f).ain = m.ain := rfl
@[simp] theorem modPwm_ainLast (m : Mach) (i : Fin 2) (f : Pwm → Pwm) : (m.modPwm i f).ainLast = m.ainLast := rfl
@[simp] theorem modPwm_pairs (m : Mach) (i : Fin 2) (f : Pwm → Pwm) : (m.modPwm i f).pairs = m.pairs := rfl
@[simp] theorem modPwm_slots (m : Mach) (i : Fin 2) (f : Pwm → Pwm) : (m.modPwm i f).slots = m.slots := rfl
@[simp] theorem modPwm_signals (m : Mach) (i : Fin 2) (f : Pwm → Pwm) : (m.modPwm i f).signals = m.signals := rfl
@[simp] theorem modPwm_eng (m : Mach) (i : Fin 2) (f : Pwm → Pwm) : (m.modPwm i f).eng = m.eng := rfl
@[simp] theorem modPwm_mc (m : Mach) (i : Fin 2) (f : Pwm → Pwm) : (m.modPwm i f).mc = m.mc := rfl
@[simp] theorem modPwm_outer (m : Mach) (i : Fin 2) (f : Pwm → Pwm) : (m.modPwm i f).outer = m.outer := rfl
@[simp] theorem modPwm_echo (m : Mach) (i : Fin 2) (f : Pwm → Pwm) : (m.modPwm i f).echo = m.echo := rfl
@[simp] theorem modPwm_capture (m : Mach) (i : Fin 2) (f : Pwm → Pwm) : (m.modPwm i f).capture = m.capture := rfl
@[simp] theorem modPwm_nv (m : Mach) (i : Fin 2) (f : Pwm → Pwm) : (m.modPwm i f).nv = m.nv := rfl
@[simp] theorem modPwm_lantern (m : Mach) (i : Fin 2) (f : Pwm → Pwm) : (m.modPwm i f).lantern = m.lantern := rfl
@[simp] theorem modPwm_sleep (m : Mach) (i : Fin 2) (f : Pwm → Pwm) : (m.modPwm i f).sleep = m.sleep := rfl
@[simp] theorem modPwm_thermal (m : Mach) (i : Fin 2) (f : Pwm → Pwm) : (m.modPwm i f).thermal = m.thermal := rfl
@[simp] theorem modPwm_canopy (m : Mach) (i : Fin 2) (f : Pwm → Pwm) : (m.modPwm i f).canopy = m.canopy := rfl
@[simp] theorem modPwm_grove (m : Mach) (i : Fin 2) (f : Pwm → Pwm) : (m.modPwm i f).grove = m.grove := rfl
@[simp] theorem modPwm_net (m : Mach) (i : Fin 2) (f : Pwm → Pwm) : (m.modPwm i f).net = m.net := rfl
@[simp] theorem modPwm_sess (m : Mach) (i : Fin 2) (f : Pwm → Pwm) : (m.modPwm i f).sess = m.sess := rfl
@[simp] theorem modPwm_fw (m : Mach) (i : Fin 2) (f : Pwm → Pwm) : (m.modPwm i f).fw = m.fw := rfl
@[simp] theorem modPwm_mram (m : Mach) (i : Fin 2) (f : Pwm → Pwm) : (m.modPwm i f).mram = m.mram := rfl
@[simp] theorem modPwm_sent (m : Mach) (i : Fin 2) (f : Pwm → Pwm) : (m.modPwm i f).sent = m.sent := rfl
@[simp] theorem modPwm_faultN (m : Mach) (i : Fin 2) (f : Pwm → Pwm) : (m.modPwm i f).faultN = m.faultN := rfl
@[simp] theorem modPwm_free (m : Mach) (i : Fin 2) (f : Pwm → Pwm) : (m.modPwm i f).free = m.free := rfl

@[simp] theorem modCh_now (m : Mach) (i : Fin 12) (f : Channel → Channel) : (m.modCh i f).now = m.now := rfl
@[simp] theorem modCh_live (m : Mach) (i : Fin 12) (f : Channel → Channel) : (m.modCh i f).live = m.live := rfl
@[simp] theorem modCh_shadow (m : Mach) (i : Fin 12) (f : Channel → Channel) : (m.modCh i f).shadow = m.shadow := rfl
@[simp] theorem modCh_up (m : Mach) (i : Fin 12) (f : Channel → Channel) : (m.modCh i f).up = m.up := rfl
@[simp] theorem modCh_clr (m : Mach) (i : Fin 12) (f : Channel → Channel) : (m.modCh i f).clr = m.clr := rfl
@[simp] theorem modCh_voters (m : Mach) (i : Fin 12) (f : Channel → Channel) : (m.modCh i f).voters = m.voters := rfl
@[simp] theorem modCh_pwm (m : Mach) (i : Fin 12) (f : Channel → Channel) : (m.modCh i f).pwm = m.pwm := rfl
@[simp] theorem modCh_ch (m : Mach) (i : Fin 12) (f : Channel → Channel) : (m.modCh i f).ch = vmod m.ch i f := rfl
@[simp] theorem modCh_gate (m : Mach) (i : Fin 12) (f : Channel → Channel) : (m.modCh i f).gate = m.gate := rfl
@[simp] theorem modCh_safety (m : Mach) (i : Fin 12) (f : Channel → Channel) : (m.modCh i f).safety = m.safety := rfl
@[simp] theorem modCh_drives (m : Mach) (i : Fin 12) (f : Channel → Channel) : (m.modCh i f).drives = m.drives := rfl
@[simp] theorem modCh_ev (m : Mach) (i : Fin 12) (f : Channel → Channel) : (m.modCh i f).ev = m.ev := rfl
@[simp] theorem modCh_doms (m : Mach) (i : Fin 12) (f : Channel → Channel) : (m.modCh i f).doms = m.doms := rfl
@[simp] theorem modCh_gcommits (m : Mach) (i : Fin 12) (f : Channel → Channel) : (m.modCh i f).gcommits = m.gcommits := rfl
@[simp] theorem modCh_sense (m : Mach) (i : Fin 12) (f : Channel → Channel) : (m.modCh i f).sense = m.sense := rfl
@[simp] theorem modCh_pos (m : Mach) (i : Fin 12) (f : Channel → Channel) : (m.modCh i f).pos = m.pos := rfl
@[simp] theorem modCh_ain (m : Mach) (i : Fin 12) (f : Channel → Channel) : (m.modCh i f).ain = m.ain := rfl
@[simp] theorem modCh_ainLast (m : Mach) (i : Fin 12) (f : Channel → Channel) : (m.modCh i f).ainLast = m.ainLast := rfl
@[simp] theorem modCh_pairs (m : Mach) (i : Fin 12) (f : Channel → Channel) : (m.modCh i f).pairs = m.pairs := rfl
@[simp] theorem modCh_slots (m : Mach) (i : Fin 12) (f : Channel → Channel) : (m.modCh i f).slots = m.slots := rfl
@[simp] theorem modCh_signals (m : Mach) (i : Fin 12) (f : Channel → Channel) : (m.modCh i f).signals = m.signals := rfl
@[simp] theorem modCh_eng (m : Mach) (i : Fin 12) (f : Channel → Channel) : (m.modCh i f).eng = m.eng := rfl
@[simp] theorem modCh_mc (m : Mach) (i : Fin 12) (f : Channel → Channel) : (m.modCh i f).mc = m.mc := rfl
@[simp] theorem modCh_outer (m : Mach) (i : Fin 12) (f : Channel → Channel) : (m.modCh i f).outer = m.outer := rfl
@[simp] theorem modCh_echo (m : Mach) (i : Fin 12) (f : Channel → Channel) : (m.modCh i f).echo = m.echo := rfl
@[simp] theorem modCh_capture (m : Mach) (i : Fin 12) (f : Channel → Channel) : (m.modCh i f).capture = m.capture := rfl
@[simp] theorem modCh_nv (m : Mach) (i : Fin 12) (f : Channel → Channel) : (m.modCh i f).nv = m.nv := rfl
@[simp] theorem modCh_lantern (m : Mach) (i : Fin 12) (f : Channel → Channel) : (m.modCh i f).lantern = m.lantern := rfl
@[simp] theorem modCh_sleep (m : Mach) (i : Fin 12) (f : Channel → Channel) : (m.modCh i f).sleep = m.sleep := rfl
@[simp] theorem modCh_thermal (m : Mach) (i : Fin 12) (f : Channel → Channel) : (m.modCh i f).thermal = m.thermal := rfl
@[simp] theorem modCh_canopy (m : Mach) (i : Fin 12) (f : Channel → Channel) : (m.modCh i f).canopy = m.canopy := rfl
@[simp] theorem modCh_grove (m : Mach) (i : Fin 12) (f : Channel → Channel) : (m.modCh i f).grove = m.grove := rfl
@[simp] theorem modCh_net (m : Mach) (i : Fin 12) (f : Channel → Channel) : (m.modCh i f).net = m.net := rfl
@[simp] theorem modCh_sess (m : Mach) (i : Fin 12) (f : Channel → Channel) : (m.modCh i f).sess = m.sess := rfl
@[simp] theorem modCh_fw (m : Mach) (i : Fin 12) (f : Channel → Channel) : (m.modCh i f).fw = m.fw := rfl
@[simp] theorem modCh_mram (m : Mach) (i : Fin 12) (f : Channel → Channel) : (m.modCh i f).mram = m.mram := rfl
@[simp] theorem modCh_sent (m : Mach) (i : Fin 12) (f : Channel → Channel) : (m.modCh i f).sent = m.sent := rfl
@[simp] theorem modCh_faultN (m : Mach) (i : Fin 12) (f : Channel → Channel) : (m.modCh i f).faultN = m.faultN := rfl
@[simp] theorem modCh_free (m : Mach) (i : Fin 12) (f : Channel → Channel) : (m.modCh i f).free = m.free := rfl

@[simp] theorem modGate_now (m : Mach) (i : Fin 2) (f : GateSet → GateSet) : (m.modGate i f).now = m.now := rfl
@[simp] theorem modGate_live (m : Mach) (i : Fin 2) (f : GateSet → GateSet) : (m.modGate i f).live = m.live := rfl
@[simp] theorem modGate_shadow (m : Mach) (i : Fin 2) (f : GateSet → GateSet) : (m.modGate i f).shadow = m.shadow := rfl
@[simp] theorem modGate_up (m : Mach) (i : Fin 2) (f : GateSet → GateSet) : (m.modGate i f).up = m.up := rfl
@[simp] theorem modGate_clr (m : Mach) (i : Fin 2) (f : GateSet → GateSet) : (m.modGate i f).clr = m.clr := rfl
@[simp] theorem modGate_voters (m : Mach) (i : Fin 2) (f : GateSet → GateSet) : (m.modGate i f).voters = m.voters := rfl
@[simp] theorem modGate_pwm (m : Mach) (i : Fin 2) (f : GateSet → GateSet) : (m.modGate i f).pwm = m.pwm := rfl
@[simp] theorem modGate_ch (m : Mach) (i : Fin 2) (f : GateSet → GateSet) : (m.modGate i f).ch = m.ch := rfl
@[simp] theorem modGate_gate (m : Mach) (i : Fin 2) (f : GateSet → GateSet) : (m.modGate i f).gate = vmod m.gate i f := rfl
@[simp] theorem modGate_safety (m : Mach) (i : Fin 2) (f : GateSet → GateSet) : (m.modGate i f).safety = m.safety := rfl
@[simp] theorem modGate_drives (m : Mach) (i : Fin 2) (f : GateSet → GateSet) : (m.modGate i f).drives = m.drives := rfl
@[simp] theorem modGate_ev (m : Mach) (i : Fin 2) (f : GateSet → GateSet) : (m.modGate i f).ev = m.ev := rfl
@[simp] theorem modGate_doms (m : Mach) (i : Fin 2) (f : GateSet → GateSet) : (m.modGate i f).doms = m.doms := rfl
@[simp] theorem modGate_gcommits (m : Mach) (i : Fin 2) (f : GateSet → GateSet) : (m.modGate i f).gcommits = m.gcommits := rfl
@[simp] theorem modGate_sense (m : Mach) (i : Fin 2) (f : GateSet → GateSet) : (m.modGate i f).sense = m.sense := rfl
@[simp] theorem modGate_pos (m : Mach) (i : Fin 2) (f : GateSet → GateSet) : (m.modGate i f).pos = m.pos := rfl
@[simp] theorem modGate_ain (m : Mach) (i : Fin 2) (f : GateSet → GateSet) : (m.modGate i f).ain = m.ain := rfl
@[simp] theorem modGate_ainLast (m : Mach) (i : Fin 2) (f : GateSet → GateSet) : (m.modGate i f).ainLast = m.ainLast := rfl
@[simp] theorem modGate_pairs (m : Mach) (i : Fin 2) (f : GateSet → GateSet) : (m.modGate i f).pairs = m.pairs := rfl
@[simp] theorem modGate_slots (m : Mach) (i : Fin 2) (f : GateSet → GateSet) : (m.modGate i f).slots = m.slots := rfl
@[simp] theorem modGate_signals (m : Mach) (i : Fin 2) (f : GateSet → GateSet) : (m.modGate i f).signals = m.signals := rfl
@[simp] theorem modGate_eng (m : Mach) (i : Fin 2) (f : GateSet → GateSet) : (m.modGate i f).eng = m.eng := rfl
@[simp] theorem modGate_mc (m : Mach) (i : Fin 2) (f : GateSet → GateSet) : (m.modGate i f).mc = m.mc := rfl
@[simp] theorem modGate_outer (m : Mach) (i : Fin 2) (f : GateSet → GateSet) : (m.modGate i f).outer = m.outer := rfl
@[simp] theorem modGate_echo (m : Mach) (i : Fin 2) (f : GateSet → GateSet) : (m.modGate i f).echo = m.echo := rfl
@[simp] theorem modGate_capture (m : Mach) (i : Fin 2) (f : GateSet → GateSet) : (m.modGate i f).capture = m.capture := rfl
@[simp] theorem modGate_nv (m : Mach) (i : Fin 2) (f : GateSet → GateSet) : (m.modGate i f).nv = m.nv := rfl
@[simp] theorem modGate_lantern (m : Mach) (i : Fin 2) (f : GateSet → GateSet) : (m.modGate i f).lantern = m.lantern := rfl
@[simp] theorem modGate_sleep (m : Mach) (i : Fin 2) (f : GateSet → GateSet) : (m.modGate i f).sleep = m.sleep := rfl
@[simp] theorem modGate_thermal (m : Mach) (i : Fin 2) (f : GateSet → GateSet) : (m.modGate i f).thermal = m.thermal := rfl
@[simp] theorem modGate_canopy (m : Mach) (i : Fin 2) (f : GateSet → GateSet) : (m.modGate i f).canopy = m.canopy := rfl
@[simp] theorem modGate_grove (m : Mach) (i : Fin 2) (f : GateSet → GateSet) : (m.modGate i f).grove = m.grove := rfl
@[simp] theorem modGate_net (m : Mach) (i : Fin 2) (f : GateSet → GateSet) : (m.modGate i f).net = m.net := rfl
@[simp] theorem modGate_sess (m : Mach) (i : Fin 2) (f : GateSet → GateSet) : (m.modGate i f).sess = m.sess := rfl
@[simp] theorem modGate_fw (m : Mach) (i : Fin 2) (f : GateSet → GateSet) : (m.modGate i f).fw = m.fw := rfl
@[simp] theorem modGate_mram (m : Mach) (i : Fin 2) (f : GateSet → GateSet) : (m.modGate i f).mram = m.mram := rfl
@[simp] theorem modGate_sent (m : Mach) (i : Fin 2) (f : GateSet → GateSet) : (m.modGate i f).sent = m.sent := rfl
@[simp] theorem modGate_faultN (m : Mach) (i : Fin 2) (f : GateSet → GateSet) : (m.modGate i f).faultN = m.faultN := rfl
@[simp] theorem modGate_free (m : Mach) (i : Fin 2) (f : GateSet → GateSet) : (m.modGate i f).free = m.free := rfl

@[simp] theorem modSafety_now (m : Mach) (f : Safety → Safety) : (m.modSafety f).now = m.now := rfl
@[simp] theorem modSafety_live (m : Mach) (f : Safety → Safety) : (m.modSafety f).live = m.live := rfl
@[simp] theorem modSafety_shadow (m : Mach) (f : Safety → Safety) : (m.modSafety f).shadow = m.shadow := rfl
@[simp] theorem modSafety_up (m : Mach) (f : Safety → Safety) : (m.modSafety f).up = m.up := rfl
@[simp] theorem modSafety_clr (m : Mach) (f : Safety → Safety) : (m.modSafety f).clr = m.clr := rfl
@[simp] theorem modSafety_voters (m : Mach) (f : Safety → Safety) : (m.modSafety f).voters = m.voters := rfl
@[simp] theorem modSafety_pwm (m : Mach) (f : Safety → Safety) : (m.modSafety f).pwm = m.pwm := rfl
@[simp] theorem modSafety_ch (m : Mach) (f : Safety → Safety) : (m.modSafety f).ch = m.ch := rfl
@[simp] theorem modSafety_gate (m : Mach) (f : Safety → Safety) : (m.modSafety f).gate = m.gate := rfl
@[simp] theorem modSafety_safety (m : Mach) (f : Safety → Safety) : (m.modSafety f).safety = f m.safety := rfl
@[simp] theorem modSafety_drives (m : Mach) (f : Safety → Safety) : (m.modSafety f).drives = m.drives := rfl
@[simp] theorem modSafety_ev (m : Mach) (f : Safety → Safety) : (m.modSafety f).ev = m.ev := rfl
@[simp] theorem modSafety_doms (m : Mach) (f : Safety → Safety) : (m.modSafety f).doms = m.doms := rfl
@[simp] theorem modSafety_gcommits (m : Mach) (f : Safety → Safety) : (m.modSafety f).gcommits = m.gcommits := rfl
@[simp] theorem modSafety_sense (m : Mach) (f : Safety → Safety) : (m.modSafety f).sense = m.sense := rfl
@[simp] theorem modSafety_pos (m : Mach) (f : Safety → Safety) : (m.modSafety f).pos = m.pos := rfl
@[simp] theorem modSafety_ain (m : Mach) (f : Safety → Safety) : (m.modSafety f).ain = m.ain := rfl
@[simp] theorem modSafety_ainLast (m : Mach) (f : Safety → Safety) : (m.modSafety f).ainLast = m.ainLast := rfl
@[simp] theorem modSafety_pairs (m : Mach) (f : Safety → Safety) : (m.modSafety f).pairs = m.pairs := rfl
@[simp] theorem modSafety_slots (m : Mach) (f : Safety → Safety) : (m.modSafety f).slots = m.slots := rfl
@[simp] theorem modSafety_signals (m : Mach) (f : Safety → Safety) : (m.modSafety f).signals = m.signals := rfl
@[simp] theorem modSafety_eng (m : Mach) (f : Safety → Safety) : (m.modSafety f).eng = m.eng := rfl
@[simp] theorem modSafety_mc (m : Mach) (f : Safety → Safety) : (m.modSafety f).mc = m.mc := rfl
@[simp] theorem modSafety_outer (m : Mach) (f : Safety → Safety) : (m.modSafety f).outer = m.outer := rfl
@[simp] theorem modSafety_echo (m : Mach) (f : Safety → Safety) : (m.modSafety f).echo = m.echo := rfl
@[simp] theorem modSafety_capture (m : Mach) (f : Safety → Safety) : (m.modSafety f).capture = m.capture := rfl
@[simp] theorem modSafety_nv (m : Mach) (f : Safety → Safety) : (m.modSafety f).nv = m.nv := rfl
@[simp] theorem modSafety_lantern (m : Mach) (f : Safety → Safety) : (m.modSafety f).lantern = m.lantern := rfl
@[simp] theorem modSafety_sleep (m : Mach) (f : Safety → Safety) : (m.modSafety f).sleep = m.sleep := rfl
@[simp] theorem modSafety_thermal (m : Mach) (f : Safety → Safety) : (m.modSafety f).thermal = m.thermal := rfl
@[simp] theorem modSafety_canopy (m : Mach) (f : Safety → Safety) : (m.modSafety f).canopy = m.canopy := rfl
@[simp] theorem modSafety_grove (m : Mach) (f : Safety → Safety) : (m.modSafety f).grove = m.grove := rfl
@[simp] theorem modSafety_net (m : Mach) (f : Safety → Safety) : (m.modSafety f).net = m.net := rfl
@[simp] theorem modSafety_sess (m : Mach) (f : Safety → Safety) : (m.modSafety f).sess = m.sess := rfl
@[simp] theorem modSafety_fw (m : Mach) (f : Safety → Safety) : (m.modSafety f).fw = m.fw := rfl
@[simp] theorem modSafety_mram (m : Mach) (f : Safety → Safety) : (m.modSafety f).mram = m.mram := rfl
@[simp] theorem modSafety_sent (m : Mach) (f : Safety → Safety) : (m.modSafety f).sent = m.sent := rfl
@[simp] theorem modSafety_faultN (m : Mach) (f : Safety → Safety) : (m.modSafety f).faultN = m.faultN := rfl
@[simp] theorem modSafety_free (m : Mach) (f : Safety → Safety) : (m.modSafety f).free = m.free := rfl

@[simp] theorem modDrive_now (m : Mach) (i : Fin 2) (f : Drive → Drive) : (m.modDrive i f).now = m.now := rfl
@[simp] theorem modDrive_live (m : Mach) (i : Fin 2) (f : Drive → Drive) : (m.modDrive i f).live = m.live := rfl
@[simp] theorem modDrive_shadow (m : Mach) (i : Fin 2) (f : Drive → Drive) : (m.modDrive i f).shadow = m.shadow := rfl
@[simp] theorem modDrive_up (m : Mach) (i : Fin 2) (f : Drive → Drive) : (m.modDrive i f).up = m.up := rfl
@[simp] theorem modDrive_clr (m : Mach) (i : Fin 2) (f : Drive → Drive) : (m.modDrive i f).clr = m.clr := rfl
@[simp] theorem modDrive_voters (m : Mach) (i : Fin 2) (f : Drive → Drive) : (m.modDrive i f).voters = m.voters := rfl
@[simp] theorem modDrive_pwm (m : Mach) (i : Fin 2) (f : Drive → Drive) : (m.modDrive i f).pwm = m.pwm := rfl
@[simp] theorem modDrive_ch (m : Mach) (i : Fin 2) (f : Drive → Drive) : (m.modDrive i f).ch = m.ch := rfl
@[simp] theorem modDrive_gate (m : Mach) (i : Fin 2) (f : Drive → Drive) : (m.modDrive i f).gate = m.gate := rfl
@[simp] theorem modDrive_safety (m : Mach) (i : Fin 2) (f : Drive → Drive) : (m.modDrive i f).safety = m.safety := rfl
@[simp] theorem modDrive_drives (m : Mach) (i : Fin 2) (f : Drive → Drive) : (m.modDrive i f).drives = vmod m.drives i f := rfl
@[simp] theorem modDrive_ev (m : Mach) (i : Fin 2) (f : Drive → Drive) : (m.modDrive i f).ev = m.ev := rfl
@[simp] theorem modDrive_doms (m : Mach) (i : Fin 2) (f : Drive → Drive) : (m.modDrive i f).doms = m.doms := rfl
@[simp] theorem modDrive_gcommits (m : Mach) (i : Fin 2) (f : Drive → Drive) : (m.modDrive i f).gcommits = m.gcommits := rfl
@[simp] theorem modDrive_sense (m : Mach) (i : Fin 2) (f : Drive → Drive) : (m.modDrive i f).sense = m.sense := rfl
@[simp] theorem modDrive_pos (m : Mach) (i : Fin 2) (f : Drive → Drive) : (m.modDrive i f).pos = m.pos := rfl
@[simp] theorem modDrive_ain (m : Mach) (i : Fin 2) (f : Drive → Drive) : (m.modDrive i f).ain = m.ain := rfl
@[simp] theorem modDrive_ainLast (m : Mach) (i : Fin 2) (f : Drive → Drive) : (m.modDrive i f).ainLast = m.ainLast := rfl
@[simp] theorem modDrive_pairs (m : Mach) (i : Fin 2) (f : Drive → Drive) : (m.modDrive i f).pairs = m.pairs := rfl
@[simp] theorem modDrive_slots (m : Mach) (i : Fin 2) (f : Drive → Drive) : (m.modDrive i f).slots = m.slots := rfl
@[simp] theorem modDrive_signals (m : Mach) (i : Fin 2) (f : Drive → Drive) : (m.modDrive i f).signals = m.signals := rfl
@[simp] theorem modDrive_eng (m : Mach) (i : Fin 2) (f : Drive → Drive) : (m.modDrive i f).eng = m.eng := rfl
@[simp] theorem modDrive_mc (m : Mach) (i : Fin 2) (f : Drive → Drive) : (m.modDrive i f).mc = m.mc := rfl
@[simp] theorem modDrive_outer (m : Mach) (i : Fin 2) (f : Drive → Drive) : (m.modDrive i f).outer = m.outer := rfl
@[simp] theorem modDrive_echo (m : Mach) (i : Fin 2) (f : Drive → Drive) : (m.modDrive i f).echo = m.echo := rfl
@[simp] theorem modDrive_capture (m : Mach) (i : Fin 2) (f : Drive → Drive) : (m.modDrive i f).capture = m.capture := rfl
@[simp] theorem modDrive_nv (m : Mach) (i : Fin 2) (f : Drive → Drive) : (m.modDrive i f).nv = m.nv := rfl
@[simp] theorem modDrive_lantern (m : Mach) (i : Fin 2) (f : Drive → Drive) : (m.modDrive i f).lantern = m.lantern := rfl
@[simp] theorem modDrive_sleep (m : Mach) (i : Fin 2) (f : Drive → Drive) : (m.modDrive i f).sleep = m.sleep := rfl
@[simp] theorem modDrive_thermal (m : Mach) (i : Fin 2) (f : Drive → Drive) : (m.modDrive i f).thermal = m.thermal := rfl
@[simp] theorem modDrive_canopy (m : Mach) (i : Fin 2) (f : Drive → Drive) : (m.modDrive i f).canopy = m.canopy := rfl
@[simp] theorem modDrive_grove (m : Mach) (i : Fin 2) (f : Drive → Drive) : (m.modDrive i f).grove = m.grove := rfl
@[simp] theorem modDrive_net (m : Mach) (i : Fin 2) (f : Drive → Drive) : (m.modDrive i f).net = m.net := rfl
@[simp] theorem modDrive_sess (m : Mach) (i : Fin 2) (f : Drive → Drive) : (m.modDrive i f).sess = m.sess := rfl
@[simp] theorem modDrive_fw (m : Mach) (i : Fin 2) (f : Drive → Drive) : (m.modDrive i f).fw = m.fw := rfl
@[simp] theorem modDrive_mram (m : Mach) (i : Fin 2) (f : Drive → Drive) : (m.modDrive i f).mram = m.mram := rfl
@[simp] theorem modDrive_sent (m : Mach) (i : Fin 2) (f : Drive → Drive) : (m.modDrive i f).sent = m.sent := rfl
@[simp] theorem modDrive_faultN (m : Mach) (i : Fin 2) (f : Drive → Drive) : (m.modDrive i f).faultN = m.faultN := rfl
@[simp] theorem modDrive_free (m : Mach) (i : Fin 2) (f : Drive → Drive) : (m.modDrive i f).free = m.free := rfl

@[simp] theorem modEv_now (m : Mach) (f : Events → Events) : (m.modEv f).now = m.now := rfl
@[simp] theorem modEv_live (m : Mach) (f : Events → Events) : (m.modEv f).live = m.live := rfl
@[simp] theorem modEv_shadow (m : Mach) (f : Events → Events) : (m.modEv f).shadow = m.shadow := rfl
@[simp] theorem modEv_up (m : Mach) (f : Events → Events) : (m.modEv f).up = m.up := rfl
@[simp] theorem modEv_clr (m : Mach) (f : Events → Events) : (m.modEv f).clr = m.clr := rfl
@[simp] theorem modEv_voters (m : Mach) (f : Events → Events) : (m.modEv f).voters = m.voters := rfl
@[simp] theorem modEv_pwm (m : Mach) (f : Events → Events) : (m.modEv f).pwm = m.pwm := rfl
@[simp] theorem modEv_ch (m : Mach) (f : Events → Events) : (m.modEv f).ch = m.ch := rfl
@[simp] theorem modEv_gate (m : Mach) (f : Events → Events) : (m.modEv f).gate = m.gate := rfl
@[simp] theorem modEv_safety (m : Mach) (f : Events → Events) : (m.modEv f).safety = m.safety := rfl
@[simp] theorem modEv_drives (m : Mach) (f : Events → Events) : (m.modEv f).drives = m.drives := rfl
@[simp] theorem modEv_ev (m : Mach) (f : Events → Events) : (m.modEv f).ev = f m.ev := rfl
@[simp] theorem modEv_doms (m : Mach) (f : Events → Events) : (m.modEv f).doms = m.doms := rfl
@[simp] theorem modEv_gcommits (m : Mach) (f : Events → Events) : (m.modEv f).gcommits = m.gcommits := rfl
@[simp] theorem modEv_sense (m : Mach) (f : Events → Events) : (m.modEv f).sense = m.sense := rfl
@[simp] theorem modEv_pos (m : Mach) (f : Events → Events) : (m.modEv f).pos = m.pos := rfl
@[simp] theorem modEv_ain (m : Mach) (f : Events → Events) : (m.modEv f).ain = m.ain := rfl
@[simp] theorem modEv_ainLast (m : Mach) (f : Events → Events) : (m.modEv f).ainLast = m.ainLast := rfl
@[simp] theorem modEv_pairs (m : Mach) (f : Events → Events) : (m.modEv f).pairs = m.pairs := rfl
@[simp] theorem modEv_slots (m : Mach) (f : Events → Events) : (m.modEv f).slots = m.slots := rfl
@[simp] theorem modEv_signals (m : Mach) (f : Events → Events) : (m.modEv f).signals = m.signals := rfl
@[simp] theorem modEv_eng (m : Mach) (f : Events → Events) : (m.modEv f).eng = m.eng := rfl
@[simp] theorem modEv_mc (m : Mach) (f : Events → Events) : (m.modEv f).mc = m.mc := rfl
@[simp] theorem modEv_outer (m : Mach) (f : Events → Events) : (m.modEv f).outer = m.outer := rfl
@[simp] theorem modEv_echo (m : Mach) (f : Events → Events) : (m.modEv f).echo = m.echo := rfl
@[simp] theorem modEv_capture (m : Mach) (f : Events → Events) : (m.modEv f).capture = m.capture := rfl
@[simp] theorem modEv_nv (m : Mach) (f : Events → Events) : (m.modEv f).nv = m.nv := rfl
@[simp] theorem modEv_lantern (m : Mach) (f : Events → Events) : (m.modEv f).lantern = m.lantern := rfl
@[simp] theorem modEv_sleep (m : Mach) (f : Events → Events) : (m.modEv f).sleep = m.sleep := rfl
@[simp] theorem modEv_thermal (m : Mach) (f : Events → Events) : (m.modEv f).thermal = m.thermal := rfl
@[simp] theorem modEv_canopy (m : Mach) (f : Events → Events) : (m.modEv f).canopy = m.canopy := rfl
@[simp] theorem modEv_grove (m : Mach) (f : Events → Events) : (m.modEv f).grove = m.grove := rfl
@[simp] theorem modEv_net (m : Mach) (f : Events → Events) : (m.modEv f).net = m.net := rfl
@[simp] theorem modEv_sess (m : Mach) (f : Events → Events) : (m.modEv f).sess = m.sess := rfl
@[simp] theorem modEv_fw (m : Mach) (f : Events → Events) : (m.modEv f).fw = m.fw := rfl
@[simp] theorem modEv_mram (m : Mach) (f : Events → Events) : (m.modEv f).mram = m.mram := rfl
@[simp] theorem modEv_sent (m : Mach) (f : Events → Events) : (m.modEv f).sent = m.sent := rfl
@[simp] theorem modEv_faultN (m : Mach) (f : Events → Events) : (m.modEv f).faultN = m.faultN := rfl
@[simp] theorem modEv_free (m : Mach) (f : Events → Events) : (m.modEv f).free = m.free := rfl

@[simp] theorem modDom_now (m : Mach) (i : Fin 7) (f : DomSt → DomSt) : (m.modDom i f).now = m.now := rfl
@[simp] theorem modDom_live (m : Mach) (i : Fin 7) (f : DomSt → DomSt) : (m.modDom i f).live = m.live := rfl
@[simp] theorem modDom_shadow (m : Mach) (i : Fin 7) (f : DomSt → DomSt) : (m.modDom i f).shadow = m.shadow := rfl
@[simp] theorem modDom_up (m : Mach) (i : Fin 7) (f : DomSt → DomSt) : (m.modDom i f).up = m.up := rfl
@[simp] theorem modDom_clr (m : Mach) (i : Fin 7) (f : DomSt → DomSt) : (m.modDom i f).clr = m.clr := rfl
@[simp] theorem modDom_voters (m : Mach) (i : Fin 7) (f : DomSt → DomSt) : (m.modDom i f).voters = m.voters := rfl
@[simp] theorem modDom_pwm (m : Mach) (i : Fin 7) (f : DomSt → DomSt) : (m.modDom i f).pwm = m.pwm := rfl
@[simp] theorem modDom_ch (m : Mach) (i : Fin 7) (f : DomSt → DomSt) : (m.modDom i f).ch = m.ch := rfl
@[simp] theorem modDom_gate (m : Mach) (i : Fin 7) (f : DomSt → DomSt) : (m.modDom i f).gate = m.gate := rfl
@[simp] theorem modDom_safety (m : Mach) (i : Fin 7) (f : DomSt → DomSt) : (m.modDom i f).safety = m.safety := rfl
@[simp] theorem modDom_drives (m : Mach) (i : Fin 7) (f : DomSt → DomSt) : (m.modDom i f).drives = m.drives := rfl
@[simp] theorem modDom_ev (m : Mach) (i : Fin 7) (f : DomSt → DomSt) : (m.modDom i f).ev = m.ev := rfl
@[simp] theorem modDom_doms (m : Mach) (i : Fin 7) (f : DomSt → DomSt) : (m.modDom i f).doms = vmod m.doms i f := rfl
@[simp] theorem modDom_gcommits (m : Mach) (i : Fin 7) (f : DomSt → DomSt) : (m.modDom i f).gcommits = m.gcommits := rfl
@[simp] theorem modDom_sense (m : Mach) (i : Fin 7) (f : DomSt → DomSt) : (m.modDom i f).sense = m.sense := rfl
@[simp] theorem modDom_pos (m : Mach) (i : Fin 7) (f : DomSt → DomSt) : (m.modDom i f).pos = m.pos := rfl
@[simp] theorem modDom_ain (m : Mach) (i : Fin 7) (f : DomSt → DomSt) : (m.modDom i f).ain = m.ain := rfl
@[simp] theorem modDom_ainLast (m : Mach) (i : Fin 7) (f : DomSt → DomSt) : (m.modDom i f).ainLast = m.ainLast := rfl
@[simp] theorem modDom_pairs (m : Mach) (i : Fin 7) (f : DomSt → DomSt) : (m.modDom i f).pairs = m.pairs := rfl
@[simp] theorem modDom_slots (m : Mach) (i : Fin 7) (f : DomSt → DomSt) : (m.modDom i f).slots = m.slots := rfl
@[simp] theorem modDom_signals (m : Mach) (i : Fin 7) (f : DomSt → DomSt) : (m.modDom i f).signals = m.signals := rfl
@[simp] theorem modDom_eng (m : Mach) (i : Fin 7) (f : DomSt → DomSt) : (m.modDom i f).eng = m.eng := rfl
@[simp] theorem modDom_mc (m : Mach) (i : Fin 7) (f : DomSt → DomSt) : (m.modDom i f).mc = m.mc := rfl
@[simp] theorem modDom_outer (m : Mach) (i : Fin 7) (f : DomSt → DomSt) : (m.modDom i f).outer = m.outer := rfl
@[simp] theorem modDom_echo (m : Mach) (i : Fin 7) (f : DomSt → DomSt) : (m.modDom i f).echo = m.echo := rfl
@[simp] theorem modDom_capture (m : Mach) (i : Fin 7) (f : DomSt → DomSt) : (m.modDom i f).capture = m.capture := rfl
@[simp] theorem modDom_nv (m : Mach) (i : Fin 7) (f : DomSt → DomSt) : (m.modDom i f).nv = m.nv := rfl
@[simp] theorem modDom_lantern (m : Mach) (i : Fin 7) (f : DomSt → DomSt) : (m.modDom i f).lantern = m.lantern := rfl
@[simp] theorem modDom_sleep (m : Mach) (i : Fin 7) (f : DomSt → DomSt) : (m.modDom i f).sleep = m.sleep := rfl
@[simp] theorem modDom_thermal (m : Mach) (i : Fin 7) (f : DomSt → DomSt) : (m.modDom i f).thermal = m.thermal := rfl
@[simp] theorem modDom_canopy (m : Mach) (i : Fin 7) (f : DomSt → DomSt) : (m.modDom i f).canopy = m.canopy := rfl
@[simp] theorem modDom_grove (m : Mach) (i : Fin 7) (f : DomSt → DomSt) : (m.modDom i f).grove = m.grove := rfl
@[simp] theorem modDom_net (m : Mach) (i : Fin 7) (f : DomSt → DomSt) : (m.modDom i f).net = m.net := rfl
@[simp] theorem modDom_sess (m : Mach) (i : Fin 7) (f : DomSt → DomSt) : (m.modDom i f).sess = m.sess := rfl
@[simp] theorem modDom_fw (m : Mach) (i : Fin 7) (f : DomSt → DomSt) : (m.modDom i f).fw = m.fw := rfl
@[simp] theorem modDom_mram (m : Mach) (i : Fin 7) (f : DomSt → DomSt) : (m.modDom i f).mram = m.mram := rfl
@[simp] theorem modDom_sent (m : Mach) (i : Fin 7) (f : DomSt → DomSt) : (m.modDom i f).sent = m.sent := rfl
@[simp] theorem modDom_faultN (m : Mach) (i : Fin 7) (f : DomSt → DomSt) : (m.modDom i f).faultN = m.faultN := rfl
@[simp] theorem modDom_free (m : Mach) (i : Fin 7) (f : DomSt → DomSt) : (m.modDom i f).free = m.free := rfl

@[simp] theorem modSense_now (m : Mach) (i : Fin 2) (f : Sense → Sense) : (m.modSense i f).now = m.now := rfl
@[simp] theorem modSense_live (m : Mach) (i : Fin 2) (f : Sense → Sense) : (m.modSense i f).live = m.live := rfl
@[simp] theorem modSense_shadow (m : Mach) (i : Fin 2) (f : Sense → Sense) : (m.modSense i f).shadow = m.shadow := rfl
@[simp] theorem modSense_up (m : Mach) (i : Fin 2) (f : Sense → Sense) : (m.modSense i f).up = m.up := rfl
@[simp] theorem modSense_clr (m : Mach) (i : Fin 2) (f : Sense → Sense) : (m.modSense i f).clr = m.clr := rfl
@[simp] theorem modSense_voters (m : Mach) (i : Fin 2) (f : Sense → Sense) : (m.modSense i f).voters = m.voters := rfl
@[simp] theorem modSense_pwm (m : Mach) (i : Fin 2) (f : Sense → Sense) : (m.modSense i f).pwm = m.pwm := rfl
@[simp] theorem modSense_ch (m : Mach) (i : Fin 2) (f : Sense → Sense) : (m.modSense i f).ch = m.ch := rfl
@[simp] theorem modSense_gate (m : Mach) (i : Fin 2) (f : Sense → Sense) : (m.modSense i f).gate = m.gate := rfl
@[simp] theorem modSense_safety (m : Mach) (i : Fin 2) (f : Sense → Sense) : (m.modSense i f).safety = m.safety := rfl
@[simp] theorem modSense_drives (m : Mach) (i : Fin 2) (f : Sense → Sense) : (m.modSense i f).drives = m.drives := rfl
@[simp] theorem modSense_ev (m : Mach) (i : Fin 2) (f : Sense → Sense) : (m.modSense i f).ev = m.ev := rfl
@[simp] theorem modSense_doms (m : Mach) (i : Fin 2) (f : Sense → Sense) : (m.modSense i f).doms = m.doms := rfl
@[simp] theorem modSense_gcommits (m : Mach) (i : Fin 2) (f : Sense → Sense) : (m.modSense i f).gcommits = m.gcommits := rfl
@[simp] theorem modSense_sense (m : Mach) (i : Fin 2) (f : Sense → Sense) : (m.modSense i f).sense = vmod m.sense i f := rfl
@[simp] theorem modSense_pos (m : Mach) (i : Fin 2) (f : Sense → Sense) : (m.modSense i f).pos = m.pos := rfl
@[simp] theorem modSense_ain (m : Mach) (i : Fin 2) (f : Sense → Sense) : (m.modSense i f).ain = m.ain := rfl
@[simp] theorem modSense_ainLast (m : Mach) (i : Fin 2) (f : Sense → Sense) : (m.modSense i f).ainLast = m.ainLast := rfl
@[simp] theorem modSense_pairs (m : Mach) (i : Fin 2) (f : Sense → Sense) : (m.modSense i f).pairs = m.pairs := rfl
@[simp] theorem modSense_slots (m : Mach) (i : Fin 2) (f : Sense → Sense) : (m.modSense i f).slots = m.slots := rfl
@[simp] theorem modSense_signals (m : Mach) (i : Fin 2) (f : Sense → Sense) : (m.modSense i f).signals = m.signals := rfl
@[simp] theorem modSense_eng (m : Mach) (i : Fin 2) (f : Sense → Sense) : (m.modSense i f).eng = m.eng := rfl
@[simp] theorem modSense_mc (m : Mach) (i : Fin 2) (f : Sense → Sense) : (m.modSense i f).mc = m.mc := rfl
@[simp] theorem modSense_outer (m : Mach) (i : Fin 2) (f : Sense → Sense) : (m.modSense i f).outer = m.outer := rfl
@[simp] theorem modSense_echo (m : Mach) (i : Fin 2) (f : Sense → Sense) : (m.modSense i f).echo = m.echo := rfl
@[simp] theorem modSense_capture (m : Mach) (i : Fin 2) (f : Sense → Sense) : (m.modSense i f).capture = m.capture := rfl
@[simp] theorem modSense_nv (m : Mach) (i : Fin 2) (f : Sense → Sense) : (m.modSense i f).nv = m.nv := rfl
@[simp] theorem modSense_lantern (m : Mach) (i : Fin 2) (f : Sense → Sense) : (m.modSense i f).lantern = m.lantern := rfl
@[simp] theorem modSense_sleep (m : Mach) (i : Fin 2) (f : Sense → Sense) : (m.modSense i f).sleep = m.sleep := rfl
@[simp] theorem modSense_thermal (m : Mach) (i : Fin 2) (f : Sense → Sense) : (m.modSense i f).thermal = m.thermal := rfl
@[simp] theorem modSense_canopy (m : Mach) (i : Fin 2) (f : Sense → Sense) : (m.modSense i f).canopy = m.canopy := rfl
@[simp] theorem modSense_grove (m : Mach) (i : Fin 2) (f : Sense → Sense) : (m.modSense i f).grove = m.grove := rfl
@[simp] theorem modSense_net (m : Mach) (i : Fin 2) (f : Sense → Sense) : (m.modSense i f).net = m.net := rfl
@[simp] theorem modSense_sess (m : Mach) (i : Fin 2) (f : Sense → Sense) : (m.modSense i f).sess = m.sess := rfl
@[simp] theorem modSense_fw (m : Mach) (i : Fin 2) (f : Sense → Sense) : (m.modSense i f).fw = m.fw := rfl
@[simp] theorem modSense_mram (m : Mach) (i : Fin 2) (f : Sense → Sense) : (m.modSense i f).mram = m.mram := rfl
@[simp] theorem modSense_sent (m : Mach) (i : Fin 2) (f : Sense → Sense) : (m.modSense i f).sent = m.sent := rfl
@[simp] theorem modSense_faultN (m : Mach) (i : Fin 2) (f : Sense → Sense) : (m.modSense i f).faultN = m.faultN := rfl
@[simp] theorem modSense_free (m : Mach) (i : Fin 2) (f : Sense → Sense) : (m.modSense i f).free = m.free := rfl

@[simp] theorem modPos_now (m : Mach) (i : Fin 2) (f : PosIf → PosIf) : (m.modPos i f).now = m.now := rfl
@[simp] theorem modPos_live (m : Mach) (i : Fin 2) (f : PosIf → PosIf) : (m.modPos i f).live = m.live := rfl
@[simp] theorem modPos_shadow (m : Mach) (i : Fin 2) (f : PosIf → PosIf) : (m.modPos i f).shadow = m.shadow := rfl
@[simp] theorem modPos_up (m : Mach) (i : Fin 2) (f : PosIf → PosIf) : (m.modPos i f).up = m.up := rfl
@[simp] theorem modPos_clr (m : Mach) (i : Fin 2) (f : PosIf → PosIf) : (m.modPos i f).clr = m.clr := rfl
@[simp] theorem modPos_voters (m : Mach) (i : Fin 2) (f : PosIf → PosIf) : (m.modPos i f).voters = m.voters := rfl
@[simp] theorem modPos_pwm (m : Mach) (i : Fin 2) (f : PosIf → PosIf) : (m.modPos i f).pwm = m.pwm := rfl
@[simp] theorem modPos_ch (m : Mach) (i : Fin 2) (f : PosIf → PosIf) : (m.modPos i f).ch = m.ch := rfl
@[simp] theorem modPos_gate (m : Mach) (i : Fin 2) (f : PosIf → PosIf) : (m.modPos i f).gate = m.gate := rfl
@[simp] theorem modPos_safety (m : Mach) (i : Fin 2) (f : PosIf → PosIf) : (m.modPos i f).safety = m.safety := rfl
@[simp] theorem modPos_drives (m : Mach) (i : Fin 2) (f : PosIf → PosIf) : (m.modPos i f).drives = m.drives := rfl
@[simp] theorem modPos_ev (m : Mach) (i : Fin 2) (f : PosIf → PosIf) : (m.modPos i f).ev = m.ev := rfl
@[simp] theorem modPos_doms (m : Mach) (i : Fin 2) (f : PosIf → PosIf) : (m.modPos i f).doms = m.doms := rfl
@[simp] theorem modPos_gcommits (m : Mach) (i : Fin 2) (f : PosIf → PosIf) : (m.modPos i f).gcommits = m.gcommits := rfl
@[simp] theorem modPos_sense (m : Mach) (i : Fin 2) (f : PosIf → PosIf) : (m.modPos i f).sense = m.sense := rfl
@[simp] theorem modPos_pos (m : Mach) (i : Fin 2) (f : PosIf → PosIf) : (m.modPos i f).pos = vmod m.pos i f := rfl
@[simp] theorem modPos_ain (m : Mach) (i : Fin 2) (f : PosIf → PosIf) : (m.modPos i f).ain = m.ain := rfl
@[simp] theorem modPos_ainLast (m : Mach) (i : Fin 2) (f : PosIf → PosIf) : (m.modPos i f).ainLast = m.ainLast := rfl
@[simp] theorem modPos_pairs (m : Mach) (i : Fin 2) (f : PosIf → PosIf) : (m.modPos i f).pairs = m.pairs := rfl
@[simp] theorem modPos_slots (m : Mach) (i : Fin 2) (f : PosIf → PosIf) : (m.modPos i f).slots = m.slots := rfl
@[simp] theorem modPos_signals (m : Mach) (i : Fin 2) (f : PosIf → PosIf) : (m.modPos i f).signals = m.signals := rfl
@[simp] theorem modPos_eng (m : Mach) (i : Fin 2) (f : PosIf → PosIf) : (m.modPos i f).eng = m.eng := rfl
@[simp] theorem modPos_mc (m : Mach) (i : Fin 2) (f : PosIf → PosIf) : (m.modPos i f).mc = m.mc := rfl
@[simp] theorem modPos_outer (m : Mach) (i : Fin 2) (f : PosIf → PosIf) : (m.modPos i f).outer = m.outer := rfl
@[simp] theorem modPos_echo (m : Mach) (i : Fin 2) (f : PosIf → PosIf) : (m.modPos i f).echo = m.echo := rfl
@[simp] theorem modPos_capture (m : Mach) (i : Fin 2) (f : PosIf → PosIf) : (m.modPos i f).capture = m.capture := rfl
@[simp] theorem modPos_nv (m : Mach) (i : Fin 2) (f : PosIf → PosIf) : (m.modPos i f).nv = m.nv := rfl
@[simp] theorem modPos_lantern (m : Mach) (i : Fin 2) (f : PosIf → PosIf) : (m.modPos i f).lantern = m.lantern := rfl
@[simp] theorem modPos_sleep (m : Mach) (i : Fin 2) (f : PosIf → PosIf) : (m.modPos i f).sleep = m.sleep := rfl
@[simp] theorem modPos_thermal (m : Mach) (i : Fin 2) (f : PosIf → PosIf) : (m.modPos i f).thermal = m.thermal := rfl
@[simp] theorem modPos_canopy (m : Mach) (i : Fin 2) (f : PosIf → PosIf) : (m.modPos i f).canopy = m.canopy := rfl
@[simp] theorem modPos_grove (m : Mach) (i : Fin 2) (f : PosIf → PosIf) : (m.modPos i f).grove = m.grove := rfl
@[simp] theorem modPos_net (m : Mach) (i : Fin 2) (f : PosIf → PosIf) : (m.modPos i f).net = m.net := rfl
@[simp] theorem modPos_sess (m : Mach) (i : Fin 2) (f : PosIf → PosIf) : (m.modPos i f).sess = m.sess := rfl
@[simp] theorem modPos_fw (m : Mach) (i : Fin 2) (f : PosIf → PosIf) : (m.modPos i f).fw = m.fw := rfl
@[simp] theorem modPos_mram (m : Mach) (i : Fin 2) (f : PosIf → PosIf) : (m.modPos i f).mram = m.mram := rfl
@[simp] theorem modPos_sent (m : Mach) (i : Fin 2) (f : PosIf → PosIf) : (m.modPos i f).sent = m.sent := rfl
@[simp] theorem modPos_faultN (m : Mach) (i : Fin 2) (f : PosIf → PosIf) : (m.modPos i f).faultN = m.faultN := rfl
@[simp] theorem modPos_free (m : Mach) (i : Fin 2) (f : PosIf → PosIf) : (m.modPos i f).free = m.free := rfl

@[simp] theorem modAin_now (m : Mach) (i : Fin 8) (f : Ain → Ain) : (m.modAin i f).now = m.now := rfl
@[simp] theorem modAin_live (m : Mach) (i : Fin 8) (f : Ain → Ain) : (m.modAin i f).live = m.live := rfl
@[simp] theorem modAin_shadow (m : Mach) (i : Fin 8) (f : Ain → Ain) : (m.modAin i f).shadow = m.shadow := rfl
@[simp] theorem modAin_up (m : Mach) (i : Fin 8) (f : Ain → Ain) : (m.modAin i f).up = m.up := rfl
@[simp] theorem modAin_clr (m : Mach) (i : Fin 8) (f : Ain → Ain) : (m.modAin i f).clr = m.clr := rfl
@[simp] theorem modAin_voters (m : Mach) (i : Fin 8) (f : Ain → Ain) : (m.modAin i f).voters = m.voters := rfl
@[simp] theorem modAin_pwm (m : Mach) (i : Fin 8) (f : Ain → Ain) : (m.modAin i f).pwm = m.pwm := rfl
@[simp] theorem modAin_ch (m : Mach) (i : Fin 8) (f : Ain → Ain) : (m.modAin i f).ch = m.ch := rfl
@[simp] theorem modAin_gate (m : Mach) (i : Fin 8) (f : Ain → Ain) : (m.modAin i f).gate = m.gate := rfl
@[simp] theorem modAin_safety (m : Mach) (i : Fin 8) (f : Ain → Ain) : (m.modAin i f).safety = m.safety := rfl
@[simp] theorem modAin_drives (m : Mach) (i : Fin 8) (f : Ain → Ain) : (m.modAin i f).drives = m.drives := rfl
@[simp] theorem modAin_ev (m : Mach) (i : Fin 8) (f : Ain → Ain) : (m.modAin i f).ev = m.ev := rfl
@[simp] theorem modAin_doms (m : Mach) (i : Fin 8) (f : Ain → Ain) : (m.modAin i f).doms = m.doms := rfl
@[simp] theorem modAin_gcommits (m : Mach) (i : Fin 8) (f : Ain → Ain) : (m.modAin i f).gcommits = m.gcommits := rfl
@[simp] theorem modAin_sense (m : Mach) (i : Fin 8) (f : Ain → Ain) : (m.modAin i f).sense = m.sense := rfl
@[simp] theorem modAin_pos (m : Mach) (i : Fin 8) (f : Ain → Ain) : (m.modAin i f).pos = m.pos := rfl
@[simp] theorem modAin_ain (m : Mach) (i : Fin 8) (f : Ain → Ain) : (m.modAin i f).ain = vmod m.ain i f := rfl
@[simp] theorem modAin_ainLast (m : Mach) (i : Fin 8) (f : Ain → Ain) : (m.modAin i f).ainLast = m.ainLast := rfl
@[simp] theorem modAin_pairs (m : Mach) (i : Fin 8) (f : Ain → Ain) : (m.modAin i f).pairs = m.pairs := rfl
@[simp] theorem modAin_slots (m : Mach) (i : Fin 8) (f : Ain → Ain) : (m.modAin i f).slots = m.slots := rfl
@[simp] theorem modAin_signals (m : Mach) (i : Fin 8) (f : Ain → Ain) : (m.modAin i f).signals = m.signals := rfl
@[simp] theorem modAin_eng (m : Mach) (i : Fin 8) (f : Ain → Ain) : (m.modAin i f).eng = m.eng := rfl
@[simp] theorem modAin_mc (m : Mach) (i : Fin 8) (f : Ain → Ain) : (m.modAin i f).mc = m.mc := rfl
@[simp] theorem modAin_outer (m : Mach) (i : Fin 8) (f : Ain → Ain) : (m.modAin i f).outer = m.outer := rfl
@[simp] theorem modAin_echo (m : Mach) (i : Fin 8) (f : Ain → Ain) : (m.modAin i f).echo = m.echo := rfl
@[simp] theorem modAin_capture (m : Mach) (i : Fin 8) (f : Ain → Ain) : (m.modAin i f).capture = m.capture := rfl
@[simp] theorem modAin_nv (m : Mach) (i : Fin 8) (f : Ain → Ain) : (m.modAin i f).nv = m.nv := rfl
@[simp] theorem modAin_lantern (m : Mach) (i : Fin 8) (f : Ain → Ain) : (m.modAin i f).lantern = m.lantern := rfl
@[simp] theorem modAin_sleep (m : Mach) (i : Fin 8) (f : Ain → Ain) : (m.modAin i f).sleep = m.sleep := rfl
@[simp] theorem modAin_thermal (m : Mach) (i : Fin 8) (f : Ain → Ain) : (m.modAin i f).thermal = m.thermal := rfl
@[simp] theorem modAin_canopy (m : Mach) (i : Fin 8) (f : Ain → Ain) : (m.modAin i f).canopy = m.canopy := rfl
@[simp] theorem modAin_grove (m : Mach) (i : Fin 8) (f : Ain → Ain) : (m.modAin i f).grove = m.grove := rfl
@[simp] theorem modAin_net (m : Mach) (i : Fin 8) (f : Ain → Ain) : (m.modAin i f).net = m.net := rfl
@[simp] theorem modAin_sess (m : Mach) (i : Fin 8) (f : Ain → Ain) : (m.modAin i f).sess = m.sess := rfl
@[simp] theorem modAin_fw (m : Mach) (i : Fin 8) (f : Ain → Ain) : (m.modAin i f).fw = m.fw := rfl
@[simp] theorem modAin_mram (m : Mach) (i : Fin 8) (f : Ain → Ain) : (m.modAin i f).mram = m.mram := rfl
@[simp] theorem modAin_sent (m : Mach) (i : Fin 8) (f : Ain → Ain) : (m.modAin i f).sent = m.sent := rfl
@[simp] theorem modAin_faultN (m : Mach) (i : Fin 8) (f : Ain → Ain) : (m.modAin i f).faultN = m.faultN := rfl
@[simp] theorem modAin_free (m : Mach) (i : Fin 8) (f : Ain → Ain) : (m.modAin i f).free = m.free := rfl

@[simp] theorem modPair_now (m : Mach) (i : Fin 4) (f : Pair → Pair) : (m.modPair i f).now = m.now := rfl
@[simp] theorem modPair_live (m : Mach) (i : Fin 4) (f : Pair → Pair) : (m.modPair i f).live = m.live := rfl
@[simp] theorem modPair_shadow (m : Mach) (i : Fin 4) (f : Pair → Pair) : (m.modPair i f).shadow = m.shadow := rfl
@[simp] theorem modPair_up (m : Mach) (i : Fin 4) (f : Pair → Pair) : (m.modPair i f).up = m.up := rfl
@[simp] theorem modPair_clr (m : Mach) (i : Fin 4) (f : Pair → Pair) : (m.modPair i f).clr = m.clr := rfl
@[simp] theorem modPair_voters (m : Mach) (i : Fin 4) (f : Pair → Pair) : (m.modPair i f).voters = m.voters := rfl
@[simp] theorem modPair_pwm (m : Mach) (i : Fin 4) (f : Pair → Pair) : (m.modPair i f).pwm = m.pwm := rfl
@[simp] theorem modPair_ch (m : Mach) (i : Fin 4) (f : Pair → Pair) : (m.modPair i f).ch = m.ch := rfl
@[simp] theorem modPair_gate (m : Mach) (i : Fin 4) (f : Pair → Pair) : (m.modPair i f).gate = m.gate := rfl
@[simp] theorem modPair_safety (m : Mach) (i : Fin 4) (f : Pair → Pair) : (m.modPair i f).safety = m.safety := rfl
@[simp] theorem modPair_drives (m : Mach) (i : Fin 4) (f : Pair → Pair) : (m.modPair i f).drives = m.drives := rfl
@[simp] theorem modPair_ev (m : Mach) (i : Fin 4) (f : Pair → Pair) : (m.modPair i f).ev = m.ev := rfl
@[simp] theorem modPair_doms (m : Mach) (i : Fin 4) (f : Pair → Pair) : (m.modPair i f).doms = m.doms := rfl
@[simp] theorem modPair_gcommits (m : Mach) (i : Fin 4) (f : Pair → Pair) : (m.modPair i f).gcommits = m.gcommits := rfl
@[simp] theorem modPair_sense (m : Mach) (i : Fin 4) (f : Pair → Pair) : (m.modPair i f).sense = m.sense := rfl
@[simp] theorem modPair_pos (m : Mach) (i : Fin 4) (f : Pair → Pair) : (m.modPair i f).pos = m.pos := rfl
@[simp] theorem modPair_ain (m : Mach) (i : Fin 4) (f : Pair → Pair) : (m.modPair i f).ain = m.ain := rfl
@[simp] theorem modPair_ainLast (m : Mach) (i : Fin 4) (f : Pair → Pair) : (m.modPair i f).ainLast = m.ainLast := rfl
@[simp] theorem modPair_pairs (m : Mach) (i : Fin 4) (f : Pair → Pair) : (m.modPair i f).pairs = vmod m.pairs i f := rfl
@[simp] theorem modPair_slots (m : Mach) (i : Fin 4) (f : Pair → Pair) : (m.modPair i f).slots = m.slots := rfl
@[simp] theorem modPair_signals (m : Mach) (i : Fin 4) (f : Pair → Pair) : (m.modPair i f).signals = m.signals := rfl
@[simp] theorem modPair_eng (m : Mach) (i : Fin 4) (f : Pair → Pair) : (m.modPair i f).eng = m.eng := rfl
@[simp] theorem modPair_mc (m : Mach) (i : Fin 4) (f : Pair → Pair) : (m.modPair i f).mc = m.mc := rfl
@[simp] theorem modPair_outer (m : Mach) (i : Fin 4) (f : Pair → Pair) : (m.modPair i f).outer = m.outer := rfl
@[simp] theorem modPair_echo (m : Mach) (i : Fin 4) (f : Pair → Pair) : (m.modPair i f).echo = m.echo := rfl
@[simp] theorem modPair_capture (m : Mach) (i : Fin 4) (f : Pair → Pair) : (m.modPair i f).capture = m.capture := rfl
@[simp] theorem modPair_nv (m : Mach) (i : Fin 4) (f : Pair → Pair) : (m.modPair i f).nv = m.nv := rfl
@[simp] theorem modPair_lantern (m : Mach) (i : Fin 4) (f : Pair → Pair) : (m.modPair i f).lantern = m.lantern := rfl
@[simp] theorem modPair_sleep (m : Mach) (i : Fin 4) (f : Pair → Pair) : (m.modPair i f).sleep = m.sleep := rfl
@[simp] theorem modPair_thermal (m : Mach) (i : Fin 4) (f : Pair → Pair) : (m.modPair i f).thermal = m.thermal := rfl
@[simp] theorem modPair_canopy (m : Mach) (i : Fin 4) (f : Pair → Pair) : (m.modPair i f).canopy = m.canopy := rfl
@[simp] theorem modPair_grove (m : Mach) (i : Fin 4) (f : Pair → Pair) : (m.modPair i f).grove = m.grove := rfl
@[simp] theorem modPair_net (m : Mach) (i : Fin 4) (f : Pair → Pair) : (m.modPair i f).net = m.net := rfl
@[simp] theorem modPair_sess (m : Mach) (i : Fin 4) (f : Pair → Pair) : (m.modPair i f).sess = m.sess := rfl
@[simp] theorem modPair_fw (m : Mach) (i : Fin 4) (f : Pair → Pair) : (m.modPair i f).fw = m.fw := rfl
@[simp] theorem modPair_mram (m : Mach) (i : Fin 4) (f : Pair → Pair) : (m.modPair i f).mram = m.mram := rfl
@[simp] theorem modPair_sent (m : Mach) (i : Fin 4) (f : Pair → Pair) : (m.modPair i f).sent = m.sent := rfl
@[simp] theorem modPair_faultN (m : Mach) (i : Fin 4) (f : Pair → Pair) : (m.modPair i f).faultN = m.faultN := rfl
@[simp] theorem modPair_free (m : Mach) (i : Fin 4) (f : Pair → Pair) : (m.modPair i f).free = m.free := rfl

@[simp] theorem modSlot_now (m : Mach) (i : Fin 32) (f : SlotSt → SlotSt) : (m.modSlot i f).now = m.now := rfl
@[simp] theorem modSlot_live (m : Mach) (i : Fin 32) (f : SlotSt → SlotSt) : (m.modSlot i f).live = m.live := rfl
@[simp] theorem modSlot_shadow (m : Mach) (i : Fin 32) (f : SlotSt → SlotSt) : (m.modSlot i f).shadow = m.shadow := rfl
@[simp] theorem modSlot_up (m : Mach) (i : Fin 32) (f : SlotSt → SlotSt) : (m.modSlot i f).up = m.up := rfl
@[simp] theorem modSlot_clr (m : Mach) (i : Fin 32) (f : SlotSt → SlotSt) : (m.modSlot i f).clr = m.clr := rfl
@[simp] theorem modSlot_voters (m : Mach) (i : Fin 32) (f : SlotSt → SlotSt) : (m.modSlot i f).voters = m.voters := rfl
@[simp] theorem modSlot_pwm (m : Mach) (i : Fin 32) (f : SlotSt → SlotSt) : (m.modSlot i f).pwm = m.pwm := rfl
@[simp] theorem modSlot_ch (m : Mach) (i : Fin 32) (f : SlotSt → SlotSt) : (m.modSlot i f).ch = m.ch := rfl
@[simp] theorem modSlot_gate (m : Mach) (i : Fin 32) (f : SlotSt → SlotSt) : (m.modSlot i f).gate = m.gate := rfl
@[simp] theorem modSlot_safety (m : Mach) (i : Fin 32) (f : SlotSt → SlotSt) : (m.modSlot i f).safety = m.safety := rfl
@[simp] theorem modSlot_drives (m : Mach) (i : Fin 32) (f : SlotSt → SlotSt) : (m.modSlot i f).drives = m.drives := rfl
@[simp] theorem modSlot_ev (m : Mach) (i : Fin 32) (f : SlotSt → SlotSt) : (m.modSlot i f).ev = m.ev := rfl
@[simp] theorem modSlot_doms (m : Mach) (i : Fin 32) (f : SlotSt → SlotSt) : (m.modSlot i f).doms = m.doms := rfl
@[simp] theorem modSlot_gcommits (m : Mach) (i : Fin 32) (f : SlotSt → SlotSt) : (m.modSlot i f).gcommits = m.gcommits := rfl
@[simp] theorem modSlot_sense (m : Mach) (i : Fin 32) (f : SlotSt → SlotSt) : (m.modSlot i f).sense = m.sense := rfl
@[simp] theorem modSlot_pos (m : Mach) (i : Fin 32) (f : SlotSt → SlotSt) : (m.modSlot i f).pos = m.pos := rfl
@[simp] theorem modSlot_ain (m : Mach) (i : Fin 32) (f : SlotSt → SlotSt) : (m.modSlot i f).ain = m.ain := rfl
@[simp] theorem modSlot_ainLast (m : Mach) (i : Fin 32) (f : SlotSt → SlotSt) : (m.modSlot i f).ainLast = m.ainLast := rfl
@[simp] theorem modSlot_pairs (m : Mach) (i : Fin 32) (f : SlotSt → SlotSt) : (m.modSlot i f).pairs = m.pairs := rfl
@[simp] theorem modSlot_slots (m : Mach) (i : Fin 32) (f : SlotSt → SlotSt) : (m.modSlot i f).slots = vmod m.slots i f := rfl
@[simp] theorem modSlot_signals (m : Mach) (i : Fin 32) (f : SlotSt → SlotSt) : (m.modSlot i f).signals = m.signals := rfl
@[simp] theorem modSlot_eng (m : Mach) (i : Fin 32) (f : SlotSt → SlotSt) : (m.modSlot i f).eng = m.eng := rfl
@[simp] theorem modSlot_mc (m : Mach) (i : Fin 32) (f : SlotSt → SlotSt) : (m.modSlot i f).mc = m.mc := rfl
@[simp] theorem modSlot_outer (m : Mach) (i : Fin 32) (f : SlotSt → SlotSt) : (m.modSlot i f).outer = m.outer := rfl
@[simp] theorem modSlot_echo (m : Mach) (i : Fin 32) (f : SlotSt → SlotSt) : (m.modSlot i f).echo = m.echo := rfl
@[simp] theorem modSlot_capture (m : Mach) (i : Fin 32) (f : SlotSt → SlotSt) : (m.modSlot i f).capture = m.capture := rfl
@[simp] theorem modSlot_nv (m : Mach) (i : Fin 32) (f : SlotSt → SlotSt) : (m.modSlot i f).nv = m.nv := rfl
@[simp] theorem modSlot_lantern (m : Mach) (i : Fin 32) (f : SlotSt → SlotSt) : (m.modSlot i f).lantern = m.lantern := rfl
@[simp] theorem modSlot_sleep (m : Mach) (i : Fin 32) (f : SlotSt → SlotSt) : (m.modSlot i f).sleep = m.sleep := rfl
@[simp] theorem modSlot_thermal (m : Mach) (i : Fin 32) (f : SlotSt → SlotSt) : (m.modSlot i f).thermal = m.thermal := rfl
@[simp] theorem modSlot_canopy (m : Mach) (i : Fin 32) (f : SlotSt → SlotSt) : (m.modSlot i f).canopy = m.canopy := rfl
@[simp] theorem modSlot_grove (m : Mach) (i : Fin 32) (f : SlotSt → SlotSt) : (m.modSlot i f).grove = m.grove := rfl
@[simp] theorem modSlot_net (m : Mach) (i : Fin 32) (f : SlotSt → SlotSt) : (m.modSlot i f).net = m.net := rfl
@[simp] theorem modSlot_sess (m : Mach) (i : Fin 32) (f : SlotSt → SlotSt) : (m.modSlot i f).sess = m.sess := rfl
@[simp] theorem modSlot_fw (m : Mach) (i : Fin 32) (f : SlotSt → SlotSt) : (m.modSlot i f).fw = m.fw := rfl
@[simp] theorem modSlot_mram (m : Mach) (i : Fin 32) (f : SlotSt → SlotSt) : (m.modSlot i f).mram = m.mram := rfl
@[simp] theorem modSlot_sent (m : Mach) (i : Fin 32) (f : SlotSt → SlotSt) : (m.modSlot i f).sent = m.sent := rfl
@[simp] theorem modSlot_faultN (m : Mach) (i : Fin 32) (f : SlotSt → SlotSt) : (m.modSlot i f).faultN = m.faultN := rfl
@[simp] theorem modSlot_free (m : Mach) (i : Fin 32) (f : SlotSt → SlotSt) : (m.modSlot i f).free = m.free := rfl

@[simp] theorem modEng_now (m : Mach) (i : Fin 2) (f : Engine → Engine) : (m.modEng i f).now = m.now := rfl
@[simp] theorem modEng_live (m : Mach) (i : Fin 2) (f : Engine → Engine) : (m.modEng i f).live = m.live := rfl
@[simp] theorem modEng_shadow (m : Mach) (i : Fin 2) (f : Engine → Engine) : (m.modEng i f).shadow = m.shadow := rfl
@[simp] theorem modEng_up (m : Mach) (i : Fin 2) (f : Engine → Engine) : (m.modEng i f).up = m.up := rfl
@[simp] theorem modEng_clr (m : Mach) (i : Fin 2) (f : Engine → Engine) : (m.modEng i f).clr = m.clr := rfl
@[simp] theorem modEng_voters (m : Mach) (i : Fin 2) (f : Engine → Engine) : (m.modEng i f).voters = m.voters := rfl
@[simp] theorem modEng_pwm (m : Mach) (i : Fin 2) (f : Engine → Engine) : (m.modEng i f).pwm = m.pwm := rfl
@[simp] theorem modEng_ch (m : Mach) (i : Fin 2) (f : Engine → Engine) : (m.modEng i f).ch = m.ch := rfl
@[simp] theorem modEng_gate (m : Mach) (i : Fin 2) (f : Engine → Engine) : (m.modEng i f).gate = m.gate := rfl
@[simp] theorem modEng_safety (m : Mach) (i : Fin 2) (f : Engine → Engine) : (m.modEng i f).safety = m.safety := rfl
@[simp] theorem modEng_drives (m : Mach) (i : Fin 2) (f : Engine → Engine) : (m.modEng i f).drives = m.drives := rfl
@[simp] theorem modEng_ev (m : Mach) (i : Fin 2) (f : Engine → Engine) : (m.modEng i f).ev = m.ev := rfl
@[simp] theorem modEng_doms (m : Mach) (i : Fin 2) (f : Engine → Engine) : (m.modEng i f).doms = m.doms := rfl
@[simp] theorem modEng_gcommits (m : Mach) (i : Fin 2) (f : Engine → Engine) : (m.modEng i f).gcommits = m.gcommits := rfl
@[simp] theorem modEng_sense (m : Mach) (i : Fin 2) (f : Engine → Engine) : (m.modEng i f).sense = m.sense := rfl
@[simp] theorem modEng_pos (m : Mach) (i : Fin 2) (f : Engine → Engine) : (m.modEng i f).pos = m.pos := rfl
@[simp] theorem modEng_ain (m : Mach) (i : Fin 2) (f : Engine → Engine) : (m.modEng i f).ain = m.ain := rfl
@[simp] theorem modEng_ainLast (m : Mach) (i : Fin 2) (f : Engine → Engine) : (m.modEng i f).ainLast = m.ainLast := rfl
@[simp] theorem modEng_pairs (m : Mach) (i : Fin 2) (f : Engine → Engine) : (m.modEng i f).pairs = m.pairs := rfl
@[simp] theorem modEng_slots (m : Mach) (i : Fin 2) (f : Engine → Engine) : (m.modEng i f).slots = m.slots := rfl
@[simp] theorem modEng_signals (m : Mach) (i : Fin 2) (f : Engine → Engine) : (m.modEng i f).signals = m.signals := rfl
@[simp] theorem modEng_eng (m : Mach) (i : Fin 2) (f : Engine → Engine) : (m.modEng i f).eng = vmod m.eng i f := rfl
@[simp] theorem modEng_mc (m : Mach) (i : Fin 2) (f : Engine → Engine) : (m.modEng i f).mc = m.mc := rfl
@[simp] theorem modEng_outer (m : Mach) (i : Fin 2) (f : Engine → Engine) : (m.modEng i f).outer = m.outer := rfl
@[simp] theorem modEng_echo (m : Mach) (i : Fin 2) (f : Engine → Engine) : (m.modEng i f).echo = m.echo := rfl
@[simp] theorem modEng_capture (m : Mach) (i : Fin 2) (f : Engine → Engine) : (m.modEng i f).capture = m.capture := rfl
@[simp] theorem modEng_nv (m : Mach) (i : Fin 2) (f : Engine → Engine) : (m.modEng i f).nv = m.nv := rfl
@[simp] theorem modEng_lantern (m : Mach) (i : Fin 2) (f : Engine → Engine) : (m.modEng i f).lantern = m.lantern := rfl
@[simp] theorem modEng_sleep (m : Mach) (i : Fin 2) (f : Engine → Engine) : (m.modEng i f).sleep = m.sleep := rfl
@[simp] theorem modEng_thermal (m : Mach) (i : Fin 2) (f : Engine → Engine) : (m.modEng i f).thermal = m.thermal := rfl
@[simp] theorem modEng_canopy (m : Mach) (i : Fin 2) (f : Engine → Engine) : (m.modEng i f).canopy = m.canopy := rfl
@[simp] theorem modEng_grove (m : Mach) (i : Fin 2) (f : Engine → Engine) : (m.modEng i f).grove = m.grove := rfl
@[simp] theorem modEng_net (m : Mach) (i : Fin 2) (f : Engine → Engine) : (m.modEng i f).net = m.net := rfl
@[simp] theorem modEng_sess (m : Mach) (i : Fin 2) (f : Engine → Engine) : (m.modEng i f).sess = m.sess := rfl
@[simp] theorem modEng_fw (m : Mach) (i : Fin 2) (f : Engine → Engine) : (m.modEng i f).fw = m.fw := rfl
@[simp] theorem modEng_mram (m : Mach) (i : Fin 2) (f : Engine → Engine) : (m.modEng i f).mram = m.mram := rfl
@[simp] theorem modEng_sent (m : Mach) (i : Fin 2) (f : Engine → Engine) : (m.modEng i f).sent = m.sent := rfl
@[simp] theorem modEng_faultN (m : Mach) (i : Fin 2) (f : Engine → Engine) : (m.modEng i f).faultN = m.faultN := rfl
@[simp] theorem modEng_free (m : Mach) (i : Fin 2) (f : Engine → Engine) : (m.modEng i f).free = m.free := rfl

@[simp] theorem modMc_now (m : Mach) (i : Fin 2) (f : MachCtl → MachCtl) : (m.modMc i f).now = m.now := rfl
@[simp] theorem modMc_live (m : Mach) (i : Fin 2) (f : MachCtl → MachCtl) : (m.modMc i f).live = m.live := rfl
@[simp] theorem modMc_shadow (m : Mach) (i : Fin 2) (f : MachCtl → MachCtl) : (m.modMc i f).shadow = m.shadow := rfl
@[simp] theorem modMc_up (m : Mach) (i : Fin 2) (f : MachCtl → MachCtl) : (m.modMc i f).up = m.up := rfl
@[simp] theorem modMc_clr (m : Mach) (i : Fin 2) (f : MachCtl → MachCtl) : (m.modMc i f).clr = m.clr := rfl
@[simp] theorem modMc_voters (m : Mach) (i : Fin 2) (f : MachCtl → MachCtl) : (m.modMc i f).voters = m.voters := rfl
@[simp] theorem modMc_pwm (m : Mach) (i : Fin 2) (f : MachCtl → MachCtl) : (m.modMc i f).pwm = m.pwm := rfl
@[simp] theorem modMc_ch (m : Mach) (i : Fin 2) (f : MachCtl → MachCtl) : (m.modMc i f).ch = m.ch := rfl
@[simp] theorem modMc_gate (m : Mach) (i : Fin 2) (f : MachCtl → MachCtl) : (m.modMc i f).gate = m.gate := rfl
@[simp] theorem modMc_safety (m : Mach) (i : Fin 2) (f : MachCtl → MachCtl) : (m.modMc i f).safety = m.safety := rfl
@[simp] theorem modMc_drives (m : Mach) (i : Fin 2) (f : MachCtl → MachCtl) : (m.modMc i f).drives = m.drives := rfl
@[simp] theorem modMc_ev (m : Mach) (i : Fin 2) (f : MachCtl → MachCtl) : (m.modMc i f).ev = m.ev := rfl
@[simp] theorem modMc_doms (m : Mach) (i : Fin 2) (f : MachCtl → MachCtl) : (m.modMc i f).doms = m.doms := rfl
@[simp] theorem modMc_gcommits (m : Mach) (i : Fin 2) (f : MachCtl → MachCtl) : (m.modMc i f).gcommits = m.gcommits := rfl
@[simp] theorem modMc_sense (m : Mach) (i : Fin 2) (f : MachCtl → MachCtl) : (m.modMc i f).sense = m.sense := rfl
@[simp] theorem modMc_pos (m : Mach) (i : Fin 2) (f : MachCtl → MachCtl) : (m.modMc i f).pos = m.pos := rfl
@[simp] theorem modMc_ain (m : Mach) (i : Fin 2) (f : MachCtl → MachCtl) : (m.modMc i f).ain = m.ain := rfl
@[simp] theorem modMc_ainLast (m : Mach) (i : Fin 2) (f : MachCtl → MachCtl) : (m.modMc i f).ainLast = m.ainLast := rfl
@[simp] theorem modMc_pairs (m : Mach) (i : Fin 2) (f : MachCtl → MachCtl) : (m.modMc i f).pairs = m.pairs := rfl
@[simp] theorem modMc_slots (m : Mach) (i : Fin 2) (f : MachCtl → MachCtl) : (m.modMc i f).slots = m.slots := rfl
@[simp] theorem modMc_signals (m : Mach) (i : Fin 2) (f : MachCtl → MachCtl) : (m.modMc i f).signals = m.signals := rfl
@[simp] theorem modMc_eng (m : Mach) (i : Fin 2) (f : MachCtl → MachCtl) : (m.modMc i f).eng = m.eng := rfl
@[simp] theorem modMc_mc (m : Mach) (i : Fin 2) (f : MachCtl → MachCtl) : (m.modMc i f).mc = vmod m.mc i f := rfl
@[simp] theorem modMc_outer (m : Mach) (i : Fin 2) (f : MachCtl → MachCtl) : (m.modMc i f).outer = m.outer := rfl
@[simp] theorem modMc_echo (m : Mach) (i : Fin 2) (f : MachCtl → MachCtl) : (m.modMc i f).echo = m.echo := rfl
@[simp] theorem modMc_capture (m : Mach) (i : Fin 2) (f : MachCtl → MachCtl) : (m.modMc i f).capture = m.capture := rfl
@[simp] theorem modMc_nv (m : Mach) (i : Fin 2) (f : MachCtl → MachCtl) : (m.modMc i f).nv = m.nv := rfl
@[simp] theorem modMc_lantern (m : Mach) (i : Fin 2) (f : MachCtl → MachCtl) : (m.modMc i f).lantern = m.lantern := rfl
@[simp] theorem modMc_sleep (m : Mach) (i : Fin 2) (f : MachCtl → MachCtl) : (m.modMc i f).sleep = m.sleep := rfl
@[simp] theorem modMc_thermal (m : Mach) (i : Fin 2) (f : MachCtl → MachCtl) : (m.modMc i f).thermal = m.thermal := rfl
@[simp] theorem modMc_canopy (m : Mach) (i : Fin 2) (f : MachCtl → MachCtl) : (m.modMc i f).canopy = m.canopy := rfl
@[simp] theorem modMc_grove (m : Mach) (i : Fin 2) (f : MachCtl → MachCtl) : (m.modMc i f).grove = m.grove := rfl
@[simp] theorem modMc_net (m : Mach) (i : Fin 2) (f : MachCtl → MachCtl) : (m.modMc i f).net = m.net := rfl
@[simp] theorem modMc_sess (m : Mach) (i : Fin 2) (f : MachCtl → MachCtl) : (m.modMc i f).sess = m.sess := rfl
@[simp] theorem modMc_fw (m : Mach) (i : Fin 2) (f : MachCtl → MachCtl) : (m.modMc i f).fw = m.fw := rfl
@[simp] theorem modMc_mram (m : Mach) (i : Fin 2) (f : MachCtl → MachCtl) : (m.modMc i f).mram = m.mram := rfl
@[simp] theorem modMc_sent (m : Mach) (i : Fin 2) (f : MachCtl → MachCtl) : (m.modMc i f).sent = m.sent := rfl
@[simp] theorem modMc_faultN (m : Mach) (i : Fin 2) (f : MachCtl → MachCtl) : (m.modMc i f).faultN = m.faultN := rfl
@[simp] theorem modMc_free (m : Mach) (i : Fin 2) (f : MachCtl → MachCtl) : (m.modMc i f).free = m.free := rfl

@[simp] theorem modVoter_now (m : Mach) (i : Fin 2) (f : VoterSt → VoterSt) : (m.modVoter i f).now = m.now := rfl
@[simp] theorem modVoter_live (m : Mach) (i : Fin 2) (f : VoterSt → VoterSt) : (m.modVoter i f).live = m.live := rfl
@[simp] theorem modVoter_shadow (m : Mach) (i : Fin 2) (f : VoterSt → VoterSt) : (m.modVoter i f).shadow = m.shadow := rfl
@[simp] theorem modVoter_up (m : Mach) (i : Fin 2) (f : VoterSt → VoterSt) : (m.modVoter i f).up = m.up := rfl
@[simp] theorem modVoter_clr (m : Mach) (i : Fin 2) (f : VoterSt → VoterSt) : (m.modVoter i f).clr = m.clr := rfl
@[simp] theorem modVoter_voters (m : Mach) (i : Fin 2) (f : VoterSt → VoterSt) : (m.modVoter i f).voters = vmod m.voters i f := rfl
@[simp] theorem modVoter_pwm (m : Mach) (i : Fin 2) (f : VoterSt → VoterSt) : (m.modVoter i f).pwm = m.pwm := rfl
@[simp] theorem modVoter_ch (m : Mach) (i : Fin 2) (f : VoterSt → VoterSt) : (m.modVoter i f).ch = m.ch := rfl
@[simp] theorem modVoter_gate (m : Mach) (i : Fin 2) (f : VoterSt → VoterSt) : (m.modVoter i f).gate = m.gate := rfl
@[simp] theorem modVoter_safety (m : Mach) (i : Fin 2) (f : VoterSt → VoterSt) : (m.modVoter i f).safety = m.safety := rfl
@[simp] theorem modVoter_drives (m : Mach) (i : Fin 2) (f : VoterSt → VoterSt) : (m.modVoter i f).drives = m.drives := rfl
@[simp] theorem modVoter_ev (m : Mach) (i : Fin 2) (f : VoterSt → VoterSt) : (m.modVoter i f).ev = m.ev := rfl
@[simp] theorem modVoter_doms (m : Mach) (i : Fin 2) (f : VoterSt → VoterSt) : (m.modVoter i f).doms = m.doms := rfl
@[simp] theorem modVoter_gcommits (m : Mach) (i : Fin 2) (f : VoterSt → VoterSt) : (m.modVoter i f).gcommits = m.gcommits := rfl
@[simp] theorem modVoter_sense (m : Mach) (i : Fin 2) (f : VoterSt → VoterSt) : (m.modVoter i f).sense = m.sense := rfl
@[simp] theorem modVoter_pos (m : Mach) (i : Fin 2) (f : VoterSt → VoterSt) : (m.modVoter i f).pos = m.pos := rfl
@[simp] theorem modVoter_ain (m : Mach) (i : Fin 2) (f : VoterSt → VoterSt) : (m.modVoter i f).ain = m.ain := rfl
@[simp] theorem modVoter_ainLast (m : Mach) (i : Fin 2) (f : VoterSt → VoterSt) : (m.modVoter i f).ainLast = m.ainLast := rfl
@[simp] theorem modVoter_pairs (m : Mach) (i : Fin 2) (f : VoterSt → VoterSt) : (m.modVoter i f).pairs = m.pairs := rfl
@[simp] theorem modVoter_slots (m : Mach) (i : Fin 2) (f : VoterSt → VoterSt) : (m.modVoter i f).slots = m.slots := rfl
@[simp] theorem modVoter_signals (m : Mach) (i : Fin 2) (f : VoterSt → VoterSt) : (m.modVoter i f).signals = m.signals := rfl
@[simp] theorem modVoter_eng (m : Mach) (i : Fin 2) (f : VoterSt → VoterSt) : (m.modVoter i f).eng = m.eng := rfl
@[simp] theorem modVoter_mc (m : Mach) (i : Fin 2) (f : VoterSt → VoterSt) : (m.modVoter i f).mc = m.mc := rfl
@[simp] theorem modVoter_outer (m : Mach) (i : Fin 2) (f : VoterSt → VoterSt) : (m.modVoter i f).outer = m.outer := rfl
@[simp] theorem modVoter_echo (m : Mach) (i : Fin 2) (f : VoterSt → VoterSt) : (m.modVoter i f).echo = m.echo := rfl
@[simp] theorem modVoter_capture (m : Mach) (i : Fin 2) (f : VoterSt → VoterSt) : (m.modVoter i f).capture = m.capture := rfl
@[simp] theorem modVoter_nv (m : Mach) (i : Fin 2) (f : VoterSt → VoterSt) : (m.modVoter i f).nv = m.nv := rfl
@[simp] theorem modVoter_lantern (m : Mach) (i : Fin 2) (f : VoterSt → VoterSt) : (m.modVoter i f).lantern = m.lantern := rfl
@[simp] theorem modVoter_sleep (m : Mach) (i : Fin 2) (f : VoterSt → VoterSt) : (m.modVoter i f).sleep = m.sleep := rfl
@[simp] theorem modVoter_thermal (m : Mach) (i : Fin 2) (f : VoterSt → VoterSt) : (m.modVoter i f).thermal = m.thermal := rfl
@[simp] theorem modVoter_canopy (m : Mach) (i : Fin 2) (f : VoterSt → VoterSt) : (m.modVoter i f).canopy = m.canopy := rfl
@[simp] theorem modVoter_grove (m : Mach) (i : Fin 2) (f : VoterSt → VoterSt) : (m.modVoter i f).grove = m.grove := rfl
@[simp] theorem modVoter_net (m : Mach) (i : Fin 2) (f : VoterSt → VoterSt) : (m.modVoter i f).net = m.net := rfl
@[simp] theorem modVoter_sess (m : Mach) (i : Fin 2) (f : VoterSt → VoterSt) : (m.modVoter i f).sess = m.sess := rfl
@[simp] theorem modVoter_fw (m : Mach) (i : Fin 2) (f : VoterSt → VoterSt) : (m.modVoter i f).fw = m.fw := rfl
@[simp] theorem modVoter_mram (m : Mach) (i : Fin 2) (f : VoterSt → VoterSt) : (m.modVoter i f).mram = m.mram := rfl
@[simp] theorem modVoter_sent (m : Mach) (i : Fin 2) (f : VoterSt → VoterSt) : (m.modVoter i f).sent = m.sent := rfl
@[simp] theorem modVoter_faultN (m : Mach) (i : Fin 2) (f : VoterSt → VoterSt) : (m.modVoter i f).faultN = m.faultN := rfl
@[simp] theorem modVoter_free (m : Mach) (i : Fin 2) (f : VoterSt → VoterSt) : (m.modVoter i f).free = m.free := rfl

@[simp] theorem modLan_now (m : Mach) (f : Lantern → Lantern) : (m.modLan f).now = m.now := rfl
@[simp] theorem modLan_live (m : Mach) (f : Lantern → Lantern) : (m.modLan f).live = m.live := rfl
@[simp] theorem modLan_shadow (m : Mach) (f : Lantern → Lantern) : (m.modLan f).shadow = m.shadow := rfl
@[simp] theorem modLan_up (m : Mach) (f : Lantern → Lantern) : (m.modLan f).up = m.up := rfl
@[simp] theorem modLan_clr (m : Mach) (f : Lantern → Lantern) : (m.modLan f).clr = m.clr := rfl
@[simp] theorem modLan_voters (m : Mach) (f : Lantern → Lantern) : (m.modLan f).voters = m.voters := rfl
@[simp] theorem modLan_pwm (m : Mach) (f : Lantern → Lantern) : (m.modLan f).pwm = m.pwm := rfl
@[simp] theorem modLan_ch (m : Mach) (f : Lantern → Lantern) : (m.modLan f).ch = m.ch := rfl
@[simp] theorem modLan_gate (m : Mach) (f : Lantern → Lantern) : (m.modLan f).gate = m.gate := rfl
@[simp] theorem modLan_safety (m : Mach) (f : Lantern → Lantern) : (m.modLan f).safety = m.safety := rfl
@[simp] theorem modLan_drives (m : Mach) (f : Lantern → Lantern) : (m.modLan f).drives = m.drives := rfl
@[simp] theorem modLan_ev (m : Mach) (f : Lantern → Lantern) : (m.modLan f).ev = m.ev := rfl
@[simp] theorem modLan_doms (m : Mach) (f : Lantern → Lantern) : (m.modLan f).doms = m.doms := rfl
@[simp] theorem modLan_gcommits (m : Mach) (f : Lantern → Lantern) : (m.modLan f).gcommits = m.gcommits := rfl
@[simp] theorem modLan_sense (m : Mach) (f : Lantern → Lantern) : (m.modLan f).sense = m.sense := rfl
@[simp] theorem modLan_pos (m : Mach) (f : Lantern → Lantern) : (m.modLan f).pos = m.pos := rfl
@[simp] theorem modLan_ain (m : Mach) (f : Lantern → Lantern) : (m.modLan f).ain = m.ain := rfl
@[simp] theorem modLan_ainLast (m : Mach) (f : Lantern → Lantern) : (m.modLan f).ainLast = m.ainLast := rfl
@[simp] theorem modLan_pairs (m : Mach) (f : Lantern → Lantern) : (m.modLan f).pairs = m.pairs := rfl
@[simp] theorem modLan_slots (m : Mach) (f : Lantern → Lantern) : (m.modLan f).slots = m.slots := rfl
@[simp] theorem modLan_signals (m : Mach) (f : Lantern → Lantern) : (m.modLan f).signals = m.signals := rfl
@[simp] theorem modLan_eng (m : Mach) (f : Lantern → Lantern) : (m.modLan f).eng = m.eng := rfl
@[simp] theorem modLan_mc (m : Mach) (f : Lantern → Lantern) : (m.modLan f).mc = m.mc := rfl
@[simp] theorem modLan_outer (m : Mach) (f : Lantern → Lantern) : (m.modLan f).outer = m.outer := rfl
@[simp] theorem modLan_echo (m : Mach) (f : Lantern → Lantern) : (m.modLan f).echo = m.echo := rfl
@[simp] theorem modLan_capture (m : Mach) (f : Lantern → Lantern) : (m.modLan f).capture = m.capture := rfl
@[simp] theorem modLan_nv (m : Mach) (f : Lantern → Lantern) : (m.modLan f).nv = m.nv := rfl
@[simp] theorem modLan_lantern (m : Mach) (f : Lantern → Lantern) : (m.modLan f).lantern = f m.lantern := rfl
@[simp] theorem modLan_sleep (m : Mach) (f : Lantern → Lantern) : (m.modLan f).sleep = m.sleep := rfl
@[simp] theorem modLan_thermal (m : Mach) (f : Lantern → Lantern) : (m.modLan f).thermal = m.thermal := rfl
@[simp] theorem modLan_canopy (m : Mach) (f : Lantern → Lantern) : (m.modLan f).canopy = m.canopy := rfl
@[simp] theorem modLan_grove (m : Mach) (f : Lantern → Lantern) : (m.modLan f).grove = m.grove := rfl
@[simp] theorem modLan_net (m : Mach) (f : Lantern → Lantern) : (m.modLan f).net = m.net := rfl
@[simp] theorem modLan_sess (m : Mach) (f : Lantern → Lantern) : (m.modLan f).sess = m.sess := rfl
@[simp] theorem modLan_fw (m : Mach) (f : Lantern → Lantern) : (m.modLan f).fw = m.fw := rfl
@[simp] theorem modLan_mram (m : Mach) (f : Lantern → Lantern) : (m.modLan f).mram = m.mram := rfl
@[simp] theorem modLan_sent (m : Mach) (f : Lantern → Lantern) : (m.modLan f).sent = m.sent := rfl
@[simp] theorem modLan_faultN (m : Mach) (f : Lantern → Lantern) : (m.modLan f).faultN = m.faultN := rfl
@[simp] theorem modLan_free (m : Mach) (f : Lantern → Lantern) : (m.modLan f).free = m.free := rfl

@[simp] theorem modEcho_now (m : Mach) (f : Echo → Echo) : (m.modEcho f).now = m.now := rfl
@[simp] theorem modEcho_live (m : Mach) (f : Echo → Echo) : (m.modEcho f).live = m.live := rfl
@[simp] theorem modEcho_shadow (m : Mach) (f : Echo → Echo) : (m.modEcho f).shadow = m.shadow := rfl
@[simp] theorem modEcho_up (m : Mach) (f : Echo → Echo) : (m.modEcho f).up = m.up := rfl
@[simp] theorem modEcho_clr (m : Mach) (f : Echo → Echo) : (m.modEcho f).clr = m.clr := rfl
@[simp] theorem modEcho_voters (m : Mach) (f : Echo → Echo) : (m.modEcho f).voters = m.voters := rfl
@[simp] theorem modEcho_pwm (m : Mach) (f : Echo → Echo) : (m.modEcho f).pwm = m.pwm := rfl
@[simp] theorem modEcho_ch (m : Mach) (f : Echo → Echo) : (m.modEcho f).ch = m.ch := rfl
@[simp] theorem modEcho_gate (m : Mach) (f : Echo → Echo) : (m.modEcho f).gate = m.gate := rfl
@[simp] theorem modEcho_safety (m : Mach) (f : Echo → Echo) : (m.modEcho f).safety = m.safety := rfl
@[simp] theorem modEcho_drives (m : Mach) (f : Echo → Echo) : (m.modEcho f).drives = m.drives := rfl
@[simp] theorem modEcho_ev (m : Mach) (f : Echo → Echo) : (m.modEcho f).ev = m.ev := rfl
@[simp] theorem modEcho_doms (m : Mach) (f : Echo → Echo) : (m.modEcho f).doms = m.doms := rfl
@[simp] theorem modEcho_gcommits (m : Mach) (f : Echo → Echo) : (m.modEcho f).gcommits = m.gcommits := rfl
@[simp] theorem modEcho_sense (m : Mach) (f : Echo → Echo) : (m.modEcho f).sense = m.sense := rfl
@[simp] theorem modEcho_pos (m : Mach) (f : Echo → Echo) : (m.modEcho f).pos = m.pos := rfl
@[simp] theorem modEcho_ain (m : Mach) (f : Echo → Echo) : (m.modEcho f).ain = m.ain := rfl
@[simp] theorem modEcho_ainLast (m : Mach) (f : Echo → Echo) : (m.modEcho f).ainLast = m.ainLast := rfl
@[simp] theorem modEcho_pairs (m : Mach) (f : Echo → Echo) : (m.modEcho f).pairs = m.pairs := rfl
@[simp] theorem modEcho_slots (m : Mach) (f : Echo → Echo) : (m.modEcho f).slots = m.slots := rfl
@[simp] theorem modEcho_signals (m : Mach) (f : Echo → Echo) : (m.modEcho f).signals = m.signals := rfl
@[simp] theorem modEcho_eng (m : Mach) (f : Echo → Echo) : (m.modEcho f).eng = m.eng := rfl
@[simp] theorem modEcho_mc (m : Mach) (f : Echo → Echo) : (m.modEcho f).mc = m.mc := rfl
@[simp] theorem modEcho_outer (m : Mach) (f : Echo → Echo) : (m.modEcho f).outer = m.outer := rfl
@[simp] theorem modEcho_echo (m : Mach) (f : Echo → Echo) : (m.modEcho f).echo = f m.echo := rfl
@[simp] theorem modEcho_capture (m : Mach) (f : Echo → Echo) : (m.modEcho f).capture = m.capture := rfl
@[simp] theorem modEcho_nv (m : Mach) (f : Echo → Echo) : (m.modEcho f).nv = m.nv := rfl
@[simp] theorem modEcho_lantern (m : Mach) (f : Echo → Echo) : (m.modEcho f).lantern = m.lantern := rfl
@[simp] theorem modEcho_sleep (m : Mach) (f : Echo → Echo) : (m.modEcho f).sleep = m.sleep := rfl
@[simp] theorem modEcho_thermal (m : Mach) (f : Echo → Echo) : (m.modEcho f).thermal = m.thermal := rfl
@[simp] theorem modEcho_canopy (m : Mach) (f : Echo → Echo) : (m.modEcho f).canopy = m.canopy := rfl
@[simp] theorem modEcho_grove (m : Mach) (f : Echo → Echo) : (m.modEcho f).grove = m.grove := rfl
@[simp] theorem modEcho_net (m : Mach) (f : Echo → Echo) : (m.modEcho f).net = m.net := rfl
@[simp] theorem modEcho_sess (m : Mach) (f : Echo → Echo) : (m.modEcho f).sess = m.sess := rfl
@[simp] theorem modEcho_fw (m : Mach) (f : Echo → Echo) : (m.modEcho f).fw = m.fw := rfl
@[simp] theorem modEcho_mram (m : Mach) (f : Echo → Echo) : (m.modEcho f).mram = m.mram := rfl
@[simp] theorem modEcho_sent (m : Mach) (f : Echo → Echo) : (m.modEcho f).sent = m.sent := rfl
@[simp] theorem modEcho_faultN (m : Mach) (f : Echo → Echo) : (m.modEcho f).faultN = m.faultN := rfl
@[simp] theorem modEcho_free (m : Mach) (f : Echo → Echo) : (m.modEcho f).free = m.free := rfl

@[simp] theorem modCap_now (m : Mach) (f : Capture → Capture) : (m.modCap f).now = m.now := rfl
@[simp] theorem modCap_live (m : Mach) (f : Capture → Capture) : (m.modCap f).live = m.live := rfl
@[simp] theorem modCap_shadow (m : Mach) (f : Capture → Capture) : (m.modCap f).shadow = m.shadow := rfl
@[simp] theorem modCap_up (m : Mach) (f : Capture → Capture) : (m.modCap f).up = m.up := rfl
@[simp] theorem modCap_clr (m : Mach) (f : Capture → Capture) : (m.modCap f).clr = m.clr := rfl
@[simp] theorem modCap_voters (m : Mach) (f : Capture → Capture) : (m.modCap f).voters = m.voters := rfl
@[simp] theorem modCap_pwm (m : Mach) (f : Capture → Capture) : (m.modCap f).pwm = m.pwm := rfl
@[simp] theorem modCap_ch (m : Mach) (f : Capture → Capture) : (m.modCap f).ch = m.ch := rfl
@[simp] theorem modCap_gate (m : Mach) (f : Capture → Capture) : (m.modCap f).gate = m.gate := rfl
@[simp] theorem modCap_safety (m : Mach) (f : Capture → Capture) : (m.modCap f).safety = m.safety := rfl
@[simp] theorem modCap_drives (m : Mach) (f : Capture → Capture) : (m.modCap f).drives = m.drives := rfl
@[simp] theorem modCap_ev (m : Mach) (f : Capture → Capture) : (m.modCap f).ev = m.ev := rfl
@[simp] theorem modCap_doms (m : Mach) (f : Capture → Capture) : (m.modCap f).doms = m.doms := rfl
@[simp] theorem modCap_gcommits (m : Mach) (f : Capture → Capture) : (m.modCap f).gcommits = m.gcommits := rfl
@[simp] theorem modCap_sense (m : Mach) (f : Capture → Capture) : (m.modCap f).sense = m.sense := rfl
@[simp] theorem modCap_pos (m : Mach) (f : Capture → Capture) : (m.modCap f).pos = m.pos := rfl
@[simp] theorem modCap_ain (m : Mach) (f : Capture → Capture) : (m.modCap f).ain = m.ain := rfl
@[simp] theorem modCap_ainLast (m : Mach) (f : Capture → Capture) : (m.modCap f).ainLast = m.ainLast := rfl
@[simp] theorem modCap_pairs (m : Mach) (f : Capture → Capture) : (m.modCap f).pairs = m.pairs := rfl
@[simp] theorem modCap_slots (m : Mach) (f : Capture → Capture) : (m.modCap f).slots = m.slots := rfl
@[simp] theorem modCap_signals (m : Mach) (f : Capture → Capture) : (m.modCap f).signals = m.signals := rfl
@[simp] theorem modCap_eng (m : Mach) (f : Capture → Capture) : (m.modCap f).eng = m.eng := rfl
@[simp] theorem modCap_mc (m : Mach) (f : Capture → Capture) : (m.modCap f).mc = m.mc := rfl
@[simp] theorem modCap_outer (m : Mach) (f : Capture → Capture) : (m.modCap f).outer = m.outer := rfl
@[simp] theorem modCap_echo (m : Mach) (f : Capture → Capture) : (m.modCap f).echo = m.echo := rfl
@[simp] theorem modCap_capture (m : Mach) (f : Capture → Capture) : (m.modCap f).capture = f m.capture := rfl
@[simp] theorem modCap_nv (m : Mach) (f : Capture → Capture) : (m.modCap f).nv = m.nv := rfl
@[simp] theorem modCap_lantern (m : Mach) (f : Capture → Capture) : (m.modCap f).lantern = m.lantern := rfl
@[simp] theorem modCap_sleep (m : Mach) (f : Capture → Capture) : (m.modCap f).sleep = m.sleep := rfl
@[simp] theorem modCap_thermal (m : Mach) (f : Capture → Capture) : (m.modCap f).thermal = m.thermal := rfl
@[simp] theorem modCap_canopy (m : Mach) (f : Capture → Capture) : (m.modCap f).canopy = m.canopy := rfl
@[simp] theorem modCap_grove (m : Mach) (f : Capture → Capture) : (m.modCap f).grove = m.grove := rfl
@[simp] theorem modCap_net (m : Mach) (f : Capture → Capture) : (m.modCap f).net = m.net := rfl
@[simp] theorem modCap_sess (m : Mach) (f : Capture → Capture) : (m.modCap f).sess = m.sess := rfl
@[simp] theorem modCap_fw (m : Mach) (f : Capture → Capture) : (m.modCap f).fw = m.fw := rfl
@[simp] theorem modCap_mram (m : Mach) (f : Capture → Capture) : (m.modCap f).mram = m.mram := rfl
@[simp] theorem modCap_sent (m : Mach) (f : Capture → Capture) : (m.modCap f).sent = m.sent := rfl
@[simp] theorem modCap_faultN (m : Mach) (f : Capture → Capture) : (m.modCap f).faultN = m.faultN := rfl
@[simp] theorem modCap_free (m : Mach) (f : Capture → Capture) : (m.modCap f).free = m.free := rfl

@[simp] theorem modNet_now (m : Mach) (f : Net → Net) : (m.modNet f).now = m.now := rfl
@[simp] theorem modNet_live (m : Mach) (f : Net → Net) : (m.modNet f).live = m.live := rfl
@[simp] theorem modNet_shadow (m : Mach) (f : Net → Net) : (m.modNet f).shadow = m.shadow := rfl
@[simp] theorem modNet_up (m : Mach) (f : Net → Net) : (m.modNet f).up = m.up := rfl
@[simp] theorem modNet_clr (m : Mach) (f : Net → Net) : (m.modNet f).clr = m.clr := rfl
@[simp] theorem modNet_voters (m : Mach) (f : Net → Net) : (m.modNet f).voters = m.voters := rfl
@[simp] theorem modNet_pwm (m : Mach) (f : Net → Net) : (m.modNet f).pwm = m.pwm := rfl
@[simp] theorem modNet_ch (m : Mach) (f : Net → Net) : (m.modNet f).ch = m.ch := rfl
@[simp] theorem modNet_gate (m : Mach) (f : Net → Net) : (m.modNet f).gate = m.gate := rfl
@[simp] theorem modNet_safety (m : Mach) (f : Net → Net) : (m.modNet f).safety = m.safety := rfl
@[simp] theorem modNet_drives (m : Mach) (f : Net → Net) : (m.modNet f).drives = m.drives := rfl
@[simp] theorem modNet_ev (m : Mach) (f : Net → Net) : (m.modNet f).ev = m.ev := rfl
@[simp] theorem modNet_doms (m : Mach) (f : Net → Net) : (m.modNet f).doms = m.doms := rfl
@[simp] theorem modNet_gcommits (m : Mach) (f : Net → Net) : (m.modNet f).gcommits = m.gcommits := rfl
@[simp] theorem modNet_sense (m : Mach) (f : Net → Net) : (m.modNet f).sense = m.sense := rfl
@[simp] theorem modNet_pos (m : Mach) (f : Net → Net) : (m.modNet f).pos = m.pos := rfl
@[simp] theorem modNet_ain (m : Mach) (f : Net → Net) : (m.modNet f).ain = m.ain := rfl
@[simp] theorem modNet_ainLast (m : Mach) (f : Net → Net) : (m.modNet f).ainLast = m.ainLast := rfl
@[simp] theorem modNet_pairs (m : Mach) (f : Net → Net) : (m.modNet f).pairs = m.pairs := rfl
@[simp] theorem modNet_slots (m : Mach) (f : Net → Net) : (m.modNet f).slots = m.slots := rfl
@[simp] theorem modNet_signals (m : Mach) (f : Net → Net) : (m.modNet f).signals = m.signals := rfl
@[simp] theorem modNet_eng (m : Mach) (f : Net → Net) : (m.modNet f).eng = m.eng := rfl
@[simp] theorem modNet_mc (m : Mach) (f : Net → Net) : (m.modNet f).mc = m.mc := rfl
@[simp] theorem modNet_outer (m : Mach) (f : Net → Net) : (m.modNet f).outer = m.outer := rfl
@[simp] theorem modNet_echo (m : Mach) (f : Net → Net) : (m.modNet f).echo = m.echo := rfl
@[simp] theorem modNet_capture (m : Mach) (f : Net → Net) : (m.modNet f).capture = m.capture := rfl
@[simp] theorem modNet_nv (m : Mach) (f : Net → Net) : (m.modNet f).nv = m.nv := rfl
@[simp] theorem modNet_lantern (m : Mach) (f : Net → Net) : (m.modNet f).lantern = m.lantern := rfl
@[simp] theorem modNet_sleep (m : Mach) (f : Net → Net) : (m.modNet f).sleep = m.sleep := rfl
@[simp] theorem modNet_thermal (m : Mach) (f : Net → Net) : (m.modNet f).thermal = m.thermal := rfl
@[simp] theorem modNet_canopy (m : Mach) (f : Net → Net) : (m.modNet f).canopy = m.canopy := rfl
@[simp] theorem modNet_grove (m : Mach) (f : Net → Net) : (m.modNet f).grove = m.grove := rfl
@[simp] theorem modNet_net (m : Mach) (f : Net → Net) : (m.modNet f).net = f m.net := rfl
@[simp] theorem modNet_sess (m : Mach) (f : Net → Net) : (m.modNet f).sess = m.sess := rfl
@[simp] theorem modNet_fw (m : Mach) (f : Net → Net) : (m.modNet f).fw = m.fw := rfl
@[simp] theorem modNet_mram (m : Mach) (f : Net → Net) : (m.modNet f).mram = m.mram := rfl
@[simp] theorem modNet_sent (m : Mach) (f : Net → Net) : (m.modNet f).sent = m.sent := rfl
@[simp] theorem modNet_faultN (m : Mach) (f : Net → Net) : (m.modNet f).faultN = m.faultN := rfl
@[simp] theorem modNet_free (m : Mach) (f : Net → Net) : (m.modNet f).free = m.free := rfl

@[simp] theorem modSess_now (m : Mach) (f : Sessions → Sessions) : (m.modSess f).now = m.now := rfl
@[simp] theorem modSess_live (m : Mach) (f : Sessions → Sessions) : (m.modSess f).live = m.live := rfl
@[simp] theorem modSess_shadow (m : Mach) (f : Sessions → Sessions) : (m.modSess f).shadow = m.shadow := rfl
@[simp] theorem modSess_up (m : Mach) (f : Sessions → Sessions) : (m.modSess f).up = m.up := rfl
@[simp] theorem modSess_clr (m : Mach) (f : Sessions → Sessions) : (m.modSess f).clr = m.clr := rfl
@[simp] theorem modSess_voters (m : Mach) (f : Sessions → Sessions) : (m.modSess f).voters = m.voters := rfl
@[simp] theorem modSess_pwm (m : Mach) (f : Sessions → Sessions) : (m.modSess f).pwm = m.pwm := rfl
@[simp] theorem modSess_ch (m : Mach) (f : Sessions → Sessions) : (m.modSess f).ch = m.ch := rfl
@[simp] theorem modSess_gate (m : Mach) (f : Sessions → Sessions) : (m.modSess f).gate = m.gate := rfl
@[simp] theorem modSess_safety (m : Mach) (f : Sessions → Sessions) : (m.modSess f).safety = m.safety := rfl
@[simp] theorem modSess_drives (m : Mach) (f : Sessions → Sessions) : (m.modSess f).drives = m.drives := rfl
@[simp] theorem modSess_ev (m : Mach) (f : Sessions → Sessions) : (m.modSess f).ev = m.ev := rfl
@[simp] theorem modSess_doms (m : Mach) (f : Sessions → Sessions) : (m.modSess f).doms = m.doms := rfl
@[simp] theorem modSess_gcommits (m : Mach) (f : Sessions → Sessions) : (m.modSess f).gcommits = m.gcommits := rfl
@[simp] theorem modSess_sense (m : Mach) (f : Sessions → Sessions) : (m.modSess f).sense = m.sense := rfl
@[simp] theorem modSess_pos (m : Mach) (f : Sessions → Sessions) : (m.modSess f).pos = m.pos := rfl
@[simp] theorem modSess_ain (m : Mach) (f : Sessions → Sessions) : (m.modSess f).ain = m.ain := rfl
@[simp] theorem modSess_ainLast (m : Mach) (f : Sessions → Sessions) : (m.modSess f).ainLast = m.ainLast := rfl
@[simp] theorem modSess_pairs (m : Mach) (f : Sessions → Sessions) : (m.modSess f).pairs = m.pairs := rfl
@[simp] theorem modSess_slots (m : Mach) (f : Sessions → Sessions) : (m.modSess f).slots = m.slots := rfl
@[simp] theorem modSess_signals (m : Mach) (f : Sessions → Sessions) : (m.modSess f).signals = m.signals := rfl
@[simp] theorem modSess_eng (m : Mach) (f : Sessions → Sessions) : (m.modSess f).eng = m.eng := rfl
@[simp] theorem modSess_mc (m : Mach) (f : Sessions → Sessions) : (m.modSess f).mc = m.mc := rfl
@[simp] theorem modSess_outer (m : Mach) (f : Sessions → Sessions) : (m.modSess f).outer = m.outer := rfl
@[simp] theorem modSess_echo (m : Mach) (f : Sessions → Sessions) : (m.modSess f).echo = m.echo := rfl
@[simp] theorem modSess_capture (m : Mach) (f : Sessions → Sessions) : (m.modSess f).capture = m.capture := rfl
@[simp] theorem modSess_nv (m : Mach) (f : Sessions → Sessions) : (m.modSess f).nv = m.nv := rfl
@[simp] theorem modSess_lantern (m : Mach) (f : Sessions → Sessions) : (m.modSess f).lantern = m.lantern := rfl
@[simp] theorem modSess_sleep (m : Mach) (f : Sessions → Sessions) : (m.modSess f).sleep = m.sleep := rfl
@[simp] theorem modSess_thermal (m : Mach) (f : Sessions → Sessions) : (m.modSess f).thermal = m.thermal := rfl
@[simp] theorem modSess_canopy (m : Mach) (f : Sessions → Sessions) : (m.modSess f).canopy = m.canopy := rfl
@[simp] theorem modSess_grove (m : Mach) (f : Sessions → Sessions) : (m.modSess f).grove = m.grove := rfl
@[simp] theorem modSess_net (m : Mach) (f : Sessions → Sessions) : (m.modSess f).net = m.net := rfl
@[simp] theorem modSess_sess (m : Mach) (f : Sessions → Sessions) : (m.modSess f).sess = f m.sess := rfl
@[simp] theorem modSess_fw (m : Mach) (f : Sessions → Sessions) : (m.modSess f).fw = m.fw := rfl
@[simp] theorem modSess_mram (m : Mach) (f : Sessions → Sessions) : (m.modSess f).mram = m.mram := rfl
@[simp] theorem modSess_sent (m : Mach) (f : Sessions → Sessions) : (m.modSess f).sent = m.sent := rfl
@[simp] theorem modSess_faultN (m : Mach) (f : Sessions → Sessions) : (m.modSess f).faultN = m.faultN := rfl
@[simp] theorem modSess_free (m : Mach) (f : Sessions → Sessions) : (m.modSess f).free = m.free := rfl

@[simp] theorem modGrove_now (m : Mach) (f : Grove → Grove) : (m.modGrove f).now = m.now := rfl
@[simp] theorem modGrove_live (m : Mach) (f : Grove → Grove) : (m.modGrove f).live = m.live := rfl
@[simp] theorem modGrove_shadow (m : Mach) (f : Grove → Grove) : (m.modGrove f).shadow = m.shadow := rfl
@[simp] theorem modGrove_up (m : Mach) (f : Grove → Grove) : (m.modGrove f).up = m.up := rfl
@[simp] theorem modGrove_clr (m : Mach) (f : Grove → Grove) : (m.modGrove f).clr = m.clr := rfl
@[simp] theorem modGrove_voters (m : Mach) (f : Grove → Grove) : (m.modGrove f).voters = m.voters := rfl
@[simp] theorem modGrove_pwm (m : Mach) (f : Grove → Grove) : (m.modGrove f).pwm = m.pwm := rfl
@[simp] theorem modGrove_ch (m : Mach) (f : Grove → Grove) : (m.modGrove f).ch = m.ch := rfl
@[simp] theorem modGrove_gate (m : Mach) (f : Grove → Grove) : (m.modGrove f).gate = m.gate := rfl
@[simp] theorem modGrove_safety (m : Mach) (f : Grove → Grove) : (m.modGrove f).safety = m.safety := rfl
@[simp] theorem modGrove_drives (m : Mach) (f : Grove → Grove) : (m.modGrove f).drives = m.drives := rfl
@[simp] theorem modGrove_ev (m : Mach) (f : Grove → Grove) : (m.modGrove f).ev = m.ev := rfl
@[simp] theorem modGrove_doms (m : Mach) (f : Grove → Grove) : (m.modGrove f).doms = m.doms := rfl
@[simp] theorem modGrove_gcommits (m : Mach) (f : Grove → Grove) : (m.modGrove f).gcommits = m.gcommits := rfl
@[simp] theorem modGrove_sense (m : Mach) (f : Grove → Grove) : (m.modGrove f).sense = m.sense := rfl
@[simp] theorem modGrove_pos (m : Mach) (f : Grove → Grove) : (m.modGrove f).pos = m.pos := rfl
@[simp] theorem modGrove_ain (m : Mach) (f : Grove → Grove) : (m.modGrove f).ain = m.ain := rfl
@[simp] theorem modGrove_ainLast (m : Mach) (f : Grove → Grove) : (m.modGrove f).ainLast = m.ainLast := rfl
@[simp] theorem modGrove_pairs (m : Mach) (f : Grove → Grove) : (m.modGrove f).pairs = m.pairs := rfl
@[simp] theorem modGrove_slots (m : Mach) (f : Grove → Grove) : (m.modGrove f).slots = m.slots := rfl
@[simp] theorem modGrove_signals (m : Mach) (f : Grove → Grove) : (m.modGrove f).signals = m.signals := rfl
@[simp] theorem modGrove_eng (m : Mach) (f : Grove → Grove) : (m.modGrove f).eng = m.eng := rfl
@[simp] theorem modGrove_mc (m : Mach) (f : Grove → Grove) : (m.modGrove f).mc = m.mc := rfl
@[simp] theorem modGrove_outer (m : Mach) (f : Grove → Grove) : (m.modGrove f).outer = m.outer := rfl
@[simp] theorem modGrove_echo (m : Mach) (f : Grove → Grove) : (m.modGrove f).echo = m.echo := rfl
@[simp] theorem modGrove_capture (m : Mach) (f : Grove → Grove) : (m.modGrove f).capture = m.capture := rfl
@[simp] theorem modGrove_nv (m : Mach) (f : Grove → Grove) : (m.modGrove f).nv = m.nv := rfl
@[simp] theorem modGrove_lantern (m : Mach) (f : Grove → Grove) : (m.modGrove f).lantern = m.lantern := rfl
@[simp] theorem modGrove_sleep (m : Mach) (f : Grove → Grove) : (m.modGrove f).sleep = m.sleep := rfl
@[simp] theorem modGrove_thermal (m : Mach) (f : Grove → Grove) : (m.modGrove f).thermal = m.thermal := rfl
@[simp] theorem modGrove_canopy (m : Mach) (f : Grove → Grove) : (m.modGrove f).canopy = m.canopy := rfl
@[simp] theorem modGrove_grove (m : Mach) (f : Grove → Grove) : (m.modGrove f).grove = f m.grove := rfl
@[simp] theorem modGrove_net (m : Mach) (f : Grove → Grove) : (m.modGrove f).net = m.net := rfl
@[simp] theorem modGrove_sess (m : Mach) (f : Grove → Grove) : (m.modGrove f).sess = m.sess := rfl
@[simp] theorem modGrove_fw (m : Mach) (f : Grove → Grove) : (m.modGrove f).fw = m.fw := rfl
@[simp] theorem modGrove_mram (m : Mach) (f : Grove → Grove) : (m.modGrove f).mram = m.mram := rfl
@[simp] theorem modGrove_sent (m : Mach) (f : Grove → Grove) : (m.modGrove f).sent = m.sent := rfl
@[simp] theorem modGrove_faultN (m : Mach) (f : Grove → Grove) : (m.modGrove f).faultN = m.faultN := rfl
@[simp] theorem modGrove_free (m : Mach) (f : Grove → Grove) : (m.modGrove f).free = m.free := rfl

@[simp] theorem modPort_now (m : Mach) (i : Fin 2) (f : CanopyPort → CanopyPort) : (m.modPort i f).now = m.now := rfl
@[simp] theorem modPort_live (m : Mach) (i : Fin 2) (f : CanopyPort → CanopyPort) : (m.modPort i f).live = m.live := rfl
@[simp] theorem modPort_shadow (m : Mach) (i : Fin 2) (f : CanopyPort → CanopyPort) : (m.modPort i f).shadow = m.shadow := rfl
@[simp] theorem modPort_up (m : Mach) (i : Fin 2) (f : CanopyPort → CanopyPort) : (m.modPort i f).up = m.up := rfl
@[simp] theorem modPort_clr (m : Mach) (i : Fin 2) (f : CanopyPort → CanopyPort) : (m.modPort i f).clr = m.clr := rfl
@[simp] theorem modPort_voters (m : Mach) (i : Fin 2) (f : CanopyPort → CanopyPort) : (m.modPort i f).voters = m.voters := rfl
@[simp] theorem modPort_pwm (m : Mach) (i : Fin 2) (f : CanopyPort → CanopyPort) : (m.modPort i f).pwm = m.pwm := rfl
@[simp] theorem modPort_ch (m : Mach) (i : Fin 2) (f : CanopyPort → CanopyPort) : (m.modPort i f).ch = m.ch := rfl
@[simp] theorem modPort_gate (m : Mach) (i : Fin 2) (f : CanopyPort → CanopyPort) : (m.modPort i f).gate = m.gate := rfl
@[simp] theorem modPort_safety (m : Mach) (i : Fin 2) (f : CanopyPort → CanopyPort) : (m.modPort i f).safety = m.safety := rfl
@[simp] theorem modPort_drives (m : Mach) (i : Fin 2) (f : CanopyPort → CanopyPort) : (m.modPort i f).drives = m.drives := rfl
@[simp] theorem modPort_ev (m : Mach) (i : Fin 2) (f : CanopyPort → CanopyPort) : (m.modPort i f).ev = m.ev := rfl
@[simp] theorem modPort_doms (m : Mach) (i : Fin 2) (f : CanopyPort → CanopyPort) : (m.modPort i f).doms = m.doms := rfl
@[simp] theorem modPort_gcommits (m : Mach) (i : Fin 2) (f : CanopyPort → CanopyPort) : (m.modPort i f).gcommits = m.gcommits := rfl
@[simp] theorem modPort_sense (m : Mach) (i : Fin 2) (f : CanopyPort → CanopyPort) : (m.modPort i f).sense = m.sense := rfl
@[simp] theorem modPort_pos (m : Mach) (i : Fin 2) (f : CanopyPort → CanopyPort) : (m.modPort i f).pos = m.pos := rfl
@[simp] theorem modPort_ain (m : Mach) (i : Fin 2) (f : CanopyPort → CanopyPort) : (m.modPort i f).ain = m.ain := rfl
@[simp] theorem modPort_ainLast (m : Mach) (i : Fin 2) (f : CanopyPort → CanopyPort) : (m.modPort i f).ainLast = m.ainLast := rfl
@[simp] theorem modPort_pairs (m : Mach) (i : Fin 2) (f : CanopyPort → CanopyPort) : (m.modPort i f).pairs = m.pairs := rfl
@[simp] theorem modPort_slots (m : Mach) (i : Fin 2) (f : CanopyPort → CanopyPort) : (m.modPort i f).slots = m.slots := rfl
@[simp] theorem modPort_signals (m : Mach) (i : Fin 2) (f : CanopyPort → CanopyPort) : (m.modPort i f).signals = m.signals := rfl
@[simp] theorem modPort_eng (m : Mach) (i : Fin 2) (f : CanopyPort → CanopyPort) : (m.modPort i f).eng = m.eng := rfl
@[simp] theorem modPort_mc (m : Mach) (i : Fin 2) (f : CanopyPort → CanopyPort) : (m.modPort i f).mc = m.mc := rfl
@[simp] theorem modPort_outer (m : Mach) (i : Fin 2) (f : CanopyPort → CanopyPort) : (m.modPort i f).outer = m.outer := rfl
@[simp] theorem modPort_echo (m : Mach) (i : Fin 2) (f : CanopyPort → CanopyPort) : (m.modPort i f).echo = m.echo := rfl
@[simp] theorem modPort_capture (m : Mach) (i : Fin 2) (f : CanopyPort → CanopyPort) : (m.modPort i f).capture = m.capture := rfl
@[simp] theorem modPort_nv (m : Mach) (i : Fin 2) (f : CanopyPort → CanopyPort) : (m.modPort i f).nv = m.nv := rfl
@[simp] theorem modPort_lantern (m : Mach) (i : Fin 2) (f : CanopyPort → CanopyPort) : (m.modPort i f).lantern = m.lantern := rfl
@[simp] theorem modPort_sleep (m : Mach) (i : Fin 2) (f : CanopyPort → CanopyPort) : (m.modPort i f).sleep = m.sleep := rfl
@[simp] theorem modPort_thermal (m : Mach) (i : Fin 2) (f : CanopyPort → CanopyPort) : (m.modPort i f).thermal = m.thermal := rfl
@[simp] theorem modPort_canopy (m : Mach) (i : Fin 2) (f : CanopyPort → CanopyPort) : (m.modPort i f).canopy = vmod m.canopy i f := rfl
@[simp] theorem modPort_grove (m : Mach) (i : Fin 2) (f : CanopyPort → CanopyPort) : (m.modPort i f).grove = m.grove := rfl
@[simp] theorem modPort_net (m : Mach) (i : Fin 2) (f : CanopyPort → CanopyPort) : (m.modPort i f).net = m.net := rfl
@[simp] theorem modPort_sess (m : Mach) (i : Fin 2) (f : CanopyPort → CanopyPort) : (m.modPort i f).sess = m.sess := rfl
@[simp] theorem modPort_fw (m : Mach) (i : Fin 2) (f : CanopyPort → CanopyPort) : (m.modPort i f).fw = m.fw := rfl
@[simp] theorem modPort_mram (m : Mach) (i : Fin 2) (f : CanopyPort → CanopyPort) : (m.modPort i f).mram = m.mram := rfl
@[simp] theorem modPort_sent (m : Mach) (i : Fin 2) (f : CanopyPort → CanopyPort) : (m.modPort i f).sent = m.sent := rfl
@[simp] theorem modPort_faultN (m : Mach) (i : Fin 2) (f : CanopyPort → CanopyPort) : (m.modPort i f).faultN = m.faultN := rfl
@[simp] theorem modPort_free (m : Mach) (i : Fin 2) (f : CanopyPort → CanopyPort) : (m.modPort i f).free = m.free := rfl

@[simp] theorem modThermal_now (m : Mach) (f : Thermal → Thermal) : (m.modThermal f).now = m.now := rfl
@[simp] theorem modThermal_live (m : Mach) (f : Thermal → Thermal) : (m.modThermal f).live = m.live := rfl
@[simp] theorem modThermal_shadow (m : Mach) (f : Thermal → Thermal) : (m.modThermal f).shadow = m.shadow := rfl
@[simp] theorem modThermal_up (m : Mach) (f : Thermal → Thermal) : (m.modThermal f).up = m.up := rfl
@[simp] theorem modThermal_clr (m : Mach) (f : Thermal → Thermal) : (m.modThermal f).clr = m.clr := rfl
@[simp] theorem modThermal_voters (m : Mach) (f : Thermal → Thermal) : (m.modThermal f).voters = m.voters := rfl
@[simp] theorem modThermal_pwm (m : Mach) (f : Thermal → Thermal) : (m.modThermal f).pwm = m.pwm := rfl
@[simp] theorem modThermal_ch (m : Mach) (f : Thermal → Thermal) : (m.modThermal f).ch = m.ch := rfl
@[simp] theorem modThermal_gate (m : Mach) (f : Thermal → Thermal) : (m.modThermal f).gate = m.gate := rfl
@[simp] theorem modThermal_safety (m : Mach) (f : Thermal → Thermal) : (m.modThermal f).safety = m.safety := rfl
@[simp] theorem modThermal_drives (m : Mach) (f : Thermal → Thermal) : (m.modThermal f).drives = m.drives := rfl
@[simp] theorem modThermal_ev (m : Mach) (f : Thermal → Thermal) : (m.modThermal f).ev = m.ev := rfl
@[simp] theorem modThermal_doms (m : Mach) (f : Thermal → Thermal) : (m.modThermal f).doms = m.doms := rfl
@[simp] theorem modThermal_gcommits (m : Mach) (f : Thermal → Thermal) : (m.modThermal f).gcommits = m.gcommits := rfl
@[simp] theorem modThermal_sense (m : Mach) (f : Thermal → Thermal) : (m.modThermal f).sense = m.sense := rfl
@[simp] theorem modThermal_pos (m : Mach) (f : Thermal → Thermal) : (m.modThermal f).pos = m.pos := rfl
@[simp] theorem modThermal_ain (m : Mach) (f : Thermal → Thermal) : (m.modThermal f).ain = m.ain := rfl
@[simp] theorem modThermal_ainLast (m : Mach) (f : Thermal → Thermal) : (m.modThermal f).ainLast = m.ainLast := rfl
@[simp] theorem modThermal_pairs (m : Mach) (f : Thermal → Thermal) : (m.modThermal f).pairs = m.pairs := rfl
@[simp] theorem modThermal_slots (m : Mach) (f : Thermal → Thermal) : (m.modThermal f).slots = m.slots := rfl
@[simp] theorem modThermal_signals (m : Mach) (f : Thermal → Thermal) : (m.modThermal f).signals = m.signals := rfl
@[simp] theorem modThermal_eng (m : Mach) (f : Thermal → Thermal) : (m.modThermal f).eng = m.eng := rfl
@[simp] theorem modThermal_mc (m : Mach) (f : Thermal → Thermal) : (m.modThermal f).mc = m.mc := rfl
@[simp] theorem modThermal_outer (m : Mach) (f : Thermal → Thermal) : (m.modThermal f).outer = m.outer := rfl
@[simp] theorem modThermal_echo (m : Mach) (f : Thermal → Thermal) : (m.modThermal f).echo = m.echo := rfl
@[simp] theorem modThermal_capture (m : Mach) (f : Thermal → Thermal) : (m.modThermal f).capture = m.capture := rfl
@[simp] theorem modThermal_nv (m : Mach) (f : Thermal → Thermal) : (m.modThermal f).nv = m.nv := rfl
@[simp] theorem modThermal_lantern (m : Mach) (f : Thermal → Thermal) : (m.modThermal f).lantern = m.lantern := rfl
@[simp] theorem modThermal_sleep (m : Mach) (f : Thermal → Thermal) : (m.modThermal f).sleep = m.sleep := rfl
@[simp] theorem modThermal_thermal (m : Mach) (f : Thermal → Thermal) : (m.modThermal f).thermal = f m.thermal := rfl
@[simp] theorem modThermal_canopy (m : Mach) (f : Thermal → Thermal) : (m.modThermal f).canopy = m.canopy := rfl
@[simp] theorem modThermal_grove (m : Mach) (f : Thermal → Thermal) : (m.modThermal f).grove = m.grove := rfl
@[simp] theorem modThermal_net (m : Mach) (f : Thermal → Thermal) : (m.modThermal f).net = m.net := rfl
@[simp] theorem modThermal_sess (m : Mach) (f : Thermal → Thermal) : (m.modThermal f).sess = m.sess := rfl
@[simp] theorem modThermal_fw (m : Mach) (f : Thermal → Thermal) : (m.modThermal f).fw = m.fw := rfl
@[simp] theorem modThermal_mram (m : Mach) (f : Thermal → Thermal) : (m.modThermal f).mram = m.mram := rfl
@[simp] theorem modThermal_sent (m : Mach) (f : Thermal → Thermal) : (m.modThermal f).sent = m.sent := rfl
@[simp] theorem modThermal_faultN (m : Mach) (f : Thermal → Thermal) : (m.modThermal f).faultN = m.faultN := rfl
@[simp] theorem modThermal_free (m : Mach) (f : Thermal → Thermal) : (m.modThermal f).free = m.free := rfl

/-! Operations over these. -/

@[simp] theorem putN_eq (m : Mach) (k n : Nat) : m.putN k n = m.put k (.num n) := rfl
@[simp] theorem putR_eq (m : Mach) (k : Nat) (x : F32) : m.putR k x = m.put k (.num x.toNat) := rfl
@[simp] theorem putB_eq (m : Mach) (k : Nat) (x : Bool) : m.putB k x = m.put k (.num (b2n x)) := rfl
@[simp] theorem putI_eq (m : Mach) (w k : Nat) (x : Int) : m.putI w k x = m.put k (.num (ofSigned w x)) := rfl
@[simp] theorem putBoth_eq (m : Mach) (k : Nat) (v : Val) : m.putBoth k v = (m.put k v).putShadow k v := rfl
@[simp] theorem modLeg_eq (m : Mach) (s : Fin 2) (l : Fin 3) (f : Leg → Leg) : m.modLeg s l f = m.modPwm s (fun p => { p with legs := vmod p.legs l f }) := rfl
@[simp] theorem modSto_eq (m : Mach) (f : Sto → Sto) : m.modSto f = m.modSafety (fun s => { s with sto := f s.sto }) := rfl
@[simp] theorem modSi_eq (m : Mach) (i : Fin 6) (f : SafeIn → SafeIn) : m.modSi i f = m.modSafety (fun s => { s with si := vmod s.si i f }) := rfl
@[simp] theorem modVsi_eq (m : Mach) (i : Fin 16) (f : VSafeIn → VSafeIn) : m.modVsi i f = m.modSafety (fun s => { s with vsi := vmod s.vsi i f }) := rfl
@[simp] theorem modIsf_eq (m : Mach) (i : Fin 4) (f : IsfConn → IsfConn) : m.modIsf i f = m.modSafety (fun s => { s with isf := vmod s.isf i f }) := rfl
@[simp] theorem modBrake_eq (m : Mach) (i : Fin 2) (f : Brake → Brake) : m.modBrake i f = m.modSafety (fun s => { s with brakes := vmod s.brakes i f }) := rfl
@[simp] theorem modInput_eq (m : Mach) (s : Fin 2) (n : Fin 6) (f : Input → Input) : m.modInput s n f = m.modSense s (fun x => { x with inputs := vmod x.inputs n f }) := rfl
@[simp] theorem modLane_eq (m : Mach) (i : Fin 3) (f : LaneSt → LaneSt) : m.modLane i f = m.modClr (fun c => { c with lanes := vmod c.lanes i f }) := rfl
@[simp] theorem modMember_eq (m : Mach) (p : Fin 8) (f : Member → Member) : m.modMember p f = m.modGrove (fun g => { g with members := vmod g.members p f }) := rfl
@[simp] theorem modEth_eq (m : Mach) (p : Fin 2) (f : EthPort → EthPort) : m.modEth p f = m.modNet (fun n => { n with ports := vmod n.ports p f }) := rfl

end Sys2Proof.Laws
end

