-- ==== Sys2Proof/Tests/Slice0.lean ====
section
/-! SUPPORT. Tests: ill-formed commands are refused, and for each statement of Obligations.lean a state and operands that meet its
hypotheses, clause by clause, at the ends of their ranges. Each witness lists the hypotheses in the statement's order. -/

set_option Elab.async false
set_option maxRecDepth 100000

namespace Sys2Proof.Tests

open Sys2Proof.Machine

/-- The block of a state that holds `e`, at the instant `t`, as the statements speak of it. -/
abbrev M (e : Mach) (t : Time := 0) : Mach := Mach.at_ (Machine.State.core { core := e }) t
/-- The main domain runs, all else is as at reset. -/
abbrev run0 : Mach := { up := some true }
/-- The same with the time at `n` nanoseconds. -/
abbrev runAt (n : Nat) : Mach := { up := some true, now := n * 1000 }
/-- Every channel configured, its rails valid. -/
def readyCh : Vector Channel 12 := Vector.replicate 12 { config := some [], vposOk := true, vnegOk := true, logicOk := true }
/-- A request on the connection below. -/
def rq : Req := { handle := 1, rid := 5, src := .usb }
/-- The device's one connection, at USB. -/
def conn (role : Nat := 4) : Conn := { handle := 1, src := .usb, role := role }
/-- The state with that connection. -/
def online (m : Mach) (role : Nat := 4) : Mach := { m with net := { m.net with conns := [conn role] } }

/-- Pulses on set 0 with the carrier falling towards `hEnd`. -/
def pulsing (hEnd : Time := 125000000) (held : Option F32 := none) (made : Bool := false) : Mach :=
  (run0.modGate 0 (fun g => { g with pulses := true })).modPwm 0 (fun p => { p with
    rising := false, hEnd := hEnd, legs := vmod p.legs 0 (fun x => { x with held := held, made := made }) })

/-- A following member. -/
def follower (n : Nat := 0) : Mach := (((runAt n).putN Key.groveSize 2).putN Key.groveState 2).putN Key.groveLeaderPosition 1

/-- A leader. -/
def leader (n : Nat := 0) : Mach := (((runAt n).putN Key.groveSize 2).putN Key.groveState 3).putN Key.groveLeaderPosition 0

/-- Member 1 has joined. -/
def joinedM (x : Member) (m : Mach) : Mach := m.modMember 1 (fun _ => { x with joined := true })

theorem M_self (e : Mach) : M e = e := by simp [Mach.at_]

/-- Drive 0 configured with its set, safety in a state. -/
def drive (safety : Nat := 2) (m : Mach := run0) : Mach := (m.putN (Key.roleCurrentD 0) 0).putN Key.safetyState safety

/-! ### Lanes and the Clearing -/

def vid1 : VoteId := { ty := 1, dest := 2, sq := 3 }
def tok7 : Token := mkToken .a vid1 0 7
def tok8 : Token := mkToken .c vid1 0 8
def arr (l : Lane) (k : Token) : Arrival := { lane := l, stamp := 0, body := tokBody k }
def vote (xs : List Arrival) (em : Bool := false) : Vote := { vid := vid1, arrivals := xs, opened := 0, emitted := em }
def voting (v : Vote) (n : Nat := 0) : Mach := { runAt n with clr := { votes := [v] } }
def duplex (v : Vote) (n : Nat := 0) : Mach := (voting v n).modLane 2 (fun x => { x with status := .retired })

theorem wit_VoteOpensAndSecondMatchEmits :
    ((M run0).judges .a tok7 ∧ (M run0).clr.votes.find? (fun v => v.vid == tokVote tok7) = none) ∧
    ((M (voting (vote [arr .b tok7]) 5000)).judges .a tok7 ∧ (M (voting (vote [arr .b tok7]) 5000)).inTime .a tok7 (vote [arr .b tok7]) ∧
      (arr .b tok7).body = tokBody tok7 ∧
      (noteSkew (vote [arr .b tok7]) ((M (voting (vote [arr .b tok7]) 5000)).arrival .a tok7) (M (voting (vote [arr .b tok7]) 5000))).activeCount = 3) ∧
    ((M (voting (vote [arr .b tok8]))).judges .a tok7 ∧ (M (voting (vote [arr .b tok8]))).inTime .a tok7 (vote [arr .b tok8]) ∧
      (arr .b tok8).body ≠ tokBody tok7 ∧
      (noteSkew (vote [arr .b tok8]) ((M (voting (vote [arr .b tok8]))).arrival .a tok7) (M (voting (vote [arr .b tok8])))).activeCount = 3) := by
  decide +kernel

/-- The third arrival's common hypotheses. -/
abbrev third (v : Vote) : Prop :=
  (M (voting v 10)).judges .a tok7 ∧ (M (voting v 10)).inTime .a tok7 v ∧
  (noteSkew v ((M (voting v 10)).arrival .a tok7) (M (voting v 10))).activeCount = 3

theorem wit_ThirdArrivalDecides :
    third (vote [arr .b tok7, arr .c tok7] true) ∧ third (vote [arr .b tok8, arr .c tok8] true) ∧
    third (vote [arr .b tok7, arr .c tok8]) ∧ third (vote [arr .b tok8, arr .c tok7]) ∧
    third (vote [arr .b tok8, arr .c (mkToken .b vid1 0 9)]) := by
  decide +kernel

/-- The five cases differ in what the arrivals carry. -/
theorem wit_third_bodies : tokBody tok8 ≠ tokBody tok7 ∧ tokBody (mkToken .b vid1 0 9) ≠ tokBody tok7 := by decide +kernel

/-- The second arrival of a duplex vote. -/
abbrev second (v : Vote) : Prop :=
  (M (duplex v 10)).judges .a tok7 ∧ (M (duplex v 10)).inTime .a tok7 v ∧
  (noteSkew v ((M (duplex v 10)).arrival .a tok7) (M (duplex v 10))).activeCount = 2 ∧ v.emitted = false

theorem wit_DuplexVote :
    second (vote [arr .b tok7]) ∧ second (vote [arr .b tok8]) ∧ (M (duplex (vote []))).laneActive .c = false := by
  decide +kernel

def sigVid : VoteId := { ty := 7, dest := 0, sq := 0 }

theorem wit_WindowCloseJudges :
    ((M (voting (vote [arr .b tok7]) 4999)).lanesAct = true ∧
      (M (voting (vote [arr .b tok7]) 4999)).clr.votes.find? (fun v => v.vid == vid1) = some (vote [arr .b tok7]) ∧
      (M (voting (vote [arr .b tok7]) 4999)).ns < 0 + (M (voting (vote [arr .b tok7]) 4999)).window) ∧
    (∀ v ∈ [vote [arr .b tok7, arr .c tok7] true, vote [arr .b tok7, arr .c tok8], vote [arr .b tok7]],
      (M (voting v 5000)).lanesAct = true ∧ (M (voting v 5000)).clr.votes.find? (fun v => v.vid == vid1) = some v ∧
      v.opened + (M (voting v 5000)).window ≤ (M (voting v 5000)).ns ∧ v.vid.ty ≠ 7 ∧ (M (voting v 5000)).activeCount = 3) ∧
    (let v := vote [arr .b tok7];
      (M (duplex v 5000)).lanesAct = true ∧ (M (duplex v 5000)).clr.votes.find? (fun v => v.vid == vid1) = some v ∧
      v.opened + (M (duplex v 5000)).window ≤ (M (duplex v 5000)).ns ∧ v.vid.ty ≠ 7 ∧ (M (duplex v 5000)).activeCount = 2 ∧ v.arrivals ≠ []) ∧
    (let v : Vote := { vid := sigVid, arrivals := [arr .a tok7], opened := 0 };
      (M (voting v 5000)).lanesAct = true ∧ (M (voting v 5000)).clr.votes.find? (fun v => v.vid == sigVid) = some v ∧
      v.opened + (M (voting v 5000)).window ≤ (M (voting v 5000)).ns ∧ v.vid.ty = 7 ∧ (M (voting v 5000)).activeCount = 3) := by
  decide +kernel

theorem wit_ContentCopyIsChecked :
    let j : CopyJob := { vid := vid1, len := 2, crc := crc32c [1, 2], source := .a, second := some .b };
    let m := M { run0 with clr := { copies := [j] } };
    m.lanesAct = true ∧ m.clr.copies.find? (fun j => j.vid == vid1) = some j ∧ [(1 : Byte), 2].length = j.len ∧ crc32c [1, 2] = j.crc ∧
    crc32c [1, 3] ≠ j.crc ∧ j.second = some .b := by
  decide +kernel

/-- A first dissent, and a third within the second: the oldest entry is one nanosecond short of 1 s. -/
theorem wit_DissentIsCounted :
    (let m := M { run0 with clr := { safeState := true } };
      m.running = true ∧ m.clr.safeState = true) ∧
    (∀ ds ∈ [[], [1, 2], [0, 1]], let m := M ((runAt 1000000000).modLane 0 (fun x => { x with dissents := ds }));
      m.running = true ∧ m.clr.safeState = false ∧ m.laneActive .a = true ∧
      (3 ≤ (m.clr.lanes[laneIx .a].dissents.filter (fun d => m.ns < d + 1000000000) ++ [m.ns]).length ↔ ds = [1, 2])) ∧
    (let r : Resync := { target := .a, source := .b, start := 0 };
      let m := M { runAt 2000000 with clr := { resync := some r } };
      m.lanesAct = true ∧ m.clr.resync = some r ∧ r.target = .a ∧ r.start + 2000000 ≤ m.ns) ∧
    (∀ x ∈ [none, some false, some true], (M (run0.modLane 0 (fun l => { l with mark := x }))).clr.lanes[laneIx .a].mark = x) ∧
    (let r : Resync := { target := .a, source := .b, start := 0 };
      let m := M { runAt 1999999 with clr := { resync := some r } };
      m.lanesAct = true ∧ m.clr.resync = some r ∧ m.ns < r.start + 2000000) := by
  decide +kernel

theorem wit_LaneUpkeep :
    let m := M { run0 with clr := { sigs := [(.a, 5)] } };
    m.lanesAct = true ∧ m.clr.sigs.find? (fun s => s.1 == .a) = some (.a, 5) ∧ m.running = true := by
  decide +kernel

/-- The 100 µs tick and the nanosecond before it; window timers 2 % apart at most, and more. -/
theorem wit_ControlCycleBoundaryRuns :
    ((M (runAt 99999)).running = true ∧ (M (runAt 99999)).boundaryDue = none) ∧
    (let m := M { runAt 100000 with clr := { safeState := true } };
      m.running = true ∧ m.boundaryDue = some 100000000 ∧ m.clr.safeState = true) ∧
    (let m := M (runAt 100000);
      let c := m.modClr (fun c => { c with boundaryAt := 100000000 });
      let n : Mach := { c with voters := vmap c.voters (fun _ v => { v with missed := v.missed + 1 }) };
      let e := (n.each lanes3 countDissent).modClr (fun c => { c with exercise := (c.exercise + 2) % 126 });
      let w := (n.each lanes3 countDissent).window;
      m.running = true ∧ m.boundaryDue = some 100000000 ∧ m.clr.safeState = false ∧
      w < 50 * (if 4899 ≤ w then w - 4899 else 4899 - w) ∧ 50 * (if 4900 ≤ w then w - 4900 else 4900 - w) ≤ w ∧
      e.clr.safeState = false ∧ (signaturesDue (resyncStart (resyncFinish [] e))).lanesAct = true) := by
  decide +kernel

/-- The watchdog at three and at four boundaries; SafeStateDelay just over. -/
theorem wit_SafeOutputsAndWatchdog :
    (M run0).lanesAct = true ∧
    (M (run0.modVoter 0 (fun v => { v with missed := 3 }))).voters[voterIx .primary].missed < 4 ∧
    (let m := M (run0.modVoter 0 (fun v => { v with missed := 4 }));
      m.running = true ∧ m.voters[voterIx .primary].barked = false ∧ 4 ≤ m.voters[voterIx .primary].missed) ∧
    (let m := M { runAt 1000000000000 with clr := { safeState := true } };
      m.clr.safeState = true ∧ m.clr.safeAt + ms (m.n (Key.brakeSafeStateDelay 0)) ≤ m.ns) := by
  decide +kernel

theorem wit_SafeStateCommandActs :
    (M run0).clr.safeState = false ∧
    (let m := M { run0 with clr := { safeState := true } };
      m.clr.safeState = true ∧ m.ascHeld (m.setOfCh 0) = false) ∧
    (let m := M (({ run0 with clr := { safeState := true }, ch := readyCh } : Mach).modVoter 0 (fun v => { v with held := 0x10000 }));
      m.clr.safeState = true ∧ m.ascHeld (m.setOfCh 0) = true ∧ m.sideSelector (m.setOfCh 0) = some .low ∧
      inPattern .low 1 = true ∧ inPattern .low 0 = false) := by
  decide +kernel

/-! ### Timebase, carriers, duty tokens, commits -/

/-- Carrier 0 at the end of a half-period of 125 µs, in either direction. -/
def turning (rising : Bool) : Mach :=
  { (run0.modPwm 0 (fun p => { p with rising := rising, hEnd := 125000000, half := 125000000 })).modSense 0 (fun x => { x with mclk := some 0 }) with now := 125000000 }

theorem wit_CarrierTurns :
    (M ((turning true).at_ 0)).pwm[0].rising = true ∧ (M { turning true with now := 124999999 }).now < (turning true).pwm[0].hEnd ∧
    (∀ x ∈ [0, 2], let m := M ((turning true).putN (Key.sampleMode 0) x);
      let n := m.modPwm 0 (fun q => { q with rising := false, hStart := m.pwm[0].hEnd, hEnd := q.next });
      m.running = true ∧ m.pwm[0].rising = true ∧ m.pwm[0].hEnd ≤ m.now ∧ n.smpMode 0 = x) ∧
    (let m := M (turning false);
      let p := m.pwm[0];
      let b := boundaryOf (.set 0) m;
      let d := dpwmUpdate 0 (b.modPwm 0 (fun p => { p with halved := false }));
      let n := (d.modPwm 0 (fun q => { q with
        rising := true, hStart := p.hEnd, hEnd := p.hEnd + p.half, next := p.hEnd + 2 * p.half, moving := false, half := p.half
        regrid := false })).putR (Key.actualFrequency 0) (fRat 1000000000000 (max 1 (2 * p.half)));
      m.running = true ∧ p.rising = false ∧ p.hEnd ≤ m.now ∧ b.shadeHalves 0 = false ∧ d.halfWanted 0 = p.half ∧
      d.pwm[0].regrid = false ∧ p.moving = false ∧ n.sense[0].mclk.isSome = true ∧ n.bitPeriod 0 = m.bitPeriod 0 ∧
      ((0 : Fin 2) = 1 → d.n (Key.carrierPhase 1) = m.n (Key.carrierPhase 0))) := by
  decide +kernel

/-- The state with one token that the computation has yet to give, for leg 0. -/
def expecting (slot : Bool) (m : Mach) : Mach := m.modEng 0 (fun e => { e with expect := [(0, 0, slot)] })

theorem wit_DutyTokenWaitsOrEnds :
    ((M run0).lanesAct = true ∧ (M run0).eng[(M run0).dataSet 0].expect.contains (0, 0, true) = false) ∧
    (∀ m ∈ [M (expecting true run0), M (expecting true ((pulsing).putN (Key.gateCommandMode 0) 1)), M (expecting true pulsing),
        M (expecting false pulsing)], ∀ slot ∈ [true, false],
      let e := (m.modEng (m.dataSet 0) (fun e => { e with
        expect := (m.eng[m.dataSet 0].expect.dropWhile (fun y => y != (0, 0, slot))).drop 1 })).modEng 0 (fun e => { e with stall := 0 });
      let h := dueEdges 0 0 (sameStamp e) e;
      let u := h.each h.pairs2 (fun low m => m.modPair' 0 0 low (fun x => { x with held := some (fclamp 0 fOne fOne) }));
      m.lanesAct = true ∧ (m.eng[m.dataSet 0].expect.contains (0, 0, slot) = true ∨ m.eng[m.dataSet 0].expect.contains (0, 0, !slot) = true) ∧
      fIsNan fOne = false ∧ u.pwm[0].rising = e.pwm[0].rising) ∧
    ((M (expecting true run0)).gate[0].pulses = false ∧ (M (expecting true ((pulsing).putN (Key.gateCommandMode 0) 1))).directMode 0 = true ∧
      (M (expecting true pulsing)).gate[0].pulses = true ∧ (M (expecting true pulsing)).directMode 0 = false ∧
      (M (expecting true pulsing)).pwm[0].rising = false ∧ fIsNan (0x7FC00000 : F32) = true) := by
  decide +kernel

/-- A token of duty one half for the half-period in progress: the edge is made; it is due at the half-period's end; it is due one
sub-tick before; the compare time lies before the half-period's end and the edge, held off to 7.5 ns after the token, at it. -/
theorem wit_DutyTokenSetsTheEdge :
    (∀ made ∈ [true, false], let m := M (pulsing 1000000 (some 0) made);
      let p := m.pwm[0];
      let x := m.pairOf 0 0 false;
      m.npc = false ∧ (M (pulsing 1000000 none made)).unlit 0 0 = true ∧
      (m.modPair' 0 0 false (fun x => { x with cmd := some true })).unlit 0 0 = false ∧ fle (0x3F000000 : F32) 0 = false ∧
      fge (0x3F000000 : F32) fOne = false ∧ fle (0 : F32) 0 = true ∧ fge fOne fOne = true ∧
      x.made = made ∧ p.hEnd ≤ 1000000 ∧ 999375 < p.hEnd ∧
      p.hEnd ≤ p.afterTurn (Machine.edgeAt (if 999375 < 992500 + 7500 then 992500 + 7500 else 999375)) ∧
      p.afterTurn (Machine.edgeAt (if 999375 < 0 + 7500 then 0 + 7500 else 999375)) < p.hEnd ∧ x.tPrev = none) := by
  decide +kernel

def edgeAt (te : Option Time) (cmd : Option Bool) : Mach :=
  { (pulsing).modLeg 0 0 (fun x => { x with pending := te, pendTo := true, cmd := cmd }) with now := 1000 }

theorem wit_LegEdgeAndDeadTime :
    (∀ c ∈ [(none, none), (some 1001, none), (some 1000, some true), (some 1000, none)], let m := M (edgeAt c.1 c.2);
      m.running = true ∧ m.npc = false ∧ m.gate[0].pulses = true ∧ (m.pairOf 0 0 false).turnOn = none ∧ (m.pairOf 0 0 false).pending = c.1 ∧
      ((m.pairOf 0 0 false).cmd = some (m.pairOf 0 0 false).pendTo ↔ c.2 = some true)) ∧
    (M run0).onAllowed 0 = false ∧ (M run0).gate[0].pulses = false ∧
    (M { run0 with ch := readyCh.set 0 { (readyCh[0] : Channel) with mode := .release, want := true } }).onAllowed 0 = true := by
  decide +kernel

/-- 32 Lantern ticks 1,000 ppm long, and one hundred-picosecond more. -/
theorem wit_TimebaseChecks :
    (M run0).running = true ∧
    9765625 < (((9775390626 : Nat) : Int) - 9765625000).natAbs ∧ (((9775390625 : Nat) : Int) - 9765625000).natAbs ≤ 9765625 := by
  decide +kernel

def setDom : Dom := .set 0
def onSet (m : Mach) (role : Nat := 4) : Mach := online (m.putN Key.commitDomain 0) role

theorem maskBlocks_le (m : Mach) : m.maskBlocks.length ≤ 4096 := by
  unfold Mach.maskBlocks
  exact le_of_le_of_eq (List.length_filter_le _ _) List.length_range

/-- A bank whose changes and checks are none of the domain's is valid where the control period has room for all blocks. -/
theorem bankOk_of (m : Mach) (d : Dom)
    (h : m.safetyCommit d = false ∧ m.changedOf d = [] ∧ (64 * 4096 * 125 + 1000000 : Nat) ≤ (m.candidate d).controlPeriod)
    (hc : (allChecks m (m.candidate d)).all (fun r => !(r.keys.any (fun k => m.domOf k == some d) && r.bad)) = true) :
    m.bankOk d = true := by
  obtain ⟨h1, h2, h3⟩ := h
  have hl := maskBlocks_le (m.candidate d)
  have hf : (m.candidate d).liveFits = true := by
    simp only [Mach.liveFits, decide_eq_true_eq]; omega
  simp only [Mach.bankOk, validDomain, h1, h2, hf, Bool.false_and, Bool.not_false, Bool.true_and, List.all_nil, Bool.and_true]
  simpa only [Bool.and_comm] using hc

theorem refusal_none (m : Mach) (d : Dom) (h : m.safetyCommit d = false ∧ m.commitHeld d = false) (hb : m.bankOk d = true) :
    m.commitRefusal d 4 none = none ∧ (m.doms[domIx d].count < 1 → m.commitRefusal d 4 (some 1) = none) := by
  refine ⟨?_, fun hc => ?_⟩
  · simp [Mach.commitRefusal, h.1, h.2, hb]
  · have : m.doms[domIx d].count = 0 := by omega
    simp [Mach.commitRefusal, h.1, h.2, hb]
    exact this

/-- A following member whose own USB connection asks for a commit of the grove domain at boundary 1. -/
def base : Mach := touch rq (online (((((run0.putBoth Key.groveSize (.num 2)).putN Key.groveState 2).putN Key.groveLeaderPosition 1).putN
  Key.commitDomain 0x30).putN Key.commitTargetBoundary 1))

theorem base_touched : touch rq (M base) = base := by rw [M_self]; rfl

theorem base_room : base.safetyCommit .grove = false ∧ base.changedOf .grove = [] ∧
    (64 * 4096 * 125 + 1000000 : Nat) ≤ (base.candidate .grove).controlPeriod ∧ base.commitHeld .grove = false ∧ base.doms[domIx .grove].count < 1 := by
  decide +kernel

theorem base_checks :
    (allChecks base (base.candidate .grove)).all (fun r => !(r.keys.any (fun k => base.domOf k == some .grove) && r.bad)) = true := by
  decide +kernel

theorem base_bankOk : base.bankOk .grove = true :=
  bankOk_of base .grove ⟨base_room.1, base_room.2.1, base_room.2.2.1⟩ base_checks

theorem base_commits : base.commitRefusal .grove 4 none = none ∧ base.commitRefusal .grove 4 (some 1) = none :=
  have h := refusal_none base .grove ⟨base_room.1, base_room.2.2.2.1⟩ base_bankOk
  ⟨h.1, h.2 base_room.2.2.2.2⟩

theorem wit_CommitRequests_next :
    (M base).accepts rq (conn) Key.commitRequest [1] (.num 1) ∧ domOfCode ((touch rq (M base)).n Key.commitDomain) = some .grove ∧
    (touch rq (M base)).commitRefusal .grove (conn).role none = none ∧ (touch rq (M base)).leads = false := by
  rw [base_touched, M_self]
  exact ⟨by decide +kernel, by decide +kernel, base_commits.1, by decide +kernel⟩

/-- The same at the grove's leader. -/
def baseLead : Mach := touch rq (online (((((run0.putBoth Key.groveSize (.num 2)).putN Key.groveState 3).putN Key.groveLeaderPosition 0).putN
  Key.commitDomain 0x30).putN Key.commitTargetBoundary 1))

theorem baseLead_touched : touch rq (M baseLead) = baseLead := by rw [M_self]; rfl

theorem baseLead_checks :
    (allChecks baseLead (baseLead.candidate .grove)).all (fun r => !(r.keys.any (fun k => baseLead.domOf k == some .grove) && r.bad)) = true := by
  decide +kernel

theorem baseLead_commits : baseLead.commitRefusal .grove 4 none = none ∧ baseLead.commitRefusal .grove 4 (some 1) = none :=
  have h : (baseLead.safetyCommit .grove = false ∧ baseLead.changedOf .grove = [] ∧
      (64 * 4096 * 125 + 1000000 : Nat) ≤ (baseLead.candidate .grove).controlPeriod) ∧ baseLead.commitHeld .grove = false ∧
      baseLead.doms[domIx .grove].count < 1 := by decide +kernel
  have r := refusal_none baseLead .grove ⟨h.1.1, h.2.1⟩ (bankOk_of baseLead .grove h.1 baseLead_checks)
  ⟨r.1, r.2 h.2.2⟩

theorem wit_CommitRequests_leader :
    (M baseLead).accepts rq (conn) Key.commitRequest [1] (.num 1) ∧ (M baseLead).accepts rq (conn) Key.commitRequest [2] (.num 2) ∧
    domOfCode ((touch rq (M baseLead)).n Key.commitDomain) = some .grove ∧ (touch rq (M baseLead)).n Key.commitTargetBoundary = 1 ∧
    (touch rq (M baseLead)).leads = true ∧ (touch rq (M baseLead)).commitRefusal .grove (conn).role none = none ∧
    (touch rq (M baseLead)).commitRefusal .grove (conn).role (some 1) = none := by
  rw [baseLead_touched, M_self]
  exact ⟨by decide +kernel, by decide +kernel, by decide +kernel, by decide +kernel, by decide +kernel, baseLead_commits⟩

theorem wit_CommitRequests_held :
    let m := M (onSet (run0.modDom 0 (fun x => { x with pending := some { target := none, at_ := 0 } }))); let n := touch rq m;
    m.accepts rq (conn) Key.commitRequest [1] (.num 1) ∧ domOfCode (n.n Key.commitDomain) = some setDom ∧
    n.commitRefusal setDom (conn).role none = some 0x13 := by
  decide +kernel

/-- Boundary 1 is the first to come, 0 has passed. -/
theorem wit_CommitRequests_at :
    (M base).accepts rq (conn) Key.commitRequest [2] (.num 2) ∧ domOfCode ((touch rq (M base)).n Key.commitDomain) = some .grove ∧
    (touch rq (M base)).n Key.commitTargetBoundary = 1 ∧ (touch rq (M base)).commitRefusal .grove (conn).role (some 1) = none ∧
    (touch rq (M base)).leads = false := by
  rw [base_touched, M_self]
  exact ⟨by decide +kernel, by decide +kernel, by decide +kernel, base_commits.2, by decide +kernel⟩

theorem wit_CommitRequests_passed :
    let m := M (onSet run0 3); let n := touch rq m;
    m.accepts rq (conn 3) Key.commitRequest [2] (.num 2) ∧ domOfCode (n.n Key.commitDomain) = some setDom ∧
    3 ≤ (conn 3).role ∧ n.safetyCommit setDom = false ∧ n.commitHeld setDom = false ∧
    n.n Key.commitTargetBoundary ≤ n.doms[domIx setDom].count := by
  decide +kernel

theorem wit_CommitRequests_rest :
    (let m := M (onSet (run0.modDom 0 (fun x => { x with pending := some { target := none, at_ := 0 } }))); let n := touch rq m;
      m.accepts rq (conn) Key.commitRequest [3] (.num 3) ∧ domOfCode (n.n Key.commitDomain) = some setDom ∧
      n.doms[domIx setDom].pending.isSome = true) ∧
    (let m := M (onSet run0); let n := touch rq m;
      m.accepts rq (conn) Key.commitRequest [3] (.num 3) ∧ domOfCode (n.n Key.commitDomain) = some setDom ∧
      n.doms[domIx setDom].pending = none) ∧
    (M (online run0)).accepts rq (conn) (Key.histogramClear 0) [1] (.num 1) := by
  decide +kernel

/-- A grove commit of set 0 at its leader, member 1 still awaited. -/
def gcommit : Machine.GroveCommit := { dom := setDom, target := none, awaiting := 2, deadline := 1000000 }

theorem wit_GroveCommitSteps_prepare :
    (M base).lanesAct = true ∧ (M base).follows = true ∧ (M base).commitHeld .grove = false ∧ (M base).bankOk .grove = true := by
  rw [M_self]
  exact ⟨by decide +kernel, by decide +kernel, by decide +kernel, base_bankOk⟩

theorem wit_GroveCommitSteps :
    (let m := M { leader with gcommits := [gcommit] }; let n := hear 1 m;
      m.lanesAct = true ∧ m.leads = true ∧ n.gcommits.find? (fun g => g.dom == setDom && g.awaiting.getLsbD 1) = some gcommit ∧
      BitVec.ofNat 8 (setBit gcommit.awaiting.toNat 1 false) = 0) ∧
    (let m := M { leader 1000000 with gcommits := [gcommit] };
      m.lanesAct = true ∧ m.gcommits.find? (fun g => g.dom == setDom && g.awaiting.getLsbD 1) = some gcommit ∧ gcommit.deadline ≤ m.ns) ∧
    (M { leader 999999 with gcommits := [gcommit] }).ns < gcommit.deadline ∧
    (∀ p ∈ [none, some 2000000], let m := M (((follower 2000000).putN Key.groveBoundaryNumber 4).modDom 0 (fun x => { x with prepared := p }));
      m.lanesAct = true ∧ m.inGrove = true ∧ m.leads = false ∧ 4 ≤ m.n Key.groveBoundaryNumber ∧ m.n Key.groveBoundaryNumber < 5 ∧
      m.doms[domIx setDom].prepared = p ∧ 2000000 ≤ m.ns) := by
  decide +kernel

/-! ### Sensing -/

theorem wit_FastComparatorTrips :
    ((M run0).lanesAct = true ∧ (M run0).inputUsed 0 2 = true ∧ (2 : Fin 6).1 < 3 ∧ (M run0).gate[(M run0).inputSet 0].pulses = false) ∧
    (M (pulsing)).gate[(M (pulsing)).inputSet 0].pulses = true ∧ (M (pulsing)).lanesAct = true ∧
    (M (pulsing)).inputUsed 0 3 = true ∧ (M (pulsing)).inputUsed 0 4 = true ∧ 3 < (4 : Fin 6).1 ∧
    (∀ n ∈ [(0 : Fin 6), 3], let m := M pulsing;
      let osr := m.n (Key.senseOvcOSR 0);
      (∀ j < max 1 (m.n (Key.inputTripConfirm 0 n.1)),
        fastMeets osr true (m.r (Key.inputTripHigh 0 n.1)) ((List.replicate 300 true).reverse.drop j) = true) ∧
      (∀ j < max 1 (m.n (Key.inputTripConfirm 0 n.1)),
        fastMeets osr false (m.r (Key.inputTripLow 0 n.1)) ((List.replicate 300 false).reverse.drop j) = true) ∧
      fastMeets osr true (m.r (Key.inputTripHigh 0 n.1)) ((List.replicate 300 false).reverse.drop 0) = false) ∧
    (16 ≤ (List.replicate 16 true).length ∧ fSign (fRat 1 2) = false) := by
  decide +kernel

/-- The threshold of 0.9 over 16 bits is 7 steps of 2 / 16: met by 15 ones, not by 14. -/
theorem test_comparator_steps :
    fastMeets 16 true (fRat 9 10) (false :: List.replicate 15 true) = true ∧
    fastMeets 16 true (fRat 9 10) (false :: false :: List.replicate 14 true) = false := by decide +kernel

/-- 81 bit periods of the modulator clock at 20 MHz are 4.05 µs; the terminals; a deviation of 10 ms and of one nanosecond less. -/
theorem wit_ModulatorStreamsAndTerminals :
    (let m := M ((run0.modSense 0 (fun x => { x with mclk := some 0 })).at_ 4050000);
      m.running = true ∧ m.inputUsed 0 1 = true ∧ m.sense[m.inputSet 0].mclk = some 0 ∧ m.sense[(0 : Fin 2)].inputs[1].dead = false ∧
      max 0 (0 + 64 * m.bitPeriod (m.inputSet 0)) + 17 * m.bitPeriod (m.inputSet 0) ≤ m.now) ∧
    (M ((run0.modSense 0 (fun x => { x with mclk := some 0 })).at_ 4049999)).now <
      max 0 (0 + 64 * (M run0).bitPeriod 0) + 17 * (M run0).bitPeriod 0 ∧
    (let m := M ((run0.modInput 0 1 (fun x => { x with dead := true })).at_ 1000000000);
      let need := 3 * m.n (Key.senseControlOSR (m.inputSet 0).1);
      let bits := ((List.range need).map (fun i => i % 2 == 0));
      m.running = true ∧ m.sense[(0 : Fin 2)].inputs[1].dead = true ∧ need ≤ bits.length ∧ longestRun (bits.reverse.take need) < 16 ∧
      m.sense[(0 : Fin 2)].inputs[1].deadAt + need * m.bitPeriod (m.inputSet 0) ≤ m.now ∧
      16 ≤ longestRun ((List.replicate need true).reverse.take need) ∧ ([] : List Bool).length < need) ∧
    (M (pulsing)).gate[0].pulses = true ∧ (M run0).gate[0].pulses = false ∧ ((M run0).terminalOf 0 []).isNone = true ∧
    ((M (run0.putN (Key.senseControlOSR 0) 40000)).terminalOf 0
      ((List.range 10).map (fun i => (fInt (if i % 2 = 0 then -1 else 1), 0)))).isSome = true ∧
    (let m := M (((runAt 10000000).modSense 0 (fun x => { x with npSince := some 0 })).putN Key.topology 3);
      m.lanesAct = true ∧ m.sense[(0 : Fin 2)].npSince = some 0 ∧ m.npc = true ∧ 0 + 10000000 ≤ m.ns) ∧
    (M ((runAt 9999999).modSense 0 (fun x => { x with npSince := some 0 }))).ns < 0 + 10000000 := by
  decide +kernel

/-- Counts at and beyond the tolerance of 4 about the 4,096 of a turn. -/
def turned (mode : Nat) (d : Int) : Mach :=
  ((run0.putN (Key.piMode 0) mode).putN (Key.piLinesPerRev 0) 1024).modPos 0 (fun p => { p with count := d, zSeen := true })

theorem wit_EncoderCounts :
    ((M (turned 1 0)).running = true ∧ (M (turned 1 0)).n (Key.piMode 0) = 1 ∧ (M (turned 2 0)).n (Key.piMode 0) = 2 ∧
      (M (turned 1 0)).n (Key.piGlitchFilter 0) ≤ 5000 ∧ 0 < (M (turned 1 0)).n (Key.piGlitchFilter 0)) ∧
    (let m := M (({} : Mach).putN Key.lanternEncoderMode 1); m.up = none ∧ m.n Key.lanternEncoderMode = 1) ∧
    (M run0).pos[0].zSeen = false ∧ (M (run0.putN (Key.piZTolerance 0) 0)).n (Key.piZTolerance 0) = 0 ∧
    (∀ d ∈ [4092, -4100], let m := M (turned 1 d);
      let per := m.piCounts 0; let tol := m.n (Key.piZTolerance 0);
      let x := ((m.pos[(0 : Fin 2)].count - m.pos[(0 : Fin 2)].zCount) / 1).natAbs;
      m.running = true ∧ m.n (Key.piMode 0) = 1 ∧ per ≤ x + tol ∧ x ≤ per + tol) ∧
    (∀ d ∈ [4091, -4101], let m := M (turned 1 d);
      let per := m.piCounts 0; let tol := m.n (Key.piZTolerance 0);
      let x := ((m.pos[(0 : Fin 2)].count - m.pos[(0 : Fin 2)].zCount) / 1).natAbs;
      m.pos[(0 : Fin 2)].zSeen = true ∧ tol ≠ 0 ∧ (x + tol < per ∨ per + tol < x)) := by
  decide +kernel

/-- Every mode; 200 mV and just below; a radius of 0 against 0.5, and against a value of 1 at commissioning; a quadrant that the count
does not bear out; 20 ms after the excitation's start, and a nanosecond less; an error of 31 degrees, and of 30. -/
theorem wit_PositionFaults :
    (∀ k ∈ [0, 1, 2, 3], (M (run0.putN (Key.piMode 0) k)).running = true ∧ (M (run0.putN (Key.piMode 0) k)).n (Key.piMode 0) = k) ∧
    flt (fabs (fRat 199 1000)) (fRat 2 10) = true ∧ flt (fabs (fRat 2 10)) (fRat 2 10) = false ∧
    (M run0).radiusBad 0 (fRat 1 2) (0, 0) = true ∧ (M run0).radiusBad 0 fOne (0, 0) = true ∧
    (M run0).pos[0].zSeen = false ∧ 0 ≤ (M run0).n (Key.piGlitchFilter 0) ∧
    (let m := M (run0.modPos 0 (fun p => { p with place := 16384, phase := some 0 }));
      m.pos[(0 : Fin 2)].phase = some 0 ∧ (m.pos[(0 : Fin 2)].place / 16384 : Int) ≠ (m.pos[(0 : Fin 2)].countPrev + 0) % 4) ∧
    flt (fRat 1 1) (fRat 2 1) = true ∧ flt (fRat 2 1) (fRat 2 1) = false ∧
    (M (runAt 20000000)).pos[0].excAt + 20000000 ≤ (M (runAt 20000000)).ns ∧
    (M (runAt 19999999)).ns < (M (runAt 19999999)).pos[0].excAt + 20000000 ∧
    fgt (fabs (wrapDiff (fsub (fRat 31 1) 0))) (fRat 30 1) = true ∧ fgt (fabs (wrapDiff (fsub (fRat 30 1) 0))) (fRat 30 1) = false := by
  decide +kernel

/-- Input 0 alone is enabled: it is next, the input after it is not; a conversion 100 µs ago, and one nanosecond less; 0 V, and 1 V,
against a window from 0.6 V (R100). -/
theorem wit_AnalogInputTakesReading :
    (M run0).running = true ∧ (M run0).ainNext ≠ some 0 ∧
    bit ((M (run0.putN Key.supplyStatus 0x20)).n Key.supplyStatus) 5 = true ∧
    (let m := M ({ run0 with ainLast := some (0, 1) }.at_ 100000000); ∃ l, m.ainLast = some l ∧ m.ns < l.2 + 100000) ∧
    (∀ o ∈ [1, 2], let m := M (((({ run0 with ainLast := some (0, 0) }.putN (Key.ainEnable 0) 1).modAin 0 (fun x => { x with outside := o })).putR
          (Key.ainValidLow 0) (fRat 6 10)).at_ 100000000);
      m.running = true ∧ bit (m.n Key.supplyStatus) 5 = false ∧ m.ainNext = some 0 ∧ m.ainLast = some (0, 0) ∧ 0 + 100000 ≤ m.ns ∧
      m.ain[(0 : Fin 8)].outside = o ∧
      (flt (ainCode 0) (m.r (Key.ainValidLow 0)) = true ∨ fgt (ainCode 0) (m.r (Key.ainValidHigh 0)) = true) ∧
      ¬ (flt (ainCode (fRat 1 1)) (m.r (Key.ainValidLow 0)) = true ∨ fgt (ainCode (fRat 1 1)) (m.r (Key.ainValidHigh 0)) = true)) := by
  decide +kernel

def lever (n : Nat) (x : Pair) : Mach :=
  ((((runAt n).putN (Key.ainPairMode 0) 1).putN (Key.refReferenceSource 0) 1).putN (Key.refLeverPair 0) (pairEven 0)).modPair 0 (fun _ => x)

/-- Tracks that disagree for PairTime, 100 ms, and for one nanosecond longer. -/
theorem wit_LeverPairs :
    (let m := M (lever 100000001 { disagree := some 0 });
      m.lanesAct = true ∧ m.n (Key.ainPairMode (2 * 0)) ≠ 0 ∧ m.pairs[0].disagree = some 0 ∧ m.pairs[0].invalid = false ∧
      0 + ms (m.n (Key.ainPairTime (2 * 0))) < m.ns ∧ m.leverDrives 0 ≠ []) ∧
    (M (lever 100000000 { disagree := some 0 })).ns ≤ 0 + ms ((M (lever 100000000 { disagree := some 0 })).n (Key.ainPairTime (2 * 0))) ∧
    (let m := M (lever 100000000 { agree := some 0, invalid := true });
      m.lanesAct = true ∧ m.pairs[0].agree = some 0 ∧ m.pairs[0].invalid = true ∧ 0 + ms (m.n (Key.ainPairTime (2 * 0))) ≤ m.ns) := by
  decide +kernel

/-! ### The control engine, Echo and capture -/

def smp0 : Sample := { bits := Vector.replicate 6 [], bits1 := Vector.replicate 6 [], pair := Vector.replicate 2 (0, 0), stamp := 0 }
def rec0 : SampleRec := { at_ := 0, data := smp0, count := 0 }
def engine (e : Engine) (m : Mach := run0) : Mach := m.modEng 0 (fun _ => e)

/-- What a sample of set 0 leaves before the queue is asked. -/
abbrev latched (m : Mach) : Mach :=
  let f := takeWindows 0 m.eng[0].lastSample smp0.bits m
  let w := if f.topo ≠ 0 then takeWindows 1 m.eng[0].lastSample smp0.bits1 f else f
  w.each (two.filter (fun i => w.piSet i == 0 || w.dual)) (fun i x => latchPos i m.eng[0].lastSample smp0 x)
abbrev recOf (m : Mach) : SampleRec := {
  at_ := m.eng[0].lastSample, data := smp0, count := (latched m).doms[domIx (.ctl 0)].count
  peak := (latched m).eng[0].lastPeak, old := (latched m).eng[0].since }
abbrev overrun (m : Mach) : Mach :=
  echoFlag 2 (((latched m).inc (Key.engineOverrunCount 0)).modEng 0 (fun e => { e with queued := some (recOf m), dropRun := e.dropRun + 1 }))

theorem wit_SampleQueue :
    ((M run0).lanesAct = true ∧ (M run0).topo = 0 ∧ (M (run0.putN Key.topology 1)).topo ≠ 0 ∧ (latched (M run0)).eng[0].cur = none) ∧
    ((latched (M (engine { cur := some rec0 }))).eng[0].cur.isSome = true ∧ (latched (M (engine { cur := some rec0 }))).eng[0].queued = none) := by
  decide +kernel

/-- One overrun below the limit, and the one that reaches it. -/
theorem wit_SampleQueue_drops :
    ((latched (M (engine { cur := some rec0, queued := some rec0 } (run0.putN (Key.engineDropLimit 0) 2)))).eng[0].queued.isSome = true ∧
      (overrun (M (engine { cur := some rec0, queued := some rec0 } (run0.putN (Key.engineDropLimit 0) 2)))).eng[0].dropRun <
      (overrun (M (engine { cur := some rec0, queued := some rec0 } (run0.putN (Key.engineDropLimit 0) 2)))).n (Key.engineDropLimit 0)) ∧
    ((overrun (M (engine { cur := some rec0, queued := some rec0 } (run0.putN (Key.engineDropLimit 0) 1)))).n (Key.engineDropLimit 0) ≤
      (overrun (M (engine { cur := some rec0, queued := some rec0 } (run0.putN (Key.engineDropLimit 0) 1)))).eng[0].dropRun ∧
      (overrun (M (engine { cur := some rec0, queued := some rec0 } (run0.putN (Key.engineDropLimit 0) 1)))).eng[0].limitRaised = false) := by
  decide +kernel

theorem wit_ComputationEndsAtSecondLane :
    (∀ e ∈ [({ cur := some rec0 } : Engine), { cur := some rec0, done := [.b] }, { cur := some rec0, done := [.b], queued := some rec0 }],
      (M (engine e)).lanesAct = true ∧ (M (engine e)).eng[0].cur = some rec0 ∧ (M (engine e)).eng[0].owe.contains .a = false ∧
      (M (engine e)).eng[0].done.contains .a = false ∧ (M (engine e)).laneActive .a = true) ∧
    (M (run0.modLane 0 (fun x => { x with status := .retired }))).laneActive .a = false ∧
    (let m := M { run0 with outer := { busy := true, done := [.b] } };
      m.lanesAct = true ∧ m.laneActive .a = true ∧ m.outer.busy = true ∧ m.outer.owe.contains .a = false ∧ m.outer.done = [.b] ∧
      m.outer.queued = none) := by
  decide +kernel

/-- Stalls of 15 and 16 instants; a carried group due and not yet due after the default of 200 ms. -/
theorem wit_StallAndForcedSwap :
    (let m := M (engine { stall := 16 } (run0.modGate 0 (fun g => { g with pulses := true })));
      m.running = true ∧ m.gate[0].pulses = true ∧ m.directMode 0 = false ∧ 16 ≤ m.eng[0].stall) ∧
    (M (engine { stall := 15 })).eng[0].stall < 16 ∧
    (M (online run0)).accepts rq (conn) (Key.slotHistoryReset 3) [1] (.num 1) := by
  decide +kernel

def carriedGroup : Carried := { slots := [3], since := 0 }
def carrying (n : Nat) : Mach := ((runAt n).putN (Key.slotSwapGroup 3) 5).modDom 0 (fun x => { x with carried := [carriedGroup] })
abbrev groupDue (m : Mach) (x : Carried) : Bool := decide (x.since + ms (m.n Key.engineForceSwapTime) ≤ m.ns) &&
  x.slots.any (fun i => groupLive m i == 5 || groupShadow m i == 5)

theorem wit_SwapForced :
    (let m := M (carrying (ms (run0.n Key.engineForceSwapTime)));
      m.lanesAct = true ∧ m.doms[domIx (.set 0)].carried.find? (groupDue m) = some carriedGroup) ∧
    (let m := M (carrying (ms (run0.n Key.engineForceSwapTime) - 1));
      m.lanesAct = true ∧ m.doms[domIx (.set 0)].carried.find? (groupDue m) = none) := by
  decide +kernel

/-- A sweep of law slot 3. -/
def sweep (running : Bool) (m : Mach := run0) : Mach :=
  online (((((m.putN Key.echoType 1).putN Key.echoInjectTarget 3).putN Key.echoInjectKind 0).modSlot 3 (fun x => { x with running := running })).modPwm 0 (fun p => { p with half := 125000000 }))
abbrev started (m : Mach) : Mach :=
  { touch rq m with echo := {
      owner := some rq.handle, endAt := (touch rq m).ns + ms ((touch rq m).n Key.echoDuration), state := 3 } }

theorem wit_EchoAndCaptureStart :
    (let m := M (sweep true (run0.putR Key.echoStartFreq (run0.r Key.echoStopFreq)));
      m.accepts rq (conn) Key.echoStart [1] (.num 1) ∧ (started m).echoRefused = true) ∧
    ((started (M (sweep false))).echoRefused = false ∧ (started (M (sweep false))).echoOwnerRuns = false) ∧
    (let m := M (sweep true);
      m.accepts rq (conn) Key.echoStart [1] (.num 1) ∧ (started m).echoRefused = false ∧ (started m).echoOwnerRuns = true ∧
      (touch rq m).n Key.captureTrigger ≠ 1 ∧ (touch rq m).n Key.echoType = 1) ∧
    (M (online run0)).accepts rq (conn) Key.echoAbort [1] (.num 1) ∧
    (let m := M (online (run0.putN Key.captureTrigger 1));
      m.accepts rq (conn) Key.captureArm [1] (.num 1) ∧ (touch rq m).n Key.captureTrigger ≠ 0 ∧ (touch rq m).shadeStops = false) := by
  decide +kernel

theorem wit_EchoPoint : (echoPoint 0 false (started (M (sweep true)))).shadeStops = false := rfl

def echoing (ty : Nat) (e : Echo) (m : Mach := run0) : Mach := { m.putN Key.echoType ty with echo := e }

/-- The settling of 4 periods of 8 computations over and not over; the last point; the tenth computation; the duration's end. -/
theorem wit_EchoRunSteps :
    (let m := M (echoing 1 { state := 2, len := 8, periods := 1, n := 8 * run0.n Key.echoSettlePeriods });
      m.lanesAct = true ∧ m.n Key.echoType = 1 ∧ m.echo.state = 2 ∧
      (m.n Key.echoSettlePeriods * m.echo.len + m.echo.periods - 1) / max 1 m.echo.periods ≤ m.echo.n) ∧
    (let m := M (echoing 1 { state := 2, len := 8, periods := 1, n := 8 * run0.n Key.echoSettlePeriods - 1 });
      m.echo.n < (m.n Key.echoSettlePeriods * m.echo.len + m.echo.periods - 1) / max 1 m.echo.periods) ∧
    (let m := M (echoing 1 { state := 3, len := 8, n := 8, point := run0.n Key.echoPoints - 1 });
      m.echo.len ≤ m.echo.n - m.echo.base ∧ m.n Key.echoPoints ≤ m.echo.point + 1) ∧
    (let m := M (echoing 4 { state := 2, n := 10 }); m.n Key.echoType = 4 ∧ m.echo.state = 2 ∧ 10 ≤ m.echo.n) ∧
    (let m := M (echoing 2 { state := 3, endAt := 7 } (runAt 7)); m.n Key.echoType = 2 ∧ m.echo.state = 3 ∧ m.echo.endAt ≤ m.ns) ∧
    (let m := M (echoing 2 { state := 3, endAt := 7 } (runAt 6)); m.ns < m.echo.endAt) := by
  decide +kernel

/-! ### Machine control and starts -/

/-- Speeds in rpm for a rated speed of 1,500, with a standstill speed of 1 %, a catch limit of 120 % and a reverse limit of 20 %. -/
def speeds : Mach := (((run0.putR (Key.machineRatedSpeed 0) (fRat 1500 1)).putR (Key.startStandstillSpeed 0) fOne).putR
  (Key.startMaxCatchSpeed 0) (fRat 120 1)).putR (Key.startReverseCatchLimit 0) (fRat 20 1)
abbrev measured (n : F32) : Mach := (speeds.putR (Key.startMeasuredSpeed 0) n).modMc 0 (fun y => { y with speed := n, speedAt := speeds.ns })
abbrev percent (n : F32) : F32 := fdiv (fmul (fabs n) (fRat 100 1)) ((measured n).r (Key.machineRatedSpeed 0))

theorem wit_StartDecisionTable :
    flt (percent (fRat 14 1)) ((measured (fRat 14 1)).r (Key.startStandstillSpeed 0)) = true ∧
    (flt (percent (fRat 15 1)) ((measured (fRat 15 1)).r (Key.startStandstillSpeed 0)) = false ∧ fSign (fRat 15 1) = false ∧
      fle (percent (fRat 1800 1)) ((measured (fRat 1800 1)).r (Key.startMaxCatchSpeed 0)) = true ∧
      fle (percent (fRat 1801 1)) ((measured (fRat 1801 1)).r (Key.startMaxCatchSpeed 0)) = false) ∧
    (fSign (fRat (-300) 1) = true ∧ flt (percent (fRat (-300) 1)) ((measured (fRat (-300) 1)).r (Key.startStandstillSpeed 0)) = false ∧
      fle (percent (fRat (-300) 1)) ((measured (fRat (-300) 1)).r (Key.startReverseCatchLimit 0)) = true ∧
      fle (percent (fRat (-301) 1)) ((measured (fRat (-301) 1)).r (Key.startReverseCatchLimit 0)) = false) := by
  decide +kernel

/-- A drive 0 in a state, its set measuring, with a machine of a type and an encoder or none. -/
def measuring (st : DriveState) (ty src : Nat) : Mach :=
  (((run0.putN (Key.machineMachineType 0) ty).putN (Key.obsPositionSource 0) src).modDrive 0 (fun x => { x with st := st })).modMc 0 (fun x => { x with measuring := true })

theorem wit_SpeedMeasurementDecides :
    (M run0).mc[0].measuring = false ∧
    (let m := M (measuring .starting 0 0); let e := m.modMc 0 (fun x => { x with measuring := false });
      m.lanesAct = true ∧ m.mc[0].measuring = true ∧ m.drives[m.driveOf 0].st = .starting ∧ e.isPm 0 = true ∧ e.encValid 0 = false) ∧
    (let m := M (measuring .starting 2 1); let e := m.modMc 0 (fun x => { x with measuring := false });
      m.lanesAct = true ∧ m.mc[0].measuring = true ∧ m.drives[m.driveOf 0].st = .starting ∧ e.isPm 0 = false ∧ e.encValid 0 = true ∧ e.piOf 0 = some 0) ∧
    (∀ st ∈ [DriveState.starting, .waiting], let m := M (measuring st 2 0);
      m.lanesAct = true ∧ m.mc[0].measuring = true ∧ m.isPm 0 = false ∧ m.encValid 0 = false ∧ m.drives[m.driveOf 0].st = st) := by
  decide +kernel

/-- Sweeps whose torque changes its sign at the middle, at the end of their time and a nanosecond before, and none that does; a
back-EMF of 0 and one beyond 1 %. -/
theorem wit_SpeedMeasurementDecides_probe :
    signChange [fRat (-1) 1, fRat 1 1] = some (fRat 1 2) ∧ (signChange [fOne, fOne]).isNone = true ∧
    (let m := M (measuring .starting 2 0);
      let sweep := ms (m.n (Key.startProbeTime (m.machSet 0)));
      let d := m.mc[0].probeAt;
      d + fScaleNat (fRat 1 2) sweep ≤ (m.at_ (1000 * (d + fScaleNat (fRat 1 2) sweep))).ns ∧
      (m.at_ (1000 * (d + fScaleNat (fRat 1 2) sweep - 1))).ns < d + fScaleNat (fRat 1 2) sweep ∧
      d + 2 * sweep ≤ (m.at_ (1000 * (d + 2 * sweep))).ns) ∧
    (let m := M (((measuring .starting 2 0).putR (Key.machineNominalFlux 0) fOne).putR (Key.machineRatedSpeed 0) (fRat 1500 1));
      let lim := fPercent fOne (fmul (m.r (Key.machineNominalFlux (m.machSet 0)))
        (fmul (rpmToRad (m.r (Key.machineRatedSpeed (m.machSet 0)))) (m.poles 0)));
      flt 0 lim = true ∧ flt (fRat 1000 1) lim = false) := by
  decide +kernel

def waiting (n : Nat) : Mach := (runAt n).modDrive 0 (fun x => { x with st := .waiting, remeasure := some 7, waitUntil := some 7 })

theorem wit_WaitingDriveRemeasures :
    (let m := M (waiting 7); m.lanesAct = true ∧ m.drives[m.driveOf 0].st = .waiting ∧ m.drives[m.driveOf 0].remeasure = some 7 ∧
      m.drives[m.driveOf 0].waitUntil = some 7 ∧ 7 ≤ m.ns) ∧
    (M (waiting 6)).ns < 7 := by
  decide +kernel

def enabling (n : Nat) (shadow : Nat := 0) : Mach :=
  (((runAt n).modMc 0 (fun x => { x with enablePending := true })).modDrive 0 (fun x => { x with st := .starting })).putN (Key.inputShadowRun 0 2) shadow

/-- A measurement 50 ms old, and one nanosecond older. -/
theorem wit_PulseEnableTakesEffect :
    (M run0).mc[0].enablePending = false ∧ (M (pulsing)).gate[0].pulses = true ∧
    (let m := M (enabling 50000000); m.lanesAct = true ∧ m.mc[0].enablePending = true ∧ m.gate[0].pulses = false ∧
      m.drives[m.driveOf 0].st = .starting ∧ m.ns ≤ m.mc[0].speedAt + 50000000 ∧ m.sensorsReady 0 = true) ∧
    (let m := M (enabling 50000001); m.mc[0].speedAt + 50000000 < m.ns) ∧
    (let m := M (enabling 0 1); m.ns ≤ m.mc[0].speedAt + 50000000 ∧ m.sensorsReady 0 = false) ∧
    (let m := M { (enabling 0).modDrive 0 (fun x => { x with st := .quickRelease }) with ch := readyCh };
      m.lanesAct = true ∧ m.mc[0].enablePending = true ∧ m.gate[0].pulses = false ∧ m.drives[m.driveOf 0].st = .quickRelease ∧
      m.sensorsReady 0 = true ∧ (m.setChs 0).all m.ready = true) ∧
    (let m := M ((enabling 0).modDrive 0 (fun x => { x with st := .quickRelease }));
      m.drives[m.driveOf 0].st = .quickRelease ∧ (m.setChs 0).all m.ready = false) ∧
    (let m := M ((enabling 0).modDrive 0 (fun x => { x with st := .off }));
      m.mc[0].enablePending = true ∧ m.gate[0].pulses = false ∧ m.drives[m.driveOf 0].st ≠ .starting ∧
      m.drives[m.driveOf 0].st ≠ .quickRelease ∧ m.brakeTesting (m.driveOf 0) = false) ∧
    (let m := M ((enabling 0 1).modDrive 0 (fun x => { x with st := .quickRelease }));
      m.drives[m.driveOf 0].st = .quickRelease ∧ m.sensorsReady 0 = false) := by
  decide +kernel

/-- The same in a safe brake test of brake 0. -/
def testing (n : Nat) (shadow : Nat := 0) : Mach :=
  (((enabling n shadow).modDrive 0 (fun x => { x with st := .off })).putN (Key.brakeDrive 0) 0).modSafety (fun x => { x with sbt := #v[some {}, none] })

theorem wit_PulseEnableTakesEffect_test :
    (∀ n ∈ [50000000, 50000001], let m := M (testing n);
      m.lanesAct = true ∧ m.mc[0].enablePending = true ∧ m.gate[0].pulses = false ∧ m.drives[m.driveOf 0].st ≠ .quickRelease ∧
      m.drives[m.driveOf 0].st ≠ .starting ∧ m.brakeTesting (m.driveOf 0) = true ∧ m.sensorsReady 0 = true ∧
      (m.ns ≤ m.mc[0].speedAt + 50000000 ↔ n = 50000000)) ∧
    (let m := M (testing 0 1); m.brakeTesting (m.driveOf 0) = true ∧ m.ns ≤ m.mc[0].speedAt + 50000000 ∧ m.sensorsReady 0 = false) := by
  decide +kernel

theorem wit_PolarityAndReacquisition :
    (∀ p ∈ [0, 1, 2], (M (run0.modMc 0 (fun x => { x with polarity := p }))).lanesAct = true ∧
      (M (run0.modMc 0 (fun x => { x with polarity := p }))).mc[0].polarity = p) ∧
    (M (runAt 1999999)).ns < (M (runAt 1999999)).mc[0].polarityAt + 2000000 ∧
    (M (runAt 2000000)).mc[0].polarityAt + 2000000 ≤ (M (runAt 2000000)).ns ∧
    (let m := M ((runAt (ms (run0.n (Key.losReacquireTime 0)))).modMc 0 (fun x => { x with losState := 1 }));
      m.lanesAct = true ∧ m.mc[0].losState = 1 ∧ m.mc[0].losAt + ms (m.n (Key.losReacquireTime (m.machSet 0))) ≤ m.ns) ∧
    (let m := M ((runAt (ms (run0.n (Key.losReacquireTime 0)) - 1)).modMc 0 (fun x => { x with losState := 1 }));
      m.ns < m.mc[0].losAt + ms (m.n (Key.losReacquireTime (m.machSet 0)))) := by
  decide +kernel

/-! ### Drives -/

abbrev commanded (m : Mach) : Mach := (touch rq m).putN (Key.command 0) 1

theorem wit_DriveCommands :
    ((M (online (drive))).accepts rq (conn) (Key.command 0) [1] (.num 1) ∧ (M (online (drive))).accepts rq (conn) (Key.command 0) [0] (.num 0)) ∧
    (let m := M (online ((drive).modDrive 0 (fun x => { x with st := .running }))); let n := commanded m;
      n.leads = false ∧ (startDrive 0 n).leads = n.leads ∧ n.drives[0].st ≠ .off) ∧
    (let n := commanded (M (online (drive 1)));
      n.leads = false ∧ (startDrive 0 n).leads = n.leads ∧ n.drives[0].st = .off ∧ n.driveConfigured 0 = true ∧ n.n Key.safetyState ≤ 1) ∧
    (let n := commanded (M (online ((drive).modGate 0 (fun g => { g with retry := 1 }))));
      n.leads = false ∧ (startDrive 0 n).leads = n.leads ∧ n.drives[0].st = .off ∧ n.driveConfigured 0 = true ∧ 2 ≤ n.n Key.safetyState ∧
      n.holdsStart 0 = true) ∧
    (let n := commanded (M (online ((drive).modGate 0 (fun g => { g with retry := 3 }))));
      n.leads = false ∧ (startDrive 0 n).leads = n.leads ∧ n.drives[0].st = .off ∧ n.driveConfigured 0 = true ∧ 2 ≤ n.n Key.safetyState ∧
      n.holdsStart 0 = false ∧ (n.setsOf 0).any (fun k => n.gate[k].retry == 3) = true ∧ n.limpStart 0 = false) := by
  decide +kernel

abbrev startState (n : Mach) : Mach :=
  (n.modDrive 0 (fun x => { x with
    st := .starting, step := .stoRelease, startAt := n.ns, held := false, limp := none,
    neutral := false, neutralSince := none, waitUntil := none, remeasure := none })).each ((n.modDrive 0 (fun x => { x with
    st := .starting, step := .stoRelease, startAt := n.ns, held := false, limp := none,
    neutral := false, neutralSince := none, waitUntil := none, remeasure := none })).startSets 0) (fun k m =>
        ((m.modMc k (fun x => { x with prevStatus := m.n (Key.startStartStatus k.1) })).modGate k (fun g => { g with duskWant := some 0 })).putN
          (Key.startStartStatus k.1) 0x01)

theorem wit_DriveCommands_start :
    let n := commanded (M (online (drive)));
    n.leads = false ∧ (startDrive 0 n).leads = n.leads ∧ n.drives[0].st = .off ∧ n.driveConfigured 0 = true ∧ n.n Key.safetyState = 2 ∧
    n.holdsStart 0 = false ∧ (n.setsOf 0).any (fun k => n.gate[k].retry == 3) = false ∧ n.blocksStart 0 = false ∧ n.lockedOut = false ∧
    n.demandOn [1, 2] 0 = false ∧ n.stoDemand = false ∧
    (n.brakesOf 0).any (fun k => let b := n.safety.brakes[k]; b.releaseFault || b.applyFault || b.switchFault) = false ∧
    two.any (fun k => n.safety.brakes[k].testFailed || n.nv.sbtMust[k]) = false ∧ n.n Key.bankLoadState ≠ 1 ∧
    n.modeOf 0 ≠ 3 ∧ n.modeOf 0 ≠ 4 ∧ n.n Key.groveSize < 2 ∧
    (startState n).n Key.safetyState = 2 ∧ (startState n).limpOf 0 = none := by
  decide +kernel

def timing (n : Nat) (x : Drive) : Mach := ((runAt n).putN (Key.refRefTimeout 0) 100).modDrive 0 (fun _ => x)

theorem wit_DriveTimersAct :
    (let m := M (timing (ms (run0.n (Key.refNeutralTime 0))) { neutralSince := some 0 });
      m.lanesAct = true ∧ m.drives[0].neutralSince = some 0 ∧ 0 + ms (m.n (Key.refNeutralTime 0)) ≤ m.ns) ∧
    (let m := M (timing (ms (run0.n (Key.refNeutralTime 0)) - 1) { neutralSince := some 0 }); m.ns < 0 + ms (m.n (Key.refNeutralTime 0))) ∧
    (let m := M (timing 100000000 {});
      m.driveExists 0 = true ∧ m.byLever 0 = false ∧ m.n (Key.refRefTimeout 0) ≠ 0 ∧ m.drives[0].lastRef + ms (m.n (Key.refRefTimeout 0)) ≤ m.ns ∧ m.drives[0].refTimeout = false) ∧
    (M (run0.putN (Key.refRefTimeout 0) 0)).n (Key.refRefTimeout 0) = 0 ∧ (M (timing 0 { refTimeout := true })).drives[0].refTimeout = true ∧
    (let m := M (timing 7 { phaseBack := some (1, 7) }); m.drives[0].phaseBack = some (1, 7) ∧ 7 ≤ m.ns) ∧
    (let m := M (timing (ms (run0.n (Key.regenShortfallTime 0))) { shortfall := some 0 });
      m.drives[0].shortfall = some 0 ∧ 0 + ms (m.n (Key.regenShortfallTime 0)) ≤ m.ns) ∧
    (let m := M (timing 20000000 { preOk := some 0, st := .starting, step := .preTorque });
      m.drives[0].preOk = some 0 ∧ 0 + 20000000 ≤ m.ns ∧ m.drives[0].st = .starting ∧ m.drives[0].step = .preTorque) ∧
    (M (timing 19999999 { preOk := some 0 })).ns < 0 + 20000000 := by
  decide +kernel

def fade1 : Fade := { from_ := 0, to_ := fOne, start := 0, dur := 7 }
def rec1 : Motion := { netTime := 5 }

/-- What a motion record leaves before the gain is asked. -/
abbrev recorded (time : Nat) (sq : BitVec 16) (m : Mach) : Mach :=
  let at_ : Int := m.timebaseOf time
  let q := m.modDrive 0 (fun x => { x with motion := some { time := at_, netTime := time, pos := 0, vel := 0, acc := 0, sq := sq } })
  let fresh := !q.motionStale 0
  let e := q.modDrive 0 (fun x => { x with
    fresh := if fresh then x.fresh + 1 else 0, lossSeen := x.lossSeen && !fresh
    gain := if fresh && !x.risen then x.gainNow q.ns else x.gain, fade := if fresh && !x.risen then none else x.fade })
  ((((e.putN (Key.heaveMotionTime 0) time).putR (Key.heaveMotionPosition 0) 0).putR (Key.heaveMotionVelocity 0) 0).putR
    (Key.heaveMotionAcceleration 0) 0).putN (Key.heaveMotionSequence 0) sq.toNat

theorem wit_WinchAndHeave :
    ((M (online (drive))).accepts rq (conn) (Key.winchWrapsSet 0) (beBytes 4 fOne.toNat) (.num fOne.toNat) ∧
      (touch rq (M (online (drive)))).driveExists 0 = true ∧
      (M (online ((drive).putN Key.topology 1))).accepts rq (conn) (Key.winchWrapsSet 1) (beBytes 4 fOne.toNat) (.num fOne.toNat) ∧
      (touch rq (M (online ((drive).putN Key.topology 1)))).driveExists 1 = false) ∧
    (let m := M (timing 7 { shockHold := some 7, shockRec := some fade1, fade := some fade1 });
      m.lanesAct = true ∧ m.drives[0].shockHold = some 7 ∧ 7 ≤ m.ns ∧ m.drives[0].shockRec = some fade1 ∧ fade1.over_ m.ns = true ∧
      m.drives[0].fade = some fade1) ∧
    (let m := M (run0.putN (Key.mode 0) 4); m.driveExists 0 = true ∧ m.modeOf 0 = 4 ∧ m.motionStale 0 = true ∧
      m.drives[0].lossSeen = false) ∧
    (M (run0.putN (Key.mode 0) 3)).modeOf 0 ≠ 4 ∧
    (M (run0.putN Key.gptpState 1)).n Key.gptpState < 2 ∧
    (M (run0.modDrive 0 (fun x => { x with motion := some rec1 }))).drives[0].motion = some rec1 ∧ 5 ≤ rec1.netTime ∧
    (let m := M (run0.putN Key.gptpState 2);
      2 ≤ m.n Key.gptpState ∧ m.drives[0].motion = none ∧ (recorded 6 0 m).drives[0].fresh < 10) ∧
    (let m := M (((run0.putN Key.gptpState 2).putN (Key.mode 0) 4).modDrive 0 (fun x => { x with fresh := 9, motion := some rec1 }));
      rec1.netTime < 6 ∧ (1 : BitVec 16) ≠ rec1.sq ∧ ((1 : BitVec 16) - rec1.sq).toNat < 32768 ∧
      10 ≤ (recorded 6 1 m).drives[0].fresh ∧ (recorded 6 1 m).drives[0].risen = false ∧ (recorded 6 1 m).modeOf 0 = 4) := by
  decide +kernel

/-- Quick release asked for at safe input 2. -/
def qrInput (on : Bool) (x : Drive := {}) : Mach :=
  (((drive).putN (Key.qrInput 0) 2).putN (Key.siFunction 2) 3).modSi 2 (fun y => { y with
    known := true, ch := Vector.replicate 2 { demand := on, known := true } }) |>.modDrive 0 (fun _ => x)

theorem wit_QuickRelease :
    (M (run0.putN Key.topology 1)).driveExists 1 = false ∧ (M (run0.putN Key.topology 1)).lanesAct = true ∧
    ((M (qrInput false)).lanesAct = true ∧ (M (qrInput false)).qrInputDemand 0 = false ∧ (M (qrInput false)).drives[0].qrDemand = false) ∧
    (M (qrInput true { qrDemand := true })).drives[0].qrDemand = true ∧
    (let m := M ((qrInput true).putN Key.groveSize 2);
      m.drives[0].st = .off ∧ 2 ≤ m.n Key.groveSize ∧ m.safety.linePassed = false) := by
  decide +kernel

/-- Demands: of a drive that an F4 event blocks, of one in Locked, of one in Off before and after safety is confirmed; in a grove
whose line test has passed. -/
theorem wit_QuickRelease_demand :
    (let m := M { qrInput true { st := .locked } with ev := { active := [{ ev := 0x31, set := none, drv := none, inst := 0xFF, cls := 4, gone := false }] } };
      (m.modDrive 0 (fun x => { x with qrDemand := true, held := false })).qrBlocked 0 = true ∧ m.drives[0].st ≠ .off ∧
      m.driveExists 0 = true ∧ m.qrInputDemand 0 = true ∧ m.drives[0].qrDemand = false) ∧
    (∀ c ∈ [(DriveState.locked, 2), (.off, 1), (.off, 2)], let m := M ((qrInput true { st := c.1 }).putN Key.safetyState c.2);
      let q := m.modDrive 0 (fun x => { x with qrDemand := true, held := false });
      m.lanesAct = true ∧ m.driveExists 0 = true ∧ m.qrInputDemand 0 = true ∧ m.drives[0].qrDemand = false ∧ m.n Key.groveSize < 2 ∧
      q.qrBlocked 0 = false ∧ m.drives[0].st = c.1 ∧ q.n Key.safetyState = c.2) ∧
    (M ((qrInput true).modSafety (fun x => { x with linePassed := true }))).safety.linePassed = true := by
  decide +kernel

/-- Ends: in QuickRelease with pulses and without, in a fallback that has released the brakes, and in another. -/
theorem wit_QuickRelease_ends :
    (∀ on ∈ [true, false], let m := M ((qrInput false { st := .quickRelease, qrDemand := true }).modGate 0 (fun g => { g with pulses := on }));
      let e := (m.modDrive 0 (fun x => { x with qrDemand := false })).causeGone 0x30 none (some 0) 0xFF;
      m.lanesAct = true ∧ m.driveExists 0 = true ∧ m.qrInputDemand 0 = false ∧ m.drives[0].qrDemand = true ∧ m.drives[0].st = .quickRelease ∧
      (e.setsOf 0).any (fun k => e.gate[k].pulses) = on) ∧
    (∀ n ∈ [3, 2], let m := M (qrInput false { st := .locked, qrDemand := true, qrState := n });
      m.driveExists 0 = true ∧ m.qrInputDemand 0 = false ∧ m.drives[0].qrDemand = true ∧ m.drives[0].st ≠ .quickRelease ∧
      m.drives[0].qrState = n) := by
  decide +kernel
/-! ### Gate channels -/

theorem wit_DieCommands : (M run0).lanesAct = true ∧ (M {}).lanesAct = false ∧ (M { run0 with clr := { safeState := true } }).lanesAct = false := by
  decide +kernel

def chan0 (x : Channel) (m : Mach := run0) : Mach := m.modCh 0 (fun _ => x)

/-- A cleared channel's set is quiet or not, with and without a cause that persists. -/
theorem wit_LatchesAndConfiguration :
    (∀ ks ∈ [[], [TripCause.didt]], ∀ other ∈ [[], [TripCause.didt]],
      let m := M ((chan0 { logicOk := true, latches := [.didt] }).modCh 1 (fun x => { x with latches := other }));
      let again := m.ch[(0 : Fin 12)].latches.filter (fun x => ks.contains x || m.causeStands 0 x);
      let e := clearLatches 0 again m;
      m.lanesAct = true ∧ again = ks ∧ ((e.setChs (m.setOfCh 0)).all (fun d => e.ch[d].latches.isEmpty || (d == 0 && !again.isEmpty)) = true ↔ other = [])) ∧
    (let m := M (chan0 { logicOk := true }); m.running = true ∧ m.ch[(0 : Fin 12)].logicOk = true) ∧
    1 ≤ (1 : BitVec 8).toNat ∧ (9 : BitVec 8).toNat ≤ 9 ∧ (0 : BitVec 8).toNat = 0 ∧ 9 < (10 : BitVec 8).toNat ∧
    crc32c [1, 2] ≠ crc32c [1, 3] := by
  decide +kernel

/-- Both STO switches closed, the link's first frame seen or awaited until 7 ns. -/
def linked (seen : Bool) : Mach :=
  { (chan0 { uplinkSeen := seen } (runAt 7)).modSto (fun x => { x with uplinkEnd := some 7 }) with voters := Vector.replicate 2 { held := 3 } }

theorem wit_ChannelLinks :
    (let m := M (linked true); m.running = true ∧ m.linkJudged 0 = true ∧ m.ch[(0 : Fin 12)].uplinkSeen = true) ∧
    (let m := M (linked false); m.linkJudged 0 = false ∧ m.ch[(0 : Fin 12)].uplinkSeen = false ∧ m.safety.sto.uplinkEnd = some 7 ∧ 7 ≤ m.ns) := by
  decide +kernel

def onFor (t : Time) : Mach := (chan0 { on := true, phase1End := some 7 }).at_ t

/-- The blanking of 80 ns and of 1.58 µs just over, readings at the thresholds, the integrator's limit at 0 and at its default; a switch
that is off and confirmed, off for 80 ns, and off for less, still in its turn-off's first phase. -/
theorem wit_DetectorsTrip :
    (let m := M (onFor 80000); let thr := fdiv (fmul (m.r (Key.gScStrayInductance 0)) (m.r (Key.gScDiDtLimit 0))) (fRat 1000 1);
      m.running = true ∧ m.onSince 0 0 = true ∧ fge thr thr = true ∧ fge (fRat (-1) 1) thr = false ∧
      m.onSince 0 ((([] : List (F32 × Nat)).map (·.2)).sum) = true ∧ fge (([] : List (F32 × Nat)).foldl (m.integrate 0) 0) (m.r (Key.gScCurrentLimit 0)) = false ∧
      fge (([] : List (F32 × Nat)).foldl (m.integrate 0) 0) ((m.putR (Key.gScCurrentLimit 0) 0).r (Key.gScCurrentLimit 0)) = true) ∧
    (let m := M (onFor 1580000); m.onSince 0 1500000 = true ∧
      (let desat := fun (v : F32) => fsub (fsub v (m.r (Key.gSenseDiodeDrop 0))) (fmul (fRat 1 2000) (m.r (Key.gSenseResistance 0)));
        fgt (desat (fRat 100 1)) (fRat 9 1) = true ∧ fgt (desat 0) (fRat 9 1) = false)) ∧
    (M run0).ch[(0 : Fin 12)].on = false ∧ (M (chan0 { confirmed := true })).ch[(0 : Fin 12)].confirmed = true ∧
    (M ((chan0 { confirmed := false }).at_ 80000)).ch[(0 : Fin 12)].offAt + 80000 ≤ (M ((chan0 { confirmed := false }).at_ 80000)).now ∧
    (let m := M ((chan0 { on := false, confirmed := false, onAt := 0, offAt := 80000 }).at_ 159999);
      m.ch[(0 : Fin 12)].on = false ∧ m.ch[(0 : Fin 12)].confirmed = false ∧ m.ch[(0 : Fin 12)].onAt ≤ m.ch[(0 : Fin 12)].offAt ∧
      m.now < m.ch[(0 : Fin 12)].offAt + 80000 ∧ m.ch[(0 : Fin 12)].onAt + 80000 + 0 ≤ m.now) ∧
    (M (onFor 79999)).now < (M (onFor 79999)).ch[(0 : Fin 12)].onAt + 80000 + 0 ∧
    ((M (onFor (80000 + 1000 * run0.n (Key.gScRampWindow 0)))).onSince 0 (1000 * run0.n (Key.gScRampWindow 0)) = true ∧
      (M (onFor 0)).onSince 0 (1000 * run0.n (Key.gScRampWindow 0)) = false) ∧
    ((M (onFor 7)).ch[(0 : Fin 12)].phase1End = some 7 ∧ 7 ≤ (M (onFor 7)).now ∧ (M (onFor 6)).now < 7) := by
  decide +kernel

def adapting : Mach := (((run0.putN (Key.gAdaptMode 0) 1).putN (Key.gAdaptTargetOn 0) 100).putN (Key.gAdaptDeadband 0) 10).putR (Key.gAdaptMinPeak 0) fOne
abbrev edge (t : F32) : Mach := (M adapting).putR (Key.gLastOnTime 0) t

theorem wit_EdgeAdaptation :
    (M adapting).running = true ∧ flt (fabs 0) ((M adapting).r (Key.gAdaptMinPeak 0)) = true ∧ flt (fabs fOne) ((M adapting).r (Key.gAdaptMinPeak 0)) = false ∧
    (resolved (fRat 111 1) = fRat 110 1 ∧ resolved (fRat 1125 10) = fRat 1125 10 ∧ resolved (fRat 875 10) = fRat 875 10) ∧
    (let e := edge (fRat 110 1); fgt (fRat 110 1) (fadd (fNat (e.n (Key.gAdaptTargetOn 0))) (fNat (e.n (Key.gAdaptDeadband 0)))) = false ∧
      flt (fRat 110 1) (fsub (fNat (e.n (Key.gAdaptTargetOn 0))) (fNat (e.n (Key.gAdaptDeadband 0)))) = false) ∧
    (let e := edge (fRat 1125 10); fgt (fRat 1125 10) (fadd (fNat (e.n (Key.gAdaptTargetOn 0))) (fNat (e.n (Key.gAdaptDeadband 0)))) = true ∧
      e.n (Key.gAdaptMode 0) = 1) ∧
    ((edge (fRat 1125 10)).putN (Key.gAdaptMode 0) 2).n (Key.gAdaptMode 0) = 2 ∧
    (let e := edge (fRat 875 10); flt (fRat 875 10) (fsub (fNat (e.n (Key.gAdaptTargetOn 0))) (fNat (e.n (Key.gAdaptDeadband 0)))) = true ∧
      fgt (fRat 875 10) (fadd (fNat (e.n (Key.gAdaptTargetOn 0))) (fNat (e.n (Key.gAdaptDeadband 0)))) = false ∧ e.n (Key.gAdaptMode 0) = 1) := by
  decide +kernel

/-- The positive rail at its rising threshold, at 1 V below it and just under that; the negative one at -2 V, at -1.7 V and above. -/
theorem wit_ChannelRails_volts :
    let m := M run0; let p := m.posThreshold 0;
    m.railUp 0 p .vpos = true ∧ m.railDown 0 (fsub p fOne) .vpos = false ∧ m.railUp 0 (fsub p fOne) .vpos = false ∧
    m.railDown 0 (fsub p (fRat 11 10)) .vpos = true ∧ m.railUp 0 (fRat (-2) 1) .vneg = true ∧ m.railDown 0 (fRat (-17) 10) .vneg = false ∧
    m.railDown 0 (fRat (-16) 10) .vneg = true ∧ m.railDown 0 0 .logic = true := by
  decide +kernel

theorem wit_ChannelRails :
    ((M run0).modCh 0 (setRail .vpos true)).ch[(0 : Fin 12)].latches.contains (railCause .vpos) = false ∧
    (let up := (M (chan0 { latches := [.vposUvlo] })).modCh 0 (setRail .vpos true);
      up.lanesAct = true ∧ up.gate[up.setOfCh 0].retry = 0 ∧ up.ch[(0 : Fin 12)].latches.contains (railCause .vpos) = true) ∧
    (((M (run0.putN (Key.gUvloNegRail 0) 0)).modCh 0 (setRail .vneg false)).n (Key.gUvloNegRail 0) = 0) ∧
    (((M run0).modCh 0 (setRail .vneg false)).n (Key.gUvloNegRail 0) ≠ 0 ∧ ((M run0).modCh 0 (setRail .vneg false)).running = true) ∧
    ((M {}).modCh 0 (setRail .logic false)).running = false := by
  decide +kernel

def seq1 : TurnOff := { rest := [0, 1], soft := true, next := 7 }
def retrying (r : Nat) (w : Option Nat := none) (n : Nat := 7) : Mach := ((runAt n).putN (Key.gateRetryAutoRestart 0) 0).modGate 0 (fun g => { g with retry := r, waitEnd := w })

theorem wit_TurnOffAndRetry :
    (let m := M ((run0.modGate 0 (fun g => { g with turnOff := some seq1 })).at_ 7); m.gate[0].turnOff = some seq1 ∧ seq1.next ≤ m.now) ∧
    (M (run0.at_ 6)).now < seq1.next ∧
    ((M (chan0 { on := true })).ch[(0 : Fin 12)].on = true ∧ (M run0).ch[(0 : Fin 12)].on = false ∧ (M run0).ch[(M run0).partner 0].want = false) ∧
    ((M (run0.putN (Key.gateCommandMode 0) 1)).n (Key.gateCommandMode 0) = 1 ∧ (M run0).n (Key.gateCommandMode 0) ≠ 1 ∧
      (M run0).n (Key.gateCommandMode 0) ≠ 2) ∧
    (let m := M ((run0.putN (Key.gateCommandMode 0) 2).at_ 1000001); m.n (Key.gateCommandMode 0) = 2 ∧ m.legConflict 0 0 = false ∧
      ((m.modCh 0 (fun x => { x with want := true })).modCh 1 (fun x => { x with want := true })).legConflict 0 0 = true) ∧
    ((M (retrying 0)).lanesAct = true ∧ (M (retrying 0)).gate[0].retry ≠ 1 ∧ (M (retrying 1)).gate[0].retry = 1 ∧ (M (retrying 1)).allOff 0 = true) ∧
    (let m := M (retrying 2 (some 7)); m.gate[0].retry = 2 ∧ m.gate[0].waitEnd = some 7 ∧ 7 ≤ m.ns ∧
      (m.modGate 0 (fun g => { g with retry := 0, waitEnd := none })).b (Key.gateRetryAutoRestart 0) = false) ∧
    (M (retrying 2 (some 7) 6)).ns < 7 := by
  decide +kernel

def dusk7 : DuskRun := { due := 7 }
def direct (m : Mach := run0) : Mach := (m.putN (Key.gateCommandMode 0) 1).putN Key.safetyState 2
def dusking (n : Nat) : Mach := { (runAt n).modGate 0 (fun g => { g with dusk := some dusk7 }) with ch := readyCh }

theorem wit_DirectModeAndDusk :
    (let m := M (online (direct)); m.accepts rq (conn) (Key.gateDirectEnable 0) [1] (.num 1) ∧
      ((touch rq m).putB (Key.gateDirectEnable 0) true).directOk 0 = true) ∧
    (let m := M (online (direct (run0.modGate 0 (fun g => { g with direct := true })))); m.accepts rq (conn) (Key.gateDirectEnable 0) [0] (.num 0) ∧
      ((touch rq m).putB (Key.gateDirectEnable 0) false).directMode 0 = true ∧ ((touch rq m).putB (Key.gateDirectEnable 0) false).gate[(0 : Fin 2)].direct = true) ∧
    (let m := M (online run0); m.accepts rq (conn) (Key.gateDirectEnable 0) [0] (.num 0) ∧
      ((touch rq m).putB (Key.gateDirectEnable 0) true).directOk 0 = false ∧ m.accepts rq (conn) (Key.gateDirectEnable 0) [1] (.num 1) ∧
      ((touch rq m).putB (Key.gateDirectEnable 0) false).directMode 0 = false ∧
      m.accepts rq (conn) (Key.duskRun 0) [1] (.num 1) ∧ (touch rq m).duskRunOk 0 = true) := by
  decide +kernel

theorem wit_DirectModeAndDusk_rest :
    (M (direct)).gate[(0 : Fin 2)].direct = false ∧
    (let m := M ((direct).modGate 0 (fun g => { g with direct := true, pulses := true }));
      m.running = true ∧ (m.modCh 0 (fun x => { x with swcmd := true })).directMode (m.setOfCh 0) = true ∧ m.gate[m.setOfCh 0].direct = true ∧
      m.gate[m.setOfCh 0].pulses = true) ∧
    (let m := M (online (pulsing)); m.accepts rq (conn) (Key.duskRun 0) [1] (.num 1) ∧ (touch rq m).duskRunOk 0 = false) ∧
    (let m := M (dusking 7); m.lanesAct = true ∧ m.gate[(0 : Fin 2)].dusk = some dusk7 ∧ dusk7.due ≤ m.ns ∧ m.duskOk 0 = true ∧ dusk7.step = 0 ∧
      fgt (fRat 1000 1) (m.r (Key.duskRotationSpan 0)) = true) ∧
    (M (dusking 6)).ns < dusk7.due := by
  decide +kernel

/-! ### Safety -/

/-- Safe input 2 with a function and a state. -/
def safeIn (f : Nat) (x : SafeIn) (m : Mach := run0) : Mach := (m.putN (Key.siFunction 2) f).modSi 2 (fun _ => x)
def holding (h n : Nat) : Mach := (runAt n).modLan (fun l => { l with holdUntil := h })

theorem wit_SafeInputChannels :
    ((M run0).running = true ∧ (M run0).lantern.holdUntil ≤ (M run0).ns ∧ (M (run0.putN (Key.siSource 2) 1)).n (Key.siSource 2) ≠ 0) ∧
    ((M (holding 7 6)).n (Key.siSource 2) = 0 ∧ (M (holding 7 6)).ns < (M (holding 7 6)).lantern.holdUntil ∧ (M (holding 7 7)).lantern.holdUntil ≤ (M (holding 7 7)).ns) ∧
    (let m := M (safeIn 1 { disagree := some 0 } (runAt (ms (run0.n (Key.siDiscrepancy 2)))));
      m.lanesAct = true ∧ m.n (Key.siFunction 2) ≠ 0 ∧ m.safety.si[(2 : Fin 6)].discrep = false ∧ m.safety.si[(2 : Fin 6)].disagree = some 0 ∧
      0 + ms (m.n (Key.siDiscrepancy 2)) ≤ m.ns) ∧
    (let m := M (safeIn 1 { disagree := some 0 } (runAt (ms (run0.n (Key.siDiscrepancy 2)) - 1))); m.ns < 0 + ms (m.n (Key.siDiscrepancy 2))) ∧
    (let m := M ((safeIn 1 {}).modLan (fun l => { l with dark := #v[true, true] }));
      m.lantern.dark[(0 : Fin 2)] = true ∧ m.lantern.dark[(1 : Fin 2)] = true ∧ m.lanesAct = true ∧ m.n (Key.siFunction 2) ≠ 0 ∧ m.n (Key.siSource 2) = 0 ∧
      ∀ ch : Fin 2, m.safety.si[(2 : Fin 6)].ch[ch].demand = false ∧ m.safety.si[(2 : Fin 6)].ch[ch].testFault = false) := by
  decide +kernel

/-- A change that has lasted for the filter and one that has not; both channels; a dark pulse that is due and one that is not, 500 µs
after its start and a picosecond less. -/
theorem wit_SafeInputChannels_timed :
    (let m := M (runAt 1000000000); (M run0).filtered 2 0 0 = false ∧ m.filtered 2 0 0 = true ∧ two.all (m.filtered 2 · 0) = true ∧
      two.all ((M run0).filtered 2 · 0) = false) ∧
    (let m := M (runAt 1000000000); m.lantern.holdUntil ≤ m.ns ∧ m.lantern.darkDue 0 m.now = true) ∧
    (M ((runAt 1000000000).modLan (fun l => { l with darkAt := #v[some 1000000000000, some 1000000000000] }))).lantern.darkDue 0 1000000000000 = false ∧
    (∀ n ∈ [499999999, 500000000], let m := M (({ run0 with now := n } : Mach).modLan (fun l => { l with darkAt := #v[some 0, none] }));
      m.lantern.darkAt[(0 : Fin 2)] = some 0 ∧ 0 ≤ m.now ∧ (m.now < 0 + 500000000 ↔ n = 499999999)) := by
  decide +kernel

def demanding : Vector SafeCh 2 := Vector.replicate 2 { demand := true, known := true }

theorem wit_SafeInputDemandActs :
    (let m := safeIn 1 { known := true, ch := demanding };
      m.n (Key.siFunction 2) ≠ 0 ∧ m.n (Key.siFunction 2) ≠ 3 ∧ m.safety.si[(2 : Fin 6)].known = true ∧ m.siDemand 2 = true ∧ m.safety.si[(2 : Fin 6)].acted = false ∧
      m.safety.si[(2 : Fin 6)].ch[(0 : Fin 2)].demand = true) ∧
    (let m := safeIn 1 {}; m.safety.si[(2 : Fin 6)].known = false ∧ m.safety.si[(2 : Fin 6)].acted = false) ∧
    (let m := safeIn 1 { known := true, acted := true }; m.siDemand 2 = false ∧ m.safety.si[(2 : Fin 6)].acted = true) ∧
    (safeIn 1 { discrep := true }).safety.si[(2 : Fin 6)].discrep = true := by
  decide +kernel

/-- Step `k` of the STO release ends at 7 ns; drive 0 is starting under a confirmed safety. -/
def releasing (k n : Nat) (st : DriveState := .starting) : Mach :=
  (((runAt n).putN Key.safetyState 2).modDrive 0 (fun x => { x with st := st })).modSto (fun x => { x with step := some k, stepEnd := 7 })
abbrev read (p n : Bool) (m : Mach) : Mach := m.modSto (fun x => { x with fbp := p, fbn := n })

theorem wit_StoReleaseAndChecks :
    (M (releasing 1 6)).ns < (M (releasing 1 6)).safety.sto.stepEnd ∧
    (let m := M (releasing 1 7 .off); m.lanesAct = true ∧ m.safety.sto.step = some 1 ∧ m.safety.sto.stepEnd ≤ m.ns ∧ (read true true m).stoReleaseOk = false) ∧
    (let m := M (releasing 1 7); m.safety.sto.step = some 1 ∧ m.safety.sto.stepEnd ≤ m.ns ∧ (read true true m).stoReleaseOk = true ∧ (read false true m).stoReleaseOk = true) ∧
    (let m := M (releasing 2 7); m.safety.sto.step = some 2 ∧ m.safety.sto.stepEnd ≤ m.ns ∧ (read false false m).stoReleaseOk = true) ∧
    (let m := M (releasing 3 7); m.safety.sto.step = some 3 ∧ m.safety.sto.stepEnd ≤ m.ns ∧ (read true false m).stoReleaseOk = true) ∧
    (let m := M (run0.modSto (fun x => { x with hs := true, ls := true })); m.lanesAct = true ∧ m.safety.sto.hs = true ∧ m.safety.sto.ls = true) ∧
    (M (runAt 999999)).now < 0 + 1000000000 ∧ 0 + 1000000000 ≤ (M (runAt 1000000)).now ∧
    (∀ o ∈ [some 0, some 1, none], let m := M ((runAt (ms (run0.n Key.stoDischargeTime))).modSto (fun x => { x with openedAt := o }));
      m.running = true ∧ m.lanesAct = true ∧ m.safety.sto.hs = false ∧ m.safety.sto.ls = false ∧ m.safety.sto.openedAt = o ∧
      0 + ms (m.n Key.stoDischargeTime) ≤ m.ns ∧ m.ns < 1 + ms (m.n Key.stoDischargeTime)) := by
  decide +kernel

def stopping (r : Ss1Run) (n : Nat := 7) : Mach := (runAt n).modDrive 0 (fun x => { x with st := .stopping, ss1 := some r })
def ss1a : Ss1Run := { start := 0, n0 := 0 }
def ss1b : Ss1Run := { ss1a with braking := true, brakeEnd := some 7 }

theorem wit_Ss1Ends :
    (let m := M (((stopping ss1a).putN (Key.application 0) 1).putN (Key.brakeDrive 0) 0);
      m.lanesAct = true ∧ m.drives[(0 : Fin 2)].ss1 = some ss1a ∧ ss1a.braking = false ∧ m.n (Key.application 0) = 1 ∧ m.brakesOf 0 ≠ []) ∧
    (M ((stopping ss1a).putN (Key.application 0) 0)).n (Key.application 0) ≠ 1 ∧
    (M (stopping ss1a)).drives[(0 : Fin 2)].slowSince = none ∧
    (let m := M ((stopping ss1a (ms (run0.n (Key.ss1StandstillTime 0)))).modDrive 0 (fun x => { x with slowSince := some 0 }));
      m.drives[(0 : Fin 2)].slowSince = some 0 ∧ 0 + ms (m.n (Key.ss1StandstillTime 0)) ≤ m.ns) ∧
    (let m := M (stopping ss1b); m.drives[(0 : Fin 2)].ss1 = some ss1b ∧ ss1b.braking = true ∧ ss1b.brakeEnd = some 7 ∧ 7 ≤ m.ns) ∧
    (M (stopping ss1b 6)).ns < 7 ∧
    (let m := M (stopping ss1a (ms (run0.n (Key.ss1Time 0)))); m.drives[(0 : Fin 2)].st = .stopping ∧ ss1a.start + ms (m.n (Key.ss1Time 0)) ≤ m.ns) ∧
    (M (stopping ss1a (ms (run0.n (Key.ss1Time 0)) - 1))).ns < ss1a.start + ms (run0.n (Key.ss1Time 0)) := by
  decide +kernel

def braked (b : Brake) (n : Nat := 7) : Mach :=
  ((((runAt n).putN (Key.brakeDrive 0) 0).putR (Key.brakeHoldCurrentMin 0) fOne).putR (Key.brakeCurrentMax 0) (fRat 2 1)).putR (Key.brakeApplyCurrent 0) fOne
    |>.modBrake 0 (fun _ => b)

/-- Coil currents are read as they are; 20 ms and a picosecond less. -/
theorem wit_BrakeChecks_reads :
    coilRead 0 = 0 ∧ coilRead fOne = fOne ∧ coilRead (fRat 2 1) = fRat 2 1 ∧ coilRead (fRat 3 1) = fRat 3 1 ∧ coilRead (fRat 4 1) = fRat 3 1 ∧ 0 + 20000000000 ≤ (M (runAt 20000000)).now ∧
    ¬ 0 + 20000000000 ≤ (M ({ run0 with now := 19999999999 })).now := by decide +kernel

/-- Coil currents at and beside the limits of 1 A and 2 A. -/
theorem wit_BrakeChecks :
    (let m := M (braked { hs := true, ls := true, checkEnd := some 7 });
      let e := (m.putR (Key.brakeCoilCurrent 0) fOne).modBrake 0 (fun b => { b with checkEnd := none, fbp := true, fbn := false });
      m.lanesAct = true ∧ m.safety.brakes[(0 : Fin 2)].hs = true ∧ m.safety.brakes[(0 : Fin 2)].ls = true ∧ m.safety.brakes[(0 : Fin 2)].released = false ∧
      m.safety.brakes[(0 : Fin 2)].checkEnd = some 7 ∧ e.r (Key.brakeHoldCurrentMin 0) = m.r (Key.brakeHoldCurrentMin 0) ∧ 7 ≤ m.ns ∧
      fge fOne (m.r (Key.brakeHoldCurrentMin 0)) = true ∧ fge 0 (m.r (Key.brakeHoldCurrentMin 0)) = false) ∧
    (M (braked { hs := true, ls := true, checkEnd := some 7 } 6)).ns < 7 ∧
    (let m := M (braked { hs := true, released := true });
      m.safety.brakes[(0 : Fin 2)].released = true ∧ flt 0 (m.r (Key.brakeHoldCurrentMin 0)) = true ∧ flt (fRat 3 1) (m.r (Key.brakeHoldCurrentMin 0)) = false ∧
      fgt (fRat 3 1) (m.r (Key.brakeCurrentMax 0)) = true ∧ flt fOne (m.r (Key.brakeHoldCurrentMin 0)) = false ∧ fgt (fRat 2 1) (m.r (Key.brakeCurrentMax 0)) = false ∧
      m.safety.brakes[(0 : Fin 2)].hs = true) ∧
    (let m := M (braked { checkEnd := some 7 });
      let e := (m.putR (Key.brakeCoilCurrent 0) fOne).modBrake 0 (fun b => { b with checkEnd := none, fbp := false });
      m.lanesAct = true ∧ m.safety.brakes[(0 : Fin 2)].hs = false ∧ m.safety.brakes[(0 : Fin 2)].ls = false ∧ m.safety.brakes[(0 : Fin 2)].checkEnd = some 7 ∧
      fle fOne (e.r (Key.brakeApplyCurrent 0)) = true ∧ fle (fRat 2 1) (e.r (Key.brakeApplyCurrent 0)) = false) := by
  decide +kernel

theorem wit_BrakeSwitchTests :
    (∀ ls ∈ [true, false], let b := (M (braked { released := true, nextTest := some 7, lsNext := ls })).safety.brakes[(0 : Fin 2)];
      (M (braked { released := true, nextTest := some 7, lsNext := ls })).lanesAct = true ∧ b.released = true ∧ b.test = .idle ∧ b.nextTest = some 7 ∧ b.lsNext = ls) ∧
    (M (braked {})).ns = 7 ∧ (M (braked {} 6)).ns < 7 ∧
    (∀ x ∈ [BrakeTest.hs, .ls], let b := (M (braked { test := x, pulseEnd := some 7 })).safety.brakes[(0 : Fin 2)];
      b.pulseEnd = some 7 ∧ b.test = x) := by
  decide +kernel

/-- Brake 0 of drive 0, verified applied, its encoder valid, its test torque 1 N·m where 100 A and 1 Wb allow far more. -/
def testable (b : Brake := { verified := true }) (n : Nat := 0) : Mach :=
  ((((((drive 2 (runAt n)).putN (Key.brakeDrive 0) 0).putN (Key.obsPositionSource 0) 1).putR (Key.machinePsiPM 0) fOne).putR (Key.machineCurrentLimit 0) (fRat 100 1)).putR
    (Key.sbtHoldTorque 0) fOne).putR (Key.sbtFactor 0) fOne |>.modBrake 0 (fun _ => b)

theorem wit_SafeBrakeTest :
    (M (online (testable))).accepts rq (conn) (Key.sbtRun 0) [1] (.num 1) ∧
    (touch rq (M (online (testable {})))).sbtRefusal 0 = some 7 ∧
    (let n := touch rq (M (online ((testable).modSafety (fun s => { s with gstopActed := true }))));
      n.sbtRefusal 0 = none ∧ n.driveOfBrake 0 = some 0 ∧ n.sbtBlocked 0 = true) ∧
    (let n := touch rq (M (online (testable))); n.sbtRefusal 0 = none ∧ n.driveOfBrake 0 = some 0 ∧ n.sbtBlocked 0 = false) := by
  decide +kernel

def sbtAt (p n : Nat) : Mach := (runAt n).modSafety (fun s => { s with sbt := #v[some { phase := p }, none] })

theorem wit_SafeBrakeTest_phases :
    (∀ x ∈ [(2, 200), (3, 2000), (4, 400), (5, 2000), (6, 200)],
      (M (sbtAt x.1 (1000000 * x.2))).lanesAct = true ∧ (M (sbtAt x.1 (1000000 * x.2))).safety.sbt[(0 : Fin 2)] = some { phase := x.1 } ∧
      0 + 1000000 * x.2 ≤ (M (sbtAt x.1 (1000000 * x.2))).ns ∧ (M (sbtAt x.1 (1000000 * x.2 - 1))).ns < 0 + 1000000 * x.2) ∧
    (let m := M ((testable {} (3600000000000 * (run0.n (Key.sbtInterval 0) + 1))).putN (Key.sbtAuto 0) 1);
      m.lanesAct = true ∧ m.sbtConfigured 0 = true ∧ m.b (Key.sbtAuto 0) = true ∧ 3600 * m.n (Key.sbtInterval 0) ≤ m.sincePass 0 ∧
      m.safety.brakes[(0 : Fin 2)].overdue = false ∧ 3600 * (m.n (Key.sbtInterval 0) + 1) ≤ m.sincePass 0) ∧
    (let m := M (testable); m.sbtConfigured 0 = true ∧ m.sincePass 0 < 3600 * m.n (Key.sbtInterval 0)) := by
  decide +kernel

theorem wit_BrakeTestRefusals :
    (let n := touch rq (M (online ((testable).modDrive 0 (fun x => { x with st := .running }))));
      n.driveOfBrake 0 = some 0 ∧ n.driveConfigured 0 = true ∧ n.drives[(0 : Fin 2)].st ≠ .off) ∧
    (let n := touch rq (M (online ((testable).putN (Key.obsPositionSource 0) 0)));
      n.drives[(0 : Fin 2)].st = .off ∧ (n.setsOf 0).any n.encValid = false) ∧
    (let n := touch rq (M (online ((testable).putR (Key.sbtHoldTorque 0) (fRat 100000 1))));
      n.drives[(0 : Fin 2)].st = .off ∧ (n.setsOf 0).any n.encValid = true ∧
      fgt (fmul (n.r (Key.sbtFactor 0)) (n.r (Key.sbtHoldTorque 0))) (fsum ((n.setsOf 0).map n.torqueAtLimit)) = true) ∧
    (let n := touch rq (M (online (testable)));
      n.driveOfBrake 0 = some 0 ∧ n.driveConfigured 0 = true ∧ (n.setsOf 0).any n.encValid = true ∧
      fgt (fmul (n.r (Key.sbtFactor 0)) (n.r (Key.sbtHoldTorque 0))) (fsum ((n.setsOf 0).map n.torqueAtLimit)) = false ∧
      n.safety.brakes[(0 : Fin 2)].verified = true ∧ n.safety.brakes[(0 : Fin 2)].hs = false ∧ n.safety.brakes[(0 : Fin 2)].ls = false ∧ n.sbtBlocked 0 = false) ∧
    (∀ b ∈ [({} : Brake), { verified := true, hs := true }, { verified := true, ls := true }],
      let n := touch rq (M (online (testable b)));
      n.safety.brakes[(0 : Fin 2)].verified = false ∨ n.safety.brakes[(0 : Fin 2)].hs = true ∨ n.safety.brakes[(0 : Fin 2)].ls = true) := by
  decide +kernel

def button (b : Button) (n : Nat) : Mach := (runAt n).modSafety (fun s => { s with button := b })

/-- Presses of 100 ms, of 5 s, and one nanosecond to either side. -/
theorem wit_ResetAndSeal_button :
    ((M run0).running = true ∧ (M run0).safety.button.closed = false) ∧
    (∀ n ∈ [100000000, 5000000000], let m := M (button { closed := true } n);
      m.safety.button.closed = true ∧ m.safety.button.blocked = false ∧ m.safety.button.held = false ∧ m.safety.button.since + 100000000 ≤ m.ns ∧
      m.ns ≤ m.safety.button.since + 5000000000 ∧ m.lanesAct = true ∧ ∀ c : Fin 4, m.safety.isf[c].pressed = none) ∧
    (M (button { closed := true } 99999999)).ns < 0 + 100000000 ∧
    (let m := M (button { closed := true } 5000000001); 0 + 5000000000 < m.ns ∧
      ∀ c : Fin 4, (raiseM 0x4E 0 (m.modSafety (fun s => { s with button := { s.button with held := true } }))).safety.isf[c].pressed = none) ∧
    (let m := M (((runAt 7).putN Key.safetyState 1).modSafety (fun s => { s with sealEnd := some 7 }));
      m.lanesAct = true ∧ m.n Key.safetyState = 1 ∧ m.safety.sealEnd = some 7 ∧ 7 ≤ m.ns) ∧
    (M (runAt 6)).ns < 7 := by
  decide +kernel

def sealing : Mach := online (((runAt 7).putN Key.safetyState 1).modSafety (fun s => { s with sealEnd := some 7 }))
def sealV : BitVec 32 := BitVec.ofNat 32 (touch rq (M sealing)).seal

theorem wit_ResetAndSeal_seal :
    (M sealing).accepts rq (conn) Key.safetySealConfirm (beBytes 4 sealV.toNat) (.num sealV.toNat) ∧
    (M sealing).accepts rq (conn) Key.safetySealConfirm (beBytes 4 (sealV + 1).toNat) (.num (sealV + 1).toNat) ∧
    (touch rq (M sealing)).sealOpen = true ∧ sealV.toNat = (touch rq (M sealing)).seal ∧ (sealV + 1).toNat ≠ (touch rq (M sealing)).seal := by
  decide +kernel

/-- A frame of connection 0 with one data byte, sequence and connection given. -/
def isfBody (id sq l : Nat) : List Byte := beBytes 4 id ++ beBytes 2 sq ++ beBytes 1 l ++ [0] ++ List.replicate l 0
def isf (id sq l : Nat) : List Byte := isfBody id sq l ++ beBytes 4 (crcIsf (isfBody id sq l)).toNat
def consuming (x : IsfConn) (n : Nat := 7) (role : Nat := 1) : Mach :=
  ((((runAt n).putN (Key.isfRole 0) role).putN (Key.isfConnId 0) 9).putN (Key.isfDataLength 0) 1).modIsf 0 (fun _ => x)

theorem wit_SafeFrames_consumer :
    ((M (consuming {})).running = true ∧ (M (consuming {})).n (Key.isfRole 0) = 1 ∧ ([] : List Byte).length < 12) ∧
    (12 ≤ (isf 9 1 1).length ∧ (isf 9 1 1).length = 12 + imgNat (isf 9 1 1) 6 1 ∧ crcIsf ((isf 9 1 1).take 9) = BitVec.ofNat 32 (imgNat (isf 9 1 1) 9 4) ∧
      imgNat (isf 9 1 1) 0 4 = (M (consuming {})).n (Key.isfConnId 0) ∧ imgNat (isf 9 1 1) 6 1 = (M (consuming {})).n (Key.isfDataLength 0)) ∧
    (imgNat (isf 8 1 1) 0 4 ≠ (M (consuming {})).n (Key.isfConnId 0) ∧ (M (consuming {})).clr.safeState = false ∧
      crcIsf ((isf 8 1 1).take 9) = BitVec.ofNat 32 (imgNat (isf 8 1 1) 9 4)) ∧
    (imgNat (isf 9 1 2) 6 1 ≠ (M (consuming {})).n (Key.isfDataLength 0) ∧ crcIsf ((isf 9 1 2).take 10) = BitVec.ofNat 32 (imgNat (isf 9 1 2) 10 4)) ∧
    ((M (consuming { lastSeq := some 1 })).safety.isf[(0 : Fin 4)].lastSeq = some 1 ∧ (imgNat (isf 9 1 1) 4 2 + 65535 - (1 : BitVec 16).toNat) % 65535 = 0 ∧
      (M (consuming {})).n (Key.isfSeqWindow 0) < (imgNat (isf 9 60000 1) 4 2 + 65535 - (1 : BitVec 16).toNat) % 65535) ∧
    ((M (consuming {})).safety.isf[(0 : Fin 4)].lastSeq = none ∧ imgNat (isf 9 1 1) 4 2 ≠ 0 ∧ (M (consuming {})).safety.isf[(0 : Fin 4)].accepted < 2 ∧
      (((M (consuming {})).modIsf 0 (fun x => { x with
            lastSeq := some (BitVec.ofNat 16 1), accepted := min 3 (x.accepted + 1),
            failSafe := x.failSafe && min 3 (x.accepted + 1) < 3, data := ((isf 9 1 1).drop 8).take 1,
            deadline := some ((M (consuming {})).ns + ms ((M (consuming {})).n (Key.isfTimeExpectation 0))) }))).lanesAct = true) := by
  decide +kernel

theorem wit_SafeFrames_timers :
    (let m := M (consuming { deadline := some 7 }); m.lanesAct = true ∧ m.n (Key.isfRole 0) = 1 ∧ m.safety.isf[(0 : Fin 4)].deadline = some 7 ∧ 7 ≤ m.ns) ∧
    (M (consuming {} 6)).ns < 7 ∧
    (let m := M ((consuming { nextTx := some 7 } 7 2).put (Key.isfPeer 0) (.bytes [0, 0, 0, 0, 0, 0]));
      let e := (m.modIsf 0 (fun x => { x with
        txSeq := if x.txSeq = 0xFFFF then 1 else x.txSeq + 1, nextTx := some (m.ns + ms (m.n (Key.isfCycle 0))) }));
      m.lanesAct = true ∧ m.n (Key.isfRole 0) = 2 ∧ m.safety.isf[(0 : Fin 4)].nextTx = some 7 ∧ e.n (Key.isfPath 0) = 0 ∧
      (valBytes (e.val (Key.isfPeer 0))).all (· == 0) = true) := by
  decide +kernel

theorem wit_GroveStop :
    ((M (run0)).now < 0 + 20000000 ∧ 0 + 20000000 ≤ (M (runAt 20000)).now) ∧
    (∀ a ∈ [0, 1], let n := linesRead true false (M ((runAt 20000).putN Key.groveStopAction a));
      n.lanesAct = true ∧ n.safety.lineTest = none ∧ n.safety.gstopActed = false ∧
      (raiseM 0x57 0xFF (n.modSafety (fun s => { s with gstopActed := true, gstopWait := s.gstopWait || n.b Key.groveStopRestart }))).n Key.groveStopAction = a) ∧
    (M run0).lanesAct = true ∧
    (let m := M ((runAt 100000000).modSafety (fun s => { s with gstopSince := some 0 })); m.safety.gstopSince = some 0 ∧ m.safety.lineTest = none ∧ 0 + 100000000 ≤ m.ns) ∧
    (M (runAt 99999999)).ns < 0 + 100000000 ∧
    (∀ k ∈ [2, 3], let m := M (((leader).putN Key.groveMemberMap 3).modSafety (fun s => { s with lineTest := some k }));
      m.lanesAct = true ∧ m.inGrove = true ∧ m.safety.lineTest = some k ∧ (k + 1 < 2 * m.memberCount ↔ k = 2) ∧
      (m.memberCount ≤ [(decide (k % 2 = 0), decide (k % 2 = 1)), (decide (k % 2 = 0), decide (k % 2 = 1))].length) ∧
      ¬ m.memberCount ≤ ([] : List (Bool × Bool)).length) ∧
    (M (runAt 1000000)).safety.lineAt + 1000000 ≤ (M (runAt 1000000)).ns ∧ (M (runAt 999999)).ns < (M (runAt 999999)).safety.lineAt + 1000000 := by
  decide +kernel

/-! ### Groves -/

def port0 (x : CanopyPort) (m : Mach := run0) : Mach := m.modPort 0 (fun _ => x)

theorem wit_CanopyPorts :
    (let m := M (port0 { lanes := Vector.replicate 2 true }); m.running = true ∧ m.canopy[(0 : Fin 2)].lanes[(1 : Fin 2)] = true) ∧
    (M run0).canopy[(0 : Fin 2)].lanes[(1 : Fin 2)] = false ∧
    (M run0).canopy[(0 : Fin 2)].up = false ∧ ((M run0).canopy[(0 : Fin 2)].lanes[0] || (M run0).canopy[(0 : Fin 2)].lanes[1]) = false ∧
    (let m := M (port0 { lanes := Vector.replicate 2 true }); m.canopy[(0 : Fin 2)].up = false ∧ (m.canopy[(0 : Fin 2)].lanes[0] || m.canopy[(0 : Fin 2)].lanes[1]) = true ∧
      ((M (port0 { up := true })).modPort 0 (fun x => { x with lanes := Vector.replicate 2 false })).canopy[(0 : Fin 2)].up = true) ∧
    0 + 2000000 ≤ (M (run0.at_ 2000000)).now ∧ (M (run0.at_ 1999999)).now < 0 + 2000000 ∧
    (let m := M ((leader).at_ 1000000000); m.running = true ∧ m.inGrove = true ∧ m.canopy[(0 : Fin 2)].up = false ∧ m.canopy[(0 : Fin 2)].selfOk = true ∧
      m.n Key.supplyStatus / 64 % 4 = 0 ∧ 0 + 1000000000 ≤ m.now ∧ m.ringRight 0 1 = true ∧ m.ringRight 0 0 = false) ∧
    (M ((leader).at_ 999999999)).now < 0 + 1000000000 ∧
    (M ((port0 { checkedAt := some 0 }).at_ 9999999)).now < 0 + 10000000 ∧ 0 + 10000000 ≤ (M ((port0 { checkedAt := some 0 }).at_ 10000000)).now ∧
    (M (port0 { checkedAt := some 0 })).canopy[(0 : Fin 2)].checkedAt = some 0 ∧ (M run0).canopy[(0 : Fin 2)].checkedAt = none ∧
    (let m := M (port0 { up := true }); m.canopy[(0 : Fin 2)].selfOk = true ∧ (m.modPort 0 (fun x => { x with selfOk := false })).canopy[(0 : Fin 2)].up = true) ∧
    (M (port0 { selfOk := false })).canopy[(0 : Fin 2)].selfOk = false ∧
    (3 : Fin 8) ≠ (M run0).me ∧ ((M run0).modMember 3 (fun x => { x with links := (1, 1), heard := 0 })).lanesAct = true ∧
    ((M { run0 with clr := { safeState := true } }).modMember 3 (fun x => { x with links := (1, 1), heard := 0 })).lanesAct = false := by
  decide +kernel

def head0 (sq : BitVec 12) (dest : BitVec 4) : PacketHeader :=
  { vc := 4, ty := 1, dest := dest, src := 1, sq := sq, hops := 0, ack := 0xFFF, nak := false, crVc := 0, credits := 0, len := 0 }
def upPort (m : Mach := run0) : Mach := port0 { up := true } m

/-- The next packet in sequence, a repeated one, one 2,048 ahead, one over a gap. -/
theorem wit_CanopyPackets :
    (∀ x ∈ [(0, 1), (0xFFF, 0), (0x7FF, 2048), (1, 2), (0x7FE, 2047)],
      ((head0 (BitVec.ofNat 12 x.1) 0).sq - (drainPort 0 (((upPort).modPort 0 (fun y => (y.ackTo 0xFFF (upPort).now).creditTo 0 0)))).canopy[(0 : Fin 2)].rxSeq).toNat = x.2) ∧
    ((M (upPort)).running = true ∧ (M (upPort)).canopy[(0 : Fin 2)].up = true ∧ (receiveHeader 0 (head0 0 0) (M (upPort))).2 = true ∧
      (receiveHeader 0 (head0 1 0) (M (upPort))).2 = false ∧ linkCrc (head0 0 0) [1] ≠ 0 ∧
      reservedType 0 8 = true ∧ reservedType 0 7 = false ∧ votedOk (head0 0 0) [] = true ∧ (head0 0 0).dest.toNat = (M (upPort)).me.1 ∧ (head0 0 5).dest.toNat ≠ (M (upPort)).me.1 ∧ (head0 0 5).dest ≠ 0xF) ∧
    (let m := M ((upPort).at_ 1000000); m.canopy[(0 : Fin 2)].lastSent + 1000000 ≤ m.now ∧ m.now < m.canopy[(0 : Fin 2)].ackAt + 2000000) ∧
    (M ((upPort).at_ 999999)).now < 0 + 1000000 ∧ 0 + 2000000 ≤ (M ((upPort).at_ 2000000)).now := by
  decide +kernel

theorem wit_LinkDelays :
    (M (port0 { asked := some 5 })).running = true ∧ (M (port0 { asked := some 5 })).canopy[(0 : Fin 2)].asked = some 5 ∧ (M run0).canopy[(0 : Fin 2)].asked ≠ some 5 ∧
    (let m := M ((runAt 9999999).modGrove (fun g => { g with delayAt := some 0 })); m.running = true ∧ m.grove.delayAt = some 0 ∧ m.ns < 0 + 10000000) ∧
    (let m := M ((runAt 10000000).modGrove (fun g => { g with delayAt := some 0 })); m.running = true ∧ m.grove.delayAt = some 0 ∧ 0 + 10000000 ≤ m.ns) ∧
    (M run0).grove.delayAt = none := by
  decide +kernel

def hello1 (m : Mach) : Hello := { id := BitVec.ofNat 32 (m.n Key.groveId), size := 2, selfCheck := true, period := 250, fw := BitVec.ofNat 32 (m.n Key.identityFirmwareVersion) }
def forming (st n : Nat) (g : Grove := {}) : Mach := { (((runAt n).putN Key.groveSize 2).putN Key.groveState st).putN Key.groveLeaderPosition 1 with grove := g }

theorem wit_GroveFormation_hello :
    (let m := M (forming 1 0); m.lanesAct = true ∧ m.inGrove = true ∧ (1 : Fin 8) ≠ m.me ∧
      (hear 1 (m.modMember 1 (fun x => { x with hello := some (hello1 m) }))).leads = false) ∧
    (let m := M (leader); let h := { hello1 m with size := 3 }; let n := hear 1 (m.modMember 1 (fun x => { x with hello := some h }));
      n.leads = true ∧ n.helloCode h ≠ 0) ∧
    (let m := M (leader); let h := hello1 m; let n := hear 1 (m.modMember 1 (fun x => { x with hello := some h })); n.leads = true ∧ n.helloCode h = 0) := by
  decide +kernel

theorem wit_GroveFormation_timers :
    (let m := M (forming 1 1000000 { helloAt := some 0 }); m.lanesAct = true ∧ m.inGrove = true ∧ m.n Key.groveState = 1 ∧ m.grove.helloAt = some 0 ∧ 0 + 1000000 ≤ m.ns) ∧
    (M (forming 1 999999)).ns < 0 + 1000000 ∧
    (let m := M (forming 1 (ms (run0.n Key.groveFormTime)) { firstUp := some 0 }); m.grove.firstUp = some 0 ∧ 0 + ms (m.n Key.groveFormTime) ≤ m.ns) ∧
    (M (forming 1 (ms (run0.n Key.groveFormTime) - 1))).ns < 0 + ms (run0.n Key.groveFormTime) ∧
    (let m := M (forming 4 7 { retryAt := some 7 }); m.n Key.groveState = 4 ∧ m.grove.retryAt = some 7 ∧ 7 ≤ m.ns ∧
      (m.modGrove (fun g => { g with retryAt := some (m.ns + 1000000000) })).leaderPos = some 1) ∧
    (M (forming 4 6)).ns < 7 ∧
    (let m := M (leader); m.lanesAct = true ∧ m.leads = true ∧ m.joinCode 1 (hello1 m) = 0 ∧ m.joinCode 1 { hello1 m with period := 251 } ≠ 0) ∧
    (∀ st ∈ [1, 4], (M (forming st 0)).lanesAct = true ∧ (M (forming st 0)).inGrove = true ∧ (M (forming st 0)).n Key.groveState = st) := by
  decide +kernel

abbrev bounded (m : Mach) : Mach := boundaryOf .grove ((m.modGrove (fun g => { g with tN := g.tN + m.bp })).add Key.groveBoundaryNumber 1)
abbrev counted (m : Mach) : Mach := sleepBoundary (missedSwaps (bounded m))

theorem wit_GroveBoundaries_own :
    (let m := M (runAt (us (run0.n Key.groveBoundaryPeriod))); m.running = true ∧ m.grove.tN + m.bp ≤ m.ns ∧ (bounded m).lanesAct = true ∧ (counted m).inGrove = false) ∧
    (let m := M ({ runAt (us (run0.n Key.groveBoundaryPeriod)) with clr := { safeState := true } }); m.running = true ∧ m.grove.tN + m.bp ≤ m.ns ∧
      (bounded m).lanesAct = false) ∧
    (M run0).ns < (M run0).grove.tN + (M run0).bp ∧
    (let m := M (leader (us (run0.n Key.groveBoundaryPeriod))); m.grove.tN + m.bp ≤ m.ns ∧ (counted m).inGrove = true ∧ (counted m).n Key.groveState = 3) ∧
    (let m := M (follower (us (run0.n Key.groveBoundaryPeriod))); (counted m).inGrove = true ∧ (counted m).n Key.groveState = 2) := by
  decide +kernel

theorem wit_GroveBoundaries_others :
    (let m := M (forming 1 0); m.lanesAct = true ∧ m.inGrove = true ∧ (1 : Fin 8) ≠ m.me ∧ (hear 1 m).n Key.groveState = 1) ∧
    (let h := hear 1 (M (follower)); h.n Key.groveState = 2 ∧ h.leaderPos = some 1 ∧ h.me = 0 ∧ bit (3 : BitVec 8).toNat 0 = true ∧ bit (2 : BitVec 8).toNat 0 = false) ∧
    (let h := hear 0 (M ((leader).putN Key.canopyPosition 1)); h.n Key.groveState = 3 ∧ (0 : Fin 8) < h.me ∧ (0 : Fin 8) ≠ h.me) ∧
    (let h := hear 1 (M (leader)); h.me ≤ 1) ∧
    (let m := M (follower 1000); let off : Int := ((1050 : Nat) : Int) + (0 : Nat) + m.n Key.canopyEastLinkDelay - m.ns;
      m.running = true ∧ m.fromLeader 1 = true ∧ m.grove.syncAt ≠ some 1050 ∧ off.natAbs ≤ 50 ∧
      (m.putI 32 Key.timebaseGroveDeviation (deviation off)).grove.stepDue = false) ∧
    (let m := M (follower 1000); let off : Int := ((1051 : Nat) : Int) + (0 : Nat) + m.n Key.canopyEastLinkDelay - m.ns;
      50 < off.natAbs ∧ (m.putI 32 Key.timebaseGroveDeviation (deviation off)).grove.wideAt ≠ some (1051 - (m.putI 32 Key.timebaseGroveDeviation (deviation off)).bp)) ∧
    (let m := M ((follower 1000000).modGrove (fun g => { g with wideAt := some (1000051 - run0.bp) }));
      let off : Int := ((1000051 : Nat) : Int) + (0 : Nat) + m.n Key.canopyEastLinkDelay - m.ns; let d := m.putI 32 Key.timebaseGroveDeviation (deviation off);
      50 < off.natAbs ∧ d.grove.stepDue = false ∧ d.grove.wideAt = some (1000051 - d.bp)) ∧
    (let m := M ((follower 1000).modGrove (fun g => { g with stepDue := true })); let off : Int := ((1051 : Nat) : Int) + (0 : Nat) + m.n Key.canopyEastLinkDelay - m.ns;
      let d := m.putI 32 Key.timebaseGroveDeviation (deviation off); m.running = true ∧ m.fromLeader 1 = true ∧ m.grove.syncAt ≠ some 1051 ∧
      d.grove.stepDue = true ∧ d.gate[0].pulses = false ∧ d.gate[1].pulses = false ∧ (d.modGate 1 (fun g => { g with pulses := true })).gate[1].pulses = true) ∧
    (M ((follower).modGrove (fun g => { g with syncAt := some 5 }))).grove.syncAt = some 5 := by
  decide +kernel

/-- A BOUNDARY in the other states: at a member that knows no leader, one of another leader, at a member refused or splitting off. -/
theorem wit_GroveBoundaries_states :
    (let h := hear 1 (M ((follower).putN Key.groveLeaderPosition 0xFF)); h.n Key.groveState = 2 ∧ h.leaderPos = none) ∧
    (let h := hear 2 (M (follower)); h.n Key.groveState = 2 ∧ h.leaderPos = some 1 ∧ (1 : Fin 8) ≠ 2) ∧
    (hear 1 (M (forming 4 0))).n Key.groveState = 4 ∧
    (let m := M ((leader (us (run0.n Key.groveBoundaryPeriod))).putN Key.groveState 5);
      m.lanesAct = true ∧ m.inGrove = true ∧ (hear 1 m).n Key.groveState = 5 ∧ (hear 1 m).me ≤ 1 ∧ m.grove.tN + m.bp ≤ m.ns ∧
      (bounded m).lanesAct = true ∧ (counted m).inGrove = true ∧ (counted m).n Key.groveState = 5) := by
  decide +kernel

def status1 (hold : Nat) : StatusMsg := { inService := 1, holding := BitVec.ofNat 16 hold, n := 0, lastSeq := 0, limits := Vector.replicate 6 0, speed := 0 }
abbrev kept (st : StatusMsg) (m : Mach) : Mach := (hear 1 m).modMember 1 (fun x => { x with status := some st, missed := 0, suspended := false })

theorem wit_GroveBoundaries_status :
    (let m := M (joinedM {} (leader)); m.lanesAct = true ∧ m.leads = true ∧ m.grove.members[(1 : Fin 8)].joined = true ∧
      (kept { status1 0 with inService := 0 } m).memberWeight 1 = (hear 1 m).memberWeight 1) ∧
    (let m := M (joinedM {} (leader)); let st := { status1 0 with limits := Vector.replicate 6 fOne }; (kept st m).memberWeight 1 ≠ (hear 1 m).memberWeight 1) ∧
    (let m := M (follower 7); m.lanesAct = true ∧ m.fromLeader 1 = true ∧ m.ns ≤ 7 ∧ m.ns > 6) := by
  decide +kernel

/-- A leader with member 1 joined and reached through its East port. -/
def led (x : Member) (n : Nat := 0) (up : Bool := true) : Mach :=
  { joinedM x (leader n) with canopy := #v[{ up := up, neighbour := some 1 }, {}] }

theorem wit_LossesAndHandOver_member :
    (let m := M (led {} 0 false); m.lanesAct = true ∧ m.leads = true ∧ (1 : Fin 8) ≠ m.me ∧ m.grove.members[(1 : Fin 8)].joined = true ∧ bit m.reachable 1 = false) ∧
    (let m := M (led { heard := 0 } (us (run0.n Key.groveBoundaryPeriod))); m.grove.members[(1 : Fin 8)].heard + m.bp ≤ m.ns ∧ bit m.reachable 1 = true) ∧
    (let m := M (led { heard := 1 } (us (run0.n Key.groveBoundaryPeriod))); bit m.reachable 1 = true ∧ m.ns < m.grove.members[(1 : Fin 8)].heard + m.bp) := by
  decide +kernel

def claiming (n : Nat) (g : Grove) (up : Bool := true) : Mach := { follower n with grove := g, canopy := #v[{ up := up, neighbour := some 1 }, {}] }

theorem wit_LossesAndHandOver_claims :
    (let m := M (claiming 0 {} false); m.lanesAct = true ∧ m.follows = true ∧ m.grove.claimAt = none ∧ m.leaderPos = some 1 ∧ bit m.reachable 1 = false) ∧
    (let m := M ((claiming (us (run0.n Key.groveBoundaryPeriod) / 2) { heardN := 4 }).putN Key.groveBoundaryNumber 5);
      m.grove.heardN < m.n Key.groveBoundaryNumber ∧ m.grove.tN + m.bp / 2 ≤ m.ns) ∧
    (let m := M ((claiming 0 { heardN := 5 }).putN Key.groveBoundaryNumber 5); bit m.reachable 1 = true ∧ m.n Key.groveBoundaryNumber ≤ m.grove.heardN) ∧
    ((hear 1 (M (leader))).follows = false ∧ (hear 2 (M (follower))).follows = true ∧ (2 : Fin 8) ≠ (M (follower)).me ∧ (M (leader)).inGrove = true) ∧
    (let m := M (claiming 7 { claimAt := some 7 }); let e := m.modGrove (fun g => { g with claimAt := none });
      m.lanesAct = true ∧ m.follows = true ∧ m.grove.claimAt = some 7 ∧ 7 ≤ m.ns ∧ e.mayLead = true ∧
      ∀ p ∈ positions, e.me ≤ p ∨ e.grove.members[p].claim ≠ some true) ∧
    (M (claiming 6 {})).ns < 7 ∧
    (let m := M ((claiming 7 { claimAt := some 7 } false).modPort 0 (fun x => { x with selfOk := false })); (m.modGrove (fun g => { g with claimAt := none })).mayLead = false) := by
  decide +kernel

theorem wit_LossesAndHandOver_takeover :
    let h := hear 2 (M (follower)); h.lanesAct = true ∧ h.inGrove = true ∧ (2 : Fin 8) ≠ h.me ∧ h.n Key.groveState = 2 ∧ h.me = 0 ∧
    bit (5 : BitVec 8).toNat 0 = true ∧ bit (4 : BitVec 8).toNat 0 = false ∧ (hear 2 (M (forming 1 0))).n Key.groveState = 1 ∧
    (hear 2 (M (leader))).n Key.groveState = 3 ∧ (hear 2 (M ((leader).putN Key.groveState 5))).n Key.groveState = 5 := by
  decide +kernel

def xfer (g a : Bool) : Transfer := { sq := 5, amount := 3, pos := 1, grant := g, asked := a }

theorem wit_TokenTransfers_member :
    (let h := hear 1 (M ((follower).modGrove (fun g => { g with lastSeq := 4, relDone := (4, 2) }))); h.lanesAct = true ∧
      (M ((follower).modGrove (fun g => { g with lastSeq := 4 }))).fromLeader 1 = true ∧ h.grove.lastSeq < 5 ∧ 4 ≤ h.grove.lastSeq ∧
      h.grove.release = none ∧ h.grove.relDone.1 < 5 ∧ 4 = h.grove.relDone.1 ∧ 3 < h.grove.relDone.1) ∧
    (let h := hear 1 (M ((follower).modGrove (fun g => { g with release := some (xfer false false) })));
      h.grove.release = some (xfer false false) ∧ (xfer false false).sq = 5 ∧ (xfer false false).asked = false) := by
  decide +kernel

theorem wit_TokenTransfers_leader :
    (let m := M ((leader 100000).modGrove (fun g => { g with flights := [xfer true false] })); let h := hear 1 m;
      m.lanesAct = true ∧ m.leads = true ∧ h.grove.flights.find? (fun f => f.grant && f.pos == 1 && f.sq == 5) = some (xfer true false) ∧
      m.grove.flights.find? (fun f => (f.sq == 5 && decide (f.sentAt + 100000 ≤ m.ns)) && f.pos != m.me) = some (xfer true false)) ∧
    (hear 1 (M (leader))).grove.flights.find? (fun f => f.grant && f.pos == 1 && f.sq == 5) = none ∧
    5 ≤ (M ((leader).modMember 1 (fun x => { x with lastRel := 5 }))).grove.members[(1 : Fin 8)].lastRel ∧ (M (leader)).grove.members[(1 : Fin 8)].lastRel < 1 := by
  decide +kernel

/-- Holding 3 at member 1, 7 in the pool, 10 in all, audited. -/
def audited (n : Nat) : Mach :=
  ((led { report := some (3, 5), booked := 3 } n).modGrove (fun g => { g with
    auditing := true, snap := (7, 10, 0, 0), snapBook := g.snapBook.set 1 3 }))

theorem wit_AuditAndLeases_audit :
    (let h := hear 1 (M (audited 0)); (M (audited 0)).leads = true ∧ h.grove.auditing = true ∧ h.grove.members[(1 : Fin 8)].joined = true) ∧
    (hear 1 (M (leader))).grove.auditing = false ∧
    (let m := M (audited (us (run0.n Key.groveBoundaryPeriod) / 2));
      m.lanesAct = true ∧ m.leads = true ∧ m.grove.auditing = true ∧ m.grove.snap = (7, 10, 0, 0) ∧ m.grove.tN + m.bp / 2 ≤ m.ns ∧
      10 + 0 = 7 + (positions.map (fun p => (m.auditOf p).1)).sum + (positions.map (fun p => (m.auditOf p).2)).sum + 0 ∧
      (∀ p ∈ positions, (p == m.me || m.grove.members[p].joined) = true → ((m.grove.members[p].report).getD (0, 0)).1 = (m.auditOf p).1)) ∧
    (let m := M (audited (us (run0.n Key.groveBoundaryPeriod) / 2 - 1)); m.ns < m.grove.tN + m.bp / 2) := by
  decide +kernel

/-- Another grove of stand 0. -/
def otherGrove (n : Nat) : Config.GroveSeen := { shaft := 0xFF, stand := 0, grove := n, mac := 0, weight := 1, audited := 0 }
/-- A grove leader of stand 0, its grove 2, that knows some other groves. -/
def stood (n : Nat) (xs : List Config.GroveSeen) : Mach :=
  ((((leader n).putN Key.unitStandNumber 0).putN Key.unitShaftGroupNumber 0xFF).putN Key.unitGroveNumber 2).modGrove (fun g => { g with seen := xs })

theorem wit_AuditAndLeases_leases :
    (let m := M ((follower 7).modGrove (fun g => { g with lease := 7 })); m.lanesAct = true ∧ m.inGrove = true ∧ m.grove.lapsed = false ∧ m.grove.lease ≤ m.ns) ∧
    (let m := M ((follower 6).modGrove (fun g => { g with lease := 7 })); m.ns < m.grove.lease) ∧
    (let m := M ((leader 7).modMember 1 (fun x => { x with expiring := 4, expireAt := 7 }));
      m.leads = true ∧ m.grove.members[(1 : Fin 8)].expiring ≠ 0 ∧ m.grove.members[(1 : Fin 8)].expireAt ≤ m.ns) ∧
    (M ((leader 6).modMember 1 (fun x => { x with expireAt := 7 }))).ns < 7 ∧
    (let m := M (stood (ms (run0.n Key.unitStandLeaseTime)) [otherGrove 1]); m.standRole = 1 ∧ m.grove.renewed.getD 0 + ms (m.n Key.unitStandLeaseTime) ≤ m.ns) ∧
    (let m := M (stood (ms (run0.n Key.unitStandLeaseTime) - 1) [otherGrove 1]); m.ns < m.grove.renewed.getD 0 + ms (m.n Key.unitStandLeaseTime)) ∧
    (M (stood 0 [])).standRole ≠ 1 := by
  decide +kernel

/-- A stand whose leader's grove 2 is the lowest, with grove 9 silent since its lease and 10 ms, and for a nanosecond less. -/
theorem wit_AuditAndLeases_silent :
    (let m := M (stood (ms (run0.n Key.unitStandLeaseTime + 10)) [otherGrove 9]);
      m.lanesAct = true ∧ 2 ≤ m.standRole ∧ (9 : BitVec 8).toNat ≠ m.n Key.unitGroveNumber ∧ 0 + ms (m.n Key.unitStandLeaseTime + 10) ≤ m.ns) ∧
    (let m := M (stood (ms (run0.n Key.unitStandLeaseTime + 10) - 1) [otherGrove 9]);
      m.lanesAct = true ∧ 2 ≤ m.standRole ∧ m.ns < 0 + ms (m.n Key.unitStandLeaseTime + 10)) := by
  decide +kernel

theorem wit_AuditAndLeases_total :
    (let m := M (online run0); m.accepts rq (conn) Key.tokensTotal (beBytes 2 5) (.num 5) ∧ (touch rq m).inGrove = false) ∧
    (touch rq (M (online (leader)))).leads = true ∧
    (let m := M (online (follower)); m.accepts rq (conn) Key.tokensTotal (beBytes 2 5) (.num 5) ∧ (touch rq m).inGrove = true ∧
      (touch rq m).leads = false ∧ (touch rq m).leaderPos = some 1) ∧
    (let n := touch rq (M (online ((follower).putN Key.groveLeaderPosition 0xFF))); n.inGrove = true ∧ n.leads = false ∧ n.leaderPos = none) := by
  decide +kernel
/-! ### Network, connections, sessions -/

/-- All ones: this device. -/
def anyU : BitVec 48 := BitVec.ofNat 48 (2 ^ 48 - 1)
/-- A unit of this grove at a position. -/
def unitAt (p : Nat) (m : Mach) : BitVec 48 :=
  BitVec.ofNat 48 (((((m.n Key.unitShaftGroupNumber * 256 + m.n Key.unitStandNumber) * 256 + m.n Key.unitGroveNumber) * 256 + p) * 256 + 0xFF) * 256 + 0xFF)
def withConn (c : Conn) (m : Mach := run0) : Mach := { m with net := { m.net with conns := [c] } }

theorem wit_ReadsAndWrites_read :
    (let m := M (online run0); m.serves rq (conn) ∧ (touch rq m).place anyU = .here .device) ∧
    (let m := M (online (joinedM {} ((leader).putN Key.groveMemberMap 3))); m.serves rq (conn) ∧ (touch rq m).place (unitAt 1 m) = .member 1) ∧
    (let m := M (online run0); (touch rq m).place (unitAt 9 m) = .nowhere) := by
  decide +kernel

theorem wit_ReadsAndWrites_write :
    ((M run0).lanesAct = true ∧ (M run0).takes rq.src = true ∧ (M run0).connOf rq = none) ∧
    (let c := { conn with answered := some (5, 0, [7]) }; (M (withConn c)).connOf rq = some c ∧ c.answered = some (rq.rid, 0, [7])) ∧
    (let m4 := M (online { run0 with net := { forwarded := List.replicate 4 (rq, 9, 2) } });
      m4.connOf rq = some (conn) ∧ (conn).answered.map (fun a => a.1) ≠ some rq.rid ∧ 4 ≤ m4.outstanding rq.handle) ∧
    (let m := M (online run0); let n := touch rq m;
      m.serves rq (conn) ∧ n.place anyU = .here .device ∧ n.unitTarget .device (Key.pdTxOffset) = .ok Key.pdTxOffset ∧
      n.writeOf Key.pdTxOffset [1] 4 = .error 0x0006 ∧ n.writeOf Key.netConnectionTimeout (beBytes 2 60) 4 = .ok (.num 60) ∧
      (perform rq 4 Key.netConnectionTimeout (.num 60) n).2 = some 0 ∧ Key.netConnectionTimeout ≠ Key.fwActivate ∧
      m.accepts rq (conn) Key.netConnectionTimeout (beBytes 2 60) (.num 60) ∧ Key.netConnectionTimeout / 256 ≠ 0x2840) := by
  decide +kernel

/-- An index the dictionary has not, a sub-index it has not, a read-only entry, and a writable one of role 3 and type UNSIGNED32 with a
range: too short, out of range, in a domain with a commit pending, and good. -/
theorem wit_WriteChecksInOrder :
    (rowsAt (5 / 256) = none) ∧
    (rowsAt (Key.netConnectionTimeout / 256) ≠ none ∧ (Key.netConnectionTimeout / 256 * 256 + 0xEE) % 256 ≠ 0 ∧ rowOf (Key.netConnectionTimeout / 256 * 256 + 0xEE) = none) ∧
    ((rowOf Key.commitStatus).map (fun r => (r.acc, r.ty)) = some (.ro, .u8) ∧ Key.commitStatus % 256 ≠ 0 ∧ rowsAt (Key.commitStatus / 256) ≠ none) ∧
    ((rowOf Key.pdTxOffset).map (fun r => (r.acc, r.ty)) = some (.rw, .u32) ∧ Key.pdTxOffset ≠ Key.safetySealConfirm ∧ writeRole Key.pdTxOffset = 3 ∧
      rowsAt (Key.pdTxOffset / 256) ≠ none ∧ Key.pdTxOffset % 256 ≠ 0 ∧ parseVal .u32 [1] = .error 0x0006 ∧ parseVal .u32 (beBytes 4 99876) = .ok (.num 99876) ∧
      (rowOf Key.pdTxOffset).map (fun r => run0.inRange Key.pdTxOffset r (.num 99876)) = some false ∧
      (rowOf Key.pdTxOffset).map (fun r => run0.inRange Key.pdTxOffset r (.num 99875)) = some true ∧
      run0.held Key.pdTxOffset = false ∧ run0.domOf Key.pdTxOffset = some .network ∧ run0.commitHeld .network = false ∧
      (run0.modDom 5 (fun x => { x with pending := some { target := none, at_ := 0 } })).commitHeld .network = true) ∧
    ((rowOf 0x600003).map (fun r => r.acc) = some .rw ∧ (M { run0 with echo := { state := 2 } }).held 0x600003 = true) := by
  decide +kernel

theorem wit_ForwardingAndIp :
    (let m := M { runAt 7 with net := { forwarded := [(rq, 7, 2)] } }; m.lanesAct = true ∧ m.running = true ∧ m.net.forwarded = [(rq, 7, 2)] ∧ 7 ≤ m.ns) ∧
    (M { runAt 6 with net := { forwarded := [(rq, 7, 2)] } }).ns < 7 ∧ (M (leader)).inGrove = true ∧ (M run0).n Key.netIpAddress = 0 ∧
    (let m := M (run0.putN Key.netIpAddress 0x0A000001); m.n Key.netIpAddress ≠ 0 ∧ (0x0A000001 : BitVec 32).toNat = m.n Key.netIpAddress ∧
      m.lanesAct = true ∧ (0x0A000002 : BitVec 32).toNat ≠ m.n Key.netIpAddress) ∧
    pduMalformed (List.replicate 16 0) = true ∧ pduMalformed ([0, 1, 0, 16] ++ List.replicate 12 0) = false := by
  decide +kernel

def name16 : List Byte := List.replicate 16 0x41
def others (n : Nat) : List Conn := (List.range n).map (fun i => { handle := BitVec.ofNat 16 (i + 1), src := .eth 0 (BitVec.ofNat 48 i) })

theorem wit_ConnectionsAndLogins_connect :
    (∀ n ∈ [7, 8], let m := M { run0 with net := { conns := others n } };
      m.lanesAct = true ∧ m.takes rq.src = true ∧ (∀ c ∈ m.net.conns, sameSource c.src rq.src = false) ∧ m.net.conns.length = n) ∧
    6 < (7 : BitVec 8).toNat ∧ (6 : BitVec 8).toNat ≤ 6 ∧ name16.length = 16 ∧ ([] : List Byte).length ≠ 16 := by
  decide +kernel

theorem wit_ConnectionsAndLogins_login :
    (let m := M (online run0); m.servesPdu rq (conn) ∧ (touch rq m).loginBlocked rq.src = false ∧ (conn).nonce = none) ∧
    (let m := M (online { run0 with net := { blocks := [(.usb, 7)] } }); m.servesPdu rq (conn) ∧ (touch rq m).loginBlocked rq.src = true) ∧
    (0 : BitVec 8).toNat < 1 ∧ 1 ≤ (1 : BitVec 8).toNat ∧ (4 : BitVec 8).toNat ≤ 4 ∧ 4 < (5 : BitVec 8).toNat ∧
    (let m := M (online { runAt 120000000000 with net := { conns := [conn] } }); m.up ≠ none ∧ m.conn? 1 = some (conn) ∧ (conn).src = .usb ∧
      (conn).last + (conn).limit * 1000000000 ≤ m.ns) ∧
    (let m := M (online run0); m.ns < (conn).last + (conn).limit * 1000000000) ∧
    (∀ up ∈ [true, false], let c : Conn := { conn with src := .eth 0 5, last := 1, limit := 120 };
      let m := M { runAt 120000000000 with net := { conns := [c], ports := #v[{ up := up }, {}] } };
      m.conn? 1 = some c ∧ c.src = .eth 0 5 ∧ ¬ c.last + c.limit * 1000000000 ≤ m.ns ∧
      (m.net.ports[(0 : Fin 2)].up = false ∧ m.net.ports[(0 : Fin 2)].downAt + c.limit * 1000000000 ≤ m.ns ↔ up = false)) := by
  decide +kernel

def nonced : Conn := { conn with nonce := some ([1], 0, 3) }

/-- A proof at the end of its 10 s, and one nanosecond later; whatever the keyed hash, one proof is right and another wrong. -/
theorem wit_ConnectionsAndLogins_proof (cred : List Byte) :
    ((M (withConn nonced (runAt 10000000000))).servesPdu rq nonced ∧ (touch rq (M (withConn nonced (runAt 10000000000)))).loginBlocked rq.src = false ∧
      nonced.nonce = some ([1], 0, 3) ∧
      ((touch rq (M (withConn nonced (runAt 10000000000)))).modConn rq.handle (fun c => { c with nonce := none })).ns ≤ 0 + 10000000000 ∧ 3 ≤ 3 ∧
      0 + 10000000000 < (M (withConn nonced (runAt 10000000001))).ns) ∧
    (∃ proof, proof = hmacSha256 cred [1]) ∧ ∃ proof, proof ≠ hmacSha256 cred [1] :=
  ⟨by decide +kernel, ⟨_, rfl⟩, 0 :: hmacSha256 cred [1], List.cons_ne_self _ _⟩

/-- A frame to an address, with its FCS. -/
def frameTo (dst : Nat) : List Byte := let b := beBytes 6 dst ++ List.replicate 60 0; b ++ (beBytes 4 (fcs b).toNat).reverse

def eth (u0 u1 : Bool) (m : Mach := run0) : Mach := { m with net := { m.net with ports := #v[{ up := u0 }, { up := u1 }] } }

theorem wit_PortsAndRing :
    ((M (eth true false)).running = true ∧ (M (eth true false)).net.ports[(0 : Fin 2)].up = true) ∧
    (let m := M ((eth false false).putN (Key.portMode 0) 4); m.speedAllowed 0 1 = false) ∧
    (let m := M (eth false false); m.speedAllowed 0 1 = true) ∧
    (let m := M ((eth false true).putN Key.ringRole 1);
      let e := raiseM 0x64 1 ((m.modEth 0 (fun x => { x with up := true, speed := 1 })).causeGone 0x63 none none 1);
      e.n Key.ringRole = 1 ∧ e.net.ports[0].up = true ∧ e.net.ports[1].up = true) ∧
    (let m := M (eth false false); let e := raiseM 0x64 1 ((m.modEth 0 (fun x => { x with up := true, speed := 1 })).causeGone 0x63 none none 1);
      m.net.ports[(0 : Fin 2)].up = false ∧ m.n Key.supplyStatus / 64 % 4 = 0 ∧ e.n Key.ringRole ≠ 1) ∧
    (let m := M (eth true true); m.net.ports[(0 : Fin 2)].up = true ∧ m.net.ports[other 0].up = true ∧ m.net.ports[(0 : Fin 2)].blocked = false ∧
      m.net.ports[other 0].blocked = false ∧ beNat ((frameTo 5).take 6) ≠ beNat (valBytes (m.val Key.netMacAddress)) ∧ beNat ((frameTo 5).take 6) / 16 ≠ 0x0180C200000 ∧
      fcsOk (frameTo 5) = true ∧ fcsOk (frameTo 5 ++ [0]) = false ∧ fcsOk (frameTo 0x0180C200000E) = true ∧
      beNat ((frameTo 0x0180C200000E).take 6) / 16 = 0x0180C200000 ∧ m.net.ports[(0 : Fin 2)].speed ≠ 2) ∧
    (let m := M { (run0.putN Key.cutThroughEnable 1) with net := { ports := Vector.replicate 2 { up := true, speed := 2 } } };
      m.net.ports[(0 : Fin 2)].speed = 2 ∧ m.net.ports[other 0].speed = 2 ∧ m.b Key.cutThroughEnable = true ∧ m.net.ports[(0 : Fin 2)].blocked = false ∧
      beNat ((frameTo 5 ++ [0]).take 6) ≠ beNat (valBytes (m.val Key.netMacAddress)) ∧ beNat ((frameTo 5 ++ [0]).take 6) / 16 ≠ 0x0180C200000) ∧
    (M (run0.putN Key.ringRole 2)).n Key.ringRole = 2 ∧
    (let m := M ((eth true false).putN Key.ringRole 1); m.n Key.ringRole = 1 ∧ m.net.ports[1].up = false) ∧
    (let m := M (run0.putN Key.usbEnable 1); m.n Key.usbState = 0 ∧ m.b Key.usbEnable = true ∧ m.n Key.supplyStatus / 64 % 4 = 0) ∧
    (let m := M (run0.putN Key.usbState 2); m.n Key.usbState ≠ 0 ∧ ∀ c ∈ m.net.conns, c.src ≠ .usb) := by
  decide +kernel

def clocked (g : Gptp) (st : Nat) (n : Nat := 7) : Mach := { ((runAt n).putN Key.gptpEnable 1).putN Key.gptpState st with net := { gptp := g } }
abbrev synced (m : Mach) : Mach :=
  let n := if m.net.gptp.gm = 5 then m else syncLost m
  let g := n.net.gptp
  let run := decide (g.syncs ≠ 0 ∧ n.ns < g.lastSync + 3 * n.syncInterval ∧ g.lastSync < n.ns)
  let e := n.modNet (fun x => { x with gptp := { x.gptp with
    gm := 5, rateNum := if run then 9 - g.lastTime else 1, rateDen := if run then n.ns - g.lastSync else 1, lastSync := n.ns,
    lastTime := 9, syncs := if run then g.syncs + 1 else 1 } })
  (e.putI 64 Key.gptpOffsetToTimebase ((9 : Int) - n.ns)).put Key.gptpGrandmasterId (.bytes (beBytes 8 (5 : BitVec 64).toNat))

theorem wit_NetworkTime :
    (let m := M (clocked { gm := 5, syncs := 1 } 1); m.running = true ∧ m.b Key.gptpEnable = true ∧ m.net.gptp.gm = 5 ∧ 2 ≤ (synced m).net.gptp.syncs ∧
      (synced m).n Key.gptpState ≠ 2 ∧ (6 : BitVec 64) ≠ m.net.gptp.gm) ∧
    ((synced (M (clocked { gm := 5, syncs := 0 } 1))).net.gptp.syncs < 2 ∧ (synced (M (clocked { gm := 5, syncs := 2 } 2))).n Key.gptpState = 2) ∧
    (M (run0.putN Key.gptpEnable 0)).b Key.gptpEnable = false ∧
    (let m := M ((clocked {} 0).putN Key.gptpPriority1 254); m.b Key.gptpEnable = true ∧ m.net.gptp.gm = 0 ∧ m.n Key.gptpPriority1 < 255) ∧
    (let m := M (clocked { gm := 5 } 2 (3 * run0.syncInterval)); m.n Key.gptpState = 2 ∧ m.net.gptp.lastSync + 3 * m.syncInterval ≤ m.ns) ∧
    (let m := M (clocked { gm := 5 } 2 (3 * run0.syncInterval - 1)); m.ns < m.net.gptp.lastSync + 3 * m.syncInterval) := by
  decide +kernel

/-- Process data owned by the connection, frame 5 taken last, no value mapped. -/
def cyclic (pd : Pd) (st : Nat := 2) (n : Nat := 7) : Mach :=
  online { ((((runAt n).putN Key.pdOwner 1).putN Key.pdState st).putN Key.pdRxMapCount 0).putN Key.pdTxBroadcast 1 with net := { pd := pd } }

theorem wit_ProcessData_frames :
    (let m := M (cyclic { lastRx := some 5 });
      m.lanesAct = true ∧ m.net.conns.find? (fun c => c.handle.toNat == m.n Key.pdOwner && sameSource c.src .usb) = some (conn) ∧ m.net.pd.lastRx = some 5 ∧
      ((m.pdMap Key.pdRxMapCount Key.pdRxMapEntry).map (fun e => tyWidth e.2)).sum = ([] : List Byte).length ∧ m.net.pd.frame = none) ∧
    ((5 : BitVec 16) - 5).toNat = 0 ∧ 1 ≤ ((6 : BitVec 16) - 5).toNat ∧ (BitVec.ofNat 16 32772 - 5).toNat ≤ 32767 ∧ 32767 < (BitVec.ofNat 16 32773 - 5).toNat ∧
    (∀ st ∈ [0, 2], let m := M ((cyclic { cycleAt := 0 } st 1000000).putN Key.pdTxMapCount 0);
      let d := m.modNet (fun n => { n with pd := { n.pd with cycleAt := 1000000 } });
      m.running = true ∧ m.networkDue = some 1000000 ∧ d.lanesAct = true) ∧
    (M (cyclic { cycleAt := 0 } 0 999999)).networkDue = none ∧
    (let m := M { (cyclic { cycleAt := 0 } 0 1000000) with clr := { safeState := true } };
      m.networkDue = some 1000000 ∧ (m.modNet (fun n => { n with pd := { n.pd with cycleAt := 1000000 } })).lanesAct = false) := by
  decide +kernel

theorem wit_ProcessData_rest :
    (let m := M (cyclic { txAt := some 7 }); m.lanesAct = true ∧ m.net.pd.txAt = some 7 ∧ 7 ≤ m.ns ∧
      (m.modNet (fun n => { n with pd := { n.pd with txAt := none } })).b Key.pdTxBroadcast = true) ∧
    (∀ c ∈ [some (conn), some { conn with src := .eth 0 5 }, none],
      let m := M { (cyclic {}).putN Key.pdTxBroadcast 0 with net := { conns := c.toList, pd := { txAt := some 7 } } };
      let e := m.modNet (fun n => { n with pd := { n.pd with txAt := none } });
      m.net.pd.txAt = some 7 ∧ 7 ≤ m.ns ∧ e.b Key.pdTxBroadcast = false ∧ e.conn? (BitVec.ofNat 16 (e.n Key.pdOwner)) = c) ∧
    (M (cyclic {} 2 6)).ns < 7 ∧
    (let m := M (cyclic { missed := run0.n Key.pdTimeout } 1); m.n Key.pdState = 1 ∧ m.n Key.pdTimeout ≤ m.net.pd.missed) ∧
    (let m := M (cyclic { missed := run0.n Key.pdTimeout - 1 } 2); m.n Key.pdState = 2 ∧ m.net.pd.missed < m.n Key.pdTimeout) ∧
    (let m := M (online run0); m.accepts rq (conn) Key.pdControl [1] (.num 1) ∧ (touch rq m).n Key.pdOwner = 0 ∧ (ownerOf rq).toNat ≠ 0 ∧ ownerOf rq ≠ 0xFFFF) ∧
    (let m := M (online (run0.putN Key.pdOwner 2)); m.accepts rq (conn) Key.pdControl [1] (.num 1) ∧ (touch rq m).n Key.pdOwner ≠ 0 ∧
      (touch rq m).n Key.pdOwner ≠ (ownerOf rq).toNat) ∧
    (let m := M (online (run0.putN Key.pdOwner 1)); m.accepts rq (conn) Key.pdControl [0] (.num 0) ∧ (touch rq m).n Key.pdOwner = (ownerOf rq).toNat) := by
  decide +kernel

def open0 (ty total : Nat) : OpenArgs :=
  { ty := BitVec.ofNat 8 ty, target := 1, window := 4, total := BitVec.ofNat 32 total, crc := 0, token := 7, index := 0, sub := 0 }

theorem wit_SessionsRun_open :
    (let m := M (online run0); m.servesPdu rq (conn) ∧ (∀ r ∈ (touch rq m).sess.recent, r.1 ≠ rq.handle ∨ r.2.1 ≠ (open0 1 4).token) ∧ (touch rq m).falling = false ∧
      (touch rq m).openRefusal (open0 1 4) 4 = none ∧ (touch rq m).openRefusal (open0 1 0xFFFFFFFF) 4 = some 0x05) ∧
    (touch rq (M (online { run0 with sleep := { entering := true } }))).falling = true := by
  decide +kernel

/-- A session of four bytes in segments of two, a window of two. -/
def ses0 (ty : Nat) : Session :=
  { sid := 9, conn := 1, ty := ty, target := 1, window := 2, seg := 2, total := 4, crc := crc32c [1, 2, 3, 4], token := 1, opened := 0, last := 0 }
def inSes (x : Session) (n : Nat := 7) : Mach := online { runAt n with sess := { opened := [x] } }

theorem wit_SessionsRun_data :
    (let m := M (inSes (ses0 1)); m.inSession rq 9 (conn) (ses0 1) ∧ (ses0 1).down = true ∧ (ses0 1).ty ≠ 3 ∧
      32768 ≤ (BitVec.ofNat 16 65535 - BitVec.ofNat 16 (ses0 1).e).toNat ∧ (ses0 1).window ≤ ((2 : BitVec 16) - BitVec.ofNat 16 (ses0 1).e).toNat ∧
      ((1 : BitVec 16) - BitVec.ofNat 16 (ses0 1).e).toNat < (ses0 1).window ∧ 2 = ((ses0 1).e + 1) * (ses0 1).seg ∧ 2 + [(3 : Byte), 4].length ≤ (ses0 1).total ∧
      3 ≠ ((ses0 1).e + 1) * (ses0 1).seg ∧ (ses0 1).total < 2 + [(3 : Byte), 4, 5].length) ∧
    (let x := { ses0 2 with content := [1, 2, 3, 4], sentTo := 2, e := 0 }; (M (inSes x)).inSession rq 9 (conn) x ∧ x.down = false ∧
      x.sentTo < (3 : BitVec 16).toNat ∧ (0 : BitVec 16).toNat ≤ x.e ∧ x.e < (1 : BitVec 16).toNat ∧ (1 : BitVec 16).toNat < x.parts ∧
      (2 : BitVec 16).toNat ≤ x.sentTo ∧ x.parts ≤ (2 : BitVec 16).toNat) := by
  decide +kernel

theorem wit_SessionsEnd :
    (let x := { ses0 1 with e := 2, content := [1, 2, 3, 4] }; (M (inSes x)).inSession rq 9 (conn) x ∧ x.down = true ∧ x.segments ≤ x.e ∧ x.committing = false ∧
      crc32c x.content = x.crc ∧ crc32c ([1, 2, 3, 5] : List Byte) ≠ x.crc) ∧
    (ses0 1).e < (ses0 1).segments ∧
    (let m := M (online { run0 with sess := { done := [(9, 1, true)] } }); let n := touch rq m;
      m.servesPdu rq (conn) ∧ (∀ x ∈ n.sess.opened, x.sid ≠ 9 ∧ x.sid ≠ 8) ∧
      n.sess.done.contains (9, rq.handle, true) = true ∧ n.sess.done.contains (8, rq.handle, true) = false ∧
      n.sess.done.any (fun d => d.1 == 9 && d.2.1 == rq.handle) = true ∧ n.sess.done.any (fun d => d.1 == 8 && d.2.1 == rq.handle) = false) ∧
    (let m := M (inSes { ses0 2 with retryAt := 7 }); m.lanesAct = true ∧ m.sessOf 9 = some { ses0 2 with retryAt := 7 } ∧ ({ ses0 2 with retryAt := 7 } : Session).down = false ∧ 7 ≤ m.ns) ∧
    (M (inSes (ses0 2) 6)).ns < 7 ∧
    (let m := M (inSes (ses0 1) (ms (run0.n Key.sessionIdleTimeout))); (ses0 1).last + ms (m.n Key.sessionIdleTimeout) ≤ m.ns) ∧
    (let m := M (inSes (ses0 1) (ms (run0.n Key.sessionIdleTimeout) - 1)); m.ns < (ses0 1).last + ms (m.n Key.sessionIdleTimeout)) := by
  decide +kernel

theorem wit_Firmware :
    (let m := M (online run0); m.accepts rq (conn) Key.fwActivate [0] (.num 0) ∧ (touch rq m).activateOk 0 = true ∧
      m.accepts rq (conn) Key.fwActivate [1] (.num 1) ∧ (touch rq m).activateOk 1 = false ∧
      m.accepts rq (conn) Key.fwConfirm [1] (.num 1) ∧ (touch rq m).fw.trial = false) ∧
    (touch rq (M (online { run0 with fw := { trial := true } }))).fw.trial = true ∧
    (let m := M ((joinedM {} (leader)).modMember 2 (fun x => { x with joined := true })); let e := (hear 1 m).modGrove (fun g => { g with fwValid := setBit g.fwValid 1 true });
      m.lanesAct = true ∧ m.leads = true ∧ e.groveFwDone = false) ∧
    (let m := M ((joinedM {} (leader)).modGrove (fun g => { g with fwValid := 1 }));
      ((hear 1 m).modGrove (fun g => { g with fwValid := setBit g.fwValid 1 true })).groveFwDone = true) := by
  decide +kernel

/-- SHA-256 of "abc", the worked example of FIPS 180-4. -/
theorem test_sha256_abc : sha256 [0x61, 0x62, 0x63] = beBytes 32 0xBA7816BF8F01CFEA414140DE5DAE2223B00361A396177A9CB410FF61F20015AD := by
  decide +kernel

/-- An image without records: its header and its check. -/
def imgHead : List Byte := beBytes 4 0x59565042 ++ beBytes 2 1 ++ [0, 0] ++ beBytes 4 0x2212A101 ++ List.replicate 12 0 ++ beBytes 4 36 ++ List.replicate 4 0
def img0 : List Byte := imgHead ++ beBytes 4 (crc32c imgHead).toNat
/-- Bank 1 holds it. -/
def banked : Mach :=
  let m := run0.nvPut (bankAddr 1 0) img0
  online { m with nv := { m.nv with bank := vmod m.nv.bank 1 (fun _ => some { copy := 0, len := 36, crc := crc32c imgHead }) } }

theorem nothing_fails (m : Mach) (ks : List Nat) (c : Mach) (bad : List Check) (hk : ks = []) (hb : bad = []) (hf : c.liveFits = true) :
    allDoms.find? (fun d =>
      (ks.any (fun k => m.domOf k == some d && (match rowOf k with | some r => !c.inRange k r (c.val k) | none => true))) ||
      bad.any (fun r => r.keys.any (fun k => m.domOf k == some d)) || (d == .device && !c.liveFits)) = none := by
  subst hk hb
  rw [List.find?_eq_none]
  intro d _
  rw [hf]
  rw [List.any_nil, List.any_nil, Bool.not_true, Bool.and_false]
  exact Bool.false_ne_true

theorem failing_none (x : Mach) (h : x.changed (fun _ => true) = [] ∧ (64 * 4096 * 125 + 1000000 : Nat) ≤ x.controlPeriod)
    (hc : (allChecks x x).filter (·.bad) = []) : x.failingDomain = none := by
  obtain ⟨h1, h2⟩ := h
  have hl := maskBlocks_le x
  have hf : x.liveFits = true := by
    simp only [Mach.liveFits, decide_eq_true_eq]; omega
  have hs : x.swapKeys (x.changed (fun _ => true)) = x := by rw [h1]; rfl
  have hc' : (allChecks x (x.swapKeys (x.changed (fun _ => true)))).filter (·.bad) = [] := by rw [hs]; exact hc
  have hf' : (x.swapKeys (x.changed (fun _ => true))).liveFits = true := by rw [hs]; exact hf
  exact nothing_fails x _ _ _ h1 hc' hf'

/-- What an activation of bank 1 loads, and where. -/
abbrev bankedN : Mach := touch rq (M banked)
def bankedVs : List (Nat × Val) :=
  (bankedN.bankLoad img0).filter (fun p => match bankedN.domOf p.1 with | some d => bankedN.activated.contains d | none => true)
def bankedX : Mach := bankedVs.foldl (fun m p => if (m.domOf p.1).isSome then m.putShadow p.1 p.2 else m) bankedN

theorem putShadow_default (m : Mach) (k : Nat) (hs : m.shadow = []) : m.putShadow k (dfltOf k) = m := by
  have h : putAt dfltOf k (dfltOf k) m.shadow = m.shadow := by
    rw [hs]
    exact if_pos rfl
  unfold Mach.putShadow
  rw [h]

theorem defaults_change_nothing (m : Mach) (hs : m.shadow = []) (vs : List (Nat × Val)) (h : ∀ p ∈ vs, p.2 = dfltOf p.1) :
    vs.foldl (fun m p => if (m.domOf p.1).isSome then m.putShadow p.1 p.2 else m) m = m := by
  induction vs with
  | nil => rfl
  | cons p vs ih =>
    rw [List.foldl_cons, h p (List.mem_cons_self ..), putShadow_default m p.1 hs, ite_self]
    exact ih fun q hq => h q (List.mem_cons_of_mem _ hq)

theorem banked_empty : (bankedN.imageValues img0).1 = [] ∧ bankedN.safetyWith img0 = (none, false) ∧ bankedN.shadow = [] := by decide +kernel

theorem loads_defaults (ks : List Nat) (vs : List (Nat × Val)) (hv : vs = []) (p : Nat × Val)
    (hp : p ∈ ks.map (fun k => (k, ((vs.find? (fun p => p.1 == k)).map (·.2)).getD (dfltOf k)))) : p.2 = dfltOf p.1 := by
  subst hv
  obtain ⟨k, _, rfl⟩ := List.mem_map.mp hp
  rfl

theorem bankedX_eq : bankedX = bankedN := by
  obtain ⟨hv, hc, hs⟩ := banked_empty
  refine defaults_change_nothing bankedN hs _ fun p hp => ?_
  have hp := List.mem_append.mp (List.mem_filter.mp hp).1
  rw [hc] at hp
  exact hp.elim (fun h => loads_defaults _ _ hv p h) (fun h => absurd h List.not_mem_nil)

theorem bankedN_changes : bankedN.changed (fun _ => true) = [] ∧ (64 * 4096 * 125 + 1000000 : Nat) ≤ bankedN.controlPeriod := by decide +kernel

theorem bankedN_checks : ((allChecks bankedN bankedN).filter (·.bad)).isEmpty = true := by decide +kernel

theorem wit_BankCommands_activate :
    (M banked).accepts rq (conn) Key.bankActivate [1] (.num 1) ∧ bankedN.drivesOff = true ∧ bankedN.anyCommit = false ∧
    bankedN.bankBytes 1 = some img0 ∧ imageFrameOk img0 = true ∧ bankedX.failingDomain = none ∧ (bankedN.safetyWith img0).2 = false := by
  refine ⟨?_, ?_, ?_, ?_, ?_, by rw [bankedX_eq]; exact failing_none _ bankedN_changes (List.isEmpty_iff.mp bankedN_checks), ?_⟩ <;> decide +kernel

theorem wit_BankCommands :
    (let m := M (online run0); m.accepts rq (conn) Key.bankStore [3] (.num 3) ∧ m.accepts rq (conn) Key.bankErase [0] (.num 0) ∧
      m.accepts rq (conn) Key.bankErase [3] (.num 3) ∧ m.accepts rq (conn) Key.bankRestoreDefaults [1] (.num 1) ∧
      m.accepts rq (conn) Key.bankActivate [3] (.num 3)) ∧
    (let n := touch rq (M (online run0)); n.bankSafetyDiffers 3 = false ∧ n.n Key.safetyState ≠ 1 ∧ n.bankTarget 3 = false ∧ n.nv.stopped = false ∧
      n.n Key.bankActive = 0 ∧ n.drivesOff = true ∧ n.anyCommit = false ∧ (n.bankBytes 3).isNone = true) := by
  decide +kernel

theorem wit_BankCommands_held :
    (let m := M (online ((drive).modDrive 0 (fun d => { d with st := .running }))); m.accepts rq (conn) Key.bankRestoreDefaults [1] (.num 1) ∧
      m.accepts rq (conn) Key.bankActivate [0] (.num 0) ∧ (touch rq m).drivesOff = false) ∧
    (let m := M (online (run0.modDom 0 (fun x => { x with pending := some { target := none, at_ := 0 } })));
      m.accepts rq (conn) Key.bankRestoreDefaults [1] (.num 1) ∧ (touch rq m).drivesOff = true ∧ (touch rq m).anyCommit = true) := by
  decide +kernel

/-- A live safety value that the bank's image, which has no record of it, does not give: a role below 4. -/
theorem wit_BankCommands_safety :
    let m := M { (banked.putN 2162689 1) with net := { banked.net with conns := [conn 3] } };
    m.accepts rq (conn 3) Key.bankStore [1] (.num 1) ∧ (touch rq m).bankSafetyDiffers 1 = true ∧ (conn 3).role < 4 := by
  decide +kernel

/-! ### Supplies, sleep, the Lantern, temperature, the NV memory, starts -/

def volts (a b c : F32) (m : Mach) : Mach := spreadMax (railVolts 2 c (railVolts 1 b (railVolts 0 a m)))

/-- Rails 100 mV apart, and equal; a lane's rail already out of range, and not. -/
theorem wit_LaneAndMainRails :
    (M run0).running = true ∧ (M run0).clr.lanes[(0 : Fin 3)].railOk = true ∧
    (M (run0.modLane 0 (fun x => { x with railOk := false }))).clr.lanes[(0 : Fin 3)].railOk = false ∧
    fgt (volts (fRat 90 100) (fRat 80 100) (fRat 90 100) (M run0)).laneSpread (fRat 50 1000) = true ∧
    fgt (volts (fRat 90 100) (fRat 90 100) (fRat 90 100) (M run0)).laneSpread (fRat 50 1000) = false ∧
    railOut 58 93 (fRat 57 100) = true ∧ railOut 58 93 (fRat 58 100) = false ∧ railOut 58 93 (fRat 93 100) = false ∧ railOut 58 93 (fRat 94 100) = true ∧
    0 + 10000000 ≤ (M (run0.at_ 10000000)).now ∧ (M (run0.at_ 9999999)).now < 0 + 10000000 ∧
    0 + 1000000000 ≤ (M (run0.at_ 1000000000)).now ∧ (M (run0.at_ 999999999)).now < 0 + 1000000000 ∧
    0 + 100000000000 ≤ (M (run0.at_ 100000000000)).now ∧ (M (run0.at_ 99999999999)).now < 0 + 100000000000 ∧
    (railOut 78 93 (fRat 77 100) = true ∧ railOut 78 93 (fRat 78 100) = false ∧ railOut 290 360 (fRat 361 100) = true ∧ railOut 290 360 (fRat 360 100) = false) ∧
    (let m := M ((run0.modLan (fun l => { l with enAt := 0 })).at_ 100000000000); m.lantern.enAt + 100000000000 ≤ m.now) ∧
    (let m := M ((run0.modLan (fun l => { l with retry := true, enAt := 0 })).at_ 10000000000000); m.lantern.retry = true ∧ m.lantern.enAt + 10000000000000 ≤ m.now) ∧
    (let m := M ((run0.modLan (fun l => { l with retry := true, enAt := 0 })).at_ 9999999999999); m.now < m.lantern.enAt + 10000000000000) ∧
    (M run0).up ≠ none ∧ (M {}).up = none ∧ (M {}).lantern.mainEn = true ∧ (M { lantern := { retry := true } }).lantern.retry = true ∧ (M {}).lantern.retry = false := by
  decide +kernel

theorem wit_OtherSupplies :
    (M run0).running = true ∧ (M run0).up ≠ none ∧
    railOut 300 360 (fRat 299 100) = true ∧ railOut 300 360 (fRat 300 100) = false ∧ 0 + 10000000000 ≤ (M (run0.at_ 10000000000)).now ∧
    (M (run0.at_ 9999999999)).now < 0 + 10000000000 ∧ 0 + 10000000 ≤ (M (run0.at_ 10000000)).now ∧ (M (run0.at_ 9999999)).now < 0 + 10000000 ∧
    (∀ k : Fin 2, railOut (phyRange k).1 (phyRange k).2 0 = true ∧ railOut (phyRange k).1 (phyRange k).2 (fRat (phyRange k).1 100) = false) ∧
    flt (fRat 299 100) (fRat 3 1) = true ∧ flt (fRat 3 1) (fRat 3 1) = false ∧ 0 + 2000000 ≤ (M (run0.at_ 2000000)).now ∧ (M (run0.at_ 1999999)).now < 0 + 2000000 ∧
    (let m := M (run0.putN Key.shadeLevel 5); m.up ≠ none ∧ (supplyBit 10 false (supplyBit 9 false m)).shutDown = true) ∧
    (supplyBit 10 false (supplyBit 9 false (M run0))).shutDown = false ∧ (M run0).dieSensorsLost = false ∧
    (M (run0.putN Key.tempSensorBroken 31)).dieSensorsLost = true := by
  decide +kernel

def idle (m : Mach) : Mach := { m with sleep := { m.sleep with idleSince := some 0 } }

/-- Allowed, forbidden by a drive that runs; alone, a leader, a follower; the idle time at its end and one nanosecond before. -/
theorem wit_Sleep :
    (let m := M (online run0); m.accepts rq (conn) Key.powerSleepRequest [1] (.num 1) ∧ (touch rq m).sleep.entering = false ∧
      (touch rq m).sleepBlocked = none ∧ (touch rq m).inGrove = false) ∧
    (let m := M (online ((drive).modDrive 0 (fun d => { d with st := .running }))); m.accepts rq (conn) Key.powerSleepRequest [1] (.num 1) ∧
      (touch rq m).sleep.entering = false ∧ (touch rq m).sleepBlocked = some 2) ∧
    (let m := M (online (follower)); m.accepts rq (conn) Key.powerSleepRequest [1] (.num 1) ∧ (touch rq m).sleep.entering = false ∧
      (touch rq m).sleepBlocked = none ∧ (touch rq m).inGrove = true ∧ (touch rq m).leads = false) ∧
    (let m := M (idle ((runAt 60000000000).putN Key.powerIdleSleepTime 1)); m.lanesAct = true ∧ m.sleep.idleSince = some 0 ∧
      m.n Key.powerIdleSleepTime ≠ 0 ∧ 0 + m.n Key.powerIdleSleepTime * 60000000000 ≤ m.ns) ∧
    (let m := M (idle ((runAt 59999999999).putN Key.powerIdleSleepTime 1)); m.sleep.idleSince = some 0 ∧ m.ns < 0 + m.n Key.powerIdleSleepTime * 60000000000) ∧
    (let m := M (follower); m.lanesAct = true ∧ m.fromLeader 1 = true ∧ m.sleepBlocked = none ∧ m.leads = false) ∧
    (let m := M { (follower) with echo := { state := 2 } }; m.lanesAct = true ∧ m.fromLeader 1 = true ∧ m.sleepBlocked = some 3) ∧
    (let m := M (leader); m.lanesAct = true ∧ m.leads = true) := by
  decide +kernel

/-- A sample of zeros. -/
def x0 : LanternInputs := { tick := 1, a := false, b := false, ain := Vector.replicate 4 0, temp := 0, demand := false, button := false, vbus := false, energy := false }
/-- A rule: enabled, armed always, signal AIN0, at or above 0, held for `hold` samples. -/
def ruleWord (hold : Nat) : Nat := 2 ^ 63 + 2 * 2 ^ 61 + 4 * 2 ^ 56 + hold * 2 ^ 48
def ruled (hold : Nat) : Mach :=
  let m := run0.putN (Key.lanternRule 0) (ruleWord hold)
  { m with lantern := { words := vmod m.lantern.words 0 (fun _ => ruleWord hold) } }

theorem wit_LanternActs_sample :
    (let m := M run0; m.sampleDue x0.tick = true ∧ m.lantern.period = (m.putN Key.lanternTickCount (x0.tick % 2 ^ 64)).n Key.lanternSamplePeriod ∧
      (lanternCount x0.a x0.b (m.putN Key.lanternTickCount (x0.tick % 2 ^ 64))).lantern.samples.length < 2) ∧
    (∀ h ∈ [1, 31], let m := ruled h; let w := m.n (Key.lanternRule 0);
      m.lantern.words[(0 : Fin 16)] = w ∧ m.ruleActive w = true ∧ m.ruleValue (ruleSignal w) = some (0, false) ∧ ruleCompare w = 0 ∧
      fge 0 (ruleThreshold w) = true ∧ m.lantern.milling[(0 : Fin 16)] = false ∧ bit w 46 = false ∧ ruleHold w = h) ∧
    ruleHold (ruleWord 1) ≤ (ruled 1).lantern.holds[(0 : Fin 16)] + 1 ∧ (ruled 31).lantern.holds[(0 : Fin 16)] + 1 < ruleHold (ruleWord 31) ∧
    (ruleFire 0 (ruleWord 1) 0 ((ruled 1).modLan (fun l => { l with
      holds := vmod l.holds 0 (fun n => n + 1), milling := vmod l.milling 0 (fun _ => false) }))).lantern.milling[(0 : Fin 16)] = false := by
  decide +kernel

theorem wit_LanternActs_rest :
    (let m : Mach := { lantern := { asleep := true, mainEn := false } }; m.sleep.entering = false ∧ m.lantern.asleep = true) ∧
    (run0.sleep.entering = false ∧ run0.lantern.asleep = false) ∧
    (M (online run0)).accepts rq (conn) Key.lanternAcknowledge [1] (.num 1) := by
  decide +kernel

/-- VANA in range and out of it; a set whose first channel's sensor is broken and replaced by its second, that one warm for 100 ms, at
neither level, at the warning, and past the trip. -/
def warmed (level want : Nat) (t : Int) : Mach :=
  { ((((((runAt 100000000).putN Key.thermalNtcCrossCheck 0).putR (Key.gateSwitchTempWarn 0) (celsius 100)).putR (Key.gateSwitchTempTrip 0) (celsius 150)).putR
      (Key.gSwitchTemp 1) (celsius t)).putN Key.tempSensorBroken (2 ^ 28)) with
    thermal := { seen := 2 ^ 29, dwells := [(16, { level := level, want := want })] } }
def ntcE (m : Mach) (_ : Int) : Mach := takeReading 28 [] false (m.ntcTemp 0 (fRat 20 1000)) m
def ntcLevel (m : Mach) (t : Int) : Mach × Nat × Nat :=
  level 16 [(ntcE m t).r (Key.gateSwitchTempWarn 0), (ntcE m t).r (Key.gateSwitchTempTrip 0)] (celsius t) (ntcE m t)

theorem wit_Temperatures :
    (let m := M run0; m.running = true ∧ bit (m.n Key.supplyStatus) 5 = false ∧ m.readDue 0 = true ∧ m.readDue 16 = true) ∧
    (M (run0.modThermal (fun x => { x with readAt := [(0, 0)] }))).readDue 0 = false ∧ (bit ((M (supplyBit 5 true run0)).n Key.supplyStatus) 5 = true) ∧
    (flt (fRat 20 1000) (fRat 20 1000) || fgt (fRat 20 1000) (fRat 24 10)) = false ∧ (flt (fRat 24 10) (fRat 20 1000) || fgt (fRat 24 10) (fRat 24 10)) = false ∧
    (let m := M (warmed 0 0 20); m.running = true ∧ (m.setOfCh 0).1 = 0 ∧ m.readDue 28 = true ∧ m.b Key.thermalNtcCrossCheck = false ∧
      (ntcE m 20).hottestSwitch 0 = (0, celsius 20) ∧ (ntcLevel m 20).2 = (0, 0)) ∧
    (let m := M (warmed 0 1 100); m.running = true ∧ (ntcE m 100).hottestSwitch 0 = (0, celsius 100) ∧ (ntcLevel m 100).2 = (0, 1)) ∧
    (let m := M (warmed 1 2 150); m.running = true ∧ (ntcE m 150).hottestSwitch 0 = (0, celsius 150) ∧ (ntcLevel m 150).2 = (1, 2)) := by
  decide +kernel

def jobbed (j : List NvJob) : Mach := { run0 with nv := { jobs := j } }
/-- What a scrub that corrects one word leaves. -/
def scrubbed (m : Mach) : Mach :=
  let x := m.add Key.nvCorrectedCount 1
  ageTick ((x.nvJob (.entry Key.nvCorrectedCount (x.val Key.nvCorrectedCount) .nobody)).each ([] : List Nat) badWord)

/-- A retention all used, and none used. -/
theorem wit_NvRecords :
    (M run0).nv.jobs = [] ∧ (M run0).up ≠ none ∧
    (∀ j ∈ [NvJob.log (List.replicate 64 0), .entry Key.nvCorrectedCount (.num 1) .nobody, .entry Key.nvCorrectedCount (.num 1) (.answer rq), .content 0 [1],
      .area (.bank 0) none .nobody], (M (jobbed [j])).nv.jobs = j :: [] ∧ (M (jobbed [j])).up ≠ none) ∧
    (M run0).running = true ∧ fge (scrubbed (M run0)).nv.retention (fRat 90 1) = false ∧
    (let m := M { run0 with nv := { age := [(5, 10 ^ 20)] } }; let e := scrubbed m;
      m.running = true ∧ fge e.nv.retention (fRat 90 1) = true ∧ (e.putDevice Key.nvRetentionUsed (.num e.nv.retention.toNat)).running = true) := by
  decide +kernel

/-- A start with everything passing or with a lane failed, on position 0 with the switches all off. -/
def bi (ok : Bool := true) : BootInputs :=
  { gpos := 0, dipA := 0, dipB := 15, lanes := #v[true, true, ok], votersOk := ok, bootFwOk := true, buttonClosed := false, readyUs := 1 }
def booted (b : BootInputs) (m : Mach) : Mach :=
  bootJournal (((bootSwitches b { m with lantern := m.lantern.rebase m.now, now := 0 }).putN Key.canopyPosition b.gpos.1).putN Key.timebaseStatus 3)

theorem wit_StartsAndFaultReset :
    (M run0).up ≠ none ∧ (M { lantern := { mainEn := false } }).lantern.mainEn = false ∧
    (let m := M { nv := { slot := #v[some { copy := 0, len := 256, crc := 0 }, none] } }; m.up = none ∧ m.lantern.mainEn = true ∧
      (bootSlot (booted (bi) m)).isNone = true) ∧
    2000000000 ≤ (bi).railsFor ∧ ({ bi with railsFor := 1999999999 } : BootInputs).railsFor < 2000000000 ∧
    (let m := M {}; m.up = none ∧ m.lantern.mainEn = true ∧ bootSlot (booted (bi) m) = some {} ∧ (bi).votersOk = true ∧
      2 ≤ (([0, 1, 2] : List (Fin 3)).filter (fun i => (bi).lanes[i])).length) ∧
    2 ≤ (([0, 1, 2] : List (Fin 3)).filter (fun i => (bi false).lanes[i])).length ∧
    (M (online run0)).accepts rq (conn) Key.faultReset [1] (.num 1) := by
  decide +kernel

/-! ### The block as a whole -/

/-- The main domain runs and the Clearing is in safe state, FAULT_N asserted. -/
def safe : Mach := { run0 with clr := { safeState := true }, faultN := true }

theorem wit_StepRunsTheFrontCommand :
    ({ core := {}, pending := [.deadStateScrub 0] } : Machine.State).pending = .deadStateScrub 0 :: [] ∧ Machine.State.reset.pending = [] ∧
    queueOrdered [Instr.carrierValley 0 0, .deadStateScrub 0, .carrierValley 1000 0] ∧
    step { core := {}, pending := [.carrierValley 0 0, .deadStateScrub 0] } = exec (.carrierValley 0 0) { core := {}, pending := [.deadStateScrub 0] } ∧
    (Instr.carrierValley 0 0).before (.deadStateScrub 0) = true ∧ (Instr.deadStateScrub 0).before (.carrierValley 1000 0) = true := by
  refine ⟨by decide +kernel, by decide +kernel, by unfold queueOrdered; decide +kernel, rfl, by decide +kernel, by decide +kernel⟩

/-- From a sound state a step gives a safe state, an event of class F3, a latched bit: none, and each. -/
theorem wit_FaultNFollowsItsCauses :
    (Machine.State.reset.core.faultSound ∧ step Machine.State.reset = .next Machine.State.reset) ∧
    (let s : Machine.State := { core := safe }; s.core.faultSound ∧ step s = .next s ∧ s.core.clr.safeState = true) ∧
    (let s : Machine.State := { core := { run0 with faultN := true, ev := { active := [{ ev := 0x03, cls := 3, set := none, drv := none, inst := 0, gone := false }] } } };
      s.core.faultSound ∧ step s = .next s ∧ ∃ a ∈ s.core.ev.active, 3 ≤ a.cls) ∧
    (let s : Machine.State := { core := { run0.putN Key.lanternStatus 4 with faultN := true } };
      s.core.faultSound ∧ step s = .next s ∧ bit (s.core.n Key.lanternStatus) 2 = true) := by
  refine ⟨⟨by decide +kernel, rfl⟩, ⟨by decide +kernel, rfl, rfl⟩, ⟨by decide +kernel, rfl, _, List.mem_singleton.mpr rfl, by decide⟩, ⟨by decide +kernel, rfl, by decide +kernel⟩⟩

theorem wit_SafeStateIsSilent :
    ({ core := safe } : Machine.State).core.clr.safeState = true ∧
    (exec (.ainConversion 0 0 0) { core := safe } = .next (State.after { core := safe } 0 (ainConversionEff 0 0 (M safe)))) ∧
    (ainConversionEff 0 0 (M safe)).clr.safeState = true := by
  refine ⟨rfl, rfl, by decide +kernel⟩

theorem wit_MainDomainInReset :
    Machine.State.reset.core.up = none ∧ (Instr.dutyToken 0 0 0 false 0 0).actsInReset = false := by
  decide +kernel

theorem wit_NoLaneActsInSafeState :
    safe.clr.safeState = true ∧ safe.up ≠ some false ∧ (Instr.dutyToken 0 0 0 false 0 0).needsNoLane = false := by
  decide +kernel

/-- An answer made in safe state, and one made in the step that enters it. -/
def answered : Mach := safe.emit (.reply 3 rq 0 [])

theorem wit_WhatFollowsAnEffect :
    (answered.lanesAct = false ∧ ∀ x ∈ answered.sent.drop safe.sent.length, (∀ k, x ≠ .token k) ∧ safe.clr.safeState = true ∧ answered.clr.safeState = true) ∧
    ((∀ x ∈ answered.sent.drop run0.sent.length, ∀ k, x ≠ .token k) ∧ (run0.clr.safeState && answered.clr.safeState) = false) ∧
    ∀ q < 128, Key.commitStatus ≠ Key.queueHighWater q :=
  have h : ∀ x ∈ answered.sent, ∀ k, x ≠ .token k := fun _ hx _ => by rw [List.mem_singleton.mp hx]; exact Sent.noConfusion
  ⟨⟨by decide +kernel, fun x hx => ⟨h x hx, rfl, rfl⟩⟩, ⟨h, by decide +kernel⟩, by decide +kernel⟩

/-- Writes that end and begin at the locked area's ends, and at the memory's; one byte too far each. -/
theorem wit_MramReadsBack :
    Memory.wf (M run0).mram = true ∧ 0x614FFE + [(1 : Byte), 2].length ≤ 0x615000 ∧ (0x620000 ≤ 0x7FFFFE ∧ 0x7FFFFE + [(1 : Byte), 2].length ≤ 0x800000) ∧
    ¬ (0x614FFF + [(1 : Byte), 2].length ≤ 0x615000 ∨ (0x620000 ≤ 0x614FFF ∧ 0x614FFF + [(1 : Byte), 2].length ≤ 0x800000)) ∧
    ¬ (0x61FFFF + [(1 : Byte), 2].length ≤ 0x615000 ∨ (0x620000 ≤ 0x61FFFF ∧ 0x61FFFF + [(1 : Byte), 2].length ≤ 0x800000)) ∧
    ¬ (0x7FFFFF + [(1 : Byte), 2].length ≤ 0x615000 ∨ (0x620000 ≤ 0x7FFFFF ∧ 0x7FFFFF + [(1 : Byte), 2].length ≤ 0x800000)) ∧
    0x614FFE + 2 ≤ 0x620000 := by
  decide +kernel

/-- The window's last nanosecond and the one after. -/
theorem wit_AgreementWindow :
    (rowOf Key.clearingAgreementWindow).isSome = true ∧
    ((M run0).judges .a tok7 ∧ (M run0).clr.votes.find? (fun v => v.vid == tokVote tok7) = none) ∧
    (let v := vote [arr .b tok7]; let m := M (voting v 5000); m.judges .a tok7 ∧ m.clr.votes.find? (fun v => v.vid == tokVote tok7) = some v ∧
      v.arrivals.any (fun x => x.lane == .a) = false ∧ m.ns ≤ v.opened + m.n Key.clearingAgreementWindow) ∧
    (let v := vote [arr .b tok7]; let m := M (voting v 5001); m.judges .a tok7 ∧ m.clr.votes.find? (fun v => v.vid == tokVote tok7) = some v ∧
      v.arrivals.any (fun x => x.lane == .a) = false ∧ v.opened + m.n Key.clearingAgreementWindow < m.ns) := by
  decide +kernel

/-! ### Which commands can occur -/

/-- An instant past the counter, a sequence number of five bytes, a payload of 257 bytes and one of 3, and addresses off the memory and
off its words are refused; the last ones that fit are not. -/
theorem wellFormed_refuses :
    wellFormed (.deadStateScrub (2 ^ 64 * 1000)) = false ∧ wellFormed (.deadStateScrub (2 ^ 64 * 1000 - 1)) = true ∧
    seqOk (2 ^ 32) = false ∧ seqOk (2 ^ 32 - 1) = true ∧ tokensOk (2 ^ 16) = false ∧ tokensOk (2 ^ 16 - 1) = true ∧
    nvWordOk 0x800000 = false ∧ nvWordOk 0x7FFFFC = false ∧ nvWordOk 0x7FFFF8 = true ∧
    wellFormed (.groveCommit 0 .grove (2 ^ 64)) = false ∧ wellFormed (.groveCommit 0 .grove (2 ^ 64 - 1)) = true ∧
    wellFormed (.contentCopyComplete 0 vid1 []) = true ∧
    (let h := fun (n : Nat) => ({ vc := 0, ty := 0, dest := 0, src := 0, sq := 0, hops := 0, ack := 0, nak := false, crVc := 0, credits := 0, len := n } : PacketHeader);
      packetOk (h 257) = false ∧ packetOk (h 260) = false ∧ packetOk (h 3) = false ∧ packetOk (h 256) = true ∧ packetOk (h 0) = true) := by
  decide +kernel

/-- A word spells no command: the table gives its rows no bits. -/
theorem test_table_words : decodeTableWord 32 0 = none ∧ (Machine.State.reset.withFetchWord 32 0).pending = [] := by decide +kernel

end Sys2Proof.Tests
end

section
/-! SUPPORT. What a lane's token does to its vote, case by case, and the settlement of the agreement window (R26, R27). -/

namespace Sys2Proof.Proofs.Lanes

open Sys2Proof.Machine Sys2Proof.Laws

/-! ### The entry 0x2100.01 (R26, R50) -/

/-- The line of R50's table that gives the window's default and range. -/
theorem rowOf_agreementWindow : rowOf Key.clearingAgreementWindow =
    some ⟨0x01, 0x01, .u32, .rw, .control, .bank, true, some (.num 5000), .nat 1000 50000⟩ := by
  decide

/-- The default an entry's line gives is the entry's value when nothing is stored; event classes have a table of their own. -/
theorem dfltOf_of_row {k : Nat} {r : Row} {v : Val} (hk : k / 256 ≠ 0x5800) (hr : rowOf k = some r) (hv : r.dflt = some v) :
    dfltOf k = v := by
  simp [dfltOf, hk, hr, hv]

theorem inRange_nat {m : Mach} {k n lo hi : Nat} {r : Row} (hr : r.rng = .nat lo hi) :
    m.inRange k r (.num n) = true ↔ lo ≤ n ∧ n ≤ hi := by
  simp [Mach.inRange, hr]

/-! ### A judged token (R23, R27) -/

@[simp] theorem reflect_agrees (v : Option Vote) (m : Mach) : reflect .agrees v m = m := by
  simp [reflect]

/-- With the reflection in agreement, the arrival of a judged token is its submission. -/
theorem tokenArrivalEff_of_judges {m : Mach} {l : Lane} {k : Token} (h : m.judges l k) :
    tokenArrivalEff l k .agrees m = submit l k m := by
  obtain ⟨hrun, hsafe, hlane, -, -⟩ := h
  simp [tokenArrivalEff, Mach.lanesAct, hrun, hsafe, hlane]

/-- The first token of a vote opens it. -/
theorem submit_opens {m : Mach} {l : Lane} {k : Token} (h : m.judges l k)
    (hv : m.clr.votes.find? (fun v => v.vid == tokVote k) = none) :
    submit l k m = m.modClr (fun c => { c with
      votes := c.votes ++ [{ vid := tokVote k, arrivals := [m.arrival l k], opened := m.ns }] }) := by
  obtain ⟨hrun, hsafe, hlane, hsus, -⟩ := h
  simp [submit, hrun, hsafe, hlane, hsus, hv, Mach.arrival]

/-- A further lane's token: past the window's end the vote is decided without it, else it joins. The window is the one in
force at the arrival. A signature would be judged for the suspects besides (R28); a judged token is none. -/
theorem submit_of_open {m : Mach} {l : Lane} {k : Token} {v : Vote} (h : m.judges l k)
    (hv : m.clr.votes.find? (fun v => v.vid == tokVote k) = some v) (hl : v.arrivals.any (fun x => x.lane == l) = false) :
    submit l k m = if v.opened + m.window < m.ns then closeVote v (noteSkew v (m.arrival l k) m)
      else arriveOpen v (m.arrival l k) (noteSkew v (m.arrival l k) m) := by
  obtain ⟨hrun, hsafe, hlane, hsus, hty⟩ := h
  have hsig : ¬ ((tokVote k).ty = 7#4) := hty
  simp [submit, hrun, hsafe, hlane, hsus, hv, hl, hsig, Mach.arrival]

theorem submit_inTime {m : Mach} {l : Lane} {k : Token} {v : Vote} (h : m.judges l k) (ht : m.inTime l k v) :
    submit l k m = arriveOpen v (m.arrival l k) (noteSkew v (m.arrival l k) m) := by
  obtain ⟨hv, hl, hw⟩ := ht
  rw [submit_of_open h hv hl, if_neg (Nat.not_lt.mpr hw)]

theorem submit_late {m : Mach} {l : Lane} {k : Token} {v : Vote} (h : m.judges l k)
    (hv : m.clr.votes.find? (fun v => v.vid == tokVote k) = some v) (hl : v.arrivals.any (fun x => x.lane == l) = false)
    (hw : v.opened + m.window < m.ns) :
    submit l k m = closeVote v (noteSkew v (m.arrival l k) m) := by
  rw [submit_of_open h hv hl, if_pos hw]

/-- A judged token with the reflection in agreement answers with the state after its submission. -/
theorem exec_tokenArrival_of_judges {s : Machine.State} {t : Time} {l : Lane} {k : Token} (h : (s.core.at_ t).judges l k) :
    exec (.tokenArrival t l k .agrees) s = .next (s.after t (submit l k (s.core.at_ t))) := by
  rw [exec_tokenArrival, tokenArrivalEff_of_judges h]

/-- Settles O9: the entry's line gives default and range, the cases of a judged token's submission the rest. -/
theorem agreementWindow : Obligations.AgreementWindow := by
  unfold Obligations.AgreementWindow
  refine ⟨dfltOf_of_row (by decide) rowOf_agreementWindow rfl, ?_, ?_⟩
  · intro m r n hr
    obtain rfl : _ = r := Option.some.inj (rowOf_agreementWindow.symm.trans hr)
    exact inRange_nat rfl
  · intro s t l k v m n hj
    refine ⟨fun hv => ?opens, fun hv hl => ⟨fun hw => ?joins, fun hw => ?late⟩⟩
    case opens => rw [exec_tokenArrival_of_judges hj, submit_opens hj hv]
    case joins => rw [exec_tokenArrival_of_judges hj, submit_inTime hj ⟨hv, hl, hw⟩]
    case late => rw [exec_tokenArrival_of_judges hj, submit_late hj hv hl hw]

end Sys2Proof.Proofs.Lanes
end

section
/-! SUPPORT. What a written Sbt.Run comes to, case by case, and the settlement of a brake test's refusals (R285). -/

namespace Sys2Proof.Proofs.BrakeTest

open Sys2Proof.Machine Sys2Proof.Laws

/-! ### The entry Sbt.Run (R288) -/

/-- The entries of a brake's test have an index of their own. -/
theorem sbtRun_index (k : Fin 2) : Key.sbtRun k.1 / 256 = 0x5050 + k.1 := by
  simp only [Key.sbtRun]
  omega

theorem sbtRun_subIndex (k : Fin 2) : Key.sbtRun k.1 % 256 = 6 := by
  simp only [Key.sbtRun]
  omega

theorem sbtRun_ne_of_index {k : Fin 2} {key : Nat} (h : key / 256 < 0x5050 ∨ 0x5051 < key / 256) : Key.sbtRun k.1 ≠ key := by
  rintro rfl
  rw [sbtRun_index] at h
  omega

theorem fin2_val (k : Fin 2) : fin2 k.1 = k := by
  revert k
  decide

/-- A checked write of Sbt.Run asks for the test of its brake; whatever comes of it, the write itself is answered with 0. -/
theorem perform_sbtRun (rq : Req) (role : Nat) (k : Fin 2) (v : Val) (m : Mach) :
    perform rq role (Key.sbtRun k.1) v m = (sbtRunEff k m, some 0) := by
  have hcommit : Key.sbtRun k.1 ≠ Key.commitRequest := sbtRun_ne_of_index (by decide)
  have hstart : Key.sbtRun k.1 ≠ Key.echoStart := sbtRun_ne_of_index (by decide)
  have habort : Key.sbtRun k.1 ≠ Key.echoAbort := sbtRun_ne_of_index (by decide)
  have harm : Key.sbtRun k.1 ≠ Key.captureArm := sbtRun_ne_of_index (by decide)
  have hseal : Key.sbtRun k.1 ≠ Key.safetySealConfirm := sbtRun_ne_of_index (by decide)
  have htest : 0x5050 + k.1 = 0x5050 ∨ 0x5050 + k.1 = 0x5051 := by omega
  simp only [perform, sbtRun_index, sbtRun_subIndex, hcommit, hstart, habort, harm, hseal, htest, if_true, if_false]
  simp [fin2_val]

/-- An accepted write of Sbt.Run has its effect on the touched connection's state and is answered with 0 (R363). -/
theorem exec_sbtRun_of_accepts {s : Machine.State} {t : Time} {rq : Req} {c : Conn} {k : Fin 2} {v : Val}
    (h : (s.core.at_ t).accepts rq c (Key.sbtRun k.1) [1] v) :
    exec (.sbtRun t rq k) s = .next (s.after t (reply 3 rq 0 [] (sbtRunEff k (touch rq (s.core.at_ t))))) := by
  rw [exec_sbtRun, writeHere_accepted h (by rw [sbtRun_index]; omega) (sbtRun_ne_of_index (by decide)) (perform_sbtRun ..)]

/-! ### Refused or started (R285, R288) -/

/-- A refused test leaves its result and does nothing else. -/
theorem sbtRunEff_of_refusal {m : Mach} {k : Fin 2} {code : Nat} (h : m.sbtRefusal k = some code) :
    sbtRunEff k m = m.putDevice (Key.sbtResult k.1) (.num code) := by
  simp [sbtRunEff, h]

/-- A test that nothing refuses and no demand, reaction or lock-out stands against starts. -/
theorem sbtRunEff_of_free {m : Mach} {k d : Fin 2} (h : m.sbtRefusal k = none) (hd : m.driveOfBrake k = some d)
    (hb : m.sbtBlocked d = false) : sbtRunEff k m = sbtStart k m := by
  simp [sbtRunEff, h, hd, hb]

/-! ### The cases of R285, for a brake of a configured drive -/

section
variable {m : Mach} {k d : Fin 2} (hd : m.driveOfBrake k = some d) (hc : m.driveConfigured d = true)
include hd

/-- The drive is not Off. -/
theorem sbtRefusal_of_not_off (hoff : m.drives[d].st ≠ .off) : m.sbtRefusal k = some 0x05 := by
  simp only [Mach.sbtRefusal, hd]
  rw [if_pos (Or.inl hoff)]

include hc

/-- What refuses the test of a drive that is Off: the encoder, then the torque, then the brake itself. -/
theorem sbtRefusal_of_off (hoff : m.drives[d].st = .off) :
    m.sbtRefusal k =
      if (m.setsOf d).any m.encValid = false then some 0x04
      else if fgt (m.sbtTorque k) (fsum ((m.setsOf d).map m.torqueAtLimit)) = true then some 0x06
      else if m.safety.brakes[k].verified = false ∨ m.safety.brakes[k].hs = true ∨ m.safety.brakes[k].ls = true then some 0x07
      else none := by
  simp only [Mach.sbtRefusal, hd, hc, hoff, ne_eq, not_true_eq_false, Bool.not_true, Bool.false_eq_true, or_self, if_false,
    Bool.not_eq_true']

variable (hoff : m.drives[d].st = .off)
include hoff

/-- No set of the drive has a valid encoder. -/
theorem sbtRefusal_of_no_encoder (henc : (m.setsOf d).any m.encValid = false) : m.sbtRefusal k = some 0x04 := by
  rw [sbtRefusal_of_off hd hc hoff, if_pos henc]

variable (henc : (m.setsOf d).any m.encValid = true)
include henc

/-- The test torque exceeds what CurrentLimit allows the drive's sets. -/
theorem sbtRefusal_of_torque (hq : fgt (m.sbtTorque k) (fsum ((m.setsOf d).map m.torqueAtLimit)) = true) :
    m.sbtRefusal k = some 0x06 := by
  rw [sbtRefusal_of_off hd hc hoff, if_neg (by simp [henc]), if_pos hq]

variable (hq : fgt (m.sbtTorque k) (fsum ((m.setsOf d).map m.torqueAtLimit)) = false)
include hq

/-- The brake has not been verified applied (R283): without the check, or with one of its switches closed. -/
theorem sbtRefusal_of_unverified
    (hv : m.safety.brakes[k].verified = false ∨ m.safety.brakes[k].hs = true ∨ m.safety.brakes[k].ls = true) :
    m.sbtRefusal k = some 0x07 := by
  rw [sbtRefusal_of_off hd hc hoff, if_neg (by simp [henc]), if_neg (by simp [hq]), if_pos hv]

/-- A brake verified applied, of a drive that is Off, has an encoder and can bring up the torque, may be tested. -/
theorem sbtRefusal_eq_none (hv : m.safety.brakes[k].verified = true) (hhs : m.safety.brakes[k].hs = false)
    (hls : m.safety.brakes[k].ls = false) : m.sbtRefusal k = none := by
  rw [sbtRefusal_of_off hd hc hoff, if_neg (by simp [henc]), if_neg (by simp [hq]), if_neg (by simp only [hv, hhs, hls]; decide)]

end

/-- Settles O39: an accepted Sbt.Run comes to its effect, and each case of R285 to the refusal with its code. -/
theorem brakeTestRefusals : Obligations.BrakeTestRefusals := by
  unfold Obligations.BrakeTestRefusals
  intro s t rq c k d m n refused hacc hd hc
  have hexec := exec_sbtRun_of_accepts hacc
  have refusedBy (code : Nat) (h : n.sbtRefusal k = some code) : refused code :=
    hexec.trans (by rw [sbtRunEff_of_refusal h])
  refine ⟨fun hoff => ?running, fun hoff henc => ?encoder, fun hoff henc => ⟨fun hq => ?torque, fun hq hv => ?unverified,
    fun hq hv hhs hls hfree => ?starts⟩⟩
  case running => exact refusedBy _ (sbtRefusal_of_not_off hd hoff)
  case encoder => exact refusedBy _ (sbtRefusal_of_no_encoder hd hc hoff henc)
  case torque => exact refusedBy _ (sbtRefusal_of_torque hd hc hoff henc hq)
  case unverified => exact refusedBy _ (sbtRefusal_of_unverified hd hc hoff henc hq hv)
  case starts => rw [hexec, sbtRunEff_of_free (sbtRefusal_eq_none hd hc hoff henc hq hv hhs hls) hd hfree]

end Sys2Proof.Proofs.BrakeTest
end

section
/-! SUPPORT. FAULT_N at the end of every step, and the settlement of its invariant (R41, R427, R450). -/

namespace Sys2Proof.Proofs.FaultN

open Sys2Proof.Machine Sys2Proof.Laws

/-! ### What asks for FAULT_N (R41, R427, R443, R450) -/

theorem faultWanted_iff (m : Mach) : m.faultWanted = true ↔
    m.clr.safeState = true ∨ (∃ a ∈ m.ev.active, 3 ≤ a.cls) ∨ bit (m.n Key.lanternStatus) 2 = true ∨ m.up = some false := by
  simp [Mach.faultWanted, or_assoc]

/-- None of the causes is the pin itself. -/
@[simp] theorem faultWanted_faultFollows (m : Mach) : (faultFollows m).faultWanted = m.faultWanted := rfl

@[simp] theorem faultN_faultFollows (m : Mach) : (faultFollows m).faultN = m.faultWanted := rfl

section
variable {m : Mach} (h : m.faultSound)
include h

theorem faultN_of_safeState (hs : m.clr.safeState = true) : m.faultN = true :=
  h.trans ((faultWanted_iff m).mpr (.inl hs))

theorem faultN_of_active {a : Active} (ha : a ∈ m.ev.active) (hc : 3 ≤ a.cls) : m.faultN = true :=
  h.trans ((faultWanted_iff m).mpr (.inr (.inl ⟨a, ha, hc⟩)))

theorem faultN_of_lanternLatch (hb : bit (m.n Key.lanternStatus) 2 = true) : m.faultN = true :=
  h.trans ((faultWanted_iff m).mpr (.inr (.inr (.inl hb))))

end

/-! ### What a step can do -/

/-- The pin is set last of all that follows an effect, from the state that all the rest left. -/
theorem settle_faultSound (old m : Mach) : (settle old m).faultSound := by
  simp only [Mach.faultSound, settle, faultN_faultFollows, faultWanted_faultFollows]

/-- Every command completes, in the state after its own effect: by its definition, each of the 260 runs that effect at its instant. -/
theorem exec_eq_after_effect (c : Instr) (s : Machine.State) :
    exec c s = .next (s.after c.time (c.effect (s.core.at_ c.time))) := by
  cases c <;> rfl

/-- A step leaves a waiting block as it is, or ends in the state after the front command's effect. -/
theorem step_next_cases {s s' : Machine.State} (h : step s = .next s') :
    s.pending = [] ∧ s' = s ∨
    ∃ c rest, s.pending = c :: rest ∧ s' = State.after { s with pending := rest } c.time (c.effect (s.core.at_ c.time)) := by
  cases hp : s.pending with
  | nil =>
    simp only [step, hp, Host.Outcome.next.injEq] at h
    exact .inl ⟨rfl, h.symm⟩
  | cons c rest =>
    simp only [step, hp, exec_eq_after_effect, Host.Outcome.next.injEq] at h
    exact .inr ⟨c, rest, rfl, h.symm⟩

theorem step_keeps_faultSound {s s' : Machine.State} (hs : s.core.faultSound) (h : step s = .next s') : s'.core.faultSound := by
  obtain ⟨-, rfl⟩ | ⟨c, rest, -, rfl⟩ := step_next_cases h
  · exact hs
  · exact settle_faultSound _ _

/-- Settles O4: every step ends with FAULT_N set from its causes, or changes nothing; each of the three is such a cause. -/
theorem faultNFollowsItsCauses : Obligations.FaultNFollowsItsCauses := by
  unfold Obligations.FaultNFollowsItsCauses
  intro s s' hs hstep
  have hs' : s'.core.faultSound := step_keeps_faultSound hs hstep
  exact ⟨hs', faultN_of_safeState hs', fun _ => faultN_of_active hs', faultN_of_lanternLatch hs'⟩

end Sys2Proof.Proofs.FaultN
end

section
/-! SUPPORT. What every step keeps or leaves: the queue's order, which commands act without the lanes, and the settlement of the
statements on the block as a whole (R31, R41, R434, R442, R450). -/

namespace Sys2Proof.Proofs.Block

open Sys2Proof.Machine Sys2Proof.Laws Sys2Proof.Proofs.FaultN

/-! ### The guards of the effects (R41, R442) -/

theorem lanesAct_iff (m : Mach) : m.lanesAct = true ↔ m.running = true ∧ m.clr.safeState = false := by
  simp [Mach.lanesAct]

theorem whenUp_running {m : Mach} (h : m.running = true) (f : Mach → Mach) : whenUp f m = f m := if_pos h

theorem whenUp_down {m : Mach} (h : m.running = false) (f : Mach → Mach) : whenUp f m = m := if_neg (by simp [h])

theorem whenLanes_act {m : Mach} (h : m.lanesAct = true) (f : Mach → Mach) : whenLanes f m = f m := if_pos h

theorem whenLanes_idle {m : Mach} (h : m.lanesAct = false) (f : Mach → Mach) : whenLanes f m = m := if_neg (by simp [h])

theorem running_of_lanesAct {m : Mach} (h : m.lanesAct = true) : m.running = true := ((lanesAct_iff m).mp h).1

theorem safeState_of_lanesAct {m : Mach} (h : m.lanesAct = true) : m.clr.safeState = false := ((lanesAct_iff m).mp h).2

section
variable {m : Mach} (hl : m.lanesAct = false)
include hl

theorem serve_idle (kind : Nat) (rq : Req) (f : Conn → Mach → Mach) : serve kind rq f m = m := whenLanes_idle hl _

theorem writeHere_idle (rq : Req) (k : Nat) (b : List Byte) : writeHere rq k b m = m := serve_idle hl _ _ _

variable (hb : m.bootServes = false)
include hb

theorem servePdu_idle (kind : Nat) (rq : Req) (f : Conn → Mach → Mach) : servePdu kind rq f m = m := if_neg (by simp [hl, hb])

/-- Where neither the lanes act nor the boot firmware serves, a command of the lanes does nothing (R41; log entry 10). -/
theorem effect_eq_self_of_idle (c : Instr) (hc : c.needsNoLane = false) : c.effect m = m := by
  have hl' : ¬ m.lanesAct = true := by simp [hl]
  have hs' : ¬ (m.lanesAct || m.bootServes) = true := by simp [hl, hb]
  cases c
  case tokenArrival => simp [Instr.effect, tokenArrivalEff, hl]
  case agreementWindowClose => simp [Instr.effect, agreementWindowCloseEff, hl]
  case contentCopyComplete => simp [Instr.effect, contentCopyCompleteEff, hl]
  case resyncFailed => simp [Instr.effect, resyncFailedEff, hl]
  case signatureComplete => simp [Instr.effect, signatureCompleteEff, hl]
  case dutyToken => simp [Instr.effect, dutyTokenEff, hl]
  case swapForced => simp [Instr.effect, swapForcedEff, hl]
  case connect => simp [Instr.effect, connectEff, hl, hb]
  case safeOutputToken | switchRelease | offWithOffProfile | softOff | staticOn | duskInjection05Ma | duskInjection2Ma | duskInjectionStop
    | clearFaultLatches | resetAdaptedProfile | invalidCommand | sampleArrival | computationComplete | outerComputationComplete |
    pulseEnable | groveCommitPrepare | prepareAnswer | prepareTimeout | groveCommit | prepareLapse | fastComparatorTrip |
    leverTrackDiscrepancy | leverPairAgreed | echoSettleEnd | echoPointComplete | echoStep | echoDurationEnd | reacquireTimeout |
    speedMeasurementDone | probeScanDone | remeasure | startWaitExpired | polarityPulseEnd | neutralPointDeviation | preTorqueHeld |
    leverNeutralAccepted | referenceTimeout | phaseBackSlow | shockHoldEnd | shockRecoveryEnd | motionRecord | motionReferenceLost |
    heaveFadeEnd | quickReleaseDemand | quickReleaseEnd | regenerationShortfall | setConfirmedOff | retryWaitEnd | duskStepEnd |
    safeInputDiscrepancy | stoReleaseStep | stoDischargeTimeout | stoFeedbackDeviation | ss1Standstill | ss1TimeElapsed |
    brakeApplyTimeEnd | brakeReleaseCheck | brakeHoldFault | brakeOvercurrent | brakeApplyCheck | brakeSwitchTest | brakeTestPulseEnd |
    sbtPhaseEnd | sbtDue | brakeTestOverdue | resetHeld | sealConfirmationExpired | isfTimeout | isfProducerCycle | groveStopLineFault |
    groveStopLineTestStep | hello | helloTimer | formTimeExpiry | joinReq | joinAnswer | joinRetry | boundary | status | memberLost |
    leaderLost | claim | claimWindowEnd | takeover | share | grant | grantAck | releaseReq | release | releaseAck | transferResend |
    auditReport | auditDeadline | leaseExpiry | expiringTokensReturn | standLeaseExpiry | forwardedRequest | forwardTimeout | processData
    | pdTransmit | processDataTimeout | arpRequest | icmpEcho | idleSleepTimeout | fallbackSwitchesChanged | standSilentGroveReassign |
    groveSleepOrder | groveSleepRefusal | groveFirmwareSlotValid =>
    exact if_neg hl'
  case commitNextBoundary | commitAtBoundary | discardShadowBank | histogramClear | historyReset | echoStart | echoAbort | captureArm |
    commandRun | commandStop | wrapsSet | directEnable | duskRun | sbtRun | sealConfirm | tokensTotalWrite | pdControl | read | write |
    fwActivate | fwConfirm | bankStore | bankActivate | bankRestoreDefaults | bankErase | entryWrite | sleepRequest | lanternAcknowledge |
    faultReset =>
    exact serve_idle hl _ _ _
  case loginStep1 | loginStep2 | logout | sessionOpen | sessionData | sessionAck | sessionNak | sessionFinish | sessionAbort =>
    exact servePdu_idle hl hb _ _ _
  case sessionRetryTimeout | sessionIdleTimeout =>
    exact if_neg hs'
  all_goals cases hc

end

/-- In reset the commands that need no lane, but those of the Lantern, the turn-off, the voters and the start, do nothing either
(log entry 10). -/
theorem effect_eq_self_of_reset {m : Mach} (hu : m.up = none) (c : Instr) (hc : (!c.actsInReset && c.needsNoLane) = true) : c.effect m = m := by
  have hr : m.running = false := by simp [Mach.running, hu]
  have hr' : ¬ m.running = true := by simp [hr]
  have hb : m.bootServes = false := by simp [Mach.bootServes, hu]
  cases c
  case safeOutputWatchdog => simp [Instr.effect, safeOutputWatchdogEff, hr]
  case carrierValley => simp [Instr.effect, carrierValleyEff, hr]
  case carrierPeak => simp [Instr.effect, carrierPeakEff, hr]
  case loginBlockEnd => simp [Instr.effect, loginBlockEndEff, hu]
  case connectionTimeout => simp [Instr.effect, connectionTimeoutEff, hu]
  case usbAttach => simp [Instr.effect, usbAttachEff, hr, hb]
  case usbDetach => simp [Instr.effect, usbDetachEff, hu]
  case mainRailFault => simp [Instr.effect, mainRailFaultEff, hu]
  case powerFail => simp [Instr.effect, powerFailEff, hu]
  case nvRecordComplete => simp [Instr.effect, nvRecordCompleteEff, hu]
  case nvScrub => simp [Instr.effect, nvScrubEff, hu]
  case powerFailReleased => simp [Instr.effect, powerFailReleasedEff, hu]
  case inputFanoutDelivery | laneSelfDissent | controlCycleBoundary | deadStateScrub | pllLockLoss | lanternRateCheck | lanternTickMissing
    | legEdge | deadTimeElapsed | modulatorStreamDead | modulatorStreamRestored | terminalMeasurementDone | indexPulse | positionWireBreak
    | positionCountError | resolverExcitationOpen | resolverTrackingLoss | excitationSettleEnd | ainConversion | dutyStall |
    uplinkStatusFrame | downlinkLoss | uplinkLoss | channelUplinkTimeout | channelConfiguration | edgeMeasurement | didtTrip |
    integratorTrip | desaturationTrip | gateOffConfirmed | legInterlockFault | ntcConversion | safeInputChannelDemand |
    safeInputChannelClear | safeInputStateKnown | stoFeedDischarged | rstbtnDebounced | isfFrame | groveStopDemand | emptyPacket |
    emptyPacketTimer | linkNak | replayTimeout | forwardedPacket | canopyLaneDown | canopyPortDown | canopyPortUp | portSelfCheck |
    groveBoundary | linkState | sync | linkDelayTimer | delayRequest | delayResponse | ethernetPortDown | ethernetPortUp | frameForward |
    mrpFrame | gptpSync | gptpSyncTimeout | gateControlChange | networkBoundary | malformedPdu | laneSupplyFault | laneRailRestored |
    laneRailMismatch | analogSupplyFault | analogSupplyRestored | phySupplyFault | temperatureReading | groveStopLinesReleased |
    gptpAnnounce | phySupplyRestored =>
    exact if_neg hr'
  all_goals cases hc

/-- Settles O6: a command of the lanes needs them, every other one that cannot act in reset needs the domain or its start. -/
theorem whoActsWithoutLanes : Obligations.WhoActsWithoutLanes := by
  unfold Obligations.WhoActsWithoutLanes
  refine ⟨fun s c hu hc => ?_, fun s c hs hu hc => ?_⟩
  · rw [exec_eq_after_effect]
    have hu' : (s.core.at_ c.time).up = none := hu
    congr 2
    by_cases hn : c.needsNoLane = true
    · exact effect_eq_self_of_reset hu' c (by simp [hc, hn])
    · exact effect_eq_self_of_idle (by simp [Mach.lanesAct, Mach.running, hu]) (by simp [Mach.bootServes, hu]) c (by simpa using hn)
  · rw [exec_eq_after_effect, effect_eq_self_of_idle (by simp [Mach.lanesAct, hs]) (by simp [Mach.bootServes, hu]) c hc]

/-! ### What is sent leaves the Clearing alone (R20) -/

/-- A whole list's sending keeps what each element's keeps. -/
theorem foldl_keeps {α : Type} (P : Mach → Prop) (f : Mach → α → Mach) (xs : List α) (m : Mach) (hf : ∀ m, ∀ x ∈ xs, P m → P (f m x))
    (h : P m) : P (xs.foldl f m) := by
  induction xs generalizing m with
  | nil => exact h
  | cons x xs ih => exact ih _ (fun m y hy => hf m y (List.mem_cons_of_mem _ hy)) (hf m x (List.mem_cons_self ..) h)

@[simp] theorem clr_nvJob (m : Mach) (j : NvJob) : (m.nvJob j).clr = m.clr := by
  unfold Mach.nvJob
  split <;> rfl

@[simp] theorem clr_portSend (p : Fin 2) (x : Packet) (own : Bool) (m : Mach) : (portSend p x own m).clr = m.clr := by
  unfold portSend
  dsimp only
  split
  · rfl
  · split <;> rfl

@[simp] theorem clr_canopySend (d : Option (Fin 8)) (vc : Fin 8) (ty : Nat) (b : List Byte) (m : Mach) :
    (canopySend d vc ty b m).clr = m.clr := by
  unfold canopySend
  split
  · rfl
  · cases d with
    | some p => dsimp only; split <;> simp
    | none => dsimp only; split <;> split <;> simp

@[simp] theorem clr_serviceSend (d : Option (Fin 8)) (vc : Fin 8) (b : List Byte) (m : Mach) : (serviceSend d vc b m).clr = m.clr :=
  foldl_keeps (fun x => x.clr = m.clr) _ _ m (fun x _ _ h => by simpa using h) rfl

@[simp] theorem clr_ownFrame (p : Fin 2) (off : Nat) (f : List Byte) (m : Mach) : (ownFrame p off f m).clr = m.clr := by
  simp only [ownFrame, apply_ite Mach.clr, emit_clr, Mach.modEth, ite_self]

@[simp] theorem clr_pduTo (src : Source) (off : Nat) (b : List Byte) (m : Mach) : (pduTo src off b m).clr = m.clr := by
  cases src with
  | eth p mac => simp [pduTo]
  | udp ip port via => simp only [pduTo]; split <;> simp
  | usb => simp [pduTo]
  | canopy p => simp [pduTo]

@[simp] theorem clr_frameContent (d : Nat) (f : List Byte) (m : Mach) : (frameContent d f m).clr = m.clr := by
  unfold frameContent
  split
  · simp
  · split
    · exact foldl_keeps (fun x => x.clr = m.clr) _ _ m (fun x _ _ h => by simpa using h) rfl
    · rfl

@[simp] theorem clr_recordContent (b : List Byte) (m : Mach) : (recordContent b m).clr = m.clr := by
  unfold recordContent
  dsimp only
  split
  · simp
  · split <;> simp
  · split
    · split <;> simp
    · rfl
  · rfl

@[simp] theorem clr_linkContent (d : BitVec 16) (b : List Byte) (m : Mach) : (linkContent d b m).clr = m.clr := by
  unfold linkContent
  split <;> simp

@[simp] theorem clr_notify (r : List Byte) (m : Mach) : (notify r m).clr = m.clr :=
  foldl_keeps (fun x => x.clr = m.clr) _ _ m (fun x _ _ h => by simpa using h) rfl

@[simp] theorem clr_sendOne (x : Sent) (m : Mach) : (sendOne x m).clr = m.clr := by
  cases x with
  | content ty dest b => simp only [sendOne]; split <;> [simp; (split <;> simp)]
  | reply kind rq st b => simp [sendOne]
  | note r => simp [sendOne]
  | _ => rfl

@[simp] theorem clr_sendOut (old m : Mach) : (sendOut old m).clr = m.clr :=
  foldl_keeps (fun x => x.clr = m.clr) _ _ m (fun x _ _ h => by simpa using h) rfl

/-- What needs no vote was sent by hardware already; nothing more is done about it. -/
theorem sendOne_of_unvoted {x : Sent} (h : x.voted = false) (m : Mach) : sendOne x m = m := by
  cases x with
  | content | reply | note => cases h
  | _ => rfl

theorem sendOut_of_unvoted {old m : Mach} (h : ∀ x ∈ m.sent.drop old.sent.length, x.voted = false) : sendOut old m = m :=
  foldl_keeps (fun x => x = m) _ _ m (fun n x hx hn => by rw [sendOne_of_unvoted (h x hx), hn]) rfl

/-! ### Queue.HighWater and FAULT_N at the end of a step (R450, R457) -/

/-- High-water marks change entries alone, and of those only the queues' own. -/
structure MarksOnly (m n : Mach) : Prop where
  rest : ∃ lv, n = { m with live := lv }
  val : ∀ k, (∀ q, q < 128 → k ≠ Key.queueHighWater q) → n.val k = m.val k

theorem queueFill_lt {m : Mach} {x : Nat × Nat} (h : x ∈ m.queueFill) : x.1 < 128 := by
  simp only [Mach.queueFill, List.mem_append, List.mem_flatMap, List.mem_map, List.mem_cons, List.not_mem_nil, or_false] at h
  obtain (((⟨p, -, o, ho, rfl⟩ | ⟨p, -, v, -, rfl⟩) | h) | ⟨y, -, rfl | rfl⟩) := h
  · have := List.mem_range.mp ho
    dsimp only
    omega
  · dsimp only
    omega
  · rcases h with rfl | rfl | rfl | rfl <;> simp
  · dsimp only
    omega
  · dsimp only
    omega

theorem marksOnly_highWater (m : Mach) : MarksOnly m (highWater m) := by
  unfold highWater
  split
  · refine foldl_keeps (MarksOnly m) _ _ m (fun n x hx hn => ?_) ⟨⟨m.live, rfl⟩, fun _ _ => rfl⟩
    obtain ⟨⟨lv, hlv⟩, hval⟩ := hn
    have hq := queueFill_lt (List.mem_filter.mp hx).1
    refine ⟨⟨_, by rw [hlv]; rfl⟩, fun k hk => ?_⟩
    rw [Mach.putN, val_put_other _ _ (hk _ hq), hval k hk]
  · exact ⟨⟨m.live, rfl⟩, fun _ _ => rfl⟩

theorem faultWanted_highWater (m : Mach) : (highWater m).faultWanted = m.faultWanted := by
  obtain ⟨⟨lv, hlv⟩, hval⟩ := marksOnly_highWater m
  have hn : (highWater m).n Key.lanternStatus = m.n Key.lanternStatus := by
    rw [Mach.n, Mach.n, hval]
    intro q _
    simp only [Key.lanternStatus, Key.queueHighWater]
    omega
  simp only [Mach.faultWanted, hn]
  rw [hlv]

/-! ### What follows an effect (R20, R41) -/

theorem deliver_of_no_token {old m : Mach} (h : ∀ x ∈ m.sent.drop old.sent.length, ∀ k, x ≠ .token k) : deliver old m = m := by
  refine foldl_keeps (fun n => n = m) _ _ m (fun n x hx hn => ?_) rfl
  cases x with
  | token k => exact absurd rfl (h _ hx k)
  | _ => exact hn

/-- Where the lanes do not act, none of their steps follows. -/
theorem follows_of_idle {old m : Mach} (h : m.lanesAct = false) :
    sleepFalls (safeWordFollows old (lanesProgress m)) = m := by
  simp [sleepFalls, safeWordFollows, lanesProgress, h]

theorem muteSafe_of_loud {old m : Mach} (h : (old.clr.safeState && m.clr.safeState) = false) : muteSafe old m = m := by
  simp [muteSafe, h]

theorem muteSafe_eq (old m : Mach) : ∃ snt, muteSafe old m = { m with sent := snt } := by
  unfold muteSafe
  split
  · exact ⟨_, rfl⟩
  · exact ⟨m.sent, rfl⟩

theorem muteSafe_sent {old m : Mach} (ho : old.clr.safeState = true) (hm : m.clr.safeState = true) :
    (muteSafe old m).sent = old.sent ++ (m.sent.drop old.sent.length).filter (fun x => !x.voted) := by
  simp [muteSafe, ho, hm]

/-- After the muting nothing voted is left to be sent: it was dropped, or there was none. -/
theorem sendOut_muteSafe {old m : Mach}
    (h : (old.clr.safeState && m.clr.safeState) = false → ∀ x ∈ m.sent.drop old.sent.length, x.voted = false) :
    sendOut old (muteSafe old m) = muteSafe old m := by
  refine sendOut_of_unvoted fun x hx => ?_
  by_cases hs : (old.clr.safeState && m.clr.safeState) = true
  · simp only [Bool.and_eq_true] at hs
    rw [muteSafe_sent hs.1 hs.2, List.drop_left] at hx
    simpa using (List.mem_filter.mp hx).2
  · rw [muteSafe_of_loud (by simpa using hs)] at hx
    exact h (by simpa using hs) x hx

/-- The Clearing in safe state before and after: what the step adds to what was sent needs no vote. -/
theorem settle_sent_of_safe {old m : Mach} (ho : old.clr.safeState = true) (hs : (settle old m).clr.safeState = true) :
    ∃ l, (settle old m).sent = old.sent ++ l ∧ ∀ x ∈ l, x.voted = false := by
  obtain ⟨n, hn⟩ : ∃ n, n = sleepFalls (safeWordFollows old (lanesProgress (deliver old m))) := ⟨_, rfl⟩
  have hsettle : settle old m = faultFollows (highWater (sendOut old (muteSafe old n))) := by rw [hn]; rfl
  rw [hsettle] at hs ⊢
  obtain ⟨⟨lv, hlv⟩, -⟩ := marksOnly_highWater (sendOut old (muteSafe old n))
  have hclr : (faultFollows (highWater (sendOut old (muteSafe old n)))).clr = n.clr := by
    obtain ⟨snt, hm⟩ := muteSafe_eq old n
    rw [hlv]
    exact (clr_sendOut _ _).trans (by rw [hm])
  rw [hclr] at hs
  refine ⟨(n.sent.drop old.sent.length).filter (fun x => !x.voted), ?_, fun x hx => by simpa using (List.mem_filter.mp hx).2⟩
  rw [hlv, sendOut_muteSafe (fun h => by simp [ho, hs] at h)]
  exact muteSafe_sent ho hs

/-- Where what the step sent needs no vote, or the safe state drops what does, only the marks and the pin follow. -/
theorem settle_of_muted {old m : Mach} (hl : m.lanesAct = false)
    (h : ∀ x ∈ m.sent.drop old.sent.length, x.voted = true → (∀ k, x ≠ .token k) ∧ old.clr.safeState = true ∧ m.clr.safeState = true) :
    settle old m = faultFollows (highWater (muteSafe old m)) := by
  have hd : deliver old m = m := deliver_of_no_token fun x hx k hk => (h x hx (by rw [hk]; rfl)).1 k hk
  rw [settle, hd, follows_of_idle hl, sendOut_muteSafe]
  intro hs x hx
  by_contra hv
  obtain ⟨-, ho, hm⟩ := h x hx (by simpa using hv)
  simp [ho, hm] at hs

/-- Settles O5: in safe state what needs a vote is dropped, and the sending that follows touches the Clearing no more. -/
theorem safeStateIsSilent : Obligations.SafeStateIsSilent := by
  unfold Obligations.SafeStateIsSilent
  intro s s' hs hstep hs'
  obtain ⟨-, rfl⟩ | ⟨c, rest, -, rfl⟩ := step_next_cases hstep
  · exact ⟨[], by simp⟩
  · exact settle_sent_of_safe hs hs'

/-- Settles O7: where the lanes do not act nothing but the sending, the marks and FAULT_N follows. -/
theorem whatFollowsAnEffect : Obligations.WhatFollowsAnEffect := by
  unfold Obligations.WhatFollowsAnEffect
  refine fun old m hl => ⟨fun h => ?muted, fun h hs => ?sent⟩
  case muted =>
    rw [settle_of_muted hl h]
    obtain ⟨snt, hm⟩ := muteSafe_eq old m
    obtain ⟨⟨lv, hlv⟩, hval⟩ := marksOnly_highWater (muteSafe old m)
    refine ⟨?_, fun k hk => ?_, lv, snt, by rw [hlv, hm]; rfl⟩
    · rw [faultN_faultFollows, faultWanted_highWater, hm]
      rfl
    · exact (hval k hk).trans (by rw [hm]; rfl)
  case sent => rw [settle, deliver_of_no_token h, follows_of_idle hl, muteSafe_of_loud hs]

/-! ### The queue's order (R31) -/

/-- Where a command stands is its instant in ns, then the rank of its kind and lane. -/
theorem before_iff (a b : Instr) : a.before b = true ↔
    toLex (a.time / 1000, 4 * a.orderKind + a.orderLane) < toLex (b.time / 1000, 4 * b.orderKind + b.orderLane) := by
  simp [Instr.before, Prod.Lex.toLex_lt_toLex]

theorem before_trans {a b c : Instr} (hab : a.before b = true) (hbc : b.before c = true) : a.before c = true := by
  rw [before_iff] at *
  exact hab.trans hbc

theorem before_asymm {a b : Instr} (h : a.before b = true) : b.before a = false := by
  rw [before_iff] at h
  exact Bool.eq_false_iff.mpr fun h' => lt_asymm h ((before_iff b a).mp h')

/-- A command takes its place behind every one it does not stand before, in front of the first that it does. -/
theorem enqueueIn_split (c : Instr) (l : List Instr) :
    ∃ p r, l = p ++ r ∧ enqueueIn c l = p ++ c :: r ∧ (∀ x ∈ p, c.before x = false) ∧ ∀ x, r.head? = some x → c.before x = true := by
  induction l with
  | nil => exact ⟨[], [], rfl, rfl, by simp, by simp⟩
  | cons y l ih =>
    by_cases hy : c.before y = true
    · exact ⟨[], y :: l, rfl, by simp [enqueueIn, hy], by simp, by simp [hy]⟩
    · obtain ⟨p, r, hl, he, hp, hr⟩ := ih
      refine ⟨y :: p, r, by rw [hl]; rfl, by simp [enqueueIn, hy, he], ?_, hr⟩
      simpa [hy] using hp

/-- In an ordered queue everything behind that place stands behind the command. -/
theorem before_all_of_head {c : Instr} {r : List Instr} (ho : queueOrdered r) (h : ∀ x, r.head? = some x → c.before x = true) :
    ∀ x ∈ r, c.before x = true := by
  cases r with
  | nil => simp
  | cons y r =>
    have hy : c.before y = true := h y rfl
    intro x hx
    rcases List.mem_cons.mp hx with rfl | hx
    · exact hy
    · have hxy := (List.pairwise_cons.mp ho).1 x hx
      rw [before_iff] at hy ⊢
      refine lt_of_lt_of_le hy (le_of_not_gt fun h => ?_)
      rw [(before_iff x y).mpr h] at hxy
      cases hxy

theorem enqueueIn_ordered {c : Instr} {l : List Instr} (ho : queueOrdered l) :
    queueOrdered (enqueueIn c l) ∧ (enqueueIn c l).Perm (c :: l) ∧
    ∃ p r, l = p ++ r ∧ enqueueIn c l = p ++ c :: r ∧ (∀ x ∈ p, c.before x = false) ∧ ∀ x ∈ r, c.before x = true := by
  obtain ⟨p, r, rfl, he, hp, hr⟩ := enqueueIn_split c l
  obtain ⟨hop, hor, hpr⟩ := List.pairwise_append.mp ho
  have hr := before_all_of_head hor hr
  refine ⟨?_, by rw [he]; exact List.perm_middle, p, r, rfl, he, hp, hr⟩
  rw [he, queueOrdered, List.pairwise_append]
  refine ⟨hop, List.pairwise_cons.mpr ⟨fun x hx => before_asymm (hr x hx), hor⟩, fun x hx y hy => ?_⟩
  rcases List.mem_cons.mp hy with rfl | hy
  · exact hp x hx
  · exact hpr x hx y hy

theorem step_keeps_order {s s' : Machine.State} (ho : queueOrdered s.pending) (h : step s = .next s') : queueOrdered s'.pending := by
  obtain ⟨-, rfl⟩ | ⟨c, rest, hp, rfl⟩ := step_next_cases h
  · exact ho
  · rw [hp] at ho
    exact (List.pairwise_cons.mp ho).2

/-- Settles O1: the step's two cases, each command's own effect, and the place a command takes in the queue. -/
theorem stepRunsTheFrontCommand : Obligations.StepRunsTheFrontCommand := by
  unfold Obligations.StepRunsTheFrontCommand
  refine ⟨⟨fun s c rest h => by simp [step, h], fun s h => by simp [step, h]⟩, exec_eq_after_effect, ⟨fun s c ho => ?_, fun s s' => step_keeps_order,
    fun a b c => before_trans, fun a b => before_asymm⟩⟩
  obtain ⟨hord, hperm, hplace⟩ := enqueueIn_ordered (c := c) ho
  exact ⟨hord, hperm, rfl, hplace⟩

/-! ### The block after reset -/

/-- Settles O3: the reset block holds no entry of its own, so each reads its default. -/
theorem resetLeaves : Obligations.ResetLeaves := by
  unfold Obligations.ResetLeaves
  exact ⟨rfl, rfl, reset_mram_wf, by decide, rfl, rfl, congrArg valNat (Lanes.dfltOf_of_row (by decide) Lanes.rowOf_agreementWindow rfl), fun _ => ⟨rfl, rfl⟩⟩

/-! ### The MRAM (R434, R436) -/

theorem memRead_congr {mem mem' : List Host.Cell} {a n : Nat} (h : ∀ c, a ≤ c → c < a + n → memGet mem c = memGet mem' c) :
    memRead mem a n = memRead mem' a n := by
  induction n generalizing a with
  | zero => rfl
  | succ n ih => rw [memRead, memRead, h a (by omega) (by omega), ih fun c hc hn => h c (by omega) (by omega)]

theorem memRead_memPutAll_self (mem : List Host.Cell) (a : Nat) (bs : List Byte) : memRead (memPutAll mem a bs) a bs.length = bs := by
  induction bs generalizing mem a with
  | nil => rfl
  | cons b t ih =>
    rw [List.length_cons, memRead, memPutAll, ih, memGet_memPutAll_below _ _ _ (Or.inl (by omega)), memGet_memPut_self]

theorem memRead_memPutAll_apart (mem : List Host.Cell) {a b n : Nat} (bs : List Byte) (h : b + n ≤ a ∨ a + bs.length ≤ b) :
    memRead (memPutAll mem a bs) b n = memRead mem b n :=
  memRead_congr fun _ _ _ => memGet_memPutAll_below mem a bs (by omega)

/-- Settles O8: a write outside the locked area writes byte by byte, one that reaches into it is none. -/
theorem mramReadsBack : Obligations.MramReadsBack := by
  unfold Obligations.MramReadsBack
  refine ⟨fun m a bs hwf ha => ⟨nvPut_wf m a bs hwf, ?_, fun b n h => ?_⟩, fun m a bs ha => if_neg ha⟩
  · rw [Mach.nvPut, if_pos ha]
    exact memRead_memPutAll_self m.mram a bs
  · rw [Mach.nvPut, if_pos ha]
    exact memRead_memPutAll_apart m.mram bs h

/-! ### The timebase's checks (R55) -/

/-- Settles O18: each check acts while the domain runs; the deviation counts in parts per million of 32 nominal ticks. -/
theorem timebaseChecks : Obligations.TimebaseChecks := by
  unfold Obligations.TimebaseChecks
  constructor
  · intro s t m hr
    rw [exec_pllLockLoss, pllLockLossEff, whenUp_running hr, exec_lanternTickMissing, lanternTickMissingEff, whenUp_running hr]
    exact ⟨rfl, rfl⟩
  · intro s t ticks m off d e hr
    rw [exec_lanternRateCheck, lanternRateCheckEff, whenUp_running hr]
    refine ⟨fun h => ?_, fun h => ?_⟩
    · congr 2
      exact if_pos (by simp only [tickNominal]; omega)
    · congr 2
      exact if_neg (by simp only [tickNominal]; omega)

end Sys2Proof.Proofs.Block
end

section
/-! SUPPORT. The Clearing: what an arrival or the end of a window comes to, vote by vote; the lanes' dissents, copies, signatures and
boundaries; the voters' watchdogs; and the settlement of the statements on them (R17 to R49, R263, R282). -/

namespace Sys2Proof.Proofs.Clearing

open Sys2Proof.Machine Sys2Proof.Laws Sys2Proof.Proofs.Block Sys2Proof.Proofs.Lanes

/-! ### A further arrival in an open vote (R27, R29) -/

@[simp] theorem arrival_body (m : Mach) (l : Lane) (k : Token) : (m.arrival l k).body = tokBody k := rfl
@[simp] theorem arrival_lane (m : Mach) (l : Lane) (k : Token) : (m.arrival l k).lane = l := rfl

section
variable {v : Vote} {a x y : Arrival} {m : Mach}

section triplex
variable (hc : m.activeCount = 3)
include hc

/-- T1: the second token equals the first. -/
theorem arriveOpen_second_equal (hv : v.arrivals = [x]) (hb : x.body = a.body) :
    arriveOpen v a m = setVote v (some { v with arrivals := [x, a], emitted := true }) (emitVote v x (some a.lane) m) := by
  simp [arriveOpen, hc, hv, hb]

theorem arriveOpen_second_differs (hv : v.arrivals = [x]) (hb : x.body ≠ a.body) :
    arriveOpen v a m = setVote v (some { v with arrivals := [x, a] }) m := by
  simp [arriveOpen, hc, hv, hb]

/-- T1 and T3: a third token in a vote that has been emitted closes it; one that differs dissents. -/
theorem arriveOpen_third_emitted (hv : v.arrivals = [x, y]) (he : v.emitted = true) :
    arriveOpen v a m = if x.body = a.body then setVote v none m else dissent a.lane (setVote v none m) := by
  simp [arriveOpen, hc, hv, he]

/-- T5 and T7: with the first two unequal the third decides; with all three unequal none does. -/
theorem arriveOpen_third_undecided (hv : v.arrivals = [x, y]) (he : v.emitted = false) :
    arriveOpen v a m =
      if x.body = a.body then dissent y.lane (setVote v none (emitVote v x (some a.lane) m))
      else if y.body = a.body then dissent x.lane (setVote v none (emitVote v y (some a.lane) m))
      else safeEnter 0x01 (some { v with arrivals := [x, y, a] }) m := by
  simp [arriveOpen, hc, hv, he]

end triplex

/-- D1 and D2: two lanes decide at the second arrival. -/
theorem arriveOpen_duplex (hc : m.activeCount = 2) (hv : v.arrivals = [x]) (he : v.emitted = false) :
    arriveOpen v a m = if x.body = a.body then setVote v none (emitVote v x (some a.lane) m)
      else safeEnter 0x04 (some { v with arrivals := [x, a] }) m := by
  simp [arriveOpen, hc, hv, he]

end

/-- A judged token in time is judged in its open vote. -/
theorem exec_tokenArrival_inTime {s : Machine.State} {t : Time} {l : Lane} {k : Token} {v : Vote} (hj : (s.core.at_ t).judges l k)
    (ht : (s.core.at_ t).inTime l k v) :
    exec (.tokenArrival t l k .agrees) s = .next (s.after t
      (arriveOpen v ((s.core.at_ t).arrival l k) (noteSkew v ((s.core.at_ t).arrival l k) (s.core.at_ t)))) := by
  rw [exec_tokenArrival_of_judges hj, submit_inTime hj ht]

/-- Settles O10: the first token opens, the second and the third are judged in the open vote. -/
theorem triplexVote : Obligations.TriplexVote := by
  unfold Obligations.TriplexVote
  constructor
  · intro s t l k m hj
    refine ⟨fun hv => ?opens, fun v x ht hx hb hc => ?equal, fun v x ht hx hb hc => ?differs⟩
    case opens => rw [exec_tokenArrival_of_judges hj, submit_opens hj hv]; rfl
    case equal => rw [exec_tokenArrival_inTime hj ht, arriveOpen_second_equal hc hx hb, arrival_lane]
    case differs => rw [exec_tokenArrival_inTime hj ht, arriveOpen_second_differs hc hx hb]
  · intro s t l k v x y m n hj ht hv hc
    rw [exec_tokenArrival_inTime hj ht]
    refine ⟨fun he hb => ?_, fun he hb => ?_, fun he hb => ?_, fun he hx hy => ?_, fun he hx hy => ?_⟩
    · rw [arriveOpen_third_emitted hc hv he, arrival_body, if_pos hb]
    · rw [arriveOpen_third_emitted hc hv he, arrival_body, if_neg hb, arrival_lane]
    · rw [arriveOpen_third_undecided hc hv he, arrival_body, if_pos hb, arrival_lane]
    · rw [arriveOpen_third_undecided hc hv he, arrival_body, if_neg hx, if_pos hy, arrival_lane]
    · rw [arriveOpen_third_undecided hc hv he, arrival_body, if_neg hx, if_neg hy]

/-! ### The end of the window (R27 T4, T6, T8, T9; R29 D3) -/

section
variable {v : Vote} {m : Mach}

theorem closeVote_emitted {x y : Arrival} (hc : m.activeCount = 3) (hv : v.arrivals = [x, y]) (he : v.emitted = true) :
    closeVote v m = (setVote v none m).each
      ((setVote v none m).activeLanes.filter (fun l => !v.arrivals.any (fun a => a.lane == l))) dissent := by
  simp [closeVote, hc, hv, he]

theorem closeVote_undecided {x y : Arrival} (hc : m.activeCount = 3) (hv : v.arrivals = [x, y]) (he : v.emitted = false) :
    closeVote v m = safeEnter 0x02 (some v) m := by
  simp [closeVote, hc, hv, he]

/-- A lone token is suspect, a lone signature ends in safe state. -/
theorem closeVote_lone {x : Arrival} (hc : m.activeCount = 3) (hv : v.arrivals = [x]) :
    closeVote v m = if v.vid.ty = 7 then safeEnter 0x03 (some v) m
      else (setVote v none m).modClr (fun c => { c with suspects := c.suspects ++ [{ lane := x.lane, vote := v }] }) := by
  simp [closeVote, hc, hv]

theorem closeVote_duplex (hc : m.activeCount = 2) (hv : v.arrivals ≠ []) : closeVote v m = safeEnter 0x05 (some v) m := by
  obtain ⟨x, xs, hx⟩ := List.exists_cons_of_ne_nil hv
  simp [closeVote, hc, hx]

end

/-- Once in safe state the suspects are gone, and their failure changes nothing. -/
@[simp] theorem suspects_safeEnter_of_running (cause : Nat) (v : Option Vote) (m : Mach) (h : m.clr.safeState = false) :
    (safeEnter cause v m).clr.suspects = [] := by
  simp [safeEnter, h]

section
variable {m : Mach} {id : VoteId} {v : Vote} (hl : m.lanesAct = true) (hv : m.clr.votes.find? (fun v => v.vid == id) = some v)
include hl hv

theorem windowClose_early (h : m.ns < v.opened + m.window) (r : ReflVerdict) : agreementWindowCloseEff id r m = m := by
  simp [agreementWindowCloseEff, hl, hv, h]

/-- At its end the window of an open vote closes; a signature vote that ends so fails the suspects that wait for it (R28). -/
theorem windowClose_due (h : v.opened + m.window ≤ m.ns) :
    agreementWindowCloseEff id .agrees m =
      if v.vid.ty = 7 ∧ v.vid.sq = (closeVote v m).clr.sigSeq then failSuspects (closeVote v m) else closeVote v m := by
  have hvid : v.vid = id := by simpa using List.find?_some hv
  simp [agreementWindowCloseEff, hl, hv, Nat.not_lt.mpr h, hvid]

theorem windowClose_vote (h : v.opened + m.window ≤ m.ns) (hid : v.vid.ty ≠ 7) :
    agreementWindowCloseEff id .agrees m = closeVote v m := by
  rw [windowClose_due hl hv h, if_neg fun hty => hid hty.1]

/-- A signature vote closed into safe state leaves no suspect to fail. -/
theorem windowClose_signature (h : v.opened + m.window ≤ m.ns) (hid : v.vid.ty = 7) (hc : m.activeCount = 3) {x : Arrival}
    (hx : v.arrivals = [x]) : agreementWindowCloseEff id .agrees m = safeEnter 0x03 (some v) m := by
  have hs : (safeEnter 0x03 (some v) m).clr.suspects = [] := suspects_safeEnter_of_running _ _ _ (safeState_of_lanesAct hl)
  have hfail : failSuspects (safeEnter 0x03 (some v) m) = safeEnter 0x03 (some v) m := by
    simp only [failSuspects, hs, List.filter_nil]
  rw [windowClose_due hl hv h, closeVote_lone hc hx, if_pos hid, hfail, ite_self]

end

theorem tokenArrivalEff_of_inactive {m : Mach} {l : Lane} (h : m.laneActive l = false) (k : Token) (r : ReflVerdict) :
    tokenArrivalEff l k r m = m := by
  simp [tokenArrivalEff, h]

/-- Settles O11: the second arrival in duplex, an inactive lane's token, and the closing of the window row by row. -/
theorem duplexVoteAndWindow : Obligations.DuplexVoteAndWindow := by
  unfold Obligations.DuplexVoteAndWindow
  refine ⟨⟨?duplex, ?inactive⟩, ?window⟩
  case duplex =>
    intro s t l k v x m n hj ht hv he hc
    rw [exec_tokenArrival_inTime hj ht, arriveOpen_duplex hc hv he]
    exact ⟨fun hb => by rw [arrival_body, if_pos hb, arrival_lane], fun hb => by rw [arrival_body, if_neg hb]⟩
  case inactive =>
    intro s t l k r m h
    rw [exec_tokenArrival, tokenArrivalEff_of_inactive h]
  case window =>
    intro s t id v m hl hv
    simp only [exec_agreementWindowClose]
    refine ⟨fun h r => by rw [windowClose_early hl hv h r], fun h hid hc => ?_, fun h hid hc hne => ?_, fun h hid hc x hx => ?_⟩
    · rw [windowClose_vote hl hv h hid]
      exact ⟨fun x y hxy he => by rw [closeVote_emitted hc hxy he], fun x y hxy he => by rw [closeVote_undecided hc hxy he],
        fun x hx => by rw [closeVote_lone hc hx, if_neg hid]⟩
    · rw [windowClose_vote hl hv h hid, closeVote_duplex hc hne]
    · rw [windowClose_signature hl hv h hid hc hx]

/-! ### Dissents (R17, R18, R32 to R36) -/

theorem dissent_of_out {m : Mach} {l : Lane} (h : m.clr.safeState = true ∨ m.laneActive l = false) : dissent l m = m :=
  if_pos (by simpa using h)

/-- The count of a dissent: none is made without a mark, the third within 1 s retires the lane. -/
theorem countDissent_unmarked {m : Mach} {l : Lane} (h : m.clr.lanes[laneIx l].mark = none) : countDissent l m = m := by
  simp only [countDissent, h]

theorem countDissent_marked {m : Mach} {l : Lane} {r : Bool} (h : m.clr.lanes[laneIx l].mark = some r) :
    countDissent l m =
      let n := (m.inc (Key.clearingDissentCount (laneIx l).1)).modLane (laneIx l)
        (fun x => { x with mark := none, status := if r then .retired else x.status })
      let k := Key.clearingRetireCount (laneIx l).1
      if r then raiseM 0x02 (laneIx l).1 ((n.inc k).nvJob (.entry k ((n.inc k).val k) .nobody)) else n := by
  simp only [countDissent, h]

/-- R35: a resync that has not ended within 2 ms is given up, the lane dissents once more. -/
theorem resyncFailedEff_of_running {m : Mach} {l : Lane} {r : Resync} (hl : m.lanesAct = true) (hr : m.clr.resync = some r)
    (ht : r.target = l) :
    resyncFailedEff l m = if m.ns < r.start + 2000000 then m else
      selfDissent l ((m.modClr (fun c => { c with resync := none })).modLane (laneIx l) (fun x => { x with status := .active })) := by
  simp [resyncFailedEff, hl, hr, ht]

/-- Settles O12: what a dissent takes from the votes, what its count makes of the lane, and its two other causes. -/
theorem dissentIsCounted : Obligations.DissentIsCounted := by
  unfold Obligations.DissentIsCounted
  refine ⟨?dissent, ?count, ?input, ?resync⟩
  case dissent =>
    intro s t l m i kept waits out hr
    rw [exec_laneSelfDissent, whenUp_running hr, selfDissent]
    refine ⟨fun h => by rw [dissent_of_out h], fun hs ha => ?_⟩
    rw [dissent, if_neg (by simp [hs, ha])]
    rfl
  case count =>
    intro m l i n k r
    refine ⟨countDissent_unmarked, fun h => ?_, fun h => ?_⟩
    · rw [countDissent_marked h]; rfl
    · rw [countDissent_marked h]; rfl
  case input =>
    intro s t words upsets m ws hr
    rw [exec_inputFanoutDelivery, inputFanoutDeliveryEff, whenUp_running hr]
  case resync =>
    intro s t l r m hl hr ht
    rw [exec_resyncFailed, resyncFailedEff_of_running hl hr ht]
    exact ⟨fun h => by rw [if_pos h], fun h => by rw [if_neg (Nat.not_lt.mpr h)]⟩

/-! ### Copies, signatures, the scrub (R22, R46, R48) -/

section
variable {m : Mach} {id : VoteId} {j : CopyJob} (hl : m.lanesAct = true) (hj : m.clr.copies.find? (fun j => j.vid == id) = some j)
include hl hj

theorem contentCopy_good {content : List Byte} (hlen : content.length = j.len) (hcrc : crc32c content = j.crc) :
    contentCopyCompleteEff id content m =
      (m.modClr (fun c => { c with copies := c.copies.filter (fun x => x.vid != id) })).emit (.content id.ty id.dest content) := by
  simp [contentCopyCompleteEff, hl, hj, hlen, hcrc]

theorem contentCopy_bad {content : List Byte} {l : Lane} (hcrc : crc32c content ≠ j.crc) (h2 : j.second = some l) :
    contentCopyCompleteEff id content m = dissent j.source
      ((m.modClr (fun c => { c with copies := c.copies.filter (fun x => x.vid != id) })).modClr
        (fun c => { c with copies := c.copies ++ [{ j with source := l, second := none }] })) := by
  simp [contentCopyCompleteEff, hl, hj, hcrc, h2]

end

theorem signatureCompleteEff_of_taken {m : Mach} {l x : Lane} {v : BitVec 64} (hl : m.lanesAct = true)
    (hs : m.clr.sigs.find? (fun s => s.1 == l) = some (x, v)) (r : ReflVerdict) :
    signatureCompleteEff l r m = tokenArrivalEff l (mkToken l { ty := 7, dest := 0, sq := m.clr.sigSeq } 0 v) r
      (m.modClr (fun c => { c with sigs := c.sigs.filter (fun s => s.1 != l) })) := by
  simp [signatureCompleteEff, hl, hs]

/-- Settles O13: a copy's two ends, and the three upkeep commands, each with its effect. -/
theorem copiesAndLaneUpkeep : Obligations.CopiesAndLaneUpkeep := by
  unfold Obligations.CopiesAndLaneUpkeep
  refine ⟨?copy, ?expiry, ?signature, ?scrub⟩
  case copy =>
    intro s t id content j m drop hl hj
    rw [exec_contentCopyComplete]
    exact ⟨fun hlen hcrc => by rw [contentCopy_good hl hj hlen hcrc]; rfl, fun hcrc l h2 => by rw [contentCopy_bad hl hj hcrc h2]; rfl⟩
  case expiry =>
    intro s t l m
    rw [exec_dissentEntryExpiry, dissentEntryExpiryEff]
  case signature =>
    intro s t l r x v m hl hs
    rw [exec_signatureComplete, signatureCompleteEff_of_taken hl hs]
    rfl
  case scrub =>
    intro s t m hr
    rw [exec_deadStateScrub, deadStateScrubEff, whenUp_running hr]

/-! ### The control-cycle boundary (R23, R25, R38, R39) -/

/-- Every voter counts the boundary (R263). -/
def countMissed (m : Mach) : Mach := { m with voters := vmap m.voters (fun _ v => { v with missed := v.missed + 1 }) }

section
variable {m : Mach} {calib : Nat}

/-- R39: a failed exercise of a comparator. -/
theorem boundaryTests_unexercised :
    boundaryTests calib false m = safeEnter 0x09 none (m.modClr (fun c => { c with exercise := (c.exercise + 2) % 126 })) := rfl

/-- R38: window timers 2 % apart. -/
theorem boundaryTests_apart (h : m.window < 50 * (if calib ≤ m.window then m.window - calib else calib - m.window)) :
    boundaryTests calib true m = safeEnter 0x08 none (m.modClr (fun c => { c with exercise := (c.exercise + 2) % 126 })) := by
  rw [boundaryTests]
  simp only [Bool.not_true, Bool.false_eq_true, if_false]
  exact if_pos h

theorem boundaryTests_passed (h : 50 * (if calib ≤ m.window then m.window - calib else calib - m.window) ≤ m.window) :
    boundaryTests calib true m = m.modClr (fun c => { c with exercise := (c.exercise + 2) % 126 }) := by
  rw [boundaryTests]
  simp only [Bool.not_true, Bool.false_eq_true, if_false]
  exact if_neg (Nat.not_lt.mpr h)

end

theorem clearingBoundary_safe {m : Mach} (hs : m.clr.safeState = true) (calib : Nat) (x : Bool) (dirty : List (Fin 4096)) :
    clearingBoundary calib x dirty m = countMissed m := by
  simp [clearingBoundary, countMissed, hs]

theorem clearingBoundary_of_tests {m e : Mach} (hs : m.clr.safeState = false) {calib : Nat} {x : Bool} (dirty : List (Fin 4096))
    (he : boundaryTests calib x ((countMissed m).each lanes3 countDissent) = e) :
    clearingBoundary calib x dirty m = if e.clr.safeState then e else signaturesDue (resyncStart (resyncFinish dirty e)) := by
  have hs' : ¬ (countMissed m).clr.safeState = true := by simp [countMissed, hs]
  subst he
  exact if_neg hs'

/-- A boundary in safe state, entered in it or before, is the device's alone. -/
theorem safeState_safeEnter (cause : Nat) (v : Option Vote) (m : Mach) : (safeEnter cause v m).clr.safeState = true := by
  by_cases h : m.clr.safeState = true <;> simp [safeEnter, h]

theorem boundaryEff_of_due {m : Mach} (hr : m.running = true) {b : Time} (hb : m.boundaryDue = some b) (calib : Nat) (x : Bool)
    (dirty : List (Fin 4096)) :
    controlCycleBoundaryEff calib x dirty m =
      let e := clearingBoundary calib x dirty (m.modClr (fun c => { c with boundaryAt := b }))
      if e.lanesAct then lanesBoundary e else boundaryOf .device e := by
  simp only [controlCycleBoundaryEff, whenUp_running hr, hb]

theorem lanesAct_of_safeState {m : Mach} (h : m.clr.safeState = true) : m.lanesAct = false := by
  simp [Mach.lanesAct, h]

/-- Settles O14: the boundary once, in safe state, with a failed test, and with the lanes acting. -/
theorem controlCycleBoundaryRuns : Obligations.ControlCycleBoundaryRuns := by
  unfold Obligations.ControlCycleBoundaryRuns
  intro s t calib dirty b m c n e w hr
  have inSafe (x : Bool) (o : Mach) (hb : m.boundaryDue = some b) (ho : clearingBoundary calib x dirty c = o)
      (hs : o.clr.safeState = true) : exec (.controlCycleBoundary t calib x dirty) s = .next (s.after t (boundaryOf .device o)) := by
    rw [exec_controlCycleBoundary, boundaryEff_of_due hr hb]
    simp only [show clearingBoundary calib x dirty (m.modClr _) = o from ho, lanesAct_of_safeState hs, Bool.false_eq_true, if_false]
  have tested (x : Bool) (o : Mach) (hs : m.clr.safeState = false) (ho : boundaryTests calib x (n.each lanes3 countDissent) = o) :=
    clearingBoundary_of_tests (m := c) hs dirty ho
  refine ⟨fun hb x => ?none, fun hb hs x => ?safe, fun hb hs => ?exercise, fun hb hs hw => ?timers, fun hb hs hw he hl => ?acts⟩
  case none => rw [exec_controlCycleBoundary, controlCycleBoundaryEff, whenUp_running hr, hb]
  case safe => exact inSafe x n hb (clearingBoundary_safe (m := c) hs calib x dirty) hs
  case exercise =>
    have hsafe := safeState_safeEnter 0x09 none e
    exact inSafe false _ hb ((tested false (safeEnter 0x09 none e) hs boundaryTests_unexercised).trans (if_pos hsafe)) hsafe
  case timers =>
    have hsafe := safeState_safeEnter 0x08 none e
    exact inSafe true _ hb ((tested true (safeEnter 0x08 none e) hs (boundaryTests_apart hw)).trans (if_pos hsafe)) hsafe
  case acts =>
    have hc : clearingBoundary calib true dirty c = signaturesDue (resyncStart (resyncFinish dirty e)) :=
      (tested true e hs (boundaryTests_passed hw)).trans (if_neg (by simp [he]))
    rw [exec_controlCycleBoundary, boundaryEff_of_due hr hb]
    simp only [show clearingBoundary calib true dirty (m.modClr _) = _ from hc, hl, if_true]

/-! ### Voters, their watchdogs, the safe-state command (R42, R244, R263, R282) -/

theorem watchdog_early {m : Mach} {v : Voter} (h : m.voters[voterIx v].missed < 4) : safeOutputWatchdogEff v m = m :=
  if_pos (Or.inr (Or.inr h))

theorem watchdog_barks {m : Mach} {v : Voter} (hr : m.running = true) (hb : m.voters[voterIx v].barked = false)
    (h : 4 ≤ m.voters[voterIx v].missed) :
    safeOutputWatchdogEff v m = m.modVoter (voterIx v) (fun x => { x with
      barked := true,
      stoOpened := x.stoOpened || !(m.voters[voterIx v].held.getLsbD 16 || m.voters[voterIx v].held.getLsbD 17) ||
        !m.voters[voterIx v].held.getLsbD (voterIx v).1,
      brakesOpened := if m.clr.safeState then x.brakesOpened else Vector.replicate 2 true }) :=
  if_neg (by rw [hr, hb]; simpa using h)

theorem brakeDelay_due {m : Mach} {k : Fin 2} (v : Voter) (hs : m.clr.safeState = true)
    (h : m.clr.safeAt + ms (m.n (Key.brakeSafeStateDelay k.1)) ≤ m.ns) :
    safeStateBrakeDelayEff k v m =
      m.modVoter (voterIx v) (fun x => { x with brakesOpened := vmod x.brakesOpened k (fun _ => true) }) :=
  if_pos (by simp [hs, h])

theorem safeStateCommandEff_running {m : Mach} (hs : m.clr.safeState = false) (c : Fin 12) : safeStateCommandEff c m = m :=
  if_pos (by simp [hs])

theorem safeStateCommandEff_off {m : Mach} {c : Fin 12} (hs : m.clr.safeState = true) (ha : m.ascHeld (m.setOfCh c) = false) :
    safeStateCommandEff c m = (switchOff c true m).modCh c (fun x => { x with mode := .safe, want := false }) := by
  simp [safeStateCommandEff, hs, ha]

theorem safeStateCommandEff_asc {m : Mach} {c : Fin 12} {p : AscPattern} (hs : m.clr.safeState = true)
    (ha : m.ascHeld (m.setOfCh c) = true) (hp : m.sideSelector (m.setOfCh c) = some p) :
    safeStateCommandEff c m =
      let g := m.modGate (m.setOfCh c) (fun g => { g with asc := some p })
      if inPattern p c then
        g.modCh c (fun x => if x.latches.isEmpty then
          { x with mode := .staticOn, want := true, wantSince := if x.want then x.wantSince else g.now } else x)
      else (switchOff c true g).modCh c (fun x => { x with mode := .safe, want := false }) := by
  simp [safeStateCommandEff, hs, ha, hp]

/-- Settles O15: the voters' token and watchdog, the delayed brakes, the die's safe-state command. -/
theorem safeOutputsAndSafeState : Obligations.SafeOutputsAndSafeState := by
  unfold Obligations.SafeOutputsAndSafeState
  refine ⟨⟨?token, ?watchdog, ?brakes⟩, ?command⟩
  case token =>
    intro s t p m hl
    rw [exec_safeOutputToken, safeOutputTokenEff, whenLanes_act hl, takeSafeWord]
  case watchdog =>
    intro s t v m
    rw [exec_safeOutputWatchdog]
    exact ⟨fun h => by rw [watchdog_early h], fun hr hb h => by rw [watchdog_barks hr hb h]⟩
  case brakes =>
    intro s t k v m hs h
    rw [exec_safeStateBrakeDelay, brakeDelay_due v hs h]
  case command =>
    intro s t c m
    rw [exec_safeStateCommand]
    refine ⟨fun hs => by rw [safeStateCommandEff_running hs], fun hs ha => by rw [safeStateCommandEff_off hs ha], ?_⟩
    intro p hs ha hp g
    rw [safeStateCommandEff_asc hs ha hp]
    exact ⟨fun hi => congrArg (fun e => Host.Outcome.next (s.after t e)) (if_pos hi),
      fun hi => congrArg (fun e => Host.Outcome.next (s.after t e)) (if_neg (by simp [hi]))⟩

end Sys2Proof.Proofs.Clearing
end

section
/-! SUPPORT. Carriers, duty tokens and the edges of a leg, case by case, and the settlement of the statements on them (R51 to R64,
R127, R158, R231, R484). -/

namespace Sys2Proof.Proofs.Pwm

open Sys2Proof.Machine Sys2Proof.Laws Sys2Proof.Proofs.Block

/-! ### The carrier's turns (R56, R57, R59) -/

section
variable {m : Mach} {k : Fin 2}

theorem carrierPeak_early (h : m.pwm[k].rising = false ∨ m.now < m.pwm[k].hEnd) : carrierPeakEff k m = m := by
  refine if_pos (Or.inr (h.imp (fun hr => ?_) id))
  rw [hr]
  rfl

/-- The half-period that begins at the peak. -/
def atPeak (k : Fin 2) (m : Mach) : Mach :=
  m.modPwm k (fun q => { q with rising := false, hStart := m.pwm[k].hEnd, hEnd := q.next })

theorem carrierPeak_due (hr : m.running = true) (hp : m.pwm[k].rising = true) (h : m.pwm[k].hEnd ≤ m.now) :
    carrierPeakEff k m =
      startHalf k (if (atPeak k m).smpMode k ≠ 0 then sampleInstant k m.pwm[k].hEnd true (atPeak k m) else atPeak k m) :=
  if_neg (by rw [hr, hp]; simpa using h)

theorem carrierValley_early (h : m.pwm[k].rising = true ∨ m.now < m.pwm[k].hEnd) : carrierValleyEff k m = m :=
  if_pos (Or.inr h)

end

/-- The half-period that begins at the valley of a carrier that keeps its grid, `d` being the state after the boundary. -/
def atValley (k : Fin 2) (p : Machine.Pwm) (d : Mach) : Mach :=
  (d.modPwm k (fun q => { q with
    rising := true, hStart := p.hEnd, hEnd := p.hEnd + p.half, next := p.hEnd + 2 * p.half, moving := false, half := p.half
    regrid := false })).putR (Key.actualFrequency k.1) (fRat 1000000000000 (max 1 (2 * p.half)))

/-- R57: a carrier whose frequency, phase and modulator clock stay starts the next period where the last one ended. -/
theorem carrierValley_steady {m : Mach} {k : Fin 2} (hr : m.running = true) (hp : m.pwm[k].rising = false) (h : m.pwm[k].hEnd ≤ m.now)
    (hhalve : (boundaryOf (.set k) m).shadeHalves k = false) :
    let d := dpwmUpdate k ((boundaryOf (.set k) m).modPwm k (fun p => { p with halved := false }))
    let n := atValley k m.pwm[k] d
    d.halfWanted k = m.pwm[k].half → d.pwm[k].regrid = false → m.pwm[k].moving = false → n.sense[k].mclk.isSome = true →
    n.bitPeriod k = m.bitPeriod k → (k = 1 → d.n (Key.carrierPhase 1) = m.n (Key.carrierPhase k.1)) →
    carrierValleyEff k m = startHalf k (if n.smpMode k ≠ 1 then sampleInstant k m.pwm[k].hEnd false n else n) := by
  intro d n hhalf hgrid hmoving hclk hbit hphase
  have hgo : ¬ ((!m.running) = true ∨ m.pwm[k].rising = true ∨ m.now < m.pwm[k].hEnd) := by
    rw [hr, hp]
    simpa using h
  have hd : dpwmUpdate k ((boundaryOf (.set k) m).modPwm k (fun p => { p with halved := false })) = d := rfl
  have hkept (x : Mach) : (if k = 0 then d else if ¬ d.n (Key.carrierPhase 1) = m.n (Key.carrierPhase k.1) then x else d) = d := by
    by_cases hk : k = 0
    · rw [if_pos hk]
    · rw [if_neg hk, if_neg (not_not.mpr (hphase (by omega)))]
  have hn : ((d.modPwm k (fun q => { q with
      rising := true, hStart := m.pwm[k].hEnd, hEnd := m.pwm[k].hEnd + m.pwm[k].half, next := m.pwm[k].hEnd + 2 * m.pwm[k].half,
      moving := false, half := m.pwm[k].half, regrid := false })).putR (Key.actualFrequency k.1)
        (fRat 1000000000000 (max 1 (2 * m.pwm[k].half)))) = n := rfl
  have hclk' : n.sense[k].mclk.isNone = false := by simpa using hclk
  clear_value d n
  unfold carrierValleyEff
  rw [if_neg hgo]
  simp only [hhalve, Bool.false_and, hd, hhalf, ne_eq, not_true_eq_false, decide_false, Bool.false_eq_true, if_false, false_or, hkept,
    hgrid, Nat.add_sub_cancel_left, Nat.mul_div_cancel_left _ (Nat.two_pos), bne_self_eq_false, hn, hmoving, hbit, hclk', or_self]

/-! ### Duty tokens (R51, R57, R61, R127) -/

section
variable {m : Mach} {k : Fin 2} {leg : Fin 3} {slot : Bool} {c : BitVec 32} {duty : F32}

theorem dutyToken_not_due (h : m.eng[m.dataSet k].expect.contains (k, leg, slot) = false) : dutyTokenEff k leg slot c duty m = m :=
  if_pos (Or.inr (by simpa using h))

theorem dutyToken_due (hl : m.lanesAct = true) (h : m.eng[m.dataSet k].expect.contains (k, leg, slot) = true) :
    dutyTokenEff k leg slot c duty m = takeDuty k leg slot c duty (m.modEng (m.dataSet k) (fun x => { x with
      expect := (m.eng[m.dataSet k].expect.dropWhile (fun y => y != (k, leg, slot))).drop 1 })) :=
  if_neg (by rw [h, hl]; decide)

/-- A duty token ends a stall, and the last leg's closes the latency. -/
def tokenCounts (k : Fin 2) (leg : Fin 3) (m : Mach) : Mach :=
  let e := m.modEng k (fun e => { e with stall := 0 })
  if leg = 2 then noteLatency k e else e

/-- The edges due are made, and each pair of the leg holds the duty from now on. -/
def holdDuty (k : Fin 2) (leg : Fin 3) (d : F32) (n : Mach) : Mach :=
  let h := dueEdges k leg (sameStamp n) n
  h.each h.pairs2 (fun low m => m.modPair' k leg low (fun x => { x with held := some d }))

theorem takeDuty_idle
    (h : fIsNan duty = true ∨ (tokenCounts k leg m).gate[k].pulses = false ∨ (tokenCounts k leg m).directMode k = true) :
    takeDuty k leg slot c duty m = tokenCounts k leg m :=
  if_pos (by
    change (fIsNan duty || !(tokenCounts k leg m).gate[k].pulses || (tokenCounts k leg m).directMode k) = true
    rcases h with h | h | h <;> simp [h, -Fin.getElem_fin])

theorem takeDuty_pulses (hd : fIsNan duty = false) (hp : (tokenCounts k leg m).gate[k].pulses = true)
    (hdir : (tokenCounts k leg m).directMode k = false) :
    takeDuty k leg slot c duty m =
      let n := tokenCounts k leg m
      let u := holdDuty k leg (fclamp 0 fOne duty) n
      if u.pwm[k].rising != slot then judgeToken k leg u.now (compareTime n.now c) (fclamp 0 fOne duty) u
      else u.modPair' k leg false (fun x => { x with
        waiting := x.waiting.filter (fun w => w.1 != slot) ++ [(slot, { compare := compareTime n.now c, duty := fclamp 0 fOne duty })] }) :=
  if_neg (by
    change ¬ (fIsNan duty || !(tokenCounts k leg m).gate[k].pulses || (tokenCounts k leg m).directMode k) = true
    simp [hd, hp, hdir, -Fin.getElem_fin])

end

/-- Settles O16: the two turns of the carrier, and the duty token by what awaits it. -/
theorem carriersAndDutyTokens : Obligations.CarriersAndDutyTokens := by
  unfold Obligations.CarriersAndDutyTokens
  refine ⟨⟨?peak, ?valley⟩, ?token⟩
  case peak =>
    intro s t k m p n
    rw [exec_carrierPeak]
    refine ⟨fun h => by rw [carrierPeak_early h], fun hr hp h hm => ?_, fun hr hp h hm => ?_⟩
    · rw [carrierPeak_due hr hp h]
      exact congrArg (fun e => Host.Outcome.next (s.after t (startHalf k e))) (if_neg (not_not.mpr hm))
    · rw [carrierPeak_due hr hp h]
      exact congrArg (fun e => Host.Outcome.next (s.after t (startHalf k e))) (if_pos hm)
  case valley =>
    intro s t k m p b d n
    rw [exec_carrierValley]
    refine ⟨fun h => by rw [carrierValley_early h], fun hr hp h hs hhalf hgrid hmoving hclk hbit hphase => ?_⟩
    rw [carrierValley_steady hr hp h hs hhalf hgrid hmoving hclk hbit hphase]
    rfl
  case token =>
    intro s t k leg slot c duty m e n h u hl
    rw [exec_dutyToken]
    refine ⟨fun hx => by rw [dutyToken_not_due hx], fun hx => ?_⟩
    rw [dutyToken_due hl hx]
    refine ⟨fun hn => by rw [takeDuty_idle hn]; rfl, fun hd hp hdir hs => ?_, fun hd hp hdir hs => ?_⟩
    · rw [takeDuty_pulses hd hp hdir]
      exact congrArg (fun e => Host.Outcome.next (s.after t e)) (if_neg fun h => bne_iff_ne.mp h hs)
    · rw [takeDuty_pulses hd hp hdir]
      exact congrArg (fun e => Host.Outcome.next (s.after t e)) (if_pos (bne_iff_ne.mpr hs))


/-! ### The edge a token makes (R62 to R64) -/

section
variable {m : Mach} {k : Fin 2} {leg : Fin 3} {low to_ : Bool} {ta tc : Time}

/-- A pair's edge withdrawn. -/
def cancelEdge (k : Fin 2) (leg : Fin 3) (low : Bool) (m : Mach) : Mach := m.modPair' k leg low (fun x => { x with pending := none })

/-- The instant of an edge: its compare time, or 7.5 ns after its token where that is later. -/
def edgeTime (p : Machine.Pwm) (ta tc : Time) : Time := p.afterTurn (edgeAt (if tc < ta + 7500 then ta + 7500 else tc))

theorem judge_made (h : (m.pairOf k leg low).made = true) : judge k leg low ta tc to_ m = m := if_pos h

section unmade
variable (hx : (m.pairOf k leg low).made = false)
include hx

theorem judge_beyond (h : m.pwm[k].hEnd ≤ tc) : judge k leg low ta tc to_ m = cancelEdge k leg low m := by
  simp only [judge, hx, Bool.false_eq_true, if_false]
  exact if_pos h

variable (hin : tc < m.pwm[k].hEnd)
include hin

theorem judge_moved_beyond (h : m.pwm[k].hEnd ≤ edgeTime m.pwm[k] ta tc) :
    judge k leg low ta tc to_ m = lateEdge k leg (cancelEdge k leg low m) := by
  simp only [judge, hx, Bool.false_eq_true, if_false, if_neg (Nat.not_le.mpr hin), decide_eq_true_eq]
  exact if_pos h

variable (hb : edgeTime m.pwm[k] ta tc < m.pwm[k].hEnd)
include hb

/-- Within the half-period the minimum pulse since the last edge decides. -/
theorem judge_within : judge k leg low ta tc to_ m =
    if (match (m.pairOf k leg low).tPrev with | none => false | some tp => decide (edgeTime m.pwm[k] ta tc < tp + m.minPulse k)) then
      (if tc < ta + 7500 then lateEdge k leg (cancelEdge k leg low m)
        else (cancelEdge k leg low m).inc (Key.minPulseDropCount k.1))
    else m.modPair' k leg low (fun x => { x with pending := some (edgeTime m.pwm[k] ta tc), pendTo := to_ }) := by
  simp only [judge, hx, Bool.false_eq_true, if_false, if_neg (Nat.not_le.mpr hin), decide_eq_true_eq]
  exact if_neg (Nat.not_le.mpr hb)

theorem judge_first (ht : (m.pairOf k leg low).tPrev = none) :
    judge k leg low ta tc to_ m =
      m.modPair' k leg low (fun x => { x with pending := some (edgeTime m.pwm[k] ta tc), pendTo := to_ }) := by
  rw [judge_within hx hin hb]
  simp only [ht, Bool.false_eq_true, if_false]

theorem judge_after {tp : Time} (ht : (m.pairOf k leg low).tPrev = some tp) : judge k leg low ta tc to_ m =
    if edgeTime m.pwm[k] ta tc < tp + m.minPulse k then
      (if tc < ta + 7500 then lateEdge k leg (cancelEdge k leg low m)
        else (cancelEdge k leg low m).inc (Key.minPulseDropCount k.1))
    else m.modPair' k leg low (fun x => { x with pending := some (edgeTime m.pwm[k] ta tc), pendTo := to_ }) := by
  rw [judge_within hx hin hb]
  simp only [ht, decide_eq_true_eq]

end unmade

end

/-! ### The pairs of a leg (R157, R158) -/

theorem pairOf_modPair'_self (m : Mach) (k : Fin 2) (leg : Fin 3) (low : Bool) (f : Leg → Leg) :
    (m.modPair' k leg low f).pairOf k leg low = f (m.pairOf k leg low) := by
  cases low <;> simp [Mach.pairOf, Mach.modPair', vmod]

theorem rising_modPair' (m : Mach) (k : Fin 2) (leg : Fin 3) (low : Bool) (f : Leg → Leg) :
    (m.modPair' k leg low f).pwm[k].rising = m.pwm[k].rising := by
  cases low <;> simp [Mach.modPair', vmod]

theorem judgeDuty_twoLevel {m : Mach} (h : m.npc = false) (k : Fin 2) (leg : Fin 3) (ta tc : Time) (d : F32) :
    judgeDuty k leg ta tc d m =
      if fle d 0 || fge d fOne then cancelEdge k leg false m else judge k leg false ta tc (!m.pwm[k].rising) m := by
  simp only [judgeDuty, h, Bool.not_false, if_true]
  rfl

/-- R158: where the other pair rests already, the pair in whose range the level lies is judged alone. -/
theorem judgeDuty_atRest {m : Mach} {k : Fin 2} {leg : Fin 3} {low : Bool} {d : F32} (h : m.npc = true) (hlow : fle d (fRat 1 2) = low)
    (hrest : (m.pairOf k leg (!low)).cmd = some (!low)) (h0 : fle (m.levelOf low d) 0 = false) (h1 : fge (m.levelOf low d) fOne = false)
    (ta tc : Time) :
    judgeDuty k leg ta tc d m = judge k leg low ta tc (!m.pwm[k].rising) (cancelEdge k leg (!low) m) := by
  have hpend : ((m.modPair' k leg (!low) (fun x => { x with pending := none })).pairOf k leg (!low)).pending = none := by
    rw [pairOf_modPair'_self]
  have hlevel : (m.modPair' k leg (!low) (fun x => { x with pending := none })).levelOf low d = m.levelOf low d := rfl
  simp only [judgeDuty, h, Bool.not_true, hlow, hrest, bne_self_eq_false, Bool.false_eq_true, if_false, hpend, hlevel, h0, h1,
    Bool.or_self]
  rfl

/-! ### Edges made (R60, R62, R484) -/

section
variable {m : Mach} {k : Fin 2} {leg : Fin 3} {low : Bool} {upTo te : Time}

theorem dueTurnOn_none (h : (m.pairOf k leg low).turnOn = none) : dueTurnOn k leg low upTo m = m := by
  simp only [dueTurnOn, h]

theorem dueTurnOn_some (h : (m.pairOf k leg low).turnOn = some te) : dueTurnOn k leg low upTo m =
    if upTo < te then m else
      makeEdge k leg low (m.pwm[k].below (m.levelOf low ((m.pairOf k leg low).held.getD 0)) te) te
        (m.modPair' k leg low (fun x => { x with turnOn := none })) := by
  simp only [dueTurnOn, h]

theorem dueEdge_none (h : (m.pairOf k leg low).pending = none) : dueEdge k leg low upTo m = m := by
  simp only [dueEdge, h]

theorem dueEdge_some (h : (m.pairOf k leg low).pending = some te) : dueEdge k leg low upTo m =
    if upTo < te then m
    else if (m.pairOf k leg low).cmd = some (m.pairOf k leg low).pendTo then cancelEdge k leg low m
    else makeEdge k leg low (m.pairOf k leg low).pendTo te
      ((cancelEdge k leg low m).modPair' k leg low (fun x => { x with made := true, tPrev := some te })) := by
  simp only [dueEdge, h]
  rfl

end

theorem each_eq_self {α : Type} (xs : List α) (f : α → Mach → Mach) (m : Mach) (h : ∀ x ∈ xs, f x m = m) : m.each xs f = m :=
  foldl_keeps (fun n => n = m) _ xs m (fun n x hx hn => by rw [hn, h x hx]) rfl

theorem dueEdges_dark {m : Mach} {k : Fin 2} (h : m.gate[k].pulses = false) (leg : Fin 3) (upTo : Time) : dueEdges k leg upTo m = m :=
  each_eq_self _ _ _ fun low _ => if_neg (by rw [h]; decide)

theorem dueEdges_twoLevel {m : Mach} {k : Fin 2} (hn : m.npc = false) (h : m.gate[k].pulses = true) (leg : Fin 3) (upTo : Time) :
    dueEdges k leg upTo m = dueEdge k leg false upTo (dueTurnOn k leg false upTo m) := by
  have hp : m.pairs2 = [false] := by simp [Mach.pairs2, hn]
  rw [dueEdges, hp]
  exact if_pos h

/-- Settles O17: the token's edge case by case, the first duty, and the commands that make edges and end dead times. -/
theorem legEdges : Obligations.LegEdges := by
  unfold Obligations.LegEdges
  refine ⟨⟨?judge, ?token, ?first⟩, ?legEdge, ?due, ?deadTime, ?tryOn⟩
  case judge =>
    intro m k leg low to_ ta tc p x tx none_ made
    refine ⟨judge_made, judge_beyond, judge_moved_beyond, fun hx hin hb => ⟨judge_first hx hin hb, fun tp ht => ?_⟩⟩
    rw [judge_after hx hin hb ht]
    refine ⟨fun h => if_neg (Nat.not_lt.mpr h), fun h hta => ?_, fun h hta => ?_⟩
    · exact (if_pos h).trans (if_pos hta)
    · exact (if_pos h).trans (if_neg (Nat.not_lt.mpr hta))
  case token =>
    intro m k leg ta tc d hu rest
    rw [judgeToken, if_neg (by simp [hu])]
    refine ⟨fun hn => ⟨fun hd => ?_, fun h0 h1 => ?_⟩, fun low hn hlow hrest h0 h1 => judgeDuty_atRest hn hlow hrest h0 h1 ta tc⟩
    · rw [judgeDuty_twoLevel hn]
      exact if_pos (by simpa using hd)
    · rw [judgeDuty_twoLevel hn]
      exact if_neg (by rw [h0, h1]; decide)
  case first =>
    intro m k leg ta tc d hu
    rw [judgeToken, if_pos hu, firstDuty]
  case legEdge =>
    intro s t k leg m hr
    rw [exec_legEdge, legEdgeEff, whenUp_running hr]
    exact ⟨fun h => by rw [dueEdges_dark h], fun hn h => by rw [dueEdges_twoLevel hn h], rfl⟩
  case due =>
    intro m k leg low upTo te x q
    refine ⟨dueTurnOn_none, fun h ht => ?_, fun h ht => ?_, dueEdge_none, fun h ht => ?_, fun h ht hc => ?_, fun h ht hc => ?_⟩
    · rw [dueTurnOn_some h, if_pos ht]
    · rw [dueTurnOn_some h, if_neg (Nat.not_lt.mpr ht)]
    · rw [dueEdge_some h, if_pos ht]
    · rw [dueEdge_some h, if_neg (Nat.not_lt.mpr ht)]
      exact if_pos hc
    · rw [dueEdge_some h, if_neg (Nat.not_lt.mpr ht)]
      exact if_neg hc
  case deadTime =>
    intro s t k leg m hr
    rw [exec_deadTimeElapsed, deadTimeElapsedEff, whenUp_running hr]
  case tryOn =>
    intro m c
    exact ⟨fun h => if_neg (by simp [h]), fun h => if_pos h⟩

end Sys2Proof.Proofs.Pwm
end

section
/-! SUPPORT. What an accepted write of each entry with an effect of its own comes to (R363, R395): the statements on these commands
cite the entry's lemma and never unfold the service of a request. -/

namespace Sys2Proof.Proofs.Writes

open Sys2Proof.Machine Sys2Proof.Laws Sys2Proof.Proofs.Block

/-! ### The effect of a checked write, entry by entry -/

section
variable (rq : Req) (role : Nat) (v : Val) (m : Mach)

theorem perform_commitRequest : perform rq role Key.commitRequest v m =
    (match valNat v with | 1 => commitEff false role m | 2 => commitEff true role m | _ => commitDiscardEff m, some 0) := rfl

theorem perform_echoStart : perform rq role Key.echoStart v m = (echoStartEff (ownerOf rq) m, some 0) := rfl

theorem perform_echoAbort : perform rq role Key.echoAbort v m = (echoAbortEff m, some 0) := rfl

theorem perform_captureArm : perform rq role Key.captureArm v m = (captureArmEff (ownerOf rq) m, some 0) := rfl

theorem perform_sealConfirm : perform rq role Key.safetySealConfirm v m =
    ((sealConfirmEff rq (BitVec.ofNat 32 (valNat v)) m).1, some (sealConfirmEff rq (BitVec.ofNat 32 (valNat v)) m).2) := rfl

theorem perform_fwActivate : perform rq role Key.fwActivate v m = (m, some (if m.activateOk (fin2 (valNat v)) then 0 else 0x0008)) := rfl

theorem perform_fwConfirm : perform rq role Key.fwConfirm v m = (fwConfirm m, some 0) := rfl

theorem perform_bankActivate : perform rq role Key.bankActivate v m = (bankActivateEff (bank4 (valNat v)) m, some 0) := rfl

theorem perform_bankStore : perform rq role Key.bankStore v m = (bankStoreEff role (bank4 (valNat v)) m, some 0) := rfl

theorem perform_bankRestoreDefaults : perform rq role Key.bankRestoreDefaults v m = (bankRestoreDefaultsEff role m, some 0) := rfl

theorem perform_bankErase : perform rq role Key.bankErase v m = (bankEraseEff (bank4 (valNat v)) m, some 0) := rfl

theorem perform_faultReset : perform rq role Key.faultReset v m = (faultResetEff m, some 0) := rfl

theorem perform_pdControl : perform rq role Key.pdControl v m =
    ((pdControl (ownerOf rq) (valNat v == 1) m).1, some (pdControl (ownerOf rq) (valNat v == 1) m).2) := rfl

theorem perform_tokensTotal : perform rq role Key.tokensTotal v m = writeTotal rq role (valNat v) m := rfl

/-- An entry of a set, a slot or a drive is none of the device's own that have an effect. -/
theorem perform_of_setOrDrive {k : Nat} (h : 0x3000 ≤ k / 256 ∧ k / 256 < 0x4A00) (hslot : ¬ (0x4000 ≤ k / 256 ∧ k / 256 < 0x4020)) :
    perform rq role k v m =
      if 0x3000 ≤ k / 256 ∧ k / 256 < 0x4000 then
        (match performSet (if k / 256 < 0x3800 then 0 else 1) (baseIndex (k / 256)) (k % 256) v m with
        | some (m, st) => (m, some st)
        | none => (storeEntry k v m, some 0))
      else if 0x4800 ≤ k / 256 ∧ k / 256 < 0x4A00 then
        (match performDrive (if k / 256 < 0x4900 then 0 else 1) (baseIndex (k / 256)) (k % 256) v k m with
        | some m => (m, some 0)
        | none => (storeEntry k v m, some 0))
      else (storeEntry k v m, some 0) := by
  have hne (j : Nat) (hj : j / 256 < 0x3000 ∨ 0x4A00 ≤ j / 256) : k ≠ j := by
    rintro rfl
    omega
  have hslot' : ¬ (0x4000 ≤ k / 256 ∧ k / 256 < 0x4020 ∧ k % 256 = 0x18) := fun hs => hslot ⟨hs.1, hs.2.1⟩
  have hbrake : ¬ (k / 256 = 0x5050 ∨ k / 256 = 0x5051) := by omega
  have hcred : ¬ k / 256 = 0x1851 := by omega
  simp only [perform, hne Key.commitRequest (by decide), hne Key.echoStart (by decide), hne Key.echoAbort (by decide),
    hne Key.captureArm (by decide), hne Key.safetySealConfirm (by decide), hne Key.fwActivate (by decide),
    hne Key.fwConfirm (by decide), hne Key.bankActivate (by decide), hne Key.bankStore (by decide),
    hne Key.bankRestoreDefaults (by decide), hne Key.bankErase (by decide), hne Key.powerSleepRequest (by decide),
    hne Key.lanternAcknowledge (by decide), hne Key.faultReset (by decide), hne Key.pdControl (by decide),
    hne Key.tokensTotal (by decide), hne Key.unitBudget (by decide), if_false, dif_neg hslot', hbrake, hcred] <;> rfl

/-- Where an entry of a set stands: the set, the index in the set's own range and the sub-index. -/
abbrev SetEntry (k : Nat) (x : Fin 2) (base sub : Nat) : Prop :=
  (0x3000 ≤ k / 256 ∧ k / 256 < 0x4000) ∧ (if k / 256 < 0x3800 then 0 else 1) = x ∧ baseIndex (k / 256) = base ∧ k % 256 = sub

/-- Where an entry of a drive stands. -/
abbrev DriveEntry (k : Nat) (d : Fin 2) (base sub : Nat) : Prop :=
  (0x4800 ≤ k / 256 ∧ k / 256 < 0x4A00) ∧ (if k / 256 < 0x4900 then 0 else 1) = d ∧ baseIndex (k / 256) = base ∧ k % 256 = sub

theorem perform_of_set {k base sub st : Nat} {x : Fin 2} {e : Mach} (h : SetEntry k x base sub)
    (hp : performSet x base sub v m = some (e, st)) : perform rq role k v m = (e, some st) := by
  obtain ⟨hr, rfl, rfl, rfl⟩ := h
  rw [perform_of_setOrDrive rq role v m (by omega) (by omega), if_pos hr, hp]

theorem perform_of_drive {k base sub : Nat} {d : Fin 2} {e : Mach} (h : DriveEntry k d base sub)
    (hp : performDrive d base sub v k m = some e) : perform rq role k v m = (e, some 0) := by
  obtain ⟨hr, rfl, rfl, rfl⟩ := h
  rw [perform_of_setOrDrive rq role v m (by omega) (by omega), if_neg (by omega), if_pos hr, hp]

theorem histogramClear_entry : ∀ k : Fin 2, SetEntry (Key.histogramClear k.1) k 0x3010 6 := by decide
theorem duskRun_entry : ∀ k : Fin 2, SetEntry (Key.duskRun k.1) k 0x3120 7 := by decide
theorem directEnable_entry : ∀ k : Fin 2, SetEntry (Key.gateDirectEnable k.1) k 0x3110 2 := by decide
theorem command_entry : ∀ d : Fin 2, DriveEntry (Key.command d.1) d 0x4800 3 := by decide
theorem wrapsSet_entry : ∀ d : Fin 2, DriveEntry (Key.winchWrapsSet d.1) d 0x4820 6 := by decide

theorem perform_histogramClear (k : Fin 2) : perform rq role (Key.histogramClear k.1) v m = (histogramClearEff k m, some 0) :=
  perform_of_set rq role v m (histogramClear_entry k) rfl

theorem perform_duskRun_ok {k : Fin 2} (h : m.duskRunOk k = true) :
    perform rq role (Key.duskRun k.1) v m = (duskRunEff k m, some 0) :=
  perform_of_set rq role v m (duskRun_entry k) (by simp [performSet, h])

theorem perform_duskRun_refused {k : Fin 2} (h : m.duskRunOk k = false) :
    perform rq role (Key.duskRun k.1) v m = (m, some 0x0008) :=
  perform_of_set rq role v m (duskRun_entry k) (by simp [performSet, h])

theorem perform_directEnable (k : Fin 2) : perform rq role (Key.gateDirectEnable k.1) v m =
    (directEnableEff k (valNat v == 1) m, some 0) :=
  perform_of_set rq role v m (directEnable_entry k) rfl

theorem perform_command (d : Fin 2) : perform rq role (Key.command d.1) v m =
    (if valNat v = 1 then commandRun d m else commandStopEff d m, some 0) :=
  perform_of_drive rq role v m (command_entry d) rfl

theorem perform_wrapsSet (d : Fin 2) : perform rq role (Key.winchWrapsSet d.1) v m =
    (wrapsSetEff d (BitVec.ofNat 32 (valNat v)) m, some 0) :=
  perform_of_drive rq role v m (wrapsSet_entry d) rfl

/-- The thirty-two slots. -/
theorem perform_historyReset (i : Fin 32) : perform rq role (Key.slotHistoryReset i.1) v m = (historyResetEff i m, some 0) := by
  have hdiv : Key.slotHistoryReset i.1 / 256 = 0x4000 + i.1 := by
    simp only [Key.slotHistoryReset]
    omega
  have hmod : Key.slotHistoryReset i.1 % 256 = 0x18 := by
    simp only [Key.slotHistoryReset]
    omega
  have hc : Key.slotHistoryReset i.1 ≠ Key.commitRequest := by
    simp only [Key.slotHistoryReset, Key.commitRequest]
    omega
  simp only [perform, hdiv, hmod]
  rw [if_neg hc, dif_pos ⟨by omega, by omega, trivial⟩]
  simp

end

/-! ### An accepted command -/

section
variable {s : Machine.State} {t : Time} {rq : Req} {c : Conn}

theorem exec_commitNextBoundary_accepted (h : (s.core.at_ t).accepts rq c Key.commitRequest [1] (.num 1)) :
    exec (.commitNextBoundary t rq) s = .next (s.after t (reply 3 rq 0 [] (commitEff false c.role (touch rq (s.core.at_ t))))) := by
  rw [exec_commitNextBoundary, writeHere_accepted h (by decide) (by decide) (perform_commitRequest ..)]
  rfl

theorem exec_commitAtBoundary_accepted (h : (s.core.at_ t).accepts rq c Key.commitRequest [2] (.num 2)) :
    exec (.commitAtBoundary t rq) s = .next (s.after t (reply 3 rq 0 [] (commitEff true c.role (touch rq (s.core.at_ t))))) := by
  rw [exec_commitAtBoundary, writeHere_accepted h (by decide) (by decide) (perform_commitRequest ..)]
  rfl

theorem exec_discardShadowBank_accepted (h : (s.core.at_ t).accepts rq c Key.commitRequest [3] (.num 3)) :
    exec (.discardShadowBank t rq) s = .next (s.after t (reply 3 rq 0 [] (commitDiscardEff (touch rq (s.core.at_ t))))) := by
  rw [exec_discardShadowBank, writeHere_accepted h (by decide) (by decide) (perform_commitRequest ..)]
  rfl

/-- An entry of a set or a drive is neither the unit block's nor the one that resets the device after its answer. -/
theorem plain_of_setOrDrive {k : Nat} (h : 0x3000 ≤ k / 256) : k / 256 ≠ 0x2840 ∧ k ≠ Key.fwActivate :=
  ⟨by omega, by rintro rfl; exact absurd h (by decide)⟩

theorem writeHere_set {m e : Mach} {k base sub st : Nat} {x : Fin 2} {b : List Byte} {v : Val} (h : m.accepts rq c k b v)
    (hk : SetEntry k x base sub) (hp : perform rq c.role k v (touch rq m) = (e, some st)) : writeHere rq k b m = reply 3 rq st [] e :=
  writeHere_accepted h (plain_of_setOrDrive hk.1.1).1 (plain_of_setOrDrive hk.1.1).2 hp

theorem writeHere_drive {m e : Mach} {k base sub st : Nat} {d : Fin 2} {b : List Byte} {v : Val} (h : m.accepts rq c k b v)
    (hk : DriveEntry k d base sub) (hp : perform rq c.role k v (touch rq m) = (e, some st)) : writeHere rq k b m = reply 3 rq st [] e := by
  have hr : 0x3000 ≤ k / 256 := by omega
  exact writeHere_accepted h (plain_of_setOrDrive hr).1 (plain_of_setOrDrive hr).2 hp

theorem exec_histogramClear_accepted {k : Fin 2} (h : (s.core.at_ t).accepts rq c (Key.histogramClear k.1) [1] (.num 1)) :
    exec (.histogramClear t rq k) s = .next (s.after t (reply 3 rq 0 [] (histogramClearEff k (touch rq (s.core.at_ t))))) := by
  rw [exec_histogramClear, writeHere_set h (histogramClear_entry k) (perform_histogramClear ..)]

theorem exec_historyReset_accepted {i : Fin 32} (h : (s.core.at_ t).accepts rq c (Key.slotHistoryReset i.1) [1] (.num 1)) :
    exec (.historyReset t rq i) s = .next (s.after t (reply 3 rq 0 [] (historyResetEff i (touch rq (s.core.at_ t))))) := by
  have hr : 0x3000 ≤ Key.slotHistoryReset i.1 / 256 := by
    simp only [Key.slotHistoryReset]
    omega
  rw [exec_historyReset, writeHere_accepted h (plain_of_setOrDrive hr).1 (plain_of_setOrDrive hr).2 (perform_historyReset ..)]

theorem exec_echoStart_accepted (h : (s.core.at_ t).accepts rq c Key.echoStart [1] (.num 1)) :
    exec (.echoStart t rq) s = .next (s.after t (reply 3 rq 0 [] (echoStartEff (ownerOf rq) (touch rq (s.core.at_ t))))) := by
  rw [exec_echoStart, writeHere_accepted h (by decide) (by decide) (perform_echoStart ..)]

theorem exec_echoAbort_accepted (h : (s.core.at_ t).accepts rq c Key.echoAbort [1] (.num 1)) :
    exec (.echoAbort t rq) s = .next (s.after t (reply 3 rq 0 [] (echoAbortEff (touch rq (s.core.at_ t))))) := by
  rw [exec_echoAbort, writeHere_accepted h (by decide) (by decide) (perform_echoAbort ..)]

theorem exec_captureArm_accepted (h : (s.core.at_ t).accepts rq c Key.captureArm [1] (.num 1)) :
    exec (.captureArm t rq) s = .next (s.after t (reply 3 rq 0 [] (captureArmEff (ownerOf rq) (touch rq (s.core.at_ t))))) := by
  rw [exec_captureArm, writeHere_accepted h (by decide) (by decide) (perform_captureArm ..)]

theorem exec_faultReset_accepted (h : (s.core.at_ t).accepts rq c Key.faultReset [1] (.num 1)) :
    exec (.faultReset t rq) s = .next (s.after t (reply 3 rq 0 [] (faultResetEff (touch rq (s.core.at_ t))))) := by
  rw [exec_faultReset, writeHere_accepted h (by decide) (by decide) (perform_faultReset ..)]

end

end Sys2Proof.Proofs.Writes
end

section
/-! SUPPORT. Commits of a device and of a grove (R52, R70 to R73). -/

namespace Sys2Proof.Proofs.Commit

open Sys2Proof.Machine Sys2Proof.Laws Sys2Proof.Proofs.Block Sys2Proof.Proofs.Writes

/-- What a command comes to, once its effect on the block at its stamp is known: the statements' proofs go on at the effect. -/
theorem exec_to {c : Instr} {s : Machine.State} {t : Time} {f : Mach → Mach} {m e : Mach}
    (hx : exec c s = .next (s.after t (f (s.core.at_ t)))) (h : f m = e) (hm : s.core.at_ t = m := by rfl) :
    exec c s = .next (s.after t e) := by
  rw [hx, hm, h]

section
variable {m : Mach} {d : Dom} {role : Nat} {atBoundary : Bool} {target : Option Nat} (hd : domOfCode (m.n Key.commitDomain) = some d)
include hd

theorem commitEff_refused {code : Nat}
    (h : m.commitRefusal d role (if atBoundary then some (m.n Key.commitTargetBoundary) else none) = some code) :
    commitEff atBoundary role m = m.modDom (domIx d) (fun x => { x with status := code }) := by
  simp only [commitEff, hd, h]
  rfl

theorem commitEff_alone (h : m.commitRefusal d role (if atBoundary then some (m.n Key.commitTargetBoundary) else none) = none)
    (hl : m.leads = false) : commitEff atBoundary role m = m.modDom (domIx d) (fun x => { x with
      pending := some { target := if atBoundary then some (m.n Key.commitTargetBoundary) else none, at_ := m.ns, safety := m.safetyCommit d }
      status := 1 }) := by
  simp only [commitEff, hd, h, hl]
  rfl

theorem commitEff_leader (h : m.commitRefusal d role (if atBoundary then some (m.n Key.commitTargetBoundary) else none) = none)
    (hl : m.leads = true) : commitEff atBoundary role m =
      groveCommitStart d (if atBoundary then some (m.n Key.commitTargetBoundary) else none) m := by
  simp only [commitEff, hd, h, hl, if_true]

theorem commitDiscardEff_pending (h : m.doms[domIx d].pending.isSome = true) :
    commitDiscardEff m = m.modDom (domIx d) (fun x => { x with status := 0x13 }) := by
  simp only [commitDiscardEff, hd, h]
  rfl

theorem commitDiscardEff_free (h : m.doms[domIx d].pending = none) :
    commitDiscardEff m = ((m.changedOf d).foldl (fun m k => m.putShadow k (m.val k)) m).modDom (domIx d) (fun x => { x with
      carried := [], status := if x.carried.isEmpty then x.status else 2 }) := by
  simp only [commitDiscardEff, hd, h]
  rfl

end

/-- A named boundary that has passed is refused (R70). -/
theorem commitRefusal_passed {m : Mach} {d : Dom} {role b : Nat} (hr : 3 ≤ role) (hs : m.safetyCommit d = false)
    (hh : m.commitHeld d = false) (hb : b ≤ m.doms[domIx d].count) : m.commitRefusal d role (some b) = some 0x10 := by
  simp only [Mach.commitRefusal, hs, hh, hb]
  simp [Nat.not_lt.mpr hr]

/-- Settles O19: each request is judged by `commitRefusal`; each message of a grove's commit meets its deadline or its boundary. -/
theorem commits : Obligations.Commits := by
  unfold Obligations.Commits
  refine ⟨⟨?next, ?named, ?discard, ?histogram⟩, ?prepare, ?answer, ?timeout, ?commit, ?lapse⟩
  case next =>
    intro s t rq c d m n ha hd
    rw [exec_commitNextBoundary_accepted ha]
    refine ⟨fun hr hl => ?_, fun hr hl => ?_, fun code hr => ?_⟩
    · rw [commitEff_alone hd hr hl]
      rfl
    · rw [commitEff_leader hd hr hl]
      rfl
    · rw [commitEff_refused hd hr]
  case named =>
    intro s t rq c d m n b ha hd
    rw [exec_commitAtBoundary_accepted ha]
    refine ⟨fun hr hl => ?_, fun hr hl => ?_, fun hrole hs hh hb => ?_⟩
    · rw [commitEff_alone hd hr hl]
      rfl
    · rw [commitEff_leader hd hr hl]
      rfl
    · rw [commitEff_refused hd (commitRefusal_passed hrole hs hh hb)]
  case discard =>
    intro s t rq c d m n ha hd
    rw [exec_discardShadowBank_accepted ha]
    exact ⟨fun hp => by rw [commitDiscardEff_pending hd hp], fun hp => by rw [commitDiscardEff_free hd hp]⟩
  case histogram =>
    intro s t rq c k m ha
    exact exec_histogramClear_accepted ha
  case prepare =>
    intro s t d m hl hf hh hb
    refine exec_to (exec_groveCommitPrepare ..) (m := m) ?_
    simp [groveCommitPrepareEff, whenLanes_act hl, hf, hh, hb]
  case answer =>
    intro s t p d g m n hl hlead hg
    refine ⟨fun h0 => exec_to (exec_prepareAnswer ..) (m := m) ?_, exec_to (exec_prepareAnswer ..) (m := m) ?_⟩
    · simp only [prepareAnswerEff, whenLanes_act hl, hlead, Bool.not_true, Bool.false_eq_true, if_false]
      rw [hg]
      exact if_pos h0
    · simp only [prepareAnswerEff, whenLanes_act hl, hlead, Bool.not_true, Bool.false_eq_true, if_false]
      rw [hg]
      rfl
  case timeout =>
    intro s t p d g m hl hg
    refine ⟨fun h => exec_to (exec_prepareTimeout ..) (m := m) ?_, fun h => exec_to (exec_prepareTimeout ..) (m := m) ?_⟩
    · simp only [prepareTimeoutEff, whenLanes_act hl, hg, h, if_true]
    · simp only [prepareTimeoutEff, whenLanes_act hl, hg, Nat.not_lt.mpr h, if_false]
      rfl
  case commit =>
    intro s t d n m hl hg hlead
    refine ⟨fun h => exec_to (exec_groveCommit ..) (m := m) ?_, fun h hp => exec_to (exec_groveCommit ..) (m := m) ?_,
      fun h hp => exec_to (exec_groveCommit ..) (m := m) ?_⟩
    · simp [groveCommitEff, whenLanes_act hl, hg, hlead, h, swapMissed]
    · simp [groveCommitEff, whenLanes_act hl, hg, hlead, Nat.not_le.mpr h, -Fin.getElem_fin, hp]
    · simp [groveCommitEff, whenLanes_act hl, hg, hlead, Nat.not_le.mpr h, -Fin.getElem_fin, hp]
  case lapse =>
    intro s t d e m hl hp he
    refine exec_to (exec_prepareLapse ..) (m := m) ?_
    simp [prepareLapseEff, whenLanes_act hl, due, -Fin.getElem_fin, hp, he, Machine.prepareLapse]

end Sys2Proof.Proofs.Commit
end

section
/-! SUPPORT. The sensing: fast comparators, modulator streams, terminals, position interfaces, analog inputs and lever pairs
(R79 to R101, R160). -/

namespace Sys2Proof.Proofs.Sensing

open Sys2Proof.Machine Sys2Proof.Laws Sys2Proof.Proofs.Block Sys2Proof.Proofs.Commit

/-! ### Comparators, streams, terminals (R79, R89 to R91, R160) -/

/-- The filter has met the threshold at so many outputs in a row. -/
abbrev confirmed (m : Mach) (k : Fin 2) (n : Fin 6) (high : Bool) (bits : List Bool) : Bool :=
  (List.range (max 1 (m.n (Key.inputTripConfirm (m.inputSet k).1 n.1)))).all (fun j =>
    fastMeets (m.n (Key.senseOvcOSR (m.inputSet k).1)) high
      (m.r (if high then Key.inputTripHigh (m.inputSet k).1 n.1 else Key.inputTripLow (m.inputSet k).1 n.1)) (bits.reverse.drop j))

section
variable {m : Mach} {k : Fin 2} {n : Fin 6} {high : Bool} {bits : List Bool}

section
variable (hl : m.lanesAct = true)
include hl

theorem fastComparatorTripEff_untripping (h : 3 < n.1) : fastComparatorTripEff k n high bits m = m :=
  (whenLanes_act hl _).trans (if_pos (.inr h))

theorem fastComparatorTripEff_unconfirmed (h : confirmed m k n high bits = false) : fastComparatorTripEff k n high bits m = m := by
  rw [fastComparatorTripEff, whenLanes_act hl]
  by_cases hu : (!m.inputUsed k n) = true ∨ 3 < n.1
  · exact if_pos hu
  · exact (if_neg hu).trans (if_pos (congrArg (!·) h))

theorem fastComparatorTripEff_confirmed (hu : m.inputUsed k n = true) (hn : n.1 ≤ 3) (h : confirmed m k n high bits = true) :
    fastComparatorTripEff k n high bits m =
      let osr := m.n (Key.senseOvcOSR (m.inputSet k).1)
      let thr := m.r (if high then Key.inputTripHigh (m.inputSet k).1 n.1 else Key.inputTripLow (m.inputSet k).1 n.1)
      let x := fRat (2 * (onesOf osr bits.reverse : Int) - osr) (max 1 osr)
      let e := m.modInput k n (fun x => { x with tripped := true })
      if n = 3 ∧ !high ∧ !m.gate[m.inputSet k].pulses then m
      else if n.1 < 3 then tripSet (m.inputSet k) 0x09 n.1 none x thr e
      else raiseV (if high then 0x0A else 0x0B) (some (m.inputSet k)) none n.1 x thr (tripTurnOff (m.inputSet k) e) := by
  rw [fastComparatorTripEff, whenLanes_act hl]
  exact (if_neg (by simp [hu, Nat.not_lt.mpr hn])).trans (if_neg (Bool.eq_false_iff.mp (congrArg (!·) h)))

end

/-- The threshold is rounded towards zero to a step of the filter (R79). -/
theorem fastMeets_iff {osr : Nat} {thr : F32} (hl : osr ≤ bits.length) (hs : fSign thr = false) :
    fastMeets osr high thr bits = true ↔
      (if high then 2 * ((fScaleNat (fabs thr) osr / 2 : Nat) : Int) ≤ 2 * onesOf osr bits - osr
       else 2 * (onesOf osr bits : Int) - osr ≤ 2 * ((fScaleNat (fabs thr) osr / 2 : Nat) : Int)) := by
  cases high <;> simp [fastMeets, hl, hs]

end

/-- Settles O20: the comparator by whether its filter has met the threshold; streams and terminals by their own conditions. -/
theorem comparatorsAndStreams : Obligations.ComparatorsAndStreams := by
  unfold Obligations.ComparatorsAndStreams
  refine ⟨⟨?comparator, fun _ _ _ _ => fastMeets_iff⟩, ?dead, ?restored, ?terminal, ?neutral⟩
  case comparator =>
    intro s t k n high bits m g thr osr e x meets hl hu
    have hmet (h : ∀ j < max 1 (m.n (Key.inputTripConfirm g.1 n.1)), meets j = true) : confirmed m k n high bits = true :=
      List.all_eq_true.mpr fun j hj => h j (List.mem_range.mp hj)
    have hstep {e' : Mach} (h : fastComparatorTripEff k n high bits m = e') :
        exec (.fastComparatorTrip t k n high bits) s = .next (s.after t e') := exec_to (exec_fastComparatorTrip ..) h
    refine ⟨fun hn => hstep (fastComparatorTripEff_untripping hl hn), fun j hj hm => hstep (fastComparatorTripEff_unconfirmed hl ?unmet),
      fun hall => ⟨fun hn => hstep ?phase, fun hn hh => hstep ?above, fun hn hh hp => hstep ?below, fun hn hh hp => hstep ?idle⟩⟩
    case unmet => exact List.all_eq_false.mpr ⟨j, List.mem_range.mpr hj, Bool.eq_false_iff.mp hm⟩
    case phase =>
      rw [fastComparatorTripEff_confirmed hl hu (by omega) (hmet hall)]
      exact (if_neg (by rintro ⟨rfl, -⟩; simp at hn)).trans (if_pos hn)
    case above =>
      subst hn hh
      exact (fastComparatorTripEff_confirmed hl hu (by decide) (hmet hall)).trans (if_neg (by simp))
    case below =>
      subst hn hh
      exact (fastComparatorTripEff_confirmed hl hu (by decide) (hmet hall)).trans (if_neg (fun h => absurd hp (Bool.eq_false_iff.mp ((Bool.not_eq_true' _).mp h.2.2))))
    case idle =>
      subst hn hh
      exact (fastComparatorTripEff_confirmed hl hu (by decide) (hmet hall)).trans (if_pos ⟨rfl, rfl, congrArg (!·) hp⟩)
  case dead =>
    intro s t k n last t0 m due_ hr hu hc
    have hnow (hd : m.now < due_) : m.now < max last (t0 + 64 * m.bitPeriod (m.inputSet k)) + 17 * m.bitPeriod (m.inputSet k) := hd
    refine ⟨fun hd h => exec_to (exec_modulatorStreamDead ..) (m := m) ?_, fun h => exec_to (exec_modulatorStreamDead ..) (m := m) ?_⟩
    · rw [modulatorStreamDeadEff, whenUp_running hr]
      simp only [hc]
      exact if_neg (by rintro (h' | h' | h'); exacts [by simp [hu] at h', absurd (h'.symm.trans hd) (by decide), absurd h (Nat.not_le.mpr h')])
    · rw [modulatorStreamDeadEff, whenUp_running hr]
      simp only [hc]
      exact if_pos (.inr h)
  case restored =>
    intro s t k n bits m need e hr hd
    refine ⟨fun hlen hrun hlate => exec_to (exec_modulatorStreamRestored ..) (m := m) ?_,
      fun h => exec_to (exec_modulatorStreamRestored ..) (m := m) ?_⟩
    · rw [modulatorStreamRestoredEff, whenUp_running hr]
      refine if_neg ?_
      rintro (h | h | h | h)
      exacts [by simp [-Fin.getElem_fin, hd] at h, absurd hlen (Nat.not_le.mpr h), absurd hrun (Nat.not_lt.mpr h), absurd hlate (Nat.not_le.mpr h)]
    · rw [modulatorStreamRestoredEff, whenUp_running hr]
      exact if_pos (.inr h)
  case terminal =>
    intro s t k stream m hr
    refine ⟨fun hp => exec_to (exec_terminalMeasurementDone ..) (m := m) ?_, fun hp ht => exec_to (exec_terminalMeasurementDone ..) (m := m) ?_,
      fun a f r hp ht => exec_to (exec_terminalMeasurementDone ..) (m := m) ?_⟩
    · simp [terminalMeasurementDoneEff, whenUp_running hr, -Fin.getElem_fin, hp]
    · simp [terminalMeasurementDoneEff, whenUp_running hr, -Fin.getElem_fin, hp, ht]
    · simp only [terminalMeasurementDoneEff, whenUp_running hr, hp, ht, Bool.false_eq_true, if_false]
  case neutral =>
    intro s t k since m hl hs
    refine ⟨fun hn h => exec_to (exec_neutralPointDeviation ..) (m := m) ?_, fun h => exec_to (exec_neutralPointDeviation ..) (m := m) ?_⟩
    · simp only [neutralPointDeviationEff, whenLanes_act hl, hs]
      exact if_pos ⟨hn, h⟩
    · simp only [neutralPointDeviationEff, whenLanes_act hl, hs]
      exact if_neg fun h' => absurd h'.2 (Nat.not_le.mpr h)

theorem vmod_congr {α : Type} {n : Nat} {v : Vector α n} {i : Fin n} {f g : α → α} (h : f v[i] = g v[i]) : vmod v i f = vmod v i g :=
  congrArg (v.set i.1 ·) h

/-! ### Position interfaces (R93 to R98) -/

section
variable {m : Mach} {i : Fin 2}

theorem encoderEdgeEff_counted (hr : m.running = true) {fwd : Bool} {stable : Nat}
    (h : (m.n (Key.piMode i.1) = 1 ∧ m.n (Key.piGlitchFilter i.1) ≤ stable) ∨ m.n (Key.piMode i.1) = 2) :
    encoderEdgeEff i fwd false stable m =
      let step : Int := if fwd != m.b (Key.piInvert i.1) then 1 else -1
      m.modPos i (fun p => { p with
        count := p.count + step, edges := p.edges + 1, firstEdge := if p.edges = 0 then m.ns else p.firstEdge
        firstCount := if p.edges = 0 then p.count + step else p.firstCount
        prevEdge := if p.edges = 0 then p.lastEdge else p.prevEdge, lastEdge := m.ns }) := by
  rw [encoderEdgeEff, if_neg (by simp), whenUp_running hr]
  exact if_neg (by omega)

theorem encoderEdgeEff_ignored (hr : m.running = true) {fwd : Bool} {stable : Nat}
    (h : (m.n (Key.piMode i.1) = 1 ∧ stable < m.n (Key.piGlitchFilter i.1)) ∨ (m.n (Key.piMode i.1) ≠ 1 ∧ m.n (Key.piMode i.1) ≠ 2)) :
    encoderEdgeEff i fwd false stable m = m := by
  rw [encoderEdgeEff, if_neg (by simp), whenUp_running hr]
  exact if_pos h.symm

theorem up_isSome_of_running (hr : m.running = true) : m.up ≠ none := by
  intro h
  simp [Mach.running, h] at hr

/-- The counts between two index pulses, in the mode's unit, and how many a revolution has. -/
def zDist (m : Mach) (i : Fin 2) : Nat :=
  ((m.pos[i].count - m.pos[i].zCount) / (if m.n (Key.piMode i.1) = 1 then 1 else 4 : Int)).natAbs

def zPer (m : Mach) (i : Fin 2) : Nat := if m.n (Key.piMode i.1) = 1 then m.piCounts i else m.n (Key.piLinesPerRev i.1)

/-- The counts since the last index pulse are not those of a revolution. -/
def zBad (m : Mach) (i : Fin 2) : Bool :=
  m.pos[i].zSeen && m.n (Key.piZTolerance i.1) != 0 &&
    decide (zDist m i + m.n (Key.piZTolerance i.1) < zPer m i ∨ zPer m i + m.n (Key.piZTolerance i.1) < zDist m i)

theorem modPos_congr {f g : PosIf → PosIf} (h : f m.pos[i] = g m.pos[i]) : m.modPos i f = m.modPos i g :=
  congrArg (fun v => { m with pos := v }) (vmod_congr h)

theorem indexPulseEff_of_edges (hr : m.running = true) (hm : m.n (Key.piMode i.1) = 1 ∨ m.n (Key.piMode i.1) = 2) :
    indexPulseEff i m =
      let e := m.modPos i (fun q => { q with referenced := q.referenced || !(q.wireBreak || q.excOpen), zSeen := true, zCount := m.pos[i].count })
      if zBad m i then raise 0x12 (some (e.piSet i)) none i.1 (e.modPos i (fun p => { p with countErr := true })) else e := by
  rw [indexPulseEff, whenUp_running hr]
  refine (if_neg (by omega)).trans ?_
  dsimp only
  rw [modPos_congr (g := fun q => { q with
    referenced := q.referenced || !(q.wireBreak || q.excOpen), zSeen := true, zCount := m.pos[i].count }) rfl]
  rfl

/-- The wire of an interface reads as broken, by the interface's mode (R97). -/
def wireBroken (m : Mach) (i : Fin 2) (pair : Fin 3) (v : F32) (dur : Nat) (xs : Vector (F32 × F32) 3) : Bool :=
  match m.n (Key.piMode i.1) with
  | 1 => (pair != 2 || m.pos[i].zSeen) && flt (fabs v) (fRat 2 10) && decide (1000 < dur)
  | 2 => xs.toList.all (m.radiusBad i (fRat 1 2))
  | 3 => xs.toList.all (m.radiusBad i (Config.resolverRadius m.live i.1))
  | _ => false

section
variable {pair : Fin 3} {v : F32} {dur : Nat} {xs : Vector (F32 × F32) 3}

theorem wireBroken_incremental (h : m.n (Key.piMode i.1) = 1) : wireBroken m i pair v dur xs =
    ((pair != 2 || m.pos[i].zSeen) && flt (fabs v) (fRat 2 10) && decide (1000 < dur)) := by
  simp only [wireBroken, h]

theorem wireBroken_sinCos (h : m.n (Key.piMode i.1) = 2) :
    wireBroken m i pair v dur xs = xs.toList.all (m.radiusBad i (fRat 1 2)) := by
  simp only [wireBroken, h]

theorem wireBroken_resolver (h : m.n (Key.piMode i.1) = 3) :
    wireBroken m i pair v dur xs = xs.toList.all (m.radiusBad i (Config.resolverRadius m.live i.1)) := by
  simp only [wireBroken, h]

theorem wireBroken_unwired (h1 : m.n (Key.piMode i.1) ≠ 1) (h2 : m.n (Key.piMode i.1) ≠ 2) (h3 : m.n (Key.piMode i.1) ≠ 3) :
    wireBroken m i pair v dur xs = false := by
  unfold wireBroken
  split <;> [exact absurd ‹_› h1; exact absurd ‹_› h2; exact absurd ‹_› h3; rfl]

end

theorem positionWireBreakEff_whole (hr : m.running = true) {pair v dur xs} (h : wireBroken m i pair v dur xs = false) :
    positionWireBreakEff i pair v dur xs m = m := by
  rw [positionWireBreakEff, whenUp_running hr]
  exact if_neg (Bool.eq_false_iff.mp h)

theorem positionWireBreakEff_broken (hr : m.running = true) {pair v dur xs} (h : wireBroken m i pair v dur xs = true) :
    positionWireBreakEff i pair v dur xs m =
      piFault 0x10 i true (referenceLost i (m.modPos i (fun p => { p with wireBreak := true }))) := by
  rw [positionWireBreakEff, whenUp_running hr]
  exact if_pos h

/-- The counts of an interface contradict its edges or its quadrants, by the interface's mode (R97). -/
def countBad (m : Mach) (i : Fin 2) (gap : Nat) : Bool :=
  match m.n (Key.piMode i.1) with
  | 1 => decide (gap ≤ m.n (Key.piGlitchFilter i.1))
  | 2 => match m.pos[i].phase with
    | some ph => (m.pos[i].place / 16384 : Int) != (m.pos[i].countPrev + ph) % 4
    | none => false
  | _ => false

theorem positionCountErrorEff_of_bad (hr : m.running = true) {gap : Nat} (h : countBad m i gap = true) :
    positionCountErrorEff i gap m =
      piFault 0x11 i false ((m.modPos i (fun p => { p with countErr := true })).inc (Key.piCountErrors i.1)) := by
  rw [positionCountErrorEff, whenUp_running hr]
  exact if_pos h

end

/-- Settles O21: each interface by its mode, each fault by its threshold. -/
theorem positionInterfaces : Obligations.PositionInterfaces := by
  unfold Obligations.PositionInterfaces
  refine ⟨⟨?edge, ?lantern, ?index⟩, ?faults⟩
  case edge =>
    intro s t i fwd stable m mode step hr
    exact ⟨fun h => exec_to (exec_encoderEdge ..) (m := m) (encoderEdgeEff_counted hr h),
      fun h => exec_to (exec_encoderEdge ..) (m := m) (encoderEdgeEff_ignored hr h),
      exec_to (exec_encoderEdge ..) (m := m) ((if_pos rfl).trans (if_neg fun h => up_isSome_of_running hr (Option.isNone_iff_eq_none.mp h.1)))⟩
  case lantern =>
    intro s t fwd stable m hu hm hs
    exact exec_to (exec_encoderEdge ..) (m := m) ((if_pos rfl).trans (if_pos ⟨Option.isNone_iff_eq_none.mpr hu, rfl, hm, hs⟩))
  case index =>
    intro s t i m mode unit per tol p d e hr
    refine ⟨fun h1 h2 => exec_to (exec_indexPulse ..) (m := m) ?_, fun hm => ⟨fun h => exec_to (exec_indexPulse ..) (m := m) ?_, fun hz ht h => exec_to (exec_indexPulse ..) (m := m) ?_⟩⟩
    · exact (whenUp_running hr _).trans (if_pos ⟨h1, h2⟩)
    · have hb : zBad m i = false := by
        rcases h with h | h | h
        · exact Bool.and_eq_false_imp.mpr fun h' => absurd (h.symm.trans (Bool.and_eq_true_iff.mp h').1) (by decide)
        · exact Bool.and_eq_false_imp.mpr fun h' => absurd h (bne_iff_ne.mp (Bool.and_eq_true_iff.mp h').2)
        · exact Bool.and_eq_false_iff.mpr (.inr (decide_eq_false (by rintro (h' | h'); exacts [absurd h.1 (Nat.not_le.mpr h'), absurd h.2 (Nat.not_le.mpr h')])))
      rw [indexPulseEff_of_edges hr hm, hb]
      rfl
    · have hb : zBad m i = true := Bool.and_eq_true_iff.mpr ⟨Bool.and_eq_true_iff.mpr ⟨hz, bne_iff_ne.mpr ht⟩, decide_eq_true h⟩
      rw [indexPulseEff_of_edges hr hm, hb]
      rfl
  case faults =>
    intro s t i m mode p broken hr
    refine ⟨?wire, ?count, ?excitation, ?tracking, ?settled, ?settling⟩
    case wire =>
      intro pair v dur xs report
      refine ⟨fun h1 h2 h3 => exec_to (exec_positionWireBreak ..) (positionWireBreakEff_whole hr ?_),
        fun hm hp hv hd => exec_to (exec_positionWireBreak ..) (positionWireBreakEff_broken hr ?_),
        fun hm h => exec_to (exec_positionWireBreak ..) (positionWireBreakEff_whole hr ?_),
        fun hm h => exec_to (exec_positionWireBreak ..) (positionWireBreakEff_broken hr ?_),
        fun hm h => exec_to (exec_positionWireBreak ..) (positionWireBreakEff_broken hr ?_)⟩
      · exact wireBroken_unwired h1 h2 h3
      · rw [wireBroken_incremental hm, hv, decide_eq_true hd]
        rcases hp with hp | hp
        · simp [hp]
        · rw [show m.pos[i].zSeen = true from hp]
          simp
      · rw [wireBroken_incremental hm]
        rcases h with ⟨hp, hz⟩ | hv | hd
        · rw [show m.pos[i].zSeen = false from hz]
          simp [hp]
        · simp [hv]
        · simp [Nat.not_lt.mpr hd]
      · exact (wireBroken_sinCos hm).trans (List.all_eq_true.mpr h)
      · exact (wireBroken_resolver hm).trans (List.all_eq_true.mpr h)
    case count =>
      intro gap h
      refine exec_to (exec_positionCountError ..) (positionCountErrorEff_of_bad hr ?_)
      rcases h with ⟨hm, hg⟩ | ⟨ph, hm, hp, hq⟩
      · simp only [countBad, show m.n (Key.piMode i.1) = 1 from hm, decide_eq_true hg]
      · simp only [countBad, show m.n (Key.piMode i.1) = 2 from hm, show m.pos[i].phase = some ph from hp]
        exact bne_iff_ne.mpr hq
    case excitation =>
      intro rms dur
      refine ⟨fun hm hv hd => exec_to (exec_resolverExcitationOpen ..) (m := m) ((whenUp_running hr _).trans (if_pos ⟨hm, hv, hd⟩)),
        fun h => exec_to (exec_resolverExcitationOpen ..) (m := m) ((whenUp_running hr _).trans (if_neg ?_))⟩
      rintro ⟨hm, hv, hd⟩
      rcases h with h | h | h
      exacts [h hm, absurd (hv.symm.trans h) (by decide), absurd hd (Nat.not_le.mpr h)]
    case tracking =>
      intro x run err
      refine ⟨fun hm he => exec_to (exec_resolverTrackingLoss ..) (m := m) ((whenUp_running hr _).trans (if_pos ⟨hm, he⟩)),
        fun h => exec_to (exec_resolverTrackingLoss ..) (m := m) ((whenUp_running hr _).trans (if_neg ?_))⟩
      rintro ⟨hm, he⟩
      rcases h with h | h
      exacts [h hm, absurd (he.symm.trans h) (by decide)]
    case settled => exact fun h => exec_to (exec_excitationSettleEnd ..) (m := m) ((whenUp_running hr _).trans (if_pos h))
    case settling => exact fun h => exec_to (exec_excitationSettleEnd ..) (m := m) ((whenUp_running hr _).trans (if_neg (Nat.not_le.mpr h)))

/-! ### Analog inputs and lever pairs (R99 to R101) -/

section
variable {m : Mach} {n : Fin 8} {volts : F32}

/-- The reading of an analog input lies outside its validity window. -/
def ainOutside (m : Mach) (n : Fin 8) (volts : F32) : Bool :=
  flt (ainCode volts) (m.r (Key.ainValidLow n.1)) || fgt (ainCode volts) (m.r (Key.ainValidHigh n.1))

/-- A conversion taken, with so many readings in a row outside the window. -/
def ainTaken (m : Mach) (n : Fin 8) (volts : F32) (cnt : Nat) : Mach :=
  let x := m.ain[n]
  let raw := ainCode volts
  let a := fsub fOne (Config.exp (fneg (fdiv (fSeconds (m.ns - x.last)) (fRat (m.n (Key.ainFilterTime n.1)) 1000))))
  let y := if m.n (Key.ainFilterTime n.1) = 0 ∨ x.seen = false then raw else fadd x.filtered (fmul a (fsub raw x.filtered))
  pairUpdate ⟨n.1 / 2 % 4, Nat.mod_lt _ (by decide)⟩
    (({ m with ainLast := some (n, m.ns) } : Mach).modAin n (fun x => { x with
      raw := raw, filtered := y, seen := true, last := m.ns, outside := cnt,
      value := fadd (fmul (m.r (Key.ainScale n.1)) y) (m.r (Key.ainOffset n.1)) }))

theorem ainConversionEff_early (hr : m.running = true)
    (h : bit (m.n Key.supplyStatus) 5 = true ∨ m.ainNext ≠ some n ∨ (∃ l, m.ainLast = some l ∧ m.ns < l.2 + 100000)) :
    ainConversionEff n volts m = m := by
  rw [ainConversionEff, whenUp_running hr]
  refine if_pos ?_
  rcases h with h | h | ⟨l, hl, h⟩
  · exact .inr (.inr h)
  · exact .inl h
  · rw [hl]
    exact .inr (.inl (decide_eq_true h))

theorem ainConversionEff_due (hr : m.running = true) (hv : bit (m.n Key.supplyStatus) 5 = false) (hn : m.ainNext = some n)
    (hl : ∀ l, m.ainLast = some l → l.2 + 100000 ≤ m.ns) :
    ainConversionEff n volts m =
      let cnt := if ainOutside m n volts then min 3 (m.ain[n].outside + 1) else 0
      if cnt = 3 ∧ m.ain[n].outside < 3 then raiseM 0x15 n.1 (ainTaken m n volts cnt)
      else if !ainOutside m n volts then (ainTaken m n volts cnt).causeGone 0x15 none none n.1 else ainTaken m n volts cnt := by
  have hearly : (match m.ainLast with | some x => decide (m.ns < x.2 + 100000) | none => false) = false := by
    split
    · next l h => exact decide_eq_false (Nat.not_lt.mpr (hl l h))
    · rfl
  rw [ainConversionEff, whenUp_running hr]
  refine (if_neg ?_).trans ?_
  · rintro (h | h | h)
    exacts [h hn, absurd (h.symm.trans hearly) (by decide), absurd (h.symm.trans hv) (by decide)]
  · simp only [ainTaken, ainOutside, Bool.not_eq_true']
    rfl

end

/-- Settles O22: a conversion by its window and its count; a pair by how long its tracks have disagreed or agreed. -/
theorem analogInputsAndLevers : Obligations.AnalogInputsAndLevers := by
  unfold Obligations.AnalogInputsAndLevers
  refine ⟨?conversion, ?disagree, ?agree⟩
  case conversion =>
    intro s t n volts m x raw a y out taken hr
    refine ⟨fun h => exec_to (exec_ainConversion ..) (m := m) (ainConversionEff_early hr h), fun hv hn hl => ?_⟩
    have hdue := ainConversionEff_due (volts := volts) hr hv hn hl
    refine ⟨fun ho => exec_to (exec_ainConversion ..) (hdue.trans ?inside), fun ho hx => exec_to (exec_ainConversion ..) (hdue.trans ?third),
      fun ho hx => exec_to (exec_ainConversion ..) (hdue.trans ?outside)⟩
    case inside =>
      have ho : ainOutside m n volts = false := by simpa [ainOutside, out, raw] using ho
      simp only [ho]
      rfl
    case third =>
      have ho : ainOutside m n volts = true := Bool.or_eq_true_iff.mpr ho
      have hx : m.ain[n].outside = 2 := hx
      simp only [ho, hx]
      rfl
    case outside =>
      have ho : ainOutside m n volts = true := Bool.or_eq_true_iff.mpr ho
      have hx : m.ain[n].outside ≠ 2 := hx
      simp only [ho]
      exact (if_neg (by rw [if_pos trivial]; omega)).trans (if_neg (by decide))
  case disagree =>
    intro s t k since m e hl hm hs hv
    refine ⟨fun h hd => exec_to (exec_leverTrackDiscrepancy ..) (m := m) ?_, fun h => exec_to (exec_leverTrackDiscrepancy ..) (m := m) ?_⟩
    · rw [leverTrackDiscrepancyEff, whenLanes_act hl]
      simp only [hs]
      refine (if_neg ?_).trans (if_neg fun h' => hd (List.isEmpty_iff.mp h'))
      rintro (h' | h' | h')
      exacts [hm h', by simp [pairEven, h] at h', absurd (h'.symm.trans hv) (by decide)]
    · rw [leverTrackDiscrepancyEff, whenLanes_act hl]
      simp only [hs]
      exact if_pos (.inr (.inl (by simp [pairEven, Nat.not_lt.mpr h])))
  case agree =>
    intro s t k since m e hl hs hv h
    refine exec_to (exec_leverPairAgreed ..) (m := m) ?_
    rw [leverPairAgreedEff, whenLanes_act hl]
    simp only [hs]
    refine if_neg ?_
    rintro (h' | h')
    exacts [absurd hv (by simpa [-Fin.getElem_fin] using h'), by simp [pairEven, h] at h']

end Sys2Proof.Proofs.Sensing
end

section
/-! SUPPORT. The control engine: samples, computations, stalls, forced swaps, Echo runs and captures (R113, R122 to R137). -/

namespace Sys2Proof.Proofs.Engine

open Sys2Proof.Machine Sys2Proof.Laws Sys2Proof.Proofs.Block Sys2Proof.Proofs.Commit Sys2Proof.Proofs.Sensing Sys2Proof.Proofs.Writes

/-- The answer to a service depends on what the service has done alone. -/
theorem next_reply {s : Machine.State} {t : Time} {rq : Req} {st : Nat} {b : List Byte} {e e' : Mach} (h : e = e') :
    (Host.Outcome.next (s.after t (reply 3 rq st b e)) : Host.Outcome Machine.State Fault Refusal) = .next (s.after t (reply 3 rq st b e')) := by
  rw [h]

/-- Where a request is served from no member of the grove, its own connection owns what it starts. -/
theorem ownerOf_of_takes {m : Mach} {rq : Req} (h : m.takes rq.src = true) : ownerOf rq = rq.handle := by
  cases hs : rq.src with
  | canopy p => simp [Mach.takes, hs] at h
  | eth _ _ | udp _ _ _ | usb => simp only [ownerOf, hs]

theorem modEng_congr {m : Mach} {i : Fin 2} {f g : Machine.Engine → Machine.Engine} (h : f m.eng[i] = g m.eng[i]) : m.modEng i f = m.modEng i g :=
  congrArg (fun v => { m with eng := v }) (vmod_congr h)

/-! ### Samples (R122, R123) -/

/-- The front end of a sample, before the engine takes it: the windows and the latched positions. -/
def frontEnd (k : Fin 2) (smp : Sample) (m : Mach) : Mach :=
  let ts := m.eng[k].lastSample
  let f := takeWindows k ts smp.bits m
  let w := if f.topo ≠ 0 then takeWindows 1 ts smp.bits1 f else f
  w.each (two.filter (fun i => w.piSet i == k || w.dual)) (fun i m => latchPos i ts smp m)

/-- The record of a sample that the front end has taken. -/
def frontRec (k : Fin 2) (smp : Sample) (m : Mach) : SampleRec where
  at_ := m.eng[k].lastSample
  data := smp
  count := (frontEnd k smp m).doms[domIx (.ctl k)].count
  peak := (frontEnd k smp m).eng[k].lastPeak
  old := (frontEnd k smp m).eng[k].since

/-- A sample that takes a waiting one's place, counted (R123). -/
def overrun (k : Fin 2) (r : SampleRec) (n : Mach) : Mach :=
  echoFlag 2 ((n.inc (Key.engineOverrunCount k.1)).modEng k (fun e => { e with queued := some r, dropRun := e.dropRun + 1 }))

/-- How the engine takes a sample: computed, waiting, or in the place of the one that waits. -/
def takeSample (k : Fin 2) (r : SampleRec) (n : Mach) : Mach :=
  match n.eng[k].cur, n.eng[k].queued with
  | none, _ => startSample k r n
  | some _, none => n.modEng k (fun e => { e with queued := some r })
  | some _, some _ =>
    let o := overrun k r n
    if o.n (Key.engineDropLimit k.1) ≤ o.eng[k].dropRun ∧ !o.eng[k].limitRaised then
      raiseS 0x19 k 0xFF (o.modEng k (fun e => { e with limitRaised := true }))
    else o

section
variable {m n : Mach} {k : Fin 2} {smp : Sample} {r : SampleRec}

theorem takeSample_free (hc : n.eng[k].cur = none) : takeSample k r n = startSample k r n := by
  simp only [takeSample, hc]

theorem takeSample_waits (hc : n.eng[k].cur.isSome = true) (hq : n.eng[k].queued = none) :
    takeSample k r n = n.modEng k (fun e => { e with queued := some r }) := by
  obtain ⟨c, hc⟩ := Option.isSome_iff_exists.mp hc
  simp only [takeSample, hc, hq]

theorem takeSample_overrun (hc : n.eng[k].cur.isSome = true) (hq : n.eng[k].queued.isSome = true) :
    takeSample k r n =
      if (overrun k r n).n (Key.engineDropLimit k.1) ≤ (overrun k r n).eng[k].dropRun ∧ !(overrun k r n).eng[k].limitRaised then
        raiseS 0x19 k 0xFF ((overrun k r n).modEng k (fun e => { e with limitRaised := true }))
      else overrun k r n := by
  obtain ⟨c, hc⟩ := Option.isSome_iff_exists.mp hc
  obtain ⟨q, hq⟩ := Option.isSome_iff_exists.mp hq
  simp only [takeSample, hc, hq]

theorem sampleArrivalEff_taken (hl : m.lanesAct = true) (hk : k = 0 ∨ m.topo = 0) :
    sampleArrivalEff k smp m = takeSample k (frontRec k smp m) (frontEnd k smp m) := by
  rw [sampleArrivalEff, whenLanes_act hl]
  exact if_neg fun h => hk.elim (fun h0 => absurd (h0.symm.trans h.1) (by decide)) h.2

end

/-! ### Computations (R122) -/

theorem reportOf_new {l : Lane} {done owe : List Lane} (ho : owe.contains l = false) (hd : done.contains l = false) :
    reportOf l done owe = (done ++ [l], owe) := by
  simp only [reportOf, ho, hd]
  rfl

/-- The end of a set's computation, with the reports that have ended it. -/
def computed (k : Fin 2) (r : SampleRec) (done : List Lane) (m : Mach) : Mach :=
  latchFrozen k.1 (m.modEng k (fun e => { e with
    cur := none, queued := none, done := [], owe := e.owe ++ m.activeLanes.filter (fun y => !(done.contains y)), lastComputed := r.at_ }))

section
variable {m : Mach} {k : Fin 2} {l : Lane} {r : SampleRec} (hl : m.lanesAct = true) (hc : m.eng[k].cur = some r)
  (ho : m.eng[k].owe.contains l = false) (hd : m.eng[k].done.contains l = false) (ha : m.laneActive l = true)
include hl hc ho hd ha

theorem computationCompleteEff_first (h : m.eng[k].done = []) :
    computationCompleteEff k l m = m.modEng k (fun e => { e with done := [l] }) := by
  rw [computationCompleteEff, whenLanes_act hl]
  refine (if_neg (by simp [ha])).trans ?_
  have hr : reportOf l m.eng[k].done m.eng[k].owe = ([l], m.eng[k].owe) := by rw [reportOf_new ho hd, h]; rfl
  simp only [hc, hr]
  exact (if_pos (by simp)).trans (modEng_congr rfl)

theorem computationCompleteEff_last {x : Lane} (h : m.eng[k].done = [x]) (hq : m.eng[k].queued = none) :
    computationCompleteEff k l m = computed k r [x, l] m := by
  rw [computationCompleteEff, whenLanes_act hl]
  refine (if_neg (by simp [ha])).trans ?_
  have hr : reportOf l m.eng[k].done m.eng[k].owe = ([x, l], m.eng[k].owe) := by rw [reportOf_new ho hd, h]; rfl
  simp only [hc, hr, hq]
  exact (if_neg (by simp)).trans (congrArg (latchFrozen k.1) (modEng_congr rfl))

theorem computationCompleteEff_next {x : Lane} {q : SampleRec} (h : m.eng[k].done = [x]) (hq : m.eng[k].queued = some q) :
    computationCompleteEff k l m = startSample k q (computed k r [x, l] m) := by
  rw [computationCompleteEff, whenLanes_act hl]
  refine (if_neg (by simp [ha])).trans ?_
  have hr : reportOf l m.eng[k].done m.eng[k].owe = ([x, l], m.eng[k].owe) := by rw [reportOf_new ho hd, h]; rfl
  simp only [hc, hr, hq]
  exact (if_neg (by simp)).trans (congrArg (fun e => startSample k q (latchFrozen k.1 e)) (modEng_congr rfl))

end

theorem computationCompleteEff_inactive {m : Mach} {k : Fin 2} {l : Lane} (ha : m.laneActive l = false) :
    computationCompleteEff k l m = m := by
  cases hl : m.lanesAct
  · exact whenLanes_idle hl _
  · exact (whenLanes_act hl _).trans (if_pos (by simp [ha]))

theorem outerComputationCompleteEff_inactive {m : Mach} {l : Lane} (ha : m.laneActive l = false) :
    outerComputationCompleteEff l m = m := by
  cases hl : m.lanesAct
  · exact whenLanes_idle hl _
  · exact (whenLanes_act hl _).trans (if_pos (by simp [ha]))

/-- Settles O23: a sample by what the engine holds, a computation by its reports, a stall, a forced swap and a history by their time. -/
theorem samplesAndComputations : Obligations.SamplesAndComputations := by
  unfold Obligations.SamplesAndComputations
  refine ⟨?sample, ⟨?computation, ?inactive, ?outer⟩, ?stall, ?forced, ?history⟩
  case sample =>
    intro s t k smp m ts f w n r hl
    have hstep (hk : k = 0 ∨ m.topo = 0) {e : Mach} (h : takeSample k r n = e) :
        exec (.sampleArrival t k smp) s = .next (s.after t e) :=
      exec_to (exec_sampleArrival ..) ((sampleArrivalEff_taken hl hk).trans h)
    refine ⟨fun hk ht => exec_to (exec_sampleArrival ..) (m := m) ((whenLanes_act hl _).trans (if_pos ⟨hk, ht⟩)),
      fun hk hc => hstep hk (takeSample_free hc), fun hk hc hq => hstep hk (takeSample_waits hc hq), fun hk hc hq =>
      ⟨fun hd => hstep hk ((takeSample_overrun hc hq).trans (if_neg fun h => absurd h.1 (Nat.not_le.mpr hd))), fun hd hr =>
        hstep hk ((takeSample_overrun hc hq).trans (if_pos ⟨hd, congrArg (!·) hr⟩))⟩⟩
  case computation =>
    intro s t k l r m e hl hc ho hd ha
    exact ⟨fun h => exec_to (exec_computationComplete ..) (computationCompleteEff_first hl hc ho hd ha h),
      fun x h hq => exec_to (exec_computationComplete ..) (computationCompleteEff_last hl hc ho hd ha h hq),
      fun x q h hq => exec_to (exec_computationComplete ..) (computationCompleteEff_next hl hc ho hd ha h hq)⟩
  case inactive =>
    intro s t k l m ha
    exact ⟨exec_to (exec_computationComplete ..) (computationCompleteEff_inactive ha),
      exec_to (exec_outerComputationComplete ..) (outerComputationCompleteEff_inactive ha)⟩
  case outer =>
    intro s t l x m o late hl ha hb ho hd hx hq
    refine exec_to (exec_outerComputationComplete ..) (m := m) ?_
    rw [outerComputationCompleteEff, whenLanes_act hl]
    refine (if_neg (by simp [ha])).trans ((if_neg (by simp [show m.outer.busy = true from hb])).trans ?_)
    have hr : reportOf l m.outer.done m.outer.owe = ([x, l], o.owe) := by
      rw [reportOf_new ho (by rw [show m.outer.done = [x] from hd]; simpa using hx.symm), show m.outer.done = [x] from hd]
      rfl
    simp only [hr, show m.outer.queued = none from hq]
    rfl
  case stall =>
    intro s t k m hr
    exact ⟨fun hp hm hs => exec_to (exec_dutyStall ..) (m := m) ((whenUp_running hr _).trans (if_pos ⟨hp, congrArg (!·) hm, hs⟩)),
      fun hs => exec_to (exec_dutyStall ..) (m := m) ((whenUp_running hr _).trans (if_neg fun h => absurd h.2.2 (Nat.not_le.mpr hs)))⟩
  case forced =>
    intro s t d group g m due e hl
    refine ⟨fun h => exec_to (exec_swapForced ..) (m := m) ?_, fun h => exec_to (exec_swapForced ..) (m := m) ?_⟩
    · rw [swapForcedEff, if_neg (by simp [hl]), show m.doms[domIx d].carried.find? _ = some g from h]
    · rw [swapForcedEff, if_neg (by simp [hl]), show m.doms[domIx d].carried.find? _ = none from h]
  case history =>
    intro s t rq c i m ha
    exact exec_historyReset_accepted ha

/-! ### Echo runs and captures (R132 to R138) -/

section
variable {m : Mach} {owner : BitVec 16}

/-- An Echo run as its start leaves it. -/
def echoOwned (owner : BitVec 16) (m : Mach) : Mach :=
  { m with echo := { owner := some owner, endAt := m.ns + ms (m.n Key.echoDuration), state := 3 } }

theorem echoStartEff_refused (h : (echoOwned owner m).echoRefused = true) : echoStartEff owner m = echoEnd 0x05 (echoOwned owner m) :=
  if_pos h

theorem echoStartEff_idleOwner (h : (echoOwned owner m).echoRefused = false) (ho : (echoOwned owner m).echoOwnerRuns = false) :
    echoStartEff owner m = echoEnd 0x04 (echoOwned owner m) :=
  (if_neg (Bool.eq_false_iff.mp h)).trans (if_pos (congrArg (!·) ho))

/-- How a run that nothing refuses begins. -/
def echoBegin (e : Mach) : Mach :=
  let c := if e.n Key.captureTrigger = 1 then captureTrigger e else e
  let r := if e.n Key.echoType = 0 then c.modEcho (fun e => { e with state := 4 })
    else if e.n Key.echoType = 1 then echoPoint 0 false c
    else if e.n Key.echoType = 4 then c.modEcho (fun e => { e with state := if c.capture.state = 1 then 1 else 2 })
    else c
  if r.shadeStops then echoSuspend r else r

theorem echoStartEff_runs (h : (echoOwned owner m).echoRefused = false) (ho : (echoOwned owner m).echoOwnerRuns = true) :
    echoStartEff owner m = echoBegin (echoOwned owner m) :=
  (if_neg (Bool.eq_false_iff.mp h)).trans (if_neg (Bool.eq_false_iff.mp (congrArg (!·) ho)))

theorem echoBegin_sweep {e : Mach} (hc : e.n Key.captureTrigger ≠ 1) (ht : e.n Key.echoType = 1)
    (hs : (echoPoint 0 false e).shadeStops = false) : echoBegin e = echoPoint 0 false e := by
  simp [echoBegin, hc, ht, hs]

theorem captureArmEff_armed (ht : m.n Key.captureTrigger ≠ 0) (hs : m.shadeStops = false) :
    captureArmEff owner m = { m with capture := { state := 1, owner := some owner } } := by
  have ht' : ¬ ({ m with capture := { state := 1, owner := some owner } } : Mach).n Key.captureTrigger = 0 := ht
  simp only [captureArmEff, ht', if_false]
  exact if_neg (Bool.eq_false_iff.mp hs)

end

/-- Settles O24: what refuses or starts a run, and each of its steps by the run's type and state. -/
theorem echoAndCapture : Obligations.EchoAndCapture := by
  unfold Obligations.EchoAndCapture
  refine ⟨⟨?start, ?abort, ?arm⟩, ?run⟩
  case start =>
    intro s t rq c m n e ha
    rw [exec_echoStart_accepted ha, ownerOf_of_takes ha.1.2.1]
    exact ⟨fun h => next_reply (echoStartEff_refused h), fun h ho => next_reply (echoStartEff_idleOwner h ho),
      fun h ho hc ht hs => next_reply ((echoStartEff_runs h ho).trans (echoBegin_sweep hc ht hs))⟩
  case abort =>
    intro s t rq c m ha
    exact exec_echoAbort_accepted ha
  case arm =>
    intro s t rq c m n ha ht hs
    rw [exec_captureArm_accepted ha, ownerOf_of_takes ha.1.2.1]
    exact next_reply (captureArmEff_armed ht hs)
  case run =>
    intro s t m e hl
    refine ⟨fun ht hs hn => exec_to (exec_echoSettleEnd ..) (m := m) ((whenLanes_act hl _).trans (if_pos ⟨ht, hs, hn⟩)),
      fun ht hs hn => exec_to (exec_echoSettleEnd ..) (m := m) ((whenLanes_act hl _).trans (if_neg fun h => absurd h.2.2 (Nat.not_le.mpr hn))),
      fun ht hs hn hp => exec_to (exec_echoPointComplete ..) (m := m) ((whenLanes_act hl _).trans ((if_neg ?_).trans (if_neg (Nat.not_lt.mpr hp)))),
      fun ht hs hn => exec_to (exec_echoStep ..) (m := m) ((whenLanes_act hl _).trans (if_pos ⟨ht, hs, hn⟩)),
      fun ht hs hn => exec_to (exec_echoDurationEnd ..) (m := m) ((whenLanes_act hl _).trans (if_pos ⟨ht, hs, hn⟩)),
      fun ht hn => exec_to (exec_echoDurationEnd ..) (m := m) ((whenLanes_act hl _).trans (if_neg fun h => absurd h.2.2 (Nat.not_le.mpr hn)))⟩
    rintro (h | h | h)
    exacts [h ht, h hs, absurd h (Nat.not_lt.mpr hn)]

end Sys2Proof.Proofs.Engine
end

section
/-! SUPPORT. Starts: decisions, measurements, enables, polarity, reacquisition; the commands of a drive (R167 to R180, R187). -/

namespace Sys2Proof.Proofs.Start

open Sys2Proof.Machine Sys2Proof.Laws Sys2Proof.Proofs.Block Sys2Proof.Proofs.Commit Sys2Proof.Proofs.Engine Sys2Proof.Proofs.Writes

/-! ### Start decisions (R176 to R180) -/

theorem due_of_le {m : Mach} {o : Option Nat} {t : Nat} (h : o = some t) (ht : t ≤ m.ns) : due m o = true := by
  rw [h]
  exact decide_eq_true ht

theorem not_due_of_lt {m : Mach} {o : Option Nat} {t : Nat} (h : o = some t) (ht : m.ns < t) : ¬ due m o = true := by
  rw [h]
  exact fun h' => absurd (of_decide_eq_true h') (Nat.not_le.mpr ht)

section
variable {m : Mach} {k : Fin 2}

/-- The set with its measurement behind it. -/
abbrev measured (k : Fin 2) (m : Mach) : Mach := m.modMc k (fun x => { x with measuring := false })

theorem measureSpeed_byTerminals (hp : (measured k m).isPm k = true) (he : (measured k m).encValid k = false) :
    measureSpeed k m = startDecision k (some ((measured k m).terminalSpeed k)) (measured k m) :=
  (if_pos hp).trans (if_neg (Bool.eq_false_iff.mp he))

theorem measureSpeed_byEncoder {i : Fin 2} (hp : (measured k m).isPm k = false) (he : (measured k m).encValid k = true)
    (hi : (measured k m).piOf k = some i) :
    measureSpeed k m = startDecision k (some (measured k m).pos[i].speed) (measured k m) := by
  refine (if_neg (Bool.eq_false_iff.mp hp)).trans ((if_pos he).trans ?_)
  rw [hi]

theorem speedMeasurementDoneEff_idle (h : m.mc[k].measuring = false) : speedMeasurementDoneEff k m = m := by
  cases hl : m.lanesAct
  · exact whenLanes_idle hl _
  · exact (whenLanes_act hl _).trans (if_neg (by rw [h]; simp))

theorem speedMeasurementDoneEff_measures (hl : m.lanesAct = true) (hm : m.mc[k].measuring = true)
    (hs : m.drives[m.driveOf k].st = .starting ∨ m.brakeTesting (m.driveOf k) = true) :
    speedMeasurementDoneEff k m = measureSpeed k m :=
  (whenLanes_act hl _).trans (if_pos (Bool.and_eq_true_iff.mpr ⟨hm, Bool.or_eq_true_iff.mpr (hs.imp_left beq_iff_eq.mpr)⟩))

/-- The speed that the probe's place in the sweep stands for, and the time until the place is reached (R177). -/
def probeResult (k : Fin 2) (first second : List F32) (emf : F32) (m : Mach) : Nat × Option F32 :=
  let sweep := ms (m.n (Key.startProbeTime (m.machSet k)))
  let top := fPercent (m.r (Key.startMaxCatchSpeed (m.machSet k))) (m.r (Key.machineRatedSpeed (m.machSet k)))
  let fwd := !(m.n (Key.windmillSource k.1) != 0 && fSign (m.r (Key.windmillSpeed k.1)))
  let at_ := fun (x : F32) (up : Bool) => if up then fmul top (fsub fOne x) else fneg (fmul top (fsub fOne x))
  match signChange first, signChange second with
  | some x, _ => (fScaleNat x sweep, some (at_ x fwd))
  | none, some x => (sweep + fScaleNat x sweep, some (at_ x (!fwd)))
  | none, none => (2 * sweep, if flt emf (fPercent fOne (fmul (m.r (Key.machineNominalFlux (m.machSet k)))
      (fmul (rpmToRad (m.r (Key.machineRatedSpeed (m.machSet k)))) (m.poles k)))) then some 0 else none)

section
variable {first second : List F32} {emf : F32} (hl : m.lanesAct = true) (hm : m.mc[k].measuring = true) (hp : m.isPm k = false)
  (he : m.encValid k = false)
  (hs : m.drives[m.driveOf k].st = .starting ∨ m.drives[m.driveOf k].st = .waiting ∨ m.brakeTesting (m.driveOf k) = true)
include hl hm hp he hs

theorem probeScanDoneEff_scans {r : Nat × Option F32} (hr : probeResult k first second emf m = r) :
    probeScanDoneEff k first second emf m =
      if m.ns < m.mc[k].probeAt + r.1 then m
      else startDecision k r.2 (m.modMc k (fun x => { x with measuring := false, probe := 0 })) := by
  subst hr
  rw [probeScanDoneEff, whenLanes_act hl]
  refine (if_neg ?_).trans ?_
  · rcases hs with hs | hs | hs <;> simp [-Fin.getElem_fin, hm, hp, he, hs]
  · rfl

end

end

/-- Settles O25: the decision by the measured speed, the measurement by what the set has, the scan by its sign changes. -/
theorem startDecisions : Obligations.StartDecisions := by
  unfold Obligations.StartDecisions
  refine ⟨?decision, ⟨?measurement, ?probe⟩, ?waiting⟩
  case decision =>
    intro m k n x e p
    refine ⟨rfl, fun h => if_pos h, fun h => ⟨fun hs hc => ?_, fun hs hc => ?_, fun hs hc => ?_, fun hs hc => ?_⟩⟩
    · exact (if_neg (Bool.eq_false_iff.mp h)).trans ((if_pos (congrArg (!·) hs)).trans (if_pos hc))
    · exact (if_neg (Bool.eq_false_iff.mp h)).trans ((if_pos (congrArg (!·) hs)).trans (if_neg (Bool.eq_false_iff.mp hc)))
    · exact (if_neg (Bool.eq_false_iff.mp h)).trans ((if_neg (Bool.eq_false_iff.mp (congrArg (!·) hs))).trans (if_pos hc))
    · exact (if_neg (Bool.eq_false_iff.mp h)).trans ((if_neg (Bool.eq_false_iff.mp (congrArg (!·) hs))).trans (if_neg (Bool.eq_false_iff.mp hc)))
  case measurement =>
    intro s t k m e
    exact ⟨fun h => exec_to (exec_speedMeasurementDone ..) (speedMeasurementDoneEff_idle h),
      fun hl hm hs hp he => exec_to (exec_speedMeasurementDone ..) ((speedMeasurementDoneEff_measures hl hm hs).trans (measureSpeed_byTerminals hp he)),
      fun i hl hm hs hp he hi => exec_to (exec_speedMeasurementDone ..) ((speedMeasurementDoneEff_measures hl hm hs).trans (measureSpeed_byEncoder hp he hi))⟩
  case probe =>
    intro s t k first second emf m e sweep top fwd at_ weak scan hl hm hp he hs
    have hstep {r : Nat × Option F32} {e' : Mach} (hr : probeResult k first second emf m = r)
        (h : (if m.ns < m.mc[k].probeAt + r.1 then m else startDecision k r.2 e) = e') : scan = .next (s.after t e') :=
      exec_to (exec_probeScanDone ..) ((probeScanDoneEff_scans hl hm hp he hs hr).trans h)
    refine ⟨fun x hx => ?first, fun x hx hy ht => ?second, fun hx hy ht => ?none⟩
    case first =>
      have hr : probeResult k first second emf m = (fScaleNat x sweep, some (at_ x fwd)) := by simp only [probeResult, hx]; rfl
      exact ⟨fun h => hstep hr (if_neg (Nat.not_lt.mpr h)), fun h => hstep hr (if_pos h)⟩
    case second =>
      exact hstep (r := (sweep + fScaleNat x sweep, some (at_ x (!fwd)))) (by simp only [probeResult, hx, hy]; rfl) (if_neg (Nat.not_lt.mpr ht))
    case none =>
      have hr : probeResult k first second emf m = (2 * sweep, if weak then some 0 else none) := by simp only [probeResult, hx, hy]; rfl
      exact ⟨fun hw => hstep (hr.trans (by rw [hw])) (if_neg (Nat.not_lt.mpr ht)), fun hw => hstep (hr.trans (by rw [hw])) (if_neg (Nat.not_lt.mpr ht))⟩
  case waiting =>
    intro s t k due_ m d hl hs
    exact ⟨fun hd h => exec_to (exec_remeasure ..) (m := m) ((whenLanes_act hl _).trans (if_pos ⟨hs, due_of_le hd h⟩)),
      fun hd h => exec_to (exec_remeasure ..) (m := m) ((whenLanes_act hl _).trans (if_neg fun h' => not_due_of_lt hd h h'.2)),
      fun hd h => exec_to (exec_startWaitExpired ..) (m := m) ((whenLanes_act hl _).trans (if_pos ⟨hs, due_of_le hd h⟩)),
      fun hd h => exec_to (exec_startWaitExpired ..) (m := m) ((whenLanes_act hl _).trans (if_neg fun h' => not_due_of_lt hd h h'.2))⟩

/-! ### Enables, polarity, reacquisition (R167, R171, R175) -/

section
variable {m : Mach} {k : Fin 2} (hl : m.lanesAct = true)
include hl

/-- A set whose enable is refused or ends: its sensors are not ready (R88). -/
abbrev enableRefused (k : Fin 2) (m : Mach) : Mach :=
  (m.putN (Key.startStartStatus k.1) 0x14).modMc k (fun x => { x with enablePending := false })

theorem pulseEnableEff_none (h : m.mc[k].enablePending = false ∨ m.gate[k].pulses = true) : pulseEnableEff k m = m :=
  (whenLanes_act hl _).trans (if_pos (h.imp_left (congrArg (!·))))

variable (hp : m.mc[k].enablePending = true) (hg : m.gate[k].pulses = false)
include hp hg

theorem pulseEnableEff_quickRelease (hs : m.drives[m.driveOf k].st = .quickRelease) :
    pulseEnableEff k m =
      if !m.sensorsReady k then enableRefused k m
      else if (m.setChs k).all m.ready then enablePulses k false false (m.modMc k (fun x => { x with speed := m.setSpeed k }))
      else m := by
  rw [pulseEnableEff, whenLanes_act hl]
  exact (if_neg (by simp [-Fin.getElem_fin, hp, hg])).trans (if_pos hs)

variable (hs : m.drives[m.driveOf k].st ≠ .quickRelease)
include hs

theorem pulseEnableEff_ends (hn : m.drives[m.driveOf k].st ≠ .starting) (hb : m.brakeTesting (m.driveOf k) = false) :
    pulseEnableEff k m = m.modMc k (fun x => { x with enablePending := false }) := by
  rw [pulseEnableEff, whenLanes_act hl]
  exact (if_neg (by simp [-Fin.getElem_fin, hp, hg])).trans ((if_neg hs).trans (if_pos ⟨hn, congrArg (!·) hb⟩))

theorem pulseEnableEff_starts (hst : m.drives[m.driveOf k].st = .starting ∨ m.brakeTesting (m.driveOf k) = true) :
    pulseEnableEff k m =
      if m.mc[k].speedAt + ms 50 < m.ns then m.modMc k (fun x => { x with enablePending := false, measuring := true })
      else if !m.sensorsReady k then
        if (enableRefused k m).drives[m.driveOf k].st = .starting then driveEnd (m.driveOf k) .off (enableRefused k m)
        else sbtAbort (m.driveOf k) (enableRefused k m)
      else sbtEnabled (m.driveOf k) (enablePulses k (m.n (Key.startStartStatus k.1) == 0x03 || m.n (Key.startStartStatus k.1) == 0x04)
        (m.n (Key.startStartStatus k.1) == 0x02) m) := by
  rw [pulseEnableEff, whenLanes_act hl]
  exact (if_neg (by simp [-Fin.getElem_fin, hp, hg])).trans ((if_neg hs).trans (if_neg fun h => hst.elim h.1 (by simpa using h.2)))

end

/-- Settles O26: an enable by its drive's state, its measurement's age and its sensors; polarity and reacquisition by their times. -/
theorem enablesAndReacquisition : Obligations.EnablesAndReacquisition := by
  unfold Obligations.EnablesAndReacquisition
  refine ⟨?enable, ?polarity, ?reacquire⟩
  case enable =>
    intro s t k m d st refused hl
    have hstep {e : Mach} (h : pulseEnableEff k m = e) : exec (.pulseEnable t k) s = .next (s.after t e) :=
      exec_to (exec_pulseEnable ..) h
    refine ⟨fun h => hstep (pulseEnableEff_none hl h), fun hp hg hs => ?_,
      fun hp hg hn hs hb => hstep (pulseEnableEff_ends hl hp hg hs hn hb), fun hp hg hs hst => ?_⟩
    · have hq := pulseEnableEff_quickRelease hl hp hg hs
      exact ⟨fun hr => hstep (hq.trans (if_pos (congrArg (!·) hr))),
        fun hr hc => hstep (hq.trans ((if_neg (by simp [hr])).trans (if_pos hc))),
        fun hr hc => hstep (hq.trans ((if_neg (by simp [hr])).trans (if_neg (Bool.eq_false_iff.mp hc))))⟩
    · have hq := pulseEnableEff_starts hl hp hg hs hst
      exact ⟨fun ht hr => hstep (hq.trans ((if_neg (Nat.not_lt.mpr ht)).trans (if_neg (by simp [hr])))),
        fun ht => hstep (hq.trans (if_pos ht)),
        fun ht hr hs' => hstep (hq.trans ((if_neg (Nat.not_lt.mpr ht)).trans ((if_pos (congrArg (!·) hr)).trans (if_pos hs')))),
        fun ht hr hs' => hstep (hq.trans ((if_neg (Nat.not_lt.mpr ht)).trans ((if_pos (congrArg (!·) hr)).trans (if_neg hs'))))⟩
  case polarity =>
    intro s t k m x turned hl
    have hstep {e : Mach} (h : polarityPulseEndEff k m = e) : exec (.polarityPulseEnd t k) s = .next (s.after t e) :=
      exec_to (exec_polarityPulseEnd ..) h
    refine ⟨fun h => hstep ((whenLanes_act hl _).trans ?_), fun ht => ⟨fun hx => hstep ((whenLanes_act hl _).trans ?_), fun hx => hstep ((whenLanes_act hl _).trans ?_)⟩⟩
    · by_cases ht : m.ns < m.mc[k].polarityAt + ms 2
      · exact if_pos ht
      · have hx : m.mc[k].polarity = 0 := h.resolve_left ht
        exact (if_neg ht).trans ((if_neg (by rw [hx]; decide)).trans (if_neg (by rw [hx]; decide)))
    · exact (if_neg (Nat.not_lt.mpr ht)).trans (if_pos hx)
    · have hx : m.mc[k].polarity = 2 := hx
      exact (if_neg (Nat.not_lt.mpr ht)).trans ((if_neg (by rw [hx]; decide)).trans (if_pos hx))
  case reacquire =>
    intro s t k m hl hs
    exact ⟨fun h => exec_to (exec_reacquireTimeout ..) (m := m) ((whenLanes_act hl _).trans (if_pos ⟨hs, h⟩)),
      fun h => exec_to (exec_reacquireTimeout ..) (m := m) ((whenLanes_act hl _).trans (if_neg fun h' => absurd h'.2 (Nat.not_le.mpr h)))⟩

/-! ### Commands of a drive (R187, R298) -/

section
variable {m : Mach} {d : Fin 2}

theorem commandRun_alone {n : Mach} (hn : m.putN (Key.command d.1) 1 = n) (h : n.leads = false ∨ d ≠ 0)
    (hk : (startDrive d n).leads = n.leads) : Machine.commandRun d m = startDrive d n := by
  subst hn
  exact if_pos (h.imp_left fun h => congrArg (!·) (hk.trans h))

/-- Fewer sets left out of the count block the more. -/
theorem blocked_mono {skip : Fin 2 → Bool} (h : m.blocked d skip = true) : m.blocksStart d = true := by
  obtain ⟨a, ha, hb⟩ := List.any_eq_true.mp h
  refine List.any_eq_true.mpr ⟨a, ha, ?_⟩
  cases hs : a.set with
  | none => simpa [hs] using hb
  | some x =>
    simp only [hs, Bool.and_eq_true] at hb ⊢
    exact ⟨hb.1, hb.2.1, rfl⟩

theorem startDrive_running (h : m.drives[d].st ≠ .off) : startDrive d m = m := if_pos (.inl h)

section
variable (ho : m.drives[d].st = .off) (hc : m.driveConfigured d = true)
include ho hc

theorem startDrive_unconfirmed (hs : m.n Key.safetyState ≤ 1) : startDrive d m = raiseD 0x52 d m :=
  (if_neg (by simp [-Fin.getElem_fin, ho, hc])).trans (if_pos hs)

variable (hs : 2 ≤ m.n Key.safetyState)
include hs

theorem startDrive_held (hh : m.holdsStart d = true) : startDrive d m = m.modDrive d (fun x => { x with held := true }) :=
  (if_neg (by simp [-Fin.getElem_fin, ho, hc])).trans ((if_neg (by omega)).trans (if_pos hh))

variable (hh : m.holdsStart d = false)
include hh

theorem startDrive_locked (hr : (m.setsOf d).any (fun k => m.gate[k].retry == 3) = true) (hl : m.limpStart d = false) :
    startDrive d m = m.each ((m.setsOf d).filter (fun k => m.gate[k].retry == 3)) (fun k m => raiseS 0x3B k 0xFF m) :=
  (if_neg (by simp [-Fin.getElem_fin, ho, hc])).trans ((if_neg (by omega)).trans ((if_neg (Bool.eq_false_iff.mp hh)).trans
    (if_pos ⟨hr, congrArg (!·) hl⟩)))

end

/-- Nothing at a drive in Off stands against its start (R187). -/
structure FreeToStart (m : Mach) (d : Fin 2) : Prop where
  off : m.drives[d].st = .off
  configured : m.driveConfigured d = true
  confirmed : m.n Key.safetyState = 2
  unheld : m.holdsStart d = false
  unlocked : (m.setsOf d).any (fun k => m.gate[k].retry == 3) = false
  unblocked : m.blocksStart d = false
  lockout : m.lockedOut = false
  demand : m.demandOn [1, 2] d = false
  sto : m.stoDemand = false
  brakes : (m.brakesOf d).any (fun k => let b := m.safety.brakes[k]; b.releaseFault || b.applyFault || b.switchFault) = false
  tests : two.any (fun k => m.safety.brakes[k].testFailed || m.nv.sbtMust[k]) = false
  bank : m.n Key.bankLoadState ≠ 1
  mode : m.modeOf d ≠ 3 ∧ m.modeOf d ≠ 4
  alone : m.n Key.groveSize < 2

/-- A drive that starts: in Starting, each set that starts with its status and a Dusk test wanted. -/
def started (d : Fin 2) (m : Mach) : Mach :=
  let e := m.modDrive d (fun x => { x with
    st := .starting, step := .stoRelease, startAt := m.ns, held := false, limp := none,
    neutral := false, neutralSince := none, waitUntil := none, remeasure := none })
  e.each (e.startSets d) (fun k m =>
    ((m.modMc k (fun x => { x with prevStatus := m.n (Key.startStartStatus k.1) })).modGate k (fun g => { g with duskWant := some 0 })).putN
      (Key.startStartStatus k.1) 0x01)

theorem startDrive_free (h : FreeToStart m d) (hs : (started d m).n Key.safetyState = 2) (hl : (started d m).limpOf d = none) :
    startDrive d m = started d m := by
  have hlimp : m.limpOf d = none := if_neg (Bool.eq_false_iff.mp h.unlocked)
  have hblock : ¬ (m.blocked d (fun s => m.limpStart d && m.gate[s].retry == 3) = true ∨ m.lockedOut = true ∨ m.demandOn [1, 2] d = true ∨
      m.stoDemand = true) := by
    rintro (hb | hb | hb | hb)
    exacts [absurd ((blocked_mono hb).symm.trans h.unblocked) (by decide), absurd (hb.symm.trans h.lockout) (by decide),
      absurd (hb.symm.trans h.demand) (by decide), absurd (hb.symm.trans h.sto) (by decide)]
  calc startDrive d m
    _ = _ := if_neg (by simp [-Fin.getElem_fin, h.off, h.configured])
    _ = _ := if_neg (by rw [h.confirmed]; decide)
    _ = _ := if_neg (Bool.eq_false_iff.mp h.unheld)
    _ = _ := if_neg fun hr => absurd (hr.1.symm.trans h.unlocked) (by decide)
    _ = _ := if_neg hblock
    _ = _ := if_neg (Bool.eq_false_iff.mp h.brakes)
    _ = _ := if_neg (Bool.eq_false_iff.mp h.tests)
    _ = _ := if_neg h.bank
    _ = _ := if_neg fun hm => hm.1.elim h.mode.1 h.mode.2
    _ = _ := if_neg fun hg => absurd hg.1 (Nat.not_le.mpr h.alone)
    _ = (let r := match (started d m).limpOf d with | some h => raise 0x2F none (some d) h.1 (started d m) | none => started d m
        if r.n Key.safetyState = 3 then raise 0x53 none (some d) (r.n Key.safetyFallbackPreset) r else r) := by rw [hlimp]; rfl
    _ = started d m := by
      rw [hl]
      exact if_neg (by rw [hs]; decide)

end

/-- Settles O27: command 1 by what stands against the start, command 0 by the end of a held one. -/
theorem driveCommands : Obligations.DriveCommands := by
  unfold Obligations.DriveCommands
  constructor
  · intro s t rq c d m n ha hlead hk
    have hstep {e : Mach} (h : startDrive d n = e) : exec (.commandRun t rq d) s = .next (s.after t (reply 3 rq 0 [] e)) := by
      rw [exec_commandRun, writeHere_drive ha (command_entry d) (perform_command ..)]
      exact next_reply ((commandRun_alone rfl hlead hk).trans h)
    refine ⟨fun ho => hstep (startDrive_running ho), fun ho hc hs => hstep (startDrive_unconfirmed ho hc hs),
      fun ho hc hs hh => hstep (startDrive_held ho hc hs hh), fun ho hc hs hh hr hl => hstep (startDrive_locked ho hc hs hh hr hl), ?_⟩
    intro ho hc hs hh hr hb hl hd hsto hbr ht hbank h3 h4 hg e f hf hlimp
    exact hstep (startDrive_free ⟨ho, hc, hs, hh, hr, hb, hl, hd, hsto, hbr, ht, hbank, ⟨h3, h4⟩, hg⟩ hf hlimp)
  · intro s t rq c d m n ha
    rw [exec_commandStop, writeHere_drive ha (command_entry d) (perform_command ..)]
    rfl

end Sys2Proof.Proofs.Start
end

section
/-! SUPPORT. Timed conditions of a drive, winch and heave, quick release (R187 to R215). -/

namespace Sys2Proof.Proofs.Drive

open Sys2Proof.Machine Sys2Proof.Laws Sys2Proof.Proofs.Block Sys2Proof.Proofs.Commit Sys2Proof.Proofs.Engine Sys2Proof.Proofs.Start Sys2Proof.Proofs.Writes

section
variable {m : Mach} {d : Fin 2}

/-! ### Conditions that have lasted their time (R188 to R196, R215) -/

section
variable {since : Nat} (hl : m.lanesAct = true)
include hl

theorem leverNeutralAcceptedEff_since (h : m.drives[d].neutralSince = some since) :
    leverNeutralAcceptedEff d m =
      if since + ms (m.n (Key.refNeutralTime d.1)) ≤ m.ns then m.modDrive d (fun x => { x with neutral := true }) else m := by
  simp only [leverNeutralAcceptedEff, whenLanes_act hl, h]

theorem phaseBackSlowEff_pending {n e : Nat} (h : m.drives[d].phaseBack = some (n, e)) :
    phaseBackSlowEff d m = if m.ns < e then m else raiseD 0x27 d (releaseNow (m.inc (Key.powerPhaseBackCount d.1))) := by
  simp only [phaseBackSlowEff, whenLanes_act hl, h]

theorem regenerationShortfallEff_since (h : m.drives[d].shortfall = some since) :
    regenerationShortfallEff d m =
      if since + ms (m.n (Key.regenShortfallTime 0)) ≤ m.ns then raiseD 0x32 d (m.modDrive d (fun x => { x with shortfall := none })) else m := by
  simp only [regenerationShortfallEff, whenLanes_act hl, h]

theorem preTorqueHeldEff_since (h : m.drives[d].preOk = some since) :
    preTorqueHeldEff d m =
      if m.drives[d].st = .starting ∧ m.drives[d].step = .preTorque ∧ decide (since + ms 20 ≤ m.ns) then
        startComplete d ((m.each (m.brakesOf d) (brakeRelease false)).modDrive d (fun x => { x with step := .probe }))
      else m := by
  simp only [preTorqueHeldEff, whenLanes_act hl, h]

theorem shockRecoveryEndEff_over {f : Fade} (h : m.drives[d].shockRec = some f) (ho : f.over_ m.ns = true) :
    shockRecoveryEndEff d m = m.modDrive d (fun x => { x with shockRec := none, shock := fOne }) := by
  simp only [shockRecoveryEndEff, whenLanes_act hl, h, ho, if_true]

theorem heaveFadeEndEff_over {f : Fade} (h : m.drives[d].fade = some f) (ho : f.over_ m.ns = true) :
    heaveFadeEndEff d m = m.modDrive d (fun x => { x with gain := f.to_, fade := none }) := by
  simp only [heaveFadeEndEff, whenLanes_act hl, h, ho, if_true]

end

theorem wrapsSetEff_ofDrive (w : F32) (h : m.driveExists d = true) :
    wrapsSetEff d w m = causesGone (fun a => a.ev == 0x28 && a.drv == some d)
      ((m.modDrive d (fun x => { x with wraps := w, turnsAt := m.motorTurns d })).putB (Key.winchPayoutValid d.1) true) :=
  if_neg (by simp [h])

theorem wrapsSetEff_noDrive (w : F32) (h : m.driveExists d = false) : wrapsSetEff d w m = m := if_pos (congrArg (!·) h)

theorem exec_wrapsSet_accepted {s : Machine.State} {t : Time} {rq : Req} {c : Conn} {w : F32}
    (h : (s.core.at_ t).accepts rq c (Key.winchWrapsSet d.1) (beBytes 4 w.toNat) (.num w.toNat)) :
    exec (.wrapsSet t rq d w) s = .next (s.after t (reply 3 rq 0 [] (wrapsSetEff d w (touch rq (s.core.at_ t))))) := by
  rw [exec_wrapsSet, writeHere_drive h (wrapsSet_entry d) (perform_wrapsSet ..)]
  exact next_reply (congrArg (fun w => wrapsSetEff d w _) (BitVec.ofNat_toNat 32 w |>.trans (BitVec.setWidth_eq w)))

/-! ### Motion records (R203, R205, R354) -/

section
variable {time : Nat} {p v a : F32} {sq : BitVec 16}

/-- A record is later than the one that stands, by its time and by its number. -/
def motionNewer (d : Fin 2) (time : Nat) (sq : BitVec 16) (m : Mach) : Bool :=
  match m.drives[d].motion with
  | none => true
  | some r => decide (r.netTime < time) && (sq != r.sq && (sq - r.sq).toNat < 32768)

theorem motionNewer_iff : motionNewer d time sq m = true ↔
    ∀ r, m.drives[d].motion = some r → r.netTime < time ∧ sq ≠ r.sq ∧ (sq - r.sq).toNat < 32768 := by
  unfold motionNewer
  split
  · next h => exact ⟨fun _ r hr => (by rw [h] at hr; exact absurd hr (by simp)), fun _ => rfl⟩
  · next r h =>
    rw [h]
    simp

/-- The drive with the record taken: the fresh ones in a row are counted, the gain held where they go on. -/
def motionTaken (d : Fin 2) (time : Nat) (p v a : F32) (sq : BitVec 16) (m : Mach) : Mach :=
  let at_ : Int := m.timebaseOf time
  let q := m.modDrive d (fun x => { x with motion := some { time := at_, netTime := time, pos := p, vel := v, acc := a, sq := sq } })
  let fresh := !q.motionStale d
  let e := q.modDrive d (fun x => { x with
    fresh := if fresh then x.fresh + 1 else 0, lossSeen := x.lossSeen && !fresh
    gain := if fresh && !x.risen then x.gainNow q.ns else x.gain, fade := if fresh && !x.risen then none else x.fade })
  ((((e.putN (Key.heaveMotionTime d.1) time).putR (Key.heaveMotionPosition d.1) p).putR (Key.heaveMotionVelocity d.1) v).putR
    (Key.heaveMotionAcceleration d.1) a).putN (Key.heaveMotionSequence d.1) sq.toNat

theorem motionRecordEff_eq (hl : m.lanesAct = true) :
    motionRecordEff d time p v a sq m =
      if !motionNewer d time sq m ∨ m.n Key.gptpState < 2 then m
      else
        let u := motionTaken d time p v a sq m
        if 10 ≤ u.drives[d].fresh ∧ !u.drives[d].risen ∧ u.modeOf d = 4 then heaveRise d u else u :=
  whenLanes_act hl _

end

end

/-- Settles O28: each condition by its time, a record by whether it is later than the one that stands. -/
theorem driveTimersAndWinch : Obligations.DriveTimersAndWinch := by
  unfold Obligations.DriveTimersAndWinch
  refine ⟨?timed, ?wraps, ?winch, ?motion⟩
  case timed =>
    intro s t d since m x hl
    refine ⟨fun h ht => exec_to (exec_leverNeutralAccepted ..) ((leverNeutralAcceptedEff_since hl h).trans (if_pos ht)),
      fun h ht => exec_to (exec_leverNeutralAccepted ..) ((leverNeutralAcceptedEff_since hl h).trans (if_neg (Nat.not_le.mpr ht))),
      fun he hb ht hd hr => exec_to (exec_referenceTimeout ..) (m := m)
        ((whenLanes_act hl _).trans (if_pos ⟨he, congrArg (!·) hb, ht, hd, congrArg (!·) hr⟩)),
      fun h => exec_to (exec_referenceTimeout ..) (m := m) ((whenLanes_act hl _).trans (if_neg ?reference)),
      fun n e h ht => exec_to (exec_phaseBackSlow ..) ((phaseBackSlowEff_pending hl h).trans (if_neg (Nat.not_lt.mpr ht))),
      fun h ht => exec_to (exec_regenerationShortfall ..) ((regenerationShortfallEff_since hl h).trans (if_pos ht)),
      fun h ht hs hp => exec_to (exec_preTorqueHeld ..) ((preTorqueHeldEff_since hl h).trans (if_pos ⟨hs, hp, decide_eq_true ht⟩)),
      fun h ht => exec_to (exec_preTorqueHeld ..) ((preTorqueHeldEff_since hl h).trans (if_neg ?preTorque))⟩
    case reference =>
      rintro ⟨-, -, ht, -, hr⟩
      exact h.elim ht fun h => absurd (h.symm.trans ((Bool.not_eq_true' _).mp hr)) (by decide)
    case preTorque =>
      rintro ⟨-, -, hd⟩
      exact absurd (of_decide_eq_true hd) (Nat.not_le.mpr ht)
  case wraps =>
    intro s t rq c d w m n ha
    rw [exec_wrapsSet_accepted ha]
    exact ⟨fun h => next_reply (wrapsSetEff_ofDrive w h), fun h => next_reply (wrapsSetEff_noDrive w h)⟩
  case winch =>
    intro s t d e f m hl
    refine ⟨fun h ht => exec_to (exec_shockHoldEnd ..) (m := m) ((whenLanes_act hl _).trans (if_pos (due_of_le h ht))),
      fun h ht => exec_to (exec_shockRecoveryEnd ..) (shockRecoveryEndEff_over hl h ht),
      fun h ht => exec_to (exec_heaveFadeEnd ..) (heaveFadeEndEff_over hl h ht),
      fun he hm hs hx => exec_to (exec_motionReferenceLost ..) (m := m) ((whenLanes_act hl _).trans (if_neg ?_)),
      fun h => exec_to (exec_motionReferenceLost ..) (m := m) ((whenLanes_act hl _).trans (if_pos ?_))⟩
    · simp [-Fin.getElem_fin, he, hm, hs, hx]
    · simpa [-Fin.getElem_fin] using h
  case motion =>
    intro s t d time p v a sq m at_ q fresh e u newer hl
    have hstep {e' : Mach} (h : motionRecordEff d time p v a sq m = e') :
        exec (.motionRecord t d time p v a sq) s = .next (s.after t e') := exec_to (exec_motionRecord ..) h
    have htaken (hg : 2 ≤ m.n Key.gptpState) (hn : newer) :
        motionRecordEff d time p v a sq m = if 10 ≤ u.drives[d].fresh ∧ !u.drives[d].risen ∧ u.modeOf d = 4 then heaveRise d u else u :=
      (motionRecordEff_eq hl).trans (if_neg (by
        rw [motionNewer_iff.mpr hn]
        rintro (h | h)
        exacts [absurd h (by decide), absurd hg (Nat.not_le.mpr h)]))
    refine ⟨fun hg => hstep ((motionRecordEff_eq hl).trans (if_pos (.inr hg))), fun r hr h => hstep ((motionRecordEff_eq hl).trans (if_pos (.inl ?old))),
      fun hg hn h => hstep ((htaken hg hn).trans (if_neg ?few)), fun hg hn hf hr hm => hstep ((htaken hg hn).trans (if_pos ⟨hf, congrArg (!·) hr, hm⟩))⟩
    case old =>
      rw [Bool.not_eq_true', ← Bool.not_eq_true, motionNewer_iff]
      intro hn
      obtain ⟨h1, h2, h3⟩ := hn r hr
      rcases h with h | h | h
      exacts [absurd h (Nat.not_le.mpr h1), h2 h, absurd h (Nat.not_le.mpr h3)]
    case few =>
      rintro ⟨hf, hr, hm⟩
      rcases h with h | h | h
      exacts [absurd h (Nat.not_lt.mpr hf), absurd h (by simpa using hr), h hm]

/-! ### Quick release (R187, R211 to R214) -/

section
variable {m : Mach} {d : Fin 2} (hl : m.lanesAct = true)
include hl

theorem quickReleaseDemandEff_none (h : m.driveExists d = false ∨ m.qrInputDemand d = false ∨ m.drives[d].qrDemand = true) :
    quickReleaseDemandEff d m = m :=
  (whenLanes_act hl _).trans (if_pos (by simpa [-Fin.getElem_fin] using h))

theorem quickReleaseEndEff_none (h : m.driveExists d = false ∨ m.qrInputDemand d = true ∨ m.drives[d].qrDemand = false) :
    quickReleaseEndEff d m = m :=
  (whenLanes_act hl _).trans (if_pos (by simpa [-Fin.getElem_fin] using h))

/-- A drive with its demand, held no longer. -/
abbrev qrDemanded (d : Fin 2) (m : Mach) : Mach := m.modDrive d (fun x => { x with qrDemand := true, held := false })

theorem quickReleaseDemandEff_comes (he : m.driveExists d = true) (hq : m.qrInputDemand d = true) (hd : m.drives[d].qrDemand = false)
    (hg : m.drives[d].st ≠ .off ∨ m.n Key.groveSize < 2 ∨ m.safety.linePassed = true) :
    quickReleaseDemandEff d m =
      let q := qrDemanded d m
      if q.qrBlocked d then qrFallback quickReleaseDemandEff.raiser d q
      else if m.drives[d].st = .locked ∨ q.n Key.safetyState ≤ 1 then q
      else
        let a := startAbort d q
        raiseD 0x30 d (a.modDrive d (fun x => { x with
          st := .quickRelease, step := .stoRelease, qrState := 1, ss1 := none, waitUntil := none, remeasure := none,
          speedRef := a.speedOf d, render := false })) := by
  rw [quickReleaseDemandEff, whenLanes_act hl]
  refine (if_neg (by simp [-Fin.getElem_fin, he, hq, hd])).trans (if_neg ?_)
  rintro ⟨ho, hs, hp⟩
  rcases hg with h | h | h
  exacts [h ho, absurd h (Nat.not_lt.mpr hs), absurd h (by simpa using hp)]

theorem quickReleaseEndEff_goes (he : m.driveExists d = true) (hq : m.qrInputDemand d = false) (hd : m.drives[d].qrDemand = true) :
    quickReleaseEndEff d m =
      let e := (m.modDrive d (fun x => { x with qrDemand := false })).causeGone 0x30 none (some d) 0xFF
      if m.drives[d].st = .quickRelease then
        if (e.setsOf d).any (fun k => e.gate[k].pulses) then
          e.modDrive d (fun x => { x with qrState := 4, ss1 := some { start := e.ns, n0 := e.speedOf d, lock := true } })
        else (driveEnd d .locked e).modDrive d (fun x => { x with qrEnded := true })
      else if m.drives[d].qrState = 3 then
        (driveEnd d .locked (e.each (e.brakesOf d) brakeApply)).modDrive d (fun x => { x with qrState := 0, qrEnded := true })
      else e.modDrive d (fun x => { x with qrState := 0 }) := by
  rw [quickReleaseEndEff, whenLanes_act hl]
  exact if_neg (by simp [-Fin.getElem_fin, he, hq, hd])

end

/-- Settles O29: the demand by what blocks it, the end by what the drive was in. -/
theorem quickRelease : Obligations.QuickRelease := by
  unfold Obligations.QuickRelease
  intro s t d m q a e comes goes hl
  have hdemand {e' : Mach} (h : quickReleaseDemandEff d m = e') : exec (.quickReleaseDemand t d) s = .next (s.after t e') :=
    exec_to (exec_quickReleaseDemand ..) h
  have hend {e' : Mach} (h : quickReleaseEndEff d m = e') : exec (.quickReleaseEnd t d) s = .next (s.after t e') :=
    exec_to (exec_quickReleaseEnd ..) h
  refine ⟨fun h => ⟨hdemand (quickReleaseDemandEff_none hl (.inl h)), hend (quickReleaseEndEff_none hl (.inl h))⟩,
    fun h => hdemand (quickReleaseDemandEff_none hl (.inr h)), fun ho hg hp => hdemand ?line, ?blocked, ?stays, ?enters,
    fun h => hend (quickReleaseEndEff_none hl (.inr h)), ?ramps, ?atOnce, ?applies, ?leaves⟩
  case line =>
    by_cases h : m.driveExists d = false ∨ m.qrInputDemand d = false ∨ m.drives[d].qrDemand = true
    · exact quickReleaseDemandEff_none hl h
    · rw [quickReleaseDemandEff, whenLanes_act hl]
      exact (if_neg (by simpa [-Fin.getElem_fin] using h)).trans (if_pos ⟨ho, hg, congrArg (!·) hp⟩)
  case blocked =>
    rintro ⟨he, hq, hd, hg⟩ hb
    exact hdemand ((quickReleaseDemandEff_comes hl he hq hd hg).trans (if_pos hb))
  case stays =>
    rintro ⟨he, hq, hd, hg⟩ hb hs
    exact hdemand ((quickReleaseDemandEff_comes hl he hq hd hg).trans ((if_neg (Bool.eq_false_iff.mp hb)).trans (if_pos hs)))
  case enters =>
    rintro ⟨he, hq, hd, hg⟩ hb hn hs
    exact hdemand ((quickReleaseDemandEff_comes hl he hq hd hg).trans ((if_neg (Bool.eq_false_iff.mp hb)).trans
      (if_neg fun h => h.elim hn fun h => absurd h (Nat.not_le.mpr hs))))
  case ramps =>
    rintro ⟨he, hq, hd⟩ hs hp
    exact hend ((quickReleaseEndEff_goes hl he hq hd).trans ((if_pos hs).trans (if_pos hp)))
  case atOnce =>
    rintro ⟨he, hq, hd⟩ hs hp
    exact hend ((quickReleaseEndEff_goes hl he hq hd).trans ((if_pos hs).trans (if_neg (Bool.eq_false_iff.mp hp))))
  case applies =>
    rintro ⟨he, hq, hd⟩ hs hr
    exact hend ((quickReleaseEndEff_goes hl he hq hd).trans ((if_neg hs).trans (if_pos hr)))
  case leaves =>
    rintro ⟨he, hq, hd⟩ hs hr
    exact hend ((quickReleaseEndEff_goes hl he hq hd).trans ((if_neg hs).trans (if_neg hr)))

end Sys2Proof.Proofs.Drive
end

section
/-! SUPPORT. The gate channels: commands of a die, latches, links, detectors, edges, rails, turn-off and retry, direct mode and Dusk
(R219 to R252, R444). -/

namespace Sys2Proof.Proofs.Gate

open Sys2Proof.Machine Sys2Proof.Laws Sys2Proof.Proofs.Block Sys2Proof.Proofs.Commit Sys2Proof.Proofs.Sensing Sys2Proof.Proofs.Engine
  Sys2Proof.Proofs.Start Sys2Proof.Proofs.Writes

theorem modCh_congr {m : Mach} {c : Fin 12} {f g : Channel → Channel} (h : f m.ch[c] = g m.ch[c]) : m.modCh c f = m.modCh c g :=
  congrArg (fun v => { m with ch := v }) (vmod_congr h)

/-! ### Commands of a die (R222) -/

section
variable {m : Mach} {c : Fin 12} {ks : List TripCause}

theorem dieCmd_act (hl : m.lanesAct = true) (f : Mach → Mach) : dieCmd f m = f m := whenLanes_act hl f

theorem dieCmd_idle (hl : m.lanesAct = false) (f : Mach → Mach) : dieCmd f m = m := whenLanes_idle hl f

/-- The latches of a channel whose cause persists. -/
def latchesAgain (c : Fin 12) (ks : List TripCause) (m : Mach) : List TripCause :=
  m.ch[c].latches.filter (fun x => ks.contains x || m.causeStands c x)

/-- No latch of the set is left, once the channel's have been cleared. -/
def clearsTrips (c : Fin 12) (again : List TripCause) (s : Fin 2) (e : Mach) : Bool :=
  (e.setChs s).all (fun d => e.ch[d].latches.isEmpty || (d == c && !again.isEmpty))

theorem contains_map_pair (c : Fin 12) (ks : List TripCause) (k : TripCause) : (ks.map (fun k => (c, k))).contains (c, k) = ks.contains k := by
  simp

theorem any_map_pair (c d : Fin 12) (l : List TripCause) : (l.map (fun k => (c, k))).any (fun p => p.1 == d) = (d == c && !l.isEmpty) := by
  cases l with
  | nil => simp
  | cons x xs =>
    by_cases h : c = d
    · simp [h]
    · simp [beq_eq_false_iff_ne.mpr h, beq_eq_false_iff_ne.mpr (Ne.symm h), Function.comp_def]

theorem map_snd_filter_pair (c : Fin 12) (l : List TripCause) : ((l.map (fun k => (c, k))).filter (fun p => p.1 == c)).map (·.2) = l := by
  simp [List.filter_map, Function.comp_def]

theorem each_map {α β : Type} (m : Mach) (l : List α) (g : α → β) (f : β → Mach → Mach) : m.each (l.map g) f = m.each l (fun x => f (g x)) :=
  List.foldl_map

theorem clearTripped_one (s : Fin 2) (m : Mach) : clearTripped s [c] (ks.map (fun k => (c, k))) m =
    let again := latchesAgain c ks m
    let e := clearLatches c again m
    (if clearsTrips c again s e then clearTrips s e else e).each again (fun x m => chTrip c x 0 0 m) := by
  have hagain : [c].flatMap (fun c' => (m.ch[c'].latches.filter (fun k => (ks.map (fun k => (c, k))).contains (c', k) || m.causeStands c' k)).map (fun k => (c', k))) =
      (latchesAgain c ks m).map (fun k => (c, k)) := by
    simp only [List.flatMap_cons, List.flatMap_nil, List.append_nil, contains_map_pair, latchesAgain]
  unfold clearTripped
  have hone (f : Fin 12 → Mach → Mach) : m.each [c] f = f c m := rfl
  simp only [hagain, each_map, any_map_pair, hone, map_snd_filter_pair]
  rfl

theorem clearFaultLatchesEff_eq (hl : m.lanesAct = true) : clearFaultLatchesEff c ks m =
    let again := latchesAgain c ks m
    let e := clearLatches c again m
    (if clearsTrips c again (m.setOfCh c) e then clearTrips (m.setOfCh c) e else e).each again (fun x m => chTrip c x 0 0 m) :=
  (dieCmd_act hl _).trans (clearTripped_one ..)

end

/-- Settles O30: each command through `dieCmd`, the latches by whether a cause persists, the configuration by its CRC. -/
theorem dieCommands : Obligations.DieCommands := by
  unfold Obligations.DieCommands
  refine ⟨?commands, ?latches, ?invalid, ?configuration⟩
  case commands =>
    intro s t c m
    refine ⟨fun hl => ⟨?_, ?_, ?_, fun h => ?_, fun h => ?_, ?_, ?_, ?_, ?_⟩, fun hl => ⟨?_, ?_, ?_, ?_, ?_, ?_, ?_, ?_⟩⟩
    · exact exec_to (exec_switchRelease ..) (m := m) (dieCmd_act hl _)
    · exact exec_to (exec_offWithOffProfile ..) (m := m) (dieCmd_act hl _)
    · exact exec_to (exec_softOff ..) (m := m) (dieCmd_act hl _)
    · exact exec_to (exec_staticOn ..) (m := m) ((dieCmd_act hl _).trans (if_neg (by rw [h]; decide)))
    · exact exec_to (exec_staticOn ..) (m := m) ((dieCmd_act hl _).trans (if_pos (congrArg (!·) h)))
    · exact exec_to (exec_duskInjection05Ma ..) (m := m) (dieCmd_act hl _)
    · exact exec_to (exec_duskInjection2Ma ..) (m := m) (dieCmd_act hl _)
    · exact exec_to (exec_duskInjectionStop ..) (m := m) (dieCmd_act hl _)
    · exact exec_to (exec_resetAdaptedProfile ..) (m := m) (dieCmd_act hl _)
    · exact exec_to (exec_switchRelease ..) (m := m) (dieCmd_idle hl _)
    · exact exec_to (exec_offWithOffProfile ..) (m := m) (dieCmd_idle hl _)
    · exact exec_to (exec_softOff ..) (m := m) (dieCmd_idle hl _)
    · exact exec_to (exec_staticOn ..) (m := m) (dieCmd_idle hl _)
    · exact exec_to (exec_duskInjection05Ma ..) (m := m) (dieCmd_idle hl _)
    · exact exec_to (exec_duskInjection2Ma ..) (m := m) (dieCmd_idle hl _)
    · exact exec_to (exec_duskInjectionStop ..) (m := m) (dieCmd_idle hl _)
    · exact exec_to (exec_resetAdaptedProfile ..) (m := m) (dieCmd_idle hl _)
  case latches =>
    intro s t c ks m k again e quiet hl
    have hstep {e' : Mach} (h : (if quiet then clearTrips k e else e).each again (fun x m => chTrip c x 0 0 m) = e') :
        exec (.clearFaultLatches t c ks) s = .next (s.after t e') :=
      exec_to (exec_clearFaultLatches ..) ((clearFaultLatchesEff_eq hl).trans h)
    refine ⟨fun ha hq => hstep ?_, fun ha hq => hstep ?_, fun _ hq => hstep ?_, fun _ hq => hstep ?_⟩
    · rw [ha, hq]
      rfl
    · rw [ha, hq]
      rfl
    · rw [hq]
      rfl
    · rw [hq]
      rfl
  case invalid =>
    intro s t c code m hl
    exact ⟨fun h1 h9 => exec_to (exec_invalidCommand ..) (m := m) ((dieCmd_act hl _).trans (if_pos ⟨h1, h9⟩)),
      fun h => exec_to (exec_invalidCommand ..) (m := m) ((dieCmd_act hl _).trans (if_neg (by omega)))⟩
  case configuration =>
    intro s t c cfg crc m hr hlog
    exact ⟨fun h => exec_to (exec_channelConfiguration ..) (m := m) ((whenUp_running hr _).trans (if_pos ⟨hlog, h⟩)),
      fun h => exec_to (exec_channelConfiguration ..) (m := m) ((whenUp_running hr _).trans (if_neg fun h' => h h'.2))⟩

/-! ### Links (R221, R444) -/

/-- Settles O31: a frame as it comes; a loss by whether the links are judged. -/
theorem channelLinks : Obligations.ChannelLinks := by
  unfold Obligations.ChannelLinks
  intro s t c m cut hr
  refine ⟨fun fr => exec_to (exec_uplinkStatusFrame ..) (m := m) (whenUp_running hr _), fun hj => ⟨?_, ?_⟩, fun hj => ⟨?_, ?_⟩,
    fun e hs he hd => ?_, fun hs => ?_⟩
  · exact exec_to (exec_downlinkLoss ..) (m := m) ((whenUp_running hr _).trans (if_pos hj))
  · exact exec_to (exec_uplinkLoss ..) (m := m) ((whenUp_running hr _).trans (if_pos hj))
  · exact exec_to (exec_downlinkLoss ..) (m := m) ((whenUp_running hr _).trans (if_neg (Bool.eq_false_iff.mp hj)))
  · exact exec_to (exec_uplinkLoss ..) (m := m) ((whenUp_running hr _).trans (if_neg (Bool.eq_false_iff.mp hj)))
  · refine exec_to (exec_channelUplinkTimeout ..) (m := m) ((whenUp_running hr _).trans (if_pos ?_))
    rw [hs, due_of_le he hd]
    rfl
  · exact exec_to (exec_channelUplinkTimeout ..) (m := m) ((whenUp_running hr _).trans (if_neg (by rw [hs]; simp)))

/-! ### Detectors (R235, R236, R238) -/

section
variable {m : Mach} {c : Fin 12}

theorem onSince_of_on {ps : Time} (ho : m.ch[c].on = true) (h : m.ch[c].onAt + 80000 + ps ≤ m.now) : m.onSince c ps = true := by
  simp [Mach.onSince, -Fin.getElem_fin, ho, h]

theorem onSince_of_turningOff {ps : Time} (ho : m.ch[c].on = false) (hc : m.ch[c].confirmed = false) (ha : m.ch[c].onAt ≤ m.ch[c].offAt)
    (hf : m.now < m.ch[c].offAt + 80000) (h : m.ch[c].onAt + 80000 + ps ≤ m.now) : m.onSince c ps = true := by
  simp [Mach.onSince, -Fin.getElem_fin, ho, hc, ha, hf, h]

theorem onSince_early {ps : Time} (h : m.now < m.ch[c].onAt + 80000 + ps) : m.onSince c ps = false := by
  simp [Mach.onSince, -Fin.getElem_fin, Nat.not_le.mpr h]

/-- A channel that is off, confirmed or beyond its turn-off's first phase, feeds no detector. -/
theorem onSince_off (ps : Time) (ho : m.ch[c].on = false) (h : m.ch[c].confirmed = true ∨ m.ch[c].offAt + 80000 ≤ m.now) :
    m.onSince c ps = false := by
  rcases h with h | h
  · simp [Mach.onSince, -Fin.getElem_fin, ho, h]
  · simp [Mach.onSince, -Fin.getElem_fin, ho, Nat.not_lt.mpr h]

section
variable {v : F32} (hr : m.running = true)
include hr

theorem didtTripEff_dead (h : m.onSince c 0 = false) : didtTripEff c v m = m :=
  (whenUp_running hr _).trans (if_neg (by rw [h]; simp))

theorem desaturationTripEff_dead (h : m.onSince c 1500000 = false) : desaturationTripEff c v m = m :=
  (whenUp_running hr _).trans (if_neg (by rw [h]; simp))

variable {course : List (F32 × Nat)}

theorem integratorTripEff_dead (h : m.onSince c (course.map (·.2)).sum = false) : integratorTripEff c course m = m :=
  (whenUp_running hr _).trans (if_pos (congrArg (!·) h))

theorem integratorTripEff_live (h : m.onSince c (course.map (·.2)).sum = true) :
    integratorTripEff c course m =
      let i := course.foldl (m.integrate c) 0
      let held := m.modCh c (fun x => { x with iInt := if x.on then i else 0 })
      if fge i (m.r (Key.gScCurrentLimit c.1)) then chTrip c .integrator i (m.r (Key.gScCurrentLimit c.1)) held else held :=
  (whenUp_running hr _).trans (if_neg (by rw [h]; simp))

end

/-! ### Edges (R224 to R227) -/

theorem profilePhase1EndEff_pending {e : Time} (h : m.ch[c].phase1End = some e) :
    profilePhase1EndEff c m = if e ≤ m.now then m.modCh c (fun x => { x with
      phase1End := none, source := if x.on then m.n (Key.gOnN2 c.1) else 0
      sink := if x.on then 0 else if x.soft then 16 else m.n (Key.gOffN2 c.1) }) else m := by
  simp only [profilePhase1EndEff, h]

/-- The step of one adapted value after an edge outside the dead band, in the mode that adapts it (R227). -/
def edgeStep (c : Fin 12) (on slow fast : Bool) (e : Mach) : Mach :=
  let n1 := if on then Key.gLiveOnN1 c.1 else Key.gLiveOffN1 c.1
  let t1 := if on then Key.gLiveOnT1 c.1 else Key.gLiveOffT1 c.1
  let n2 := if on then Key.gOnN2 c.1 else Key.gOffN2 c.1
  match e.n (Key.gAdaptMode c.1) with
  | 1 => stepWithin c n1 slow 1 (e.n (Key.gAdaptN1Min c.1)) (e.n (Key.gAdaptN1Max c.1)) e
  | 2 => stepWithin c t1 (if e.n n1 > e.n n2 then slow else fast) 5 (e.n (Key.gAdaptT1Min c.1)) (e.n (Key.gAdaptT1Max c.1)) e
  | _ => e

section
variable {on slow fast : Bool}

theorem edgeStep_segments (h : m.n (Key.gAdaptMode c.1) = 1) : edgeStep c on slow fast m =
    stepWithin c (if on then Key.gLiveOnN1 c.1 else Key.gLiveOffN1 c.1) slow 1 (m.n (Key.gAdaptN1Min c.1)) (m.n (Key.gAdaptN1Max c.1)) m := by
  simp only [edgeStep, h]

theorem edgeStep_time (h : m.n (Key.gAdaptMode c.1) = 2) : edgeStep c on slow fast m =
    stepWithin c (if on then Key.gLiveOnT1 c.1 else Key.gLiveOffT1 c.1)
      (if m.n (if on then Key.gLiveOnN1 c.1 else Key.gLiveOffN1 c.1) > m.n (if on then Key.gOnN2 c.1 else Key.gOffN2 c.1) then slow else fast)
      5 (m.n (Key.gAdaptT1Min c.1)) (m.n (Key.gAdaptT1Max c.1)) m := by
  simp only [edgeStep, h]

theorem edgeStep_unadapted (h1 : m.n (Key.gAdaptMode c.1) ≠ 1) (h2 : m.n (Key.gAdaptMode c.1) ≠ 2) : edgeStep c on slow fast m = m := by
  rcases hm : m.n (Key.gAdaptMode c.1) with _ | _ | _ | x
  · simp only [edgeStep, hm]
  · exact absurd hm h1
  · exact absurd hm h2
  · simp only [edgeStep, hm]

end

/-- An edge that is judged: its time is kept, and one adapted value moves where the time lies outside the dead band. -/
def edgeJudged (c : Fin 12) (on : Bool) (time : F32) (m : Mach) : Mach :=
  let e := m.putR (if on then Key.gLastOnTime c.1 else Key.gLastOffTime c.1) time
  let tgt := fNat (e.n (if on then Key.gAdaptTargetOn c.1 else Key.gAdaptTargetOff c.1))
  let db := fNat (e.n (Key.gAdaptDeadband c.1))
  let slow := fgt time (fadd tgt db)
  let fast := flt time (fsub tgt db)
  if !slow && !fast then e else edgeStep c on slow fast e

theorem edgeMeasurementEff_unjudged (hr : m.running = true) {on : Bool} {raw peak : F32}
    (h : flt (fabs peak) (m.r (Key.gAdaptMinPeak c.1)) = true ∨ (on = false ∧ m.ch[c].soft = true)) :
    edgeMeasurementEff c on raw peak m = m := by
  refine (whenUp_running hr _).trans (if_pos ?_)
  rcases h with h | ⟨ho, h⟩
  · rw [h, Bool.or_true]
  · rw [ho, h]
    rfl

theorem edgeMeasurementEff_judged (hr : m.running = true) {on : Bool} {raw peak : F32}
    (h : flt (fabs peak) (m.r (Key.gAdaptMinPeak c.1)) = false) (ho : on = true ∨ m.ch[c].soft = false) :
    edgeMeasurementEff c on raw peak m = edgeJudged c on (resolved raw) m := by
  refine (whenUp_running hr _).trans (if_neg ?_)
  rw [h]
  rcases ho with ho | ho <;> simp [-Fin.getElem_fin, ho]

end

/-- Settles O32: a detector by its enable and its threshold, an edge by its time against the dead band and the mode. -/
theorem detectorsAndEdges : Obligations.DetectorsAndEdges := by
  unfold Obligations.DetectorsAndEdges
  refine ⟨⟨?detectors, ?enable, ?phases⟩, ?edge⟩
  case detectors =>
    intro s t c v course m thr i held desat hr
    refine ⟨fun h => ⟨fun hv => ?_, fun hv => ?_⟩, fun h => ⟨fun hv => ?_, fun hv => ?_⟩, fun h hv => ?_, fun hv => ?_, fun ho h => ⟨?_, ?_, ?_⟩⟩
    · exact exec_to (exec_didtTrip ..) (m := m) ((whenUp_running hr _).trans (if_pos (Bool.and_eq_true_iff.mpr ⟨h, hv⟩)))
    · exact exec_to (exec_didtTrip ..) (m := m) ((whenUp_running hr _).trans (if_neg fun h' => absurd (hv.symm.trans (Bool.and_eq_true_iff.mp h').2) (by decide)))
    · exact exec_to (exec_integratorTrip ..) ((integratorTripEff_live hr h).trans (if_pos hv))
    · exact exec_to (exec_integratorTrip ..) ((integratorTripEff_live hr h).trans (if_neg (Bool.eq_false_iff.mp hv)))
    · exact exec_to (exec_desaturationTrip ..) (m := m) ((whenUp_running hr _).trans (if_pos (Bool.and_eq_true_iff.mpr ⟨h, hv⟩)))
    · exact exec_to (exec_desaturationTrip ..) (m := m) ((whenUp_running hr _).trans (if_neg fun h' => absurd (hv.symm.trans (Bool.and_eq_true_iff.mp h').2) (by decide)))
    · exact exec_to (exec_didtTrip ..) (didtTripEff_dead hr (onSince_off 0 ho h))
    · exact exec_to (exec_integratorTrip ..) (integratorTripEff_dead hr (onSince_off _ ho h))
    · exact exec_to (exec_desaturationTrip ..) (desaturationTripEff_dead hr (onSince_off 1500000 ho h))
  case enable =>
    intro m c ps x
    exact ⟨onSince_of_on, onSince_of_turningOff, onSince_early⟩
  case phases =>
    intro s t c e m x
    refine ⟨fun h => exec_to (exec_rampWindowEnd ..) (m := m) (if_pos h), fun h => exec_to (exec_rampWindowEnd ..) (m := m) (if_neg (Bool.eq_false_iff.mp h)),
      fun h ht ho => exec_to (exec_profilePhase1End ..) ((profilePhase1EndEff_pending h).trans ((if_pos ht).trans (modCh_congr ?_))),
      fun h ht ho => exec_to (exec_profilePhase1End ..) ((profilePhase1EndEff_pending h).trans ((if_pos ht).trans (modCh_congr ?_))),
      fun h ht => exec_to (exec_profilePhase1End ..) ((profilePhase1EndEff_pending h).trans (if_neg (Nat.not_le.mpr ht)))⟩
    · simp [-Fin.getElem_fin, show m.ch[c].on = true from ho]
    · have ho : m.ch[c].on = false := ho
      simp only [ho]
      rfl
  case edge =>
    intro s t c on raw peak m time e tgt db n1 t1 n2 slow hr
    refine ⟨fun h => exec_to (exec_edgeMeasurement ..) (edgeMeasurementEff_unjudged hr h), fun hp ho => ?_⟩
    have hstep {e' : Mach} (h : edgeJudged c on time m = e') : exec (.edgeMeasurement t c on raw peak) s = .next (s.after t e') :=
      exec_to (exec_edgeMeasurement ..) ((edgeMeasurementEff_judged hr hp ho).trans h)
    have hout (h : slow = true ∨ flt time (fsub tgt db) = true) : ¬ (!slow && !(flt time (fsub tgt db))) = true := by
      rcases h with h | h <;> simp [h]
    refine ⟨fun hs hf => hstep (if_pos (Bool.and_eq_true_iff.mpr ⟨congrArg (!·) hs, congrArg (!·) hf⟩)),
      fun h hm => hstep ((if_neg (hout h)).trans (edgeStep_segments hm)), fun h hm => hstep ((if_neg (hout h)).trans (edgeStep_time hm)),
      fun h1 h2 => hstep ?_⟩
    exact (ite_congr rfl (fun _ => rfl) (fun _ => edgeStep_unadapted h1 h2)).trans (ite_self _)

/-! ### Rails, turn-off, retry (R231 to R248, R446) -/

section
variable {m : Mach} {c : Fin 12} {k : Fin 2} {r : GateRail} {v : F32}

/-- A rail of a die that has gone, the logic supply's with the configuration. -/
abbrev railGone (c : Fin 12) (r : GateRail) (m : Mach) : Mach :=
  m.modCh c (fun x => let x := setRail r false x; if r = .logic then { x with config := none } else x)

theorem railInvalidEff_supervised (h : m.railDown c v r = true) (hs : r ≠ .vneg ∨ (railGone c r m).n (Key.gUvloNegRail c.1) ≠ 0) :
    railInvalidEff c r v m =
      if (railGone c r m).running then chTrip c (railCause r) v 0 (railGone c r m) else latch c (railCause r) (ownSoftOff c (railGone c r m)) :=
  (if_neg (by simp [h])).trans (if_neg fun h' => hs.elim (absurd h'.1) (absurd h'.2))

theorem turnOffSequenceStepEff_pending {x : TurnOff} (h : m.gate[k].turnOff = some x) :
    turnOffSequenceStepEff k m = if x.next ≤ m.now then turnOffStep k x.rest x.soft m else m := by
  simp only [turnOffSequenceStepEff, h]

theorem setConfirmedOffEff_early (hl : m.lanesAct = true) {ps : List (Fin 12 × TripCause)} (h : m.gate[k].retry ≠ 1 ∨ m.allOff k = false) :
    setConfirmedOffEff k ps m = m :=
  (whenLanes_act hl _).trans (if_pos (h.imp_right (congrArg (!·))))

theorem setConfirmedOffEff_due (hl : m.lanesAct = true) {ps : List (Fin 12 × TripCause)} (hr : m.gate[k].retry = 1) (ho : m.allOff k = true) :
    setConfirmedOffEff k ps m =
      let a := m.each (m.setChs k) (fun c m => cmdCh c 0x08 m)
      clearTripped k (m.setChs k) ps ((a.modGate k (fun g => { g with
        retry := 2, waitEnd := some (a.ns + ms (a.n (Key.gateRetryWait k.1))), scLegs := [], multiLeg := false })).each
        ((m.setChs k).filter (fun c => !m.ch[c].latches.isEmpty)) (fun c m => raiseS 0x3C k c.1 m)) :=
  (whenLanes_act hl _).trans (if_neg fun h => h.elim (absurd hr) (by simp [ho]))

end

/-- Settles O33: a rail by its thresholds, a turn-off by its instants, the retry by the set's confirmation and its wait. -/
theorem railsAndTurnOff : Obligations.RailsAndTurnOff := by
  unfold Obligations.RailsAndTurnOff
  refine ⟨⟨?rails, fun _ _ _ => ⟨rfl, rfl, rfl, rfl⟩⟩, ?sequence, ?confirmed, ?interlock, ?off, ?retry, ?history⟩
  case rails =>
    intro s t c r v m up down
    refine ⟨fun h => exec_to (exec_railValid ..) (m := m) (if_pos (congrArg (!·) h)),
      fun h hn => exec_to (exec_railValid ..) (m := m) ((if_neg (by simp [h])).trans (if_neg ?_)),
      fun h hl hr hc => exec_to (exec_railValid ..) (m := m) ((if_neg (by simp [h])).trans (if_pos ?_)),
      fun h => exec_to (exec_railInvalid ..) (m := m) (if_pos (congrArg (!·) h)),
      fun h hv hn => exec_to (exec_railInvalid ..) (m := m) ((if_neg (by simp [h])).trans (if_pos ⟨hv, hn⟩)),
      fun h hs hr => exec_to (exec_railInvalid ..) ((railInvalidEff_supervised h hs).trans (if_pos hr)),
      fun h hs hr => exec_to (exec_railInvalid ..) ((railInvalidEff_supervised h hs).trans (if_neg (Bool.eq_false_iff.mp hr)))⟩
    · exact fun h' => absurd ((Bool.and_eq_true_iff.mp h').2.symm.trans hn) (by decide)
    · exact Bool.and_eq_true_iff.mpr ⟨Bool.and_eq_true_iff.mpr ⟨hl, beq_iff_eq.mpr hr⟩, hc⟩
  case sequence =>
    intro s t k x m h
    exact ⟨fun ht => exec_to (exec_turnOffSequenceStep ..) ((turnOffSequenceStepEff_pending h).trans (if_pos ht)),
      fun ht => exec_to (exec_turnOffSequenceStep ..) ((turnOffSequenceStepEff_pending h).trans (if_neg (Nat.not_le.mpr ht)))⟩
  case confirmed =>
    intro s t c m p hr
    exact ⟨fun h => exec_to (exec_gateOffConfirmed ..) (m := m) ((whenUp_running hr _).trans (if_pos h)),
      fun h => exec_to (exec_gateOffConfirmed ..) (m := m) ((whenUp_running hr _).trans (if_neg (Bool.eq_false_iff.mp h)))⟩
  case interlock =>
    intro s t k leg m hr
    refine ⟨fun h => exec_to (exec_legInterlockFault ..) (m := m) ((whenUp_running hr _).trans (if_pos ?_)),
      fun h1 h2 => exec_to (exec_legInterlockFault ..) (m := m) ((whenUp_running hr _).trans (if_neg ?_))⟩
    · exact h.imp_right fun h => ⟨h.1, congrArg (!·) h.2⟩
    · rintro (h | ⟨h, hc⟩)
      exacts [h1 h, absurd hc (by rw [h2 h]; decide)]
  case off =>
    intro s t k m a hl
    exact ⟨fun h ps => exec_to (exec_setConfirmedOff ..) (setConfirmedOffEff_early hl h),
      fun hr ho ps => exec_to (exec_setConfirmedOff ..) (setConfirmedOffEff_due hl hr ho)⟩
  case retry =>
    intro s t k e m r hl hr hw
    refine ⟨fun h => exec_to (exec_retryWaitEnd ..) (m := m) ((whenLanes_act hl _).trans (if_neg fun h' => not_due_of_lt hw h h'.2)),
      fun h hb => exec_to (exec_retryWaitEnd ..) (m := m) ((whenLanes_act hl _).trans ((if_pos ⟨hr, due_of_le hw h⟩).trans (if_neg ?_)))⟩
    rw [show Mach.b _ (Key.gateRetryAutoRestart k.1) = false from hb]
    simp
  case history =>
    intro s t k m
    exact exec_tripHistoryExpiry ..

/-! ### Direct mode and the Dusk test (R230, R251, R252) -/

section
variable {m : Mach} {k : Fin 2}

theorem exec_directEnable_accepted {s : Machine.State} {t : Time} {rq : Req} {c : Conn} {on : Bool}
    (h : (s.core.at_ t).accepts rq c (Key.gateDirectEnable k.1) [if on then 1 else 0] (.num (if on then 1 else 0))) :
    exec (.directEnable t rq k on) s = .next (s.after t (reply 3 rq 0 [] (directEnableEff k on (touch rq (s.core.at_ t))))) := by
  rw [exec_directEnable, writeHere_set h (directEnable_entry k) (perform_directEnable ..)]
  cases on <;> rfl

theorem duskStepEndEff_due (hl : m.lanesAct = true) {r : DuskRun} {rd : DuskReading} (hd : m.gate[k].dusk = some r) (ht : r.due ≤ m.ns)
    (h : rd.alive = false ∨ m.duskOk k = false) : duskStepEndEff k rd m = duskFinish k r [0x08, 0x08, 0x08] m := by
  simp only [duskStepEndEff, whenLanes_act hl, hd, Nat.not_lt.mpr ht, if_false]
  exact if_pos (h.imp (congrArg (!·)) (congrArg (!·)))

end

/-- Settles O34: the enable by what the set allows, SWCMD by the set's mode, a step by its readings. -/
theorem directModeAndDusk : Obligations.DirectModeAndDusk := by
  unfold Obligations.DirectModeAndDusk
  refine ⟨?enable, ?swcmd, ?request, ?step⟩
  case enable =>
    intro s t rq c k m n on off
    refine ⟨fun ha => ?_, fun ha => ?_⟩
    · rw [exec_directEnable_accepted (on := true) ha]
      exact ⟨fun h => next_reply (if_pos h), fun h => next_reply (if_neg (Bool.eq_false_iff.mp h))⟩
    · rw [exec_directEnable_accepted (on := false) ha]
      refine ⟨fun h => next_reply ((if_neg (by decide)).trans (if_neg ?_)), fun hm hg => next_reply ((if_neg (by decide)).trans (if_pos ⟨hm, hg⟩))⟩
      rintro ⟨hm, hg⟩
      rcases h with h | ⟨hd, hw⟩
      exacts [absurd (hm.symm.trans h) (by decide), hg.elim (fun hg => absurd (hg.symm.trans hd) (by decide)) hw]
  case swcmd =>
    intro s t c h m e k
    refine ⟨fun hn => exec_to (exec_swcmdTransition ..) (m := m) (if_pos ?_),
      fun hr hm hd hp hh => exec_to (exec_swcmdTransition ..) (m := m) ((if_neg ?_).trans (if_pos hh))⟩
    · exact hn.imp (congrArg (!·)) (Or.imp (congrArg (!·)) (Or.imp (congrArg (!·)) (congrArg (!·))))
    · rintro (h' | h' | h' | h')
      exacts [absurd h' (Bool.eq_false_iff.mp (congrArg (!·) hr)), absurd h' (Bool.eq_false_iff.mp (congrArg (!·) hm)),
        absurd h' (Bool.eq_false_iff.mp (congrArg (!·) hd)), absurd h' (Bool.eq_false_iff.mp (congrArg (!·) hp))]
  case request =>
    intro s t rq c k m n ha
    refine ⟨fun h => ?_, fun h => ?_⟩
    · rw [exec_duskRun, writeHere_set ha (duskRun_entry k) (perform_duskRun_ok rq c.role _ n h)]
      rfl
    · rw [exec_duskRun, writeHere_set ha (duskRun_entry k) (perform_duskRun_refused rq c.role _ n h)]
  case step =>
    intro s t k rd r m hl hd
    refine ⟨fun ht => exec_to (exec_duskStepEnd ..) (m := m) ?early, fun ht ha => exec_to (exec_duskStepEnd ..) (duskStepEndEff_due hl hd ht (.inl ha)),
      fun ht ha ho hs hf => exec_to (exec_duskStepEnd ..) (m := m) ?rotates⟩
    case early => simp only [duskStepEndEff, whenLanes_act hl, hd, ht, if_true]
    case rotates =>
      simp only [duskStepEndEff, whenLanes_act hl, hd, Nat.not_lt.mpr ht, if_false]
      exact (if_neg (by simp [ha, ho])).trans ((if_pos hs).trans (if_pos hf))

end Sys2Proof.Proofs.Gate
end

section
/-! SUPPORT. Safe inputs and their demands; the STO release and its checks (R262 to R275, R485). -/

namespace Sys2Proof.Proofs.Safety

open Sys2Proof.Machine Sys2Proof.Laws Sys2Proof.Proofs.Block Sys2Proof.Proofs.Commit Sys2Proof.Proofs.Start

/-! ### Safe inputs (R265 to R270) -/

section
variable {m : Mach} {i : Fin 6}

theorem safeInputDiscrepancyEff_since (hl : m.lanesAct = true) (hf : m.n (Key.siFunction i.1) ≠ 0) (hd : m.safety.si[i].discrep = false)
    {from_ : Nat} (h : m.safety.si[i].disagree = some from_) :
    safeInputDiscrepancyEff i m =
      if from_ + ms (m.n (Key.siDiscrepancy i.1)) ≤ m.ns then
        siUpdate i (raiseM 0x44 i.1 ((m.modSi i (fun x => { x with discrep := true, cycle := 0 })).inc (Key.siDiscrepancyCount i.1)))
      else m := by
  rw [safeInputDiscrepancyEff, whenLanes_act hl]
  simp only [h, hd]
  simp [hf]

/-- How one reading at a dark pulse's end is judged (R267). -/
def darkJudge (tp : Fin 2) (r : DarkReading) (m : Mach) : Mach :=
  let x := m.safety.si[r.si].ch[r.ch]
  if m.n (Key.siFunction r.si.1) = 0 ∨ m.n (Key.siSource r.si.1) ≠ 0 ∨ x.demand ∨ x.testFault then m
  else if r.ch = tp then (if r.lowAtEnd then m else testFault r.si r.ch m)
  else if r.lowAtEnd && r.highAround then testFault r.si r.ch m else m

/-- The dark pulse is over. -/
abbrev darkOver (tp : Fin 2) (m : Mach) : Mach := m.modLan (fun l => { l with dark := vmod l.dark tp (fun _ => false) })

section
variable {tp : Fin 2} {r : DarkReading}

theorem darkPulseEndEff_early {t0 : Int} (h : m.lantern.darkAt[tp] = some t0) (ht : (m.now : Int) < t0 + 500000000) :
    darkPulseEndEff tp [r] m = m :=
  if_pos (by rw [h]; exact decide_eq_true ht)

theorem darkPulseEndEff_over (ht : ∀ t0, m.lantern.darkAt[tp] = some t0 → t0 + 500000000 ≤ (m.now : Int)) (hd : m.lantern.dark[tp] = true)
    (hl : m.lanesAct = true) : darkPulseEndEff tp [r] m = darkJudge tp r (darkOver tp m) := by
  have hover : (match m.lantern.darkAt[tp] with | some t => decide ((m.now : Int) < t + 500000000) | none => false) = false := by
    split
    · next t0 h => exact decide_eq_false (not_lt.mpr (ht t0 h))
    · rfl
  refine (if_neg (Bool.eq_false_iff.mp hover)).trans (if_neg ?_)
  rintro (h | h)
  · exact absurd h (by rw [hd]; decide)
  · exact absurd (hl.symm.trans ((Bool.not_eq_true' _).mp h)) (by decide)

end

/-! #### What an input's state comes to (R268, R270) -/

theorem siUpdate_unknown (hk : m.safety.si[i].known = false) (ha : m.safety.si[i].acted = false) : siUpdate i m = m :=
  if_pos (by rw [hk, ha]; simp)

theorem siUpdate_demand (hf : m.n (Key.siFunction i.1) ≠ 0) (hk : m.safety.si[i].known = true) (hd : m.siDemand i = true)
    (ha : m.safety.si[i].acted = false) :
    siUpdate i m =
      let lock := m.b (Key.siRestart i.1) && m.n (Key.siFunction i.1) != 3
      demandActs (m.n (Key.siFunction i.1)) (m.n (Key.siTarget i.1)) lock i.1
        (m.modSi i (fun x => { x with acted := true, awaitReset := x.awaitReset || lock })) := by
  have hdem : (m.n (Key.siFunction i.1) != 0 && m.safety.si[i].known && m.siDemand i) = true := by
    rw [hk, hd]
    simp [hf]
  exact (if_neg (by rw [hdem, ha]; decide)).trans (if_pos hdem)

theorem siUpdate_end (hd : m.siDemand i = false) (ha : m.safety.si[i].acted = true) :
    siUpdate i m = (m.modSi i (fun x => { x with acted := false })).causeGone 0x43 none none i.1 := by
  have hdem : (m.n (Key.siFunction i.1) != 0 && m.safety.si[i].known && m.siDemand i) = false := by rw [hd, Bool.and_false]
  exact (if_neg (by rw [hdem, ha]; decide)).trans (if_neg (Bool.eq_false_iff.mp hdem))

/-- An input that is no reset is in demand while its state is not known, its channels disagree or one of them demands (R485). -/
theorem siDemand_of_unsafe (h3 : m.n (Key.siFunction i.1) ≠ 3) (h0 : m.n (Key.siFunction i.1) ≠ 0)
    (h : m.safety.si[i].known = false ∨ m.safety.si[i].discrep = true ∨ ∃ c : Fin 2, m.safety.si[i].ch[c].demand = true) :
    m.siDemand i = true := by
  unfold Mach.siDemand
  dsimp only
  split
  · exact absurd ‹_› h0
  · exact absurd ‹_› h3
  · rcases h with h | h | ⟨c, h⟩
    · rw [h]
      simp
    · rw [h]
      simp
    · match c with
      | 0 => rw [show m.safety.si[i].ch[0].demand = true from h]; simp
      | 1 => rw [show m.safety.si[i].ch[1].demand = true from h]; simp

end

/-- Settles O35: channels by the filter, a disagreement and a dark pulse by their times, a demand by what the input knows. -/
theorem safeInputs : Obligations.SafeInputs := by
  unfold Obligations.SafeInputs
  refine ⟨⟨?channels, ?discrepancy, ?dark⟩, ?update⟩
  case channels =>
    intro s t i c m hr
    refine ⟨fun since h => exec_to (exec_safeInputChannelDemand ..) (m := m) ((whenUp_running hr _).trans (if_pos h)),
      fun since h => exec_to (exec_safeInputChannelClear ..) (m := m) ((whenUp_running hr _).trans (if_pos h)),
      fun since h => ⟨exec_to (exec_safeInputChannelDemand ..) (m := m) ((whenUp_running hr _).trans (if_neg (Bool.eq_false_iff.mp h))),
        exec_to (exec_safeInputChannelClear ..) (m := m) ((whenUp_running hr _).trans (if_neg (Bool.eq_false_iff.mp h)))⟩,
      fun hs hf => exec_to (exec_safeInputStateKnown ..) (m := m) ((whenUp_running hr _).trans (if_neg ?_)),
      fun h => exec_to (exec_safeInputStateKnown ..) (m := m) ((whenUp_running hr _).trans (if_pos (h.imp_right (congrArg (!·)))))⟩
    rintro (⟨h0, hn⟩ | h)
    exacts [hs.elim (absurd h0) (absurd hn ∘ Nat.not_lt.mpr), absurd (hf.symm.trans ((Bool.not_eq_true' _).mp h)) (by decide)]
  case discrepancy =>
    intro s t i from_ m hl hf hd h
    exact ⟨fun ht => exec_to (exec_safeInputDiscrepancy ..) ((safeInputDiscrepancyEff_since hl hf hd h).trans (if_pos ht)),
      fun ht => exec_to (exec_safeInputDiscrepancy ..) ((safeInputDiscrepancyEff_since hl hf hd h).trans (if_neg (Nat.not_le.mpr ht)))⟩
  case dark =>
    intro s t tp r m e
    refine ⟨fun h => exec_to (exec_darkPulseStart ..) (m := m) (if_pos (h.imp_right (congrArg (!·)))),
      fun hn hd => exec_to (exec_darkPulseStart ..) (m := m) (if_neg ?_),
      fun t0 h ht => exec_to (exec_darkPulseEnd ..) (darkPulseEndEff_early h ht), fun ht hd hl hf hs hdem hfault => ?_⟩
    · rintro (h | h)
      exacts [absurd hn (Nat.not_le.mpr h), absurd hd (by simpa using h)]
    · have hstep {e' : Mach} (h : (if r.ch = tp then (if r.lowAtEnd then e else testFault r.si r.ch e)
          else if r.lowAtEnd && r.highAround then testFault r.si r.ch e else e) = e') :
          exec (.darkPulseEnd t tp [r]) s = .next (s.after t e') := by
        refine exec_to (exec_darkPulseEnd ..) ((darkPulseEndEff_over ht hd hl).trans ((if_neg ?_).trans h))
        rintro (h' | h' | h' | h')
        exacts [hf h', h' hs, absurd (h'.symm.trans hdem) (by decide), absurd (h'.symm.trans hfault) (by decide)]
      exact ⟨fun hc hlow => hstep ((if_pos hc).trans (if_pos hlow)), fun hc hlow => hstep ((if_pos hc).trans (if_neg (Bool.eq_false_iff.mp hlow))),
        fun hc hlow hhigh => hstep ((if_neg hc).trans (if_pos (Bool.and_eq_true_iff.mpr ⟨hlow, hhigh⟩))),
        fun hc hlow => hstep ((if_neg hc).trans (if_neg (by rw [hlow]; simp)))⟩
  case update =>
    intro m i f lock
    exact ⟨siUpdate_demand, siUpdate_unknown, siUpdate_end, siDemand_of_unsafe⟩

/-! ### An STO switch fault in an active short circuit (R262) -/

/-- While a set is in active short circuit the STO switches stay as they are (R262), and in safe state no event is raised: a switch fault
is noted and does nothing else. -/
theorem stoFault_of_asc {m : Mach} (ha : m.anyAsc = true) (hs : m.clr.safeState = true) :
    stoFault m = m.modSto (fun x => { x with fault := true }) :=
  (congrArg (raiseM 0x46 0xFF) (if_pos ha)).trans (if_pos hs)

/-- A block in safe state, set 0 in active short circuit, the high-side STO switch closed. -/
def shortCircuited : Mach :=
  ((Machine.State.reset.core.modClr (fun c => { c with safeState := true })).modGate 0 (fun g => { g with asc := some .low })).modSto
    (fun x => { x with hs := true })

/-- Refutes O36: the switches do not open on a switch fault while a set is in active short circuit (R262). -/
theorem not_stoReleaseAndChecks : ¬ Obligations.StoReleaseAndChecks := by
  unfold Obligations.StoReleaseAndChecks
  rintro ⟨-, -, -, -, h⟩
  have hopen := (h shortCircuited).1
  rw [stoFault_of_asc rfl rfl] at hopen
  exact absurd hopen (by decide)

end Sys2Proof.Proofs.Safety
end

section
/-! SUPPORT. The end of SS1, the checks and tests of a brake, the safe brake test (R277 to R288). -/

namespace Sys2Proof.Proofs.Brakes

open Sys2Proof.Machine Sys2Proof.Laws Sys2Proof.Proofs.Block Sys2Proof.Proofs.Commit Sys2Proof.Proofs.Engine Sys2Proof.Proofs.Sensing
  Sys2Proof.Proofs.Start Sys2Proof.Proofs.BrakeTest

/-! ### The end of SS1 (R277 to R280) -/

section
variable {m : Mach} {d : Fin 2} {r : Ss1Run} (hl : m.lanesAct = true) (hr : m.drives[d].ss1 = some r)
include hl hr

/-- The drive has been slow for StandstillTime. -/
def stillFor (m : Mach) (d : Fin 2) : Bool :=
  match m.drives[d].slowSince with
  | some t => decide (t + ms (m.n (Key.ss1StandstillTime d.1)) ≤ m.ns)
  | none => false

omit hl hr in
theorem stillFor_iff : stillFor m d = true ↔ ∃ since, m.drives[d].slowSince = some since ∧ since + ms (m.n (Key.ss1StandstillTime d.1)) ≤ m.ns := by
  unfold stillFor
  cases m.drives[d].slowSince <;> simp

theorem ss1StandstillEff_stopping : ss1StandstillEff d m =
    if r.braking ∨ !stillFor m d then m
    else if m.n (Key.application d.1) = 1 ∧ !(m.brakesOf d).isEmpty then
      let wait := ((m.brakesOf d).map (fun k => m.n (Key.brakeApplyTime k.1))).foldl max 0
      (m.each (m.brakesOf d) brakeApply).modDrive d (fun x => { x with ss1 := some { r with braking := true, brakeEnd := some (m.ns + ms wait) } })
    else ss1End d m := by
  rw [ss1StandstillEff, whenLanes_act hl]
  simp only [hr]
  rfl

theorem brakeApplyTimeEndEff_stopping : brakeApplyTimeEndEff d m = if r.braking ∧ due m r.brakeEnd then ss1End d m else m := by
  rw [brakeApplyTimeEndEff, whenLanes_act hl]
  simp only [hr]

theorem ss1TimeElapsedEff_stopping : ss1TimeElapsedEff d m =
    if m.drives[d].st = .stopping ∧ r.start + ms (m.n (Key.ss1Time d.1)) ≤ m.ns then ss1End d m else m := by
  rw [ss1TimeElapsedEff, whenLanes_act hl]
  simp only [hr]

end

/-! ### The checks of a brake (R283) -/

section
variable {m : Mach} {k : Fin 2}

theorem modBrake_congr {f g : Brake → Brake} (h : f m.safety.brakes[k] = g m.safety.brakes[k]) : m.modBrake k f = m.modBrake k g :=
  congrArg (fun v => m.modSafety (fun s => { s with brakes := v })) (vmod_congr h)

section
variable {i lo hi : F32} {b c : Bool} {e : Mach} {raw : F32} {end_ : Nat} {p n : Bool}

theorem brakeReleaseCheckEff_due (hl : m.lanesAct = true) (hh : m.safety.brakes[k].hs = true) (hls : m.safety.brakes[k].ls = true)
    (hr : m.safety.brakes[k].released = false) (hc : m.safety.brakes[k].checkEnd = some end_) (ht : end_ ≤ m.ns) :
    brakeReleaseCheckEff k raw p n m =
      let i := coilRead raw
      let e := (m.putR (Key.brakeCoilCurrent k.1) i).modBrake k (fun b => { b with checkEnd := none, fbp := p, fbn := n })
      if fge i (e.r (Key.brakeHoldCurrentMin k.1)) ∧ p ∧ !n then
        e.modBrake k (fun b => { b with
          released := true, verified := true, lsNext := false, testBase := e.ns,
          nextTest := some (e.ns + 1000000000 * e.n (Key.brakeTestPeriod k.1)) })
      else brakeReleaseFault k i (e.r (Key.brakeHoldCurrentMin k.1)) e := by
  rw [brakeReleaseCheckEff, whenLanes_act hl]
  exact if_neg (by simp [-Fin.getElem_fin, hh, hls, hr, due_of_le hc ht])

theorem brakeReleaseCheckEff_early (hl : m.lanesAct = true) (hc : m.safety.brakes[k].checkEnd = some end_) (ht : m.ns < end_) :
    brakeReleaseCheckEff k raw p n m = m := by
  rw [brakeReleaseCheckEff, whenLanes_act hl]
  exact if_pos (.inl (by simp [-Fin.getElem_fin, not_due_of_lt hc ht]))

theorem brakeApplyCheckEff_due (hl : m.lanesAct = true) (hh : m.safety.brakes[k].hs = false) (hls : m.safety.brakes[k].ls = false)
    (hc : m.safety.brakes[k].checkEnd = some end_) (ht : end_ ≤ m.ns) :
    brakeApplyCheckEff k raw p m =
      let i := coilRead raw
      let e := (m.putR (Key.brakeCoilCurrent k.1) i).modBrake k (fun b => { b with checkEnd := none, fbp := p })
      let lim := e.r (Key.brakeApplyCurrent k.1)
      if fle i lim ∧ !p then e.modBrake k (fun b => { b with verified := true })
      else raiseV 0x4A none (e.driveOfBrake k) k.1 i lim (e.modBrake k (fun b => { b with applyFault := true })) := by
  rw [brakeApplyCheckEff, whenLanes_act hl]
  exact if_neg (by simp [-Fin.getElem_fin, hh, hls, due_of_le hc ht])

theorem brakeApplyCheckEff_early (hl : m.lanesAct = true) (hc : m.safety.brakes[k].checkEnd = some end_) (ht : m.ns < end_) :
    brakeApplyCheckEff k raw p m = m := by
  rw [brakeApplyCheckEff, whenLanes_act hl]
  exact if_pos (.inr (.inr (by simp [-Fin.getElem_fin, not_due_of_lt hc ht])))

end

end

/-- Settles O37: the end of SS1 by standstill and its times, a check by its instant and its readings. -/
theorem ss1AndBrakeChecks : Obligations.Ss1AndBrakeChecks := by
  unfold Obligations.Ss1AndBrakeChecks
  refine ⟨?ss1, ?release, ?hold, ?apply⟩
  case ss1 =>
    intro s t d r m still hl hr
    have hstep {e : Mach} (h : (if r.braking ∨ !stillFor m d then m
        else if m.n (Key.application d.1) = 1 ∧ !(m.brakesOf d).isEmpty then
          let wait := ((m.brakesOf d).map (fun k => m.n (Key.brakeApplyTime k.1))).foldl max 0
          (m.each (m.brakesOf d) brakeApply).modDrive d
            (fun x => { x with ss1 := some { r with braking := true, brakeEnd := some (m.ns + ms wait) } })
        else ss1End d m) = e) : exec (.ss1Standstill t d) s = .next (s.after t e) :=
      exec_to (exec_ss1Standstill ..) ((ss1StandstillEff_stopping hl hr).trans h)
    have hgoes (hs : still) (hb : r.braking = false) : ¬ (r.braking = true ∨ (!stillFor m d) = true) := by
      rw [hb, stillFor_iff.mpr hs]
      decide
    refine ⟨fun h => hstep (if_pos (.inr ?moves)), fun hs hb ha hbr => hstep ((if_neg (hgoes hs hb)).trans (if_pos ⟨ha, ?brakes⟩)),
      fun h => hstep (if_pos (.inl h)), fun hs hb h => hstep ((if_neg (hgoes hs hb)).trans (if_neg ?unbraked)),
      fun end_ hb he ht => exec_to (exec_brakeApplyTimeEnd ..) ((brakeApplyTimeEndEff_stopping hl hr).trans (if_pos ⟨hb, due_of_le he ht⟩)),
      fun end_ he ht => exec_to (exec_brakeApplyTimeEnd ..) ((brakeApplyTimeEndEff_stopping hl hr).trans (if_neg fun h => not_due_of_lt he ht h.2)),
      fun hs ht => exec_to (exec_ss1TimeElapsed ..) ((ss1TimeElapsedEff_stopping hl hr).trans (if_pos ⟨hs, ht⟩)),
      fun ht => exec_to (exec_ss1TimeElapsed ..) ((ss1TimeElapsedEff_stopping hl hr).trans (if_neg fun h => absurd h.2 (Nat.not_le.mpr ht)))⟩
    case moves =>
      rw [Bool.not_eq_true', ← Bool.not_eq_true, stillFor_iff]
      exact h
    case brakes => simpa using hbr
    case unbraked =>
      rintro ⟨ha, hb'⟩
      exact h.elim (absurd ha) fun h => absurd hb' (by simp [h])
  case release =>
    intro s t k raw p n end_ m i lim e hl hh hls hr hc hlim
    refine ⟨fun ht => exec_to (exec_brakeReleaseCheck ..) (brakeReleaseCheckEff_early hl hc ht), fun ht hg hp hn => ?_, fun ht h => ?_⟩
    · refine exec_to (exec_brakeReleaseCheck ..) ((brakeReleaseCheckEff_due hl hh hls hr hc ht).trans (if_pos ⟨?_, hp, congrArg (!·) hn⟩))
      exact (congrArg (fge i) hlim).trans hg
    · refine exec_to (exec_brakeReleaseCheck ..) ((brakeReleaseCheckEff_due hl hh hls hr hc ht).trans ((if_neg ?_).trans ?_))
      · rintro ⟨hg, hp, hn⟩
        rcases h with h | h | h
        exacts [absurd ((congrArg (fge i) hlim).symm.trans hg |>.symm.trans h) (by decide), absurd (hp.symm.trans h) (by decide), absurd h (by simpa using hn)]
      · exact congrArg (fun x => brakeReleaseFault k i x e) hlim
  case hold =>
    intro s t k raw since m i long lo hi e hl
    refine ⟨fun hlong hr hlo => exec_to (exec_brakeHoldFault ..) (m := m) ((whenLanes_act hl _).trans ((if_pos ⟨hr, hlong, .inl hlo⟩).trans ?_)),
      fun hlong hr hlo hhi => exec_to (exec_brakeHoldFault ..) (m := m) ((whenLanes_act hl _).trans ((if_pos ⟨hr, hlong, .inr hhi⟩).trans ?_)),
      fun h => exec_to (exec_brakeHoldFault ..) (m := m) ((whenLanes_act hl _).trans (if_neg ?_)),
      fun hc hhi => exec_to (exec_brakeOvercurrent ..) (m := m) ((whenLanes_act hl _).trans (if_pos ⟨hc, hhi⟩)),
      fun hhi => exec_to (exec_brakeOvercurrent ..) (m := m) ((whenLanes_act hl _).trans (if_neg fun h => absurd (h.2.symm.trans hhi) (by decide)))⟩
    · rw [if_pos hlo]
    · rw [if_neg (Bool.eq_false_iff.mp hlo)]
    · rintro ⟨-, hlong, h'⟩
      rcases h with ⟨hlo, hhi⟩ | h
      exacts [h'.elim (fun h' => absurd (h'.symm.trans hlo) (by decide)) (fun h' => absurd (h'.symm.trans hhi) (by decide)), h hlong]
  case apply =>
    intro s t k raw p end_ m i e lim hl hh hls hc
    refine ⟨fun ht => exec_to (exec_brakeApplyCheck ..) (brakeApplyCheckEff_early hl hc ht),
      fun ht hi hp => exec_to (exec_brakeApplyCheck ..) ((brakeApplyCheckEff_due hl hh hls hc ht).trans (if_pos ⟨hi, congrArg (!·) hp⟩)),
      fun ht h => exec_to (exec_brakeApplyCheck ..) ((brakeApplyCheckEff_due hl hh hls hc ht).trans (if_neg ?_))⟩
    rintro ⟨hi, hp⟩
    exact h.elim (fun h => absurd (hi.symm.trans h) (by decide)) fun h => absurd h (by simpa using hp)

/-! ### Switch tests (R284) -/

/-- The brake with its feedbacks read. -/
abbrev fedBack (k : Fin 2) (p n : Bool) (m : Mach) : Mach := m.modBrake k (fun b => { b with fbp := p, fbn := n })

theorem fedBack_test (k : Fin 2) (p n : Bool) (m : Mach) : (fedBack k p n m).safety.brakes[k].test = m.safety.brakes[k].test :=
  (congrArg Brake.test (vmod_self m.safety.brakes k (fun b => { b with fbp := p, fbn := n }))).trans rfl

section
variable {m : Mach} {k : Fin 2} {p n : Bool} {end_ : Nat} (hl : m.lanesAct = true)
include hl

theorem brakeSwitchTestEff_due (hr : m.safety.brakes[k].released = true) (ht : m.safety.brakes[k].test = .idle)
    (hn : m.safety.brakes[k].nextTest = some end_) (hd : end_ ≤ m.ns) :
    brakeSwitchTestEff k m =
      let pulse := some (m.ns + us (m.n (Key.brakeTestPulse k.1)))
      if m.safety.brakes[k].lsNext then m.modBrake k (fun b => { b with test := .ls, ls := false, pulseEnd := pulse })
      else m.modBrake k (fun b => { b with test := .hs, hs := false, pulseEnd := pulse, testBase := m.ns }) := by
  rw [brakeSwitchTestEff, whenLanes_act hl]
  exact if_neg (by simp [-Fin.getElem_fin, hr, ht, due_of_le hn hd])

theorem brakeSwitchTestEff_early (hn : m.safety.brakes[k].nextTest = some end_) (hd : m.ns < end_) : brakeSwitchTestEff k m = m :=
  (whenLanes_act hl _).trans (if_pos (.inr (.inr (by simp [-Fin.getElem_fin, not_due_of_lt hn hd]))))

theorem brakeTestPulseEndEff_early (hp : m.safety.brakes[k].pulseEnd = some end_) (hd : m.ns < end_) : brakeTestPulseEndEff k p n m = m :=
  (whenLanes_act hl _).trans (if_pos (.inr (by simp [-Fin.getElem_fin, not_due_of_lt hp hd])))

variable (hp : m.safety.brakes[k].pulseEnd = some end_) (hd : end_ ≤ m.ns) (ht : m.safety.brakes[k].test ≠ .idle)
include hp hd ht

theorem brakeTestPulseEndEff_due :
    brakeTestPulseEndEff k p n m =
      if (if m.safety.brakes[k].test = .hs then !p else n) then
        (fedBack k p n m).modBrake k (fun b => { b with
          hs := true, ls := true, test := .idle, pulseEnd := none, lsNext := b.test == .hs,
          nextTest := some (if b.test = .hs then b.testBase + 1000000000
            else b.testBase + 1000000000 * (fedBack k p n m).n (Key.brakeTestPeriod k.1)) })
      else
        let f := brakeApply k ((fedBack k p n m).modBrake k (fun b => { b with switchFault := true }))
        raise 0x4B none (f.driveOfBrake k) k.1 f := by
  rw [brakeTestPulseEndEff, whenLanes_act hl]
  exact if_neg (by simp [-Fin.getElem_fin, ht, due_of_le hp hd])

omit ht in
theorem brakeTestPulseEndEff_highSide (ht : m.safety.brakes[k].test = .hs) (hf : p = false) :
    brakeTestPulseEndEff k p n m = (fedBack k p n m).modBrake k (fun b => { b with
      hs := true, ls := true, test := .idle, pulseEnd := none, lsNext := true, nextTest := some (b.testBase + 1000000000) }) := by
  have hb : (fedBack k p n m).safety.brakes[k].test = .hs := (fedBack_test k p n m).trans ht
  refine (brakeTestPulseEndEff_due hl hp hd (by rw [ht]; decide)).trans ((if_pos (by rw [ht, hf]; rfl)).trans (modBrake_congr ?_))
  simp only [hb]
  rfl

omit ht in
theorem brakeTestPulseEndEff_lowSide (ht : m.safety.brakes[k].test = .ls) (hf : n = true) :
    brakeTestPulseEndEff k p n m = (fedBack k p n m).modBrake k (fun b => { b with
      hs := true, ls := true, test := .idle, pulseEnd := none, lsNext := false,
      nextTest := some (b.testBase + 1000000000 * (fedBack k p n m).n (Key.brakeTestPeriod k.1)) }) := by
  have hb : (fedBack k p n m).safety.brakes[k].test = .ls := (fedBack_test k p n m).trans ht
  refine (brakeTestPulseEndEff_due hl hp hd (by rw [ht]; decide)).trans ((if_pos (by rw [ht, hf]; rfl)).trans (modBrake_congr ?_))
  simp only [hb]
  rfl

omit ht in
/-- A feedback that does not follow its switch. -/
theorem brakeTestPulseEndEff_fault (h : (m.safety.brakes[k].test = .hs ∧ p = true) ∨ (m.safety.brakes[k].test = .ls ∧ n = false)) :
    brakeTestPulseEndEff k p n m =
      let f := brakeApply k ((fedBack k p n m).modBrake k (fun b => { b with switchFault := true }))
      raise 0x4B none (f.driveOfBrake k) k.1 f := by
  rcases h with ⟨ht, hf⟩ | ⟨ht, hf⟩
  · exact (brakeTestPulseEndEff_due hl hp hd (by rw [ht]; decide)).trans (if_neg (by rw [ht, hf]; simp))
  · exact (brakeTestPulseEndEff_due hl hp hd (by rw [ht]; decide)).trans (if_neg (by rw [ht, hf]; simp))

end

/-! ### The safe brake test (R285 to R288) -/

section
variable {m : Mach} {k d : Fin 2}

theorem sbtRunEff_blocked (hr : m.sbtRefusal k = none) (hd : m.driveOfBrake k = some d) (hb : m.sbtBlocked d = true) :
    sbtRunEff k m = m.putDevice (Key.sbtResult k.1) (.num 3) := by
  simp only [sbtRunEff, hr, hd, hb, if_true]

theorem sbtStart_ofDrive (hd : m.driveOfBrake k = some d) : sbtStart k m =
    let e := m.modSafety (fun s => { s with sbt := vmod s.sbt k (fun _ => some { phase := 0, torque := m.sbtTorque k, start := m.ns }) })
    e.each (e.setsOf d) (fun s m => m.modGate s (fun g => { g with duskWant := some 2 })) := by
  simp only [sbtStart, hd]

theorem sbtPhaseEndEff_running {r : SbtRun} (hl : m.lanesAct = true) (hr : m.safety.sbt[k] = some r) : sbtPhaseEndEff k m =
    if r.phase < 2 ∨ m.ns < r.start + ms (sbtPhaseMs r.phase) then m
    else if r.phase = 6 then sbtPass k m
    else m.modSafety (fun s => { s with sbt := vmod s.sbt k (fun _ => some { r with phase := r.phase + 1, start := m.ns }) }) := by
  rw [sbtPhaseEndEff, whenLanes_act hl]
  simp only [hr]

/-- The phases with torque and their lengths (R286). -/
theorem sbtPhaseMs_of_mem {ph len : Nat} (h : (ph, len) ∈ [(2, 200), (3, 2000), (4, 400), (5, 2000), (6, 200)]) :
    sbtPhaseMs ph = len ∧ 2 ≤ ph := by
  simp only [List.mem_cons, Prod.mk.injEq, List.not_mem_nil, or_false] at h
  rcases h with ⟨rfl, rfl⟩ | ⟨rfl, rfl⟩ | ⟨rfl, rfl⟩ | ⟨rfl, rfl⟩ | ⟨rfl, rfl⟩ <;> exact ⟨rfl, by decide⟩

end

/-- Settles O38: a switch test by its instants and feedbacks, the safe brake test by its refusal, its phases and its interval. -/
theorem brakeTests : Obligations.BrakeTests := by
  unfold Obligations.BrakeTests
  refine ⟨?switches, ?run, ?phases, ?due⟩
  case switches =>
    intro s t k p n end_ m b pulse e hl
    refine ⟨fun hr ht hn => ⟨fun hd => exec_to (exec_brakeSwitchTest ..) (brakeSwitchTestEff_early hl hn hd),
        fun hd hs => exec_to (exec_brakeSwitchTest ..) ((brakeSwitchTestEff_due hl hr ht hn hd).trans (if_neg (Bool.eq_false_iff.mp hs))),
        fun hd hs => exec_to (exec_brakeSwitchTest ..) ((brakeSwitchTestEff_due hl hr ht hn hd).trans (if_pos hs))⟩,
      fun hp hd => exec_to (exec_brakeTestPulseEnd ..) (brakeTestPulseEndEff_early hl hp hd),
      fun hp hd ht hf => exec_to (exec_brakeTestPulseEnd ..) (brakeTestPulseEndEff_highSide hl hp hd ht hf),
      fun hp hd ht hf => exec_to (exec_brakeTestPulseEnd ..) (brakeTestPulseEndEff_lowSide hl hp hd ht hf),
      fun hp hd h => exec_to (exec_brakeTestPulseEnd ..) (brakeTestPulseEndEff_fault hl hp hd h)⟩
  case run =>
    intro s t rq c k d m n ha
    rw [exec_sbtRun_of_accepts ha]
    exact ⟨fun res hr => next_reply (sbtRunEff_of_refusal hr), fun hr hd hb => next_reply (sbtRunEff_blocked hr hd hb),
      fun hr hd hb => next_reply ((sbtRunEff_of_free hr hd hb).trans (sbtStart_ofDrive hd))⟩
  case phases =>
    intro s t k r len m hl hr hmem
    obtain ⟨hlen, h2⟩ := sbtPhaseMs_of_mem hmem
    have hrun := sbtPhaseEndEff_running hl hr
    rw [hlen, ms, Nat.mul_comm] at hrun
    refine ⟨fun ht => exec_to (exec_sbtPhaseEnd ..) (hrun.trans (if_pos (.inr ?_))),
      fun ht h6 => exec_to (exec_sbtPhaseEnd ..) (hrun.trans ((if_neg ?_).trans (if_neg h6))),
      fun ht h6 => exec_to (exec_sbtPhaseEnd ..) (hrun.trans ((if_neg ?_).trans (if_pos h6)))⟩ <;> omega
  case due =>
    intro s t k m hl hc
    exact ⟨fun ha hi => exec_to (exec_sbtDue ..) (m := m) ((whenLanes_act hl _).trans (if_pos ⟨hc, ha, hi⟩)),
      fun hi => exec_to (exec_sbtDue ..) (m := m) ((whenLanes_act hl _).trans (if_neg fun h => absurd h.2.2 (Nat.not_le.mpr hi))),
      fun ho hi => exec_to (exec_brakeTestOverdue ..) (m := m) ((whenLanes_act hl _).trans (if_pos ⟨hc, congrArg (!·) ho, hi⟩))⟩

end Sys2Proof.Proofs.Brakes
end

section
/-! SUPPORT. The reset button and the seal (R290 to R299). -/

namespace Sys2Proof.Proofs.Seal

open Sys2Proof.Machine Sys2Proof.Laws Sys2Proof.Proofs.Block Sys2Proof.Proofs.Commit Sys2Proof.Proofs.Engine Sys2Proof.Proofs.Start
  Sys2Proof.Proofs.Writes Sys2Proof.Proofs.Pwm

section
variable {m : Mach}

theorem ms_100 : ms 100 = 100000000 := rfl
theorem ms_5000 : ms 5000 = 5000000000 := rfl

/-- The button as it opens, debounced. -/
abbrev buttonOpen (m : Mach) : Mach :=
  m.modSafety (fun s => { s with button := { closed := false, since := m.ns, held := false, blocked := false } })

theorem rstbtnDebouncedEff_open (hr : m.running = true) : rstbtnDebouncedEff false m =
    if m.safety.button.closed && !m.safety.button.blocked && !m.safety.button.held &&
      decide (m.safety.button.since + 100000000 ≤ m.ns ∧ m.ns ≤ m.safety.button.since + 5000000000) then deliberateReset (buttonOpen m)
    else buttonOpen m := by
  rw [rstbtnDebouncedEff, whenUp_running hr]
  dsimp only
  rw [if_neg (by decide), ms_100, ms_5000]

/-- A connection of the grove stop's buttons that is not pressed holds nothing. -/
theorem resetHeldEff_unpressed {e : Mach} (hl : m.lanesAct = true) (he : e = if m.safety.button.closed ∧ !m.safety.button.held ∧
      !m.safety.button.blocked ∧ m.safety.button.since + 5000000000 < m.ns then
      raiseM 0x4E 0 (m.modSafety (fun s => { s with button := { s.button with held := true } })) else m)
    (hi : ∀ c : Fin 4, e.safety.isf[c].pressed = none) : resetHeldEff m = e := by
  rw [resetHeldEff, whenLanes_act hl]
  dsimp only
  rw [ms_5000, ← he]
  refine each_eq_self _ _ _ fun c _ => ?_
  simp only [hi c]
  exact if_neg (by simp)

section
variable {rq : Req} {v : BitVec 32}

theorem sealConfirmEff_open (h : m.sealOpen = true) : sealConfirmEff rq v m =
    if v.toNat ≠ m.seal then (raiseM 0x50 0xFF m, 0)
    else
      let e := (m.putN Key.safetyState 2).modSafety (fun s => { s with sealEnd := none })
      let e := e.putDevice Key.safetyConfirmedSeal (.num e.seal)
      let cred := match m.conn? (ownerOf rq) with | some c => c.credId | none => []
      let e := writeArea .commissioning (e.comRecord cred rq.src) .nobody e
      (storeBank (bank4 (e.n Key.bankActive)) e, 0) := by
  obtain ⟨hs, ho⟩ := Bool.and_eq_true_iff.mp h
  refine if_neg ?_
  rintro (h | h)
  exacts [h (beq_iff_eq.mp hs), absurd (ho.symm.trans ((Bool.not_eq_true' _).mp h)) (by decide)]

end

theorem exec_sealConfirm_accepted {s : Machine.State} {t : Time} {rq : Req} {c : Conn} {v : BitVec 32} {e : Mach}
    (h : (s.core.at_ t).accepts rq c Key.safetySealConfirm (beBytes 4 v.toNat) (.num v.toNat))
    (he : sealConfirmEff rq v (touch rq (s.core.at_ t)) = (e, 0)) :
    exec (.sealConfirm t rq v) s = .next (s.after t (reply 3 rq 0 [] e)) := by
  rw [exec_sealConfirm, writeHere_accepted h (by decide) (by decide) (perform_sealConfirm ..)]
  have hv : BitVec.ofNat 32 (valNat (.num v.toNat)) = v := (BitVec.ofNat_toNat 32 v).trans (BitVec.setWidth_eq v)
  rw [hv, he]

end

/-- Settles O40: a press by its length, the seal by its value, the expiry by its time. -/
theorem resetAndSeal : Obligations.ResetAndSeal := by
  unfold Obligations.ResetAndSeal
  refine ⟨?button, ?confirm, ?expiry⟩
  case button =>
    intro s t m b open_ hr
    have hopen {e : Mach} (h : (if b.closed && !b.blocked && !b.held && decide (b.since + 100000000 ≤ m.ns ∧ m.ns ≤ b.since + 5000000000) then
        deliberateReset open_ else open_) = e) : exec (.rstbtnDebounced t false) s = .next (s.after t e) :=
      exec_to (exec_rstbtnDebounced ..) ((rstbtnDebouncedEff_open hr).trans h)
    refine ⟨fun hc => exec_to (exec_rstbtnDebounced ..) (m := m) ((whenUp_running hr _).trans ((if_pos rfl).trans (if_neg (Bool.eq_false_iff.mp hc)))),
      fun hc hb hh h1 h5 => hopen (if_pos ?valid), fun h => hopen (if_neg ?invalid), fun hl hc hh hb hi => ⟨fun ht => ?held, fun ht => ?short⟩⟩
    case valid =>
      rw [hc, hb, hh, decide_eq_true ⟨h1, h5⟩]
      rfl
    case invalid =>
      rw [Bool.and_eq_true, Bool.and_eq_true, Bool.and_eq_true]
      rintro ⟨⟨⟨hc, hb⟩, hh⟩, ht⟩
      obtain ⟨h1, h5⟩ := of_decide_eq_true ht
      rcases h with h | h | h | h | h
      exacts [absurd (hc.symm.trans h) (by decide), absurd (h.symm.trans ((Bool.not_eq_true' _).mp hb)) (by decide),
        absurd (h.symm.trans ((Bool.not_eq_true' _).mp hh)) (by decide), absurd h1 (Nat.not_le.mpr h), absurd h5 (Nat.not_le.mpr h)]
    case held =>
      intro e he
      exact exec_to (exec_resetHeld ..) (resetHeldEff_unpressed hl (if_pos ⟨hc, congrArg (!·) hh, congrArg (!·) hb, ht⟩).symm he)
    case short =>
      exact exec_to (exec_resetHeld ..) (resetHeldEff_unpressed hl (if_neg fun h => absurd h.2.2.2 (Nat.not_lt.mpr ht)).symm hi)
  case confirm =>
    intro s t rq c v m n ha ho
    exact ⟨fun hv => exec_sealConfirm_accepted ha ((sealConfirmEff_open ho).trans (if_pos hv)),
      fun hv => exec_sealConfirm_accepted ha ((sealConfirmEff_open ho).trans (if_neg (not_not.mpr hv)))⟩
  case expiry =>
    intro s t end_ m hl
    exact ⟨fun hs he ht => exec_to (exec_sealConfirmationExpired ..) (m := m) ((whenLanes_act hl _).trans (if_pos ⟨hs, due_of_le he ht⟩)),
      fun he ht => exec_to (exec_sealConfirmationExpired ..) (m := m) ((whenLanes_act hl _).trans (if_neg fun h => not_due_of_lt he ht h.2)),
      exec_to (exec_fallbackSwitchesChanged ..) (m := m) (whenLanes_act hl _)⟩

end Sys2Proof.Proofs.Seal
end

section
/-! SUPPORT. Canopy ports, link delays and packets (R312 to R325). -/

namespace Sys2Proof.Proofs.Canopy

open Sys2Proof.Machine Sys2Proof.Laws Sys2Proof.Proofs.Block Sys2Proof.Proofs.Commit

/-! ### Ports and link delays (R312, R313, R320, R325) -/

theorem tooSoon_true {o : Option Nat} {len now last : Nat} (h : o = some last) (ht : now < last + len) : tooSoon o len now = true := by
  rw [h]
  exact decide_eq_true ht

theorem tooSoon_false {o : Option Nat} {len now : Nat} (h : ∀ last, o = some last → last + len ≤ now) : tooSoon o len now = false := by
  cases ho : o with
  | none => rfl
  | some last => exact decide_eq_false (Nat.not_lt.mpr (h last ho))

section
variable {m : Mach} {p : Fin 2}

theorem portSelfCheckEff_due (hr : m.running = true) {ok : Bool} (ht : ∀ last, m.canopy[p].checkedAt = some last → last + 10000000 ≤ m.now) :
    portSelfCheckEff p ok m =
      let c := m.modPort p (fun x => { x with checkedAt := some m.now })
      let e := c.modPort p (fun x => { x with selfOk := ok })
      if c.canopy[p].selfOk = ok then c else if ok ∨ !e.canopy[p].up then linkStateSend e else portDown p e := by
  rw [portSelfCheckEff, whenUp_running hr]
  exact if_neg (Bool.eq_false_iff.mp (tooSoon_false ht))

theorem canopyPortUpEff_ready (hr : m.running = true) (hg : m.inGrove = true) (hu : m.canopy[p].up = false) (ho : m.canopy[p].selfOk = true)
    (hs : m.n Key.supplyStatus / 64 % 4 = 0) {n : Fin 8} {idle : Time} (ht : idle + 1000000000 ≤ m.now) :
    canopyPortUpEff p n idle m =
      if !m.ringRight p n then linkStateSend (m.modPort p (fun x => { x with neighbour := some n, orderFault := true }))
      else
        linkStateSend (causesGone (fun a => (a.ev == 0x59 || a.ev == 0x5A) && a.inst == p.1)
          ((m.modPort p (fun x => {
            lanes := Vector.replicate 2 true, up := true, selfOk := x.selfOk, neighbour := some n,
            lastSent := m.now, ackAt := m.now, checkedAt := x.checkedAt })).modGrove (fun g => { g with firstUp := some (g.firstUp.getD m.ns) }))) := by
  rw [canopyPortUpEff, whenUp_running hr]
  refine if_neg ?_
  rintro (h | h | h | h | h)
  exacts [absurd (hg.symm.trans ((Bool.not_eq_true' _).mp h)) (by decide), absurd (h.symm.trans hu) (by decide),
    absurd (ho.symm.trans ((Bool.not_eq_true' _).mp h)) (by decide), h hs, absurd ht (Nat.not_le.mpr h)]

end

/-- Settles O42: a port by its lanes, its state and its times, a delay by its timer and its request. -/
theorem canopyPortsAndDelays : Obligations.CanopyPortsAndDelays := by
  unfold Obligations.CanopyPortsAndDelays
  refine ⟨⟨?down, ?up_, ?check, ?state⟩, ?delay⟩
  case down =>
    intro s t p lane m hr
    refine ⟨fun h => exec_to (exec_canopyLaneDown ..) (m := m) ((whenUp_running hr _).trans (if_neg (by rw [h]; decide))),
      fun h => exec_to (exec_canopyLaneDown ..) (m := m) ((whenUp_running hr _).trans (if_pos (congrArg (!·) h))), fun since => ?_,
      fun since ht => exec_to (exec_canopyPortDown ..) (m := m) ((whenUp_running hr _).trans (if_pos ht))⟩
    intro u ht
    have hlate {e : Mach} (h : unlocked p m = e) : exec (.canopyPortDown t p since) s = .next (s.after t e) :=
      exec_to (exec_canopyPortDown ..) ((whenUp_running hr _).trans ((if_neg (Nat.not_lt.mpr ht)).trans h))
    exact ⟨fun hu hv => hlate ((if_neg fun h => absurd (hu.symm.trans ((Bool.not_eq_true' _).mp h.2)) (by decide)).trans (if_pos hv)),
      fun hu hn => hlate (if_pos ⟨congrArg (!·) hn, congrArg (!·) hu⟩),
      fun hu hv hn => hlate ((if_neg fun h => absurd (hn.symm.trans ((Bool.not_eq_true' _).mp h.1)) (by decide)).trans
        (if_neg (Bool.eq_false_iff.mp hv)))⟩
  case up_ =>
    intro s t p n idle m hr hg hu ho hs
    exact ⟨fun ht => exec_to (exec_canopyPortUp ..) (m := m) ((whenUp_running hr _).trans (if_pos (.inr (.inr (.inr (.inr ht)))))),
      fun ht hn => exec_to (exec_canopyPortUp ..) ((canopyPortUpEff_ready hr hg hu ho hs ht).trans (if_pos (congrArg (!·) hn))),
      fun ht hn => exec_to (exec_canopyPortUp ..) ((canopyPortUpEff_ready hr hg hu ho hs ht).trans (if_neg (by rw [hn]; decide)))⟩
  case check =>
    intro s t p ok m c e hr
    refine ⟨fun last h ht => exec_to (exec_portSelfCheck ..) (m := m) ((whenUp_running hr _).trans (if_pos (tooSoon_true h ht))), fun ht => ?_⟩
    have hdue := portSelfCheckEff_due hr ht (ok := ok)
    refine ⟨fun h => exec_to (exec_portSelfCheck ..) (hdue.trans (if_pos h)), fun h ho hu => ?_, fun h ho hu => ?_, fun h ho => ?_⟩
    · exact exec_to (exec_portSelfCheck ..) (hdue.trans ((if_neg (by rw [h, ho]; decide)).trans (if_neg (by rw [hu, ho]; decide))))
    · exact exec_to (exec_portSelfCheck ..) (hdue.trans ((if_neg (by rw [h, ho]; decide)).trans (if_pos (.inr (congrArg (!·) hu)))))
    · exact exec_to (exec_portSelfCheck ..) (hdue.trans ((if_neg (by rw [h, ho]; decide)).trans (if_pos (.inl ho))))
  case state =>
    intro s t p e w m n hr hp
    exact ⟨fun h => exec_to (exec_linkState ..) (m := m) ((whenUp_running hr _).trans ((if_neg hp).trans (if_pos h))),
      fun h => exec_to (exec_linkState ..) (m := m) ((whenUp_running hr _).trans ((if_neg hp).trans (if_neg (Bool.eq_false_iff.mp h))))⟩
  case delay =>
    intro s t p t1 t2 t3 m hr
    exact ⟨fun last h ht => exec_to (exec_linkDelayTimer ..) (m := m) ((whenUp_running hr _).trans (if_pos (tooSoon_true h ht))),
      fun ht => exec_to (exec_linkDelayTimer ..) (m := m) ((whenUp_running hr _).trans (if_neg (Bool.eq_false_iff.mp (tooSoon_false ht)))),
      exec_to (exec_delayRequest ..) (m := m) (whenUp_running hr _),
      fun h => exec_to (exec_delayResponse ..) (m := m) ((whenUp_running hr _).trans (if_neg (not_not.mpr h))),
      fun h => exec_to (exec_delayResponse ..) (m := m) ((whenUp_running hr _).trans (if_pos h))⟩

/-! ### Packets (R315 to R321) -/

section
variable {m : Mach} {p : Fin 2} {h : PacketHeader} {b : List Byte} {crc : BitVec 32}

theorem forwardedPacketEff_bad (hr : m.running = true) (hu : m.canopy[p].up = true) (hc : crc ≠ linkCrc h b) :
    forwardedPacketEff p h b crc m =
      nakSend p ((if h.dest.toNat == m.me.1 then m else forwardOn p h b false m).inc Key.canopyCrcErrorCount) := by
  rw [forwardedPacketEff, whenUp_running hr]
  exact (if_neg (by rw [hu]; decide)).trans (if_pos hc)

theorem forwardedPacketEff_good (hr : m.running = true) (hu : m.canopy[p].up = true) (hc : crc = linkCrc h b) :
    forwardedPacketEff p h b crc m =
      let r := receiveHeader p h m
      let here : Prop := (h.dest.toNat == m.me.1) = true ∨ h.dest = 0xF
      if !r.2 then r.1
      else
        let n := if here ∧ votedOk h b ∧ reservedType h.vc h.ty.toNat then r.1.inc Key.canopyCrcErrorCount else r.1
        let o := if here ∧ votedOk h b then imageTake h b n else n
        if h.dest.toNat == m.me.1 then o else forwardOn p h b true o := by
  rw [forwardedPacketEff, whenUp_running hr]
  exact (if_neg (by rw [hu]; decide)).trans (if_neg (not_not.mpr hc))

/-- A packet for this device, or for all, is taken: its image, where its header and its length agree. -/
def packetTaken (h : PacketHeader) (b : List Byte) (r : Mach) : Mach :=
  let n := if votedOk h b ∧ reservedType h.vc h.ty.toNat then r.inc Key.canopyCrcErrorCount else r
  if votedOk h b then imageTake h b n else n

section
variable (hr : m.running = true) (hu : m.canopy[p].up = true) (hc : crc = linkCrc h b) (h2 : (receiveHeader p h m).2 = true)
include hr hu hc h2

theorem forwardedPacketEff_here (hd : (h.dest.toNat == m.me.1) = true ∨ h.dest = 0xF) :
    forwardedPacketEff p h b crc m =
      if h.dest.toNat == m.me.1 then packetTaken h b (receiveHeader p h m).1
      else forwardOn p h b true (packetTaken h b (receiveHeader p h m).1) := by
  refine (forwardedPacketEff_good hr hu hc).trans ((if_neg (by rw [h2]; decide)).trans ?_)
  simp only [packetTaken, hd, true_and]

theorem forwardedPacketEff_onward (hm : (h.dest.toNat == m.me.1) = false) (hd : h.dest ≠ 0xF) :
    forwardedPacketEff p h b crc m = forwardOn p h b true (receiveHeader p h m).1 := by
  have hh : ¬ ((h.dest.toNat == m.me.1) = true ∨ h.dest = 0xF) := by
    rw [hm]
    exact fun h' => h'.elim (by decide) hd
  refine (forwardedPacketEff_good hr hu hc).trans ((if_neg (by rw [h2]; decide)).trans ((if_neg (Bool.eq_false_iff.mp hm)).trans ?_))
  simp only [hh, false_and, if_false]

end

theorem linkNakEff_up (hr : m.running = true) (hu : m.canopy[p].up = true) (k : NakKind) : linkNakEff p k m =
    match k with
    | .nak a => replayPort p (m.modPort p (·.ackTo a m.now))
    | .badCrc => nakSend p (m.inc Key.canopyCrcErrorCount)
    | .gap => nakSend p m := by
  rw [linkNakEff, whenUp_running hr]
  exact if_neg (by rw [hu]; decide)

end

/-- Settles O43: a header by its number against the last accepted, a packet by its check value and its destination, a timer by its time. -/
theorem canopyPackets : Obligations.CanopyPackets := by
  unfold Obligations.CanopyPackets
  refine ⟨?header, ?packet, ?timers⟩
  case header =>
    intro m p h a e d
    refine ⟨fun hd => if_pos hd, fun hd => (if_neg ?_).trans (if_pos hd), fun h1 h2 => (if_neg ?_).trans (if_neg ?_)⟩
    · show ¬ d = 1
      omega
    · show ¬ d = 1
      omega
    · show ¬ (d = 0 ∨ 2048 ≤ d)
      omega
  case packet =>
    intro s t p h b m r hr hu
    refine ⟨exec_to (exec_emptyPacket ..) (m := m) ((whenUp_running hr _).trans (if_pos hu)), fun crc hc => ?_, fun crc hc => ?_⟩
    · refine ⟨fun h2 => exec_to (exec_forwardedPacket ..) ((forwardedPacketEff_good hr hu hc).trans (if_pos (congrArg (!·) h2))),
        fun h2 hm => ?_, fun h2 hm hd => ?_, fun h2 hm hd => ?_⟩
      · have hm' : (h.dest.toNat == m.me.1) = true := beq_iff_eq.mpr hm
        exact exec_to (exec_forwardedPacket ..) ((forwardedPacketEff_here hr hu hc h2 (.inl hm')).trans (if_pos hm'))
      · exact exec_to (exec_forwardedPacket ..) ((forwardedPacketEff_here hr hu hc h2 (.inr hd)).trans (if_neg (mt beq_iff_eq.mp hm)))
      · exact exec_to (exec_forwardedPacket ..) (forwardedPacketEff_onward hr hu hc h2 (beq_eq_false_iff_ne.mpr hm) hd)
    · refine ⟨fun hm => exec_to (exec_forwardedPacket ..) ((forwardedPacketEff_bad hr hu hc).trans ?_),
        fun hm => exec_to (exec_forwardedPacket ..) ((forwardedPacketEff_bad hr hu hc).trans ?_)⟩
      · rw [if_pos (beq_iff_eq.mpr hm)]
      · rw [if_neg (mt beq_iff_eq.mp hm)]
  case timers =>
    intro s t p a m hr hu
    exact ⟨exec_to (exec_linkNak ..) (linkNakEff_up hr hu _), exec_to (exec_linkNak ..) (linkNakEff_up hr hu _),
      exec_to (exec_linkNak ..) (linkNakEff_up hr hu _),
      fun ht => exec_to (exec_emptyPacketTimer ..) (m := m) ((whenUp_running hr _).trans (if_pos ht)),
      fun ht => exec_to (exec_emptyPacketTimer ..) (m := m) ((whenUp_running hr _).trans (if_neg (Nat.not_le.mpr ht))),
      fun ht => exec_to (exec_replayTimeout ..) (m := m) ((whenUp_running hr _).trans (if_pos ht)),
      fun ht => exec_to (exec_replayTimeout ..) (m := m) ((whenUp_running hr _).trans (if_neg (Nat.not_le.mpr ht)))⟩

end Sys2Proof.Proofs.Canopy
end

section
/-! SUPPORT. Formation of a grove, its boundaries, SYNC, STATUS and SHARE (R322 to R340). -/

namespace Sys2Proof.Proofs.Grove

open Sys2Proof.Machine Sys2Proof.Laws Sys2Proof.Proofs.Block Sys2Proof.Proofs.Commit Sys2Proof.Proofs.Start

/-! ### Formation (R322, R323) -/

section
variable {m : Mach} (hl : m.lanesAct = true)
include hl

theorem helloEff_heard {p : Fin 8} {h : Hello} (hg : m.inGrove = true) (hp : p ≠ m.me) : helloEff p h m =
    let n := hear p (m.modMember p (fun x => { x with hello := some h }))
    if n.leads then (if n.helloCode h = 0 then n else joinAnswerSend p (n.helloCode h) n) else formNow false n := by
  rw [helloEff, whenLanes_act hl]
  exact if_neg (by simp [hg, hp])

theorem helloTimerEff_last {last : Nat} (h : m.grove.helloAt = some last) : helloTimerEff m =
    if m.inGrove ∧ m.n Key.groveState = 1 ∧ decide (last + 1000000 ≤ m.ns) then
      canopySend none 0 1 m.helloBody (m.modGrove (fun g => { g with helloAt := some m.ns }))
    else m := by
  rw [helloTimerEff, whenLanes_act hl]
  simp only [h]

theorem formTimeExpiryEff_up {up_ : Nat} (h : m.grove.firstUp = some up_) : formTimeExpiryEff m =
    if m.inGrove ∧ decide (up_ + ms (m.n Key.groveFormTime) ≤ m.ns) then formNow true m else m := by
  rw [formTimeExpiryEff, whenLanes_act hl]
  simp only [h]

/-- The joiner's next retry is set. -/
abbrev retrySet (m : Mach) : Mach := m.modGrove (fun g => { g with retryAt := some (m.ns + 1000000000) })

section
variable {retry : Nat} (hg : m.inGrove = true) (hs : m.n Key.groveState = 4) (hr : m.grove.retryAt = some retry) (ht : retry ≤ m.ns)
include hg hs hr ht

theorem joinRetryEff_toLeader {p : Fin 8} (hp : (retrySet m).leaderPos = some p) :
    joinRetryEff m = canopySend (some p) 0 2 (retrySet m).helloBody (retrySet m) := by
  rw [joinRetryEff, whenLanes_act hl]
  refine (if_neg (by simp [hg, hs, due_of_le hr ht])).trans ?_
  simp only [hp]

theorem joinRetryEff_toAll (hp : (retrySet m).leaderPos = none) :
    joinRetryEff m = canopySend none 0 1 (retrySet m).helloBody (retrySet m) := by
  rw [joinRetryEff, whenLanes_act hl]
  refine (if_neg (by simp [hg, hs, due_of_le hr ht])).trans ?_
  simp only [hp]

end

theorem joinRetryEff_early {retry : Nat} (hr : m.grove.retryAt = some retry) (ht : m.ns < retry) : joinRetryEff m = m :=
  (whenLanes_act hl _).trans (if_pos (.inr (.inr (by simp [not_due_of_lt hr ht]))))

end

/-- Settles O44: each message and timer by what the device is in the grove and by its time. -/
theorem groveFormation : Obligations.GroveFormation := by
  unfold Obligations.GroveFormation
  refine ⟨?hello, ?timers, ?request, ?answer⟩
  case hello =>
    intro s t p h m n hl hg hp
    have hheard := helloEff_heard (h := h) hl hg hp
    exact ⟨fun hn => exec_to (exec_hello ..) (hheard.trans (if_neg (Bool.eq_false_iff.mp hn))),
      fun hn hc => exec_to (exec_hello ..) (hheard.trans ((if_pos hn).trans (if_neg hc))),
      fun hn hc => exec_to (exec_hello ..) (hheard.trans ((if_pos hn).trans (if_pos hc)))⟩
  case timers =>
    intro s t last up_ retry m hl hg
    exact ⟨fun hs h ht => exec_to (exec_helloTimer ..) ((helloTimerEff_last hl h).trans (if_pos ⟨hg, hs, decide_eq_true ht⟩)),
      fun h ht => exec_to (exec_helloTimer ..) ((helloTimerEff_last hl h).trans (if_neg fun h' => absurd (of_decide_eq_true h'.2.2) (Nat.not_le.mpr ht))),
      fun h ht => exec_to (exec_formTimeExpiry ..) ((formTimeExpiryEff_up hl h).trans (if_pos ⟨hg, decide_eq_true ht⟩)),
      fun h ht => exec_to (exec_formTimeExpiry ..) ((formTimeExpiryEff_up hl h).trans (if_neg fun h' => absurd (of_decide_eq_true h'.2) (Nat.not_le.mpr ht))),
      fun hs hr ht => ⟨fun p hp => exec_to (exec_joinRetry ..) (joinRetryEff_toLeader hl hg hs hr ht hp),
        fun hp => exec_to (exec_joinRetry ..) (joinRetryEff_toAll hl hg hs hr ht hp)⟩,
      fun hr ht => exec_to (exec_joinRetry ..) (joinRetryEff_early hl hr ht)⟩
  case request =>
    intro s t p h m n hl hlead
    have hlead' : ¬ (!m.leads) = true := by rw [hlead]; decide
    exact ⟨fun hc => exec_to (exec_joinReq ..) (m := m) ((whenLanes_act hl _).trans ((if_neg hlead').trans (if_pos hc))),
      fun hc => exec_to (exec_joinReq ..) (m := m) ((whenLanes_act hl _).trans ((if_neg hlead').trans (if_neg (not_not.mpr hc))))⟩
  case answer =>
    intro s t code map period n tN bank m hl hg hs
    have hopen : ¬ ((!m.inGrove) = true ∨ (!decide (m.n Key.groveState = 1 ∨ m.n Key.groveState = 4)) = true) := by
      simp [hg, hs]
    exact ⟨fun hc => exec_to (exec_joinAnswer ..) (m := m) ((whenLanes_act hl _).trans ((if_neg hopen).trans (if_pos hc))),
      fun hc => exec_to (exec_joinAnswer ..) (m := m) ((whenLanes_act hl _).trans ((if_neg hopen).trans (if_neg (not_not.mpr hc))))⟩

/-! ### Boundaries, SYNC, STATUS, SHARE (R325 to R340) -/

section
variable {m : Mach}

/-- The device's own boundary of the grove (R67). -/
abbrev ownBoundary (m : Mach) : Mach := boundaryOf .grove ((m.modGrove (fun g => { g with tN := g.tN + m.bp })).add Key.groveBoundaryNumber 1)

/-- What a member and a leader do at the boundary, once the missed swaps and the sleep are seen to. -/
def groveTurn (e : Mach) : Mach :=
  match e.n Key.groveState with
  | 2 => toLeader 2 6 (beBytes 8 (e.n Key.groveBoundaryNumber) ++ beBytes 2 e.grove.holding ++ [0, 0] ++ beBytes 4 e.grove.lastSeq) e
  | 3 => leaderBoundary e
  | 5 => if e.mayLead then leaderBoundary (e.putN Key.groveState 3) else e
  | _ => e

theorem groveBoundaryEff_due {b e : Mach} (hr : m.running = true) (ht : m.grove.tN + m.bp ≤ m.ns) (hb : ownBoundary m = b)
    (he : sleepBoundary (missedSwaps b) = e) :
    groveBoundaryEff m = if !b.lanesAct then b else if !e.inGrove then e else groveTurn e := by
  unfold ownBoundary at hb
  rw [groveBoundaryEff, whenUp_running hr]
  dsimp only
  rw [if_neg (Nat.not_lt.mpr ht), hb, he]
  rfl

section
variable {e : Mach}
theorem groveTurn_leader (h : e.n Key.groveState = 3) : groveTurn e = leaderBoundary e := by simp only [groveTurn, h]
theorem groveTurn_resumes (h : e.n Key.groveState = 5) : groveTurn e = if e.mayLead then leaderBoundary (e.putN Key.groveState 3) else e := by
  simp only [groveTurn, h]
theorem groveTurn_member (h : e.n Key.groveState = 2) : groveTurn e =
    toLeader 2 6 (beBytes 8 (e.n Key.groveBoundaryNumber) ++ beBytes 2 e.grove.holding ++ [0, 0] ++ beBytes 4 e.grove.lastSeq) e := by
  simp only [groveTurn, h]
end

/-! #### BOUNDARY (R327, R331) -/

/-- What a BOUNDARY from another position comes to. -/
def boundaryTake (p : Fin 8) (n tN : Nat) (map mode : BitVec 8) (h : Mach) : Mach :=
  match h.n Key.groveState with
  | 1 => canopySend (some p) 0 2 h.helloBody (h.putN Key.groveLeaderPosition p.1)
  | 2 =>
    if h.leaderPos = some p then
      let e := h.modGrove (fun g => { g with heardN := n, listed := tN, flights := [], members := vmap g.members (fun _ x => { x with claim := none }) })
      let e := (e.putN Key.groveMemberMap map.toNat).putN Key.groveTokenMode mode.toNat
      if bit map.toNat e.me.1 then renewLease tN e else rejoin p e
    else match h.leaderPos with
      | some l => if p < l then rejoin p h else h
      | none => rejoin p h
  | 3 | 5 => if p < h.me then rejoin p h else h
  | _ => h.putN Key.groveLeaderPosition p.1

section
variable {p : Fin 8} {n tN : Nat} {map mode : BitVec 8} {h e : Mach}

theorem boundaryEff_heard (hl : m.lanesAct = true) (hg : m.inGrove = true) (hp : p ≠ m.me) (hh : hear p m = h) :
    boundaryEff p n tN map mode m = boundaryTake p n tN map mode h := by
  rw [boundaryEff, whenLanes_act hl]
  dsimp only
  rw [if_neg (by simp [hg, hp]), hh]
  rfl

theorem boundaryTake_forming (hs : h.n Key.groveState = 1) :
    boundaryTake p n tN map mode h = canopySend (some p) 0 2 h.helloBody (h.putN Key.groveLeaderPosition p.1) := by
  simp only [boundaryTake, hs]

theorem boundaryTake_ownLeader (hs : h.n Key.groveState = 2) (hp : h.leaderPos = some p) :
    boundaryTake p n tN map mode h =
      let e := h.modGrove (fun g => { g with heardN := n, listed := tN, flights := [], members := vmap g.members (fun _ x => { x with claim := none }) })
      let e := (e.putN Key.groveMemberMap map.toNat).putN Key.groveTokenMode mode.toNat
      if bit map.toNat e.me.1 then renewLease tN e else rejoin p e := by
  simp only [boundaryTake, hs, hp, if_true]

theorem boundaryTake_leaderless (hs : h.n Key.groveState = 2) (hp : h.leaderPos = none) : boundaryTake p n tN map mode h = rejoin p h := by
  simp [boundaryTake, hs, hp]

theorem boundaryTake_otherLeader {l : Fin 8} (hs : h.n Key.groveState = 2) (hp : h.leaderPos = some l) (hl : l ≠ p) :
    boundaryTake p n tN map mode h = if p < l then rejoin p h else h := by
  simp [boundaryTake, hs, hp, hl]

theorem boundaryTake_waiting (hs : h.n Key.groveState = 4) : boundaryTake p n tN map mode h = h.putN Key.groveLeaderPosition p.1 := by
  simp only [boundaryTake, hs]

theorem boundaryTake_leading (hs : h.n Key.groveState = 3 ∨ h.n Key.groveState = 5) :
    boundaryTake p n tN map mode h = if p < h.me then rejoin p h else h := by
  rcases hs with hs | hs <;> simp only [boundaryTake, hs]

end

/-! #### SYNC (R54, R55, R325) -/

section
variable {p : Fin 8} {port : Fin 2} {tN corr : Nat}

/-- How far a SYNC stands off the device's own time. -/
def syncOffset (port : Fin 2) (tN corr : Nat) (m : Mach) : Int :=
  (tN : Int) + corr + (m.n (if port = 0 then Key.canopyEastLinkDelay else Key.canopyWestLinkDelay) : Nat) - (m.ns : Int)

/-- What a SYNC comes to, once its offset is known. -/
def syncTake (off : Int) (tN : Nat) (d : Mach) : Mach :=
  if d.grove.stepDue then
    let f := d.modGrove (fun g => { g with syncAt := some tN, stepDue := false, aligned := 0, wideAt := none })
    if f.gate[0].pulses ∨ f.gate[1].pulses then f else phaseCarriers (stepTime off f)
  else
    let e := d.modGrove (fun g => { g with
      syncAt := some tN, wideAt := if 50 < off.natAbs then some tN else none
      aligned := if 4 ≤ g.aligned then g.aligned else if off.natAbs ≤ 20 then g.aligned + 1 else 0 })
    let v := groveTimeValid (decide (4 ≤ e.grove.aligned)) e
    if decide (50 < off.natAbs) && d.grove.wideAt == some (tN - d.bp) then raiseM 0x05 2 v
    else if 50 < off.natAbs then v
    else causesGone (fun a => a.ev == 0x05 && a.inst == 2) v

theorem syncEff_new {off : Int} (hr : m.running = true) (hp : m.fromLeader p = true) (hs : m.grove.syncAt ≠ some tN)
    (ho : syncOffset port tN corr m = off) :
    syncEff p port tN corr m = syncTake off tN (m.putI 32 Key.timebaseGroveDeviation (deviation off)) := by
  subst ho
  rw [syncEff, whenUp_running hr]
  refine (if_neg (by simp [hp, hs])).trans ?_
  simp only [decide_eq_true_eq]
  rfl

end

end

theorem hear_ns (p : Fin 8) (m : Mach) : (hear p m).ns = m.ns := by
  unfold hear
  split <;> rfl

/-- Settles O45: the device's own boundary by its time and state, the leader's by the device's place, a SYNC by its offset. -/
theorem groveBoundaries : Obligations.GroveBoundaries := by
  unfold Obligations.GroveBoundaries
  refine ⟨?own, ?leaders, ?sync, ?status, ?share⟩
  case own =>
    intro s t m b e hr
    have hstep (ht : m.grove.tN + m.bp ≤ m.ns) {e' : Mach} (h : (if !b.lanesAct then b else if !e.inGrove then e else groveTurn e) = e') :
        exec (.groveBoundary t) s = .next (s.after t e') := exec_to (exec_groveBoundary ..) ((groveBoundaryEff_due hr ht rfl rfl).trans h)
    have hturn (ht : m.grove.tN + m.bp ≤ m.ns) (hl : b.lanesAct = true) (hg : e.inGrove = true) {e' : Mach} (h : groveTurn e = e') :
        exec (.groveBoundary t) s = .next (s.after t e') :=
      hstep ht ((if_neg (by rw [hl]; decide)).trans ((if_neg (by rw [hg]; decide)).trans h))
    exact ⟨fun ht => exec_to (exec_groveBoundary ..) (m := m) ((whenUp_running hr _).trans (if_pos ht)),
      fun ht hl => hstep ht (if_pos (congrArg (!·) hl)),
      fun ht hl hg => hstep ht ((if_neg (by rw [hl]; decide)).trans (if_pos (congrArg (!·) hg))),
      fun ht hl hg hs => hturn ht hl hg (groveTurn_leader hs), fun ht hl hg hs => hturn ht hl hg (groveTurn_resumes hs),
      fun ht hl hg hs => hturn ht hl hg (groveTurn_member hs)⟩
  case leaders =>
    intro s t p n tN map mode m h hl hg hp
    have hstep {e : Mach} (he : boundaryTake p n tN map mode h = e) : exec (.boundary t p n tN map mode) s = .next (s.after t e) :=
      exec_to (exec_boundary ..) ((boundaryEff_heard hl hg hp rfl).trans he)
    exact ⟨fun hs => hstep (boundaryTake_forming hs),
      fun hs hq => ⟨fun hb => hstep ((boundaryTake_ownLeader hs hq).trans (if_pos hb)),
        fun hb => hstep ((boundaryTake_ownLeader hs hq).trans (if_neg (Bool.eq_false_iff.mp hb)))⟩,
      fun hs hq => hstep (boundaryTake_leaderless hs hq), fun l hs hq hn => hstep (boundaryTake_otherLeader hs hq hn),
      fun hs => hstep (boundaryTake_waiting hs),
      fun hs => ⟨fun hlt => hstep ((boundaryTake_leading hs).trans (if_pos hlt)), fun hle => hstep ((boundaryTake_leading hs).trans (if_neg (not_lt.mpr hle)))⟩⟩
  case sync =>
    intro s t p port tN corr m delay off d e v f hr hp
    have hstep (hs : m.grove.syncAt ≠ some tN) {e' : Mach} (h : syncTake off tN d = e') :
        exec (.sync t p port tN corr) s = .next (s.after t e') := exec_to (exec_sync ..) ((syncEff_new hr hp hs rfl).trans h)
    have hmeasure (hs : m.grove.syncAt ≠ some tN) (hd : d.grove.stepDue = false) {e' : Mach}
        (h : (if decide (50 < off.natAbs) && d.grove.wideAt == some (tN - d.bp) then raiseM 0x05 2 v
          else if 50 < off.natAbs then v else causesGone (fun a => a.ev == 0x05 && a.inst == 2) v) = e') :
        exec (.sync t p port tN corr) s = .next (s.after t e') := hstep hs ((if_neg (Bool.eq_false_iff.mp hd)).trans h)
    refine ⟨fun hs => exec_to (exec_sync ..) (m := m) ((whenUp_running hr _).trans (if_pos (.inr hs))),
      fun hs hd h0 h1 => hstep hs ((if_pos hd).trans (if_neg ?_)), fun hs hd hg => hstep hs ((if_pos hd).trans (if_pos hg)),
      fun hs hd ho => hmeasure hs hd ((if_neg ?_).trans (if_neg (Nat.not_lt.mpr ho))),
      fun hs hd ho hw => hmeasure hs hd ((if_neg ?_).trans (if_pos ho)), fun hs hd ho hw => hmeasure hs hd (if_pos ?_)⟩
    · rintro (h | h)
      exacts [absurd (h.symm.trans h0) (by decide), absurd (h.symm.trans h1) (by decide)]
    · exact fun h => absurd (of_decide_eq_true (Bool.and_eq_true_iff.mp h).1) (Nat.not_lt.mpr ho)
    · exact fun h => hw (beq_iff_eq.mp (Bool.and_eq_true_iff.mp h).2)
    · exact Bool.and_eq_true_iff.mpr ⟨decide_eq_true ho, beq_iff_eq.mpr hw⟩
  case status =>
    intro s t p st m e hl hlead hj
    have hin : ¬ ((!m.leads) = true ∨ (!m.grove.members[p].joined) = true) := by
      rintro (h | h)
      exacts [absurd (hlead.symm.trans ((Bool.not_eq_true' _).mp h)) (by decide), absurd (hj.symm.trans ((Bool.not_eq_true' _).mp h)) (by decide)]
    exact ⟨fun h => exec_to (exec_status ..) (m := m) ((whenLanes_act hl _).trans ((if_neg hin).trans (if_pos h))),
      fun h => exec_to (exec_status ..) (m := m) ((whenLanes_act hl _).trans ((if_neg hin).trans (if_neg h)))⟩
  case share =>
    intro s t p at_ total refs m e hl hp
    have hin : ¬ (!m.fromLeader p) = true := by rw [hp]; decide
    have hns : e.ns = m.ns := hear_ns ..
    refine ⟨fun h => ?_, fun h => ?_⟩
    · have h' : e.ns ≤ at_ := hns.trans_le h
      exact exec_to (exec_share ..) (m := m) ((whenLanes_act hl _).trans ((if_neg hin).trans (if_pos h')))
    · have h' : ¬ e.ns ≤ at_ := fun h' => absurd h (Nat.not_lt.mpr (hns ▸ h'))
      exact exec_to (exec_share ..) (m := m) ((whenLanes_act hl _).trans ((if_neg hin).trans (if_neg h')))

end Sys2Proof.Proofs.Grove
end

section
/-! SUPPORT. Losses of members and of the leader, claims and the hand-over (R329 to R331). -/

namespace Sys2Proof.Proofs.Losses

open Sys2Proof.Machine Sys2Proof.Laws Sys2Proof.Proofs.Block Sys2Proof.Proofs.Commit Sys2Proof.Proofs.Start

section
variable {m : Mach} (hl : m.lanesAct = true)
include hl

theorem memberLostEff_joined {p : Fin 8} (hlead : m.leads = true) (hp : p ≠ m.me) (hj : m.grove.members[p].joined = true) :
    memberLostEff p m = if bit m.reachable p.1 = true ∧ m.ns < m.grove.members[p].heard + m.bp then m
      else allocate (raiseM 0x5C p.1 (dropMember p m)) := by
  rw [memberLostEff, whenLanes_act hl]
  simp [-Fin.getElem_fin, hlead, hp, hj]

theorem leaderLostEff_unclaimed {l : Fin 8} (hf : m.follows = true) (hc : m.grove.claimAt = none) (hp : m.leaderPos = some l) :
    leaderLostEff m =
      if (m.grove.heardN < m.n Key.groveBoundaryNumber ∧ m.grove.tN + m.bp / 2 ≤ m.ns) ∨ bit m.reachable l.1 = false then
        (let e := canopySend none 0 6 m.claimBody m
         preparesLapse (e.modGrove (fun g => { g with claimAt := some (e.ns + 20000) })))
      else m := by
  rw [leaderLostEff, whenLanes_act hl]
  simp only [hp]
  by_cases h : (m.grove.heardN < m.n Key.groveBoundaryNumber ∧ m.grove.tN + m.bp / 2 ≤ m.ns) ∨ bit m.reachable l.1 = false
  · rw [if_pos h, if_neg]
    rcases h with ⟨hn, ht⟩ | hr
    · simp [hf, hc, hn, ht]
    · simp [hf, hc, hr]
  · rw [if_neg h, if_pos]
    simp only [hf, hc, Bool.not_true, Bool.false_eq_true, Option.isSome_none, false_or, Bool.not_eq_true', Bool.and_eq_true, decide_eq_true_eq]
    simpa only [decide_eq_false_iff_not, Bool.or_eq_true, Bool.and_eq_true, decide_eq_true_eq, Bool.not_eq_true'] using h

theorem claimEff_heard {p : Fin 8} {ok : Bool} {reach : BitVec 8} {holding sq amt : Nat} {h : Mach} (hg : m.inGrove = true) (hp : p ≠ m.me)
    (hh : hear p m = h) : claimEff p ok reach holding sq amt m =
      if !h.follows then h else
      let e := h.modMember p (fun x => { x with claim := some (rightToLead (h.n Key.groveSize) reach.toNat ok), booked := holding + amt })
      preparesLapse (e.modGrove (fun g => { g with
        flights := g.flights.filter (fun f => f.pos != p) ++
          (if amt = 0 then [] else [{ sq := sq, amount := amt, pos := p, grant := false, sentAt := e.ns }]) })) := by
  subst hh
  rw [claimEff, whenLanes_act hl]
  exact if_neg (by simp [hg, hp])

theorem claimWindowEndEff_due {m' : Mach} (hf : m.follows = true) (hd : due m m.grove.claimAt = true)
    (hm : m.modGrove (fun g => { g with claimAt := none }) = m') : claimWindowEndEff m =
      if m'.mayLead ∧ positions.all (fun p => m'.me ≤ p || m'.grove.members[p].claim != some true) then takeOver m' else m' := by
  subst hm
  rw [claimWindowEndEff, whenLanes_act hl]
  exact if_neg (by simp [hf, hd])

theorem claimWindowEndEff_early (hd : ¬ due m m.grove.claimAt = true) : claimWindowEndEff m = m := by
  rw [claimWindowEndEff, whenLanes_act hl]
  exact if_pos (.inr (by simpa using hd))

end

/-- What a TAKEOVER does to a device that has heard it: the match of `takeoverEff` on the state of the grove. -/
def takeoverTake (p : Fin 8) (n tN : Nat) (map mode : BitVec 8) (next : Nat) (m : Mach) : Mach :=
  match m.n Key.groveState with
  | 2 =>
    let e := preparesLapse ((m.putN Key.groveLeaderPosition p.1).inc Key.groveHandOverCount)
    let e := raiseM 0x5D p.1 ((e.putN Key.groveMemberMap map.toNat).putN Key.groveTokenMode mode.toNat)
    let e := e.modGrove (fun g => { g with
      heardN := n, listed := tN, claimAt := none, flights := [], nextSeq := next, members := vmap g.members (fun _ x => { x with claim := none }) })
    if bit map.toNat e.me.1 then renewLease tN e else rejoin p e
  | 3 | 5 => if p < m.me then rejoin p m else m
  | 1 => canopySend (some p) 0 2 m.helloBody (m.putN Key.groveLeaderPosition p.1)
  | _ => m

theorem takeoverEff_heard {m : Mach} (hl : m.lanesAct = true) {p : Fin 8} {n tN next : Nat} {map mode : BitVec 8} {h : Mach}
    (hg : m.inGrove = true) (hp : p ≠ m.me) (hh : hear p m = h) :
    takeoverEff p n tN map mode next m = takeoverTake p n tN map mode next h := by
  subst hh
  rw [takeoverEff, whenLanes_act hl]
  dsimp only
  rw [if_neg (by simp [hg, hp])]
  rfl

section
variable {m : Mach} {p : Fin 8} {n tN next : Nat} {map mode : BitVec 8}

theorem takeoverTake_forming (hs : m.n Key.groveState = 1) : takeoverTake p n tN map mode next m =
    canopySend (some p) 0 2 m.helloBody (m.putN Key.groveLeaderPosition p.1) := by
  simp only [takeoverTake, hs]

theorem takeoverTake_leading (hs : m.n Key.groveState = 3 ∨ m.n Key.groveState = 5) :
    takeoverTake p n tN map mode next m = if p < m.me then rejoin p m else m := by
  rcases hs with hs | hs <;> simp only [takeoverTake, hs]

/-- The member that follows a TAKEOVER, before it looks for itself in the map. -/
def followed (p : Fin 8) (n tN : Nat) (map mode : BitVec 8) (next : Nat) (m : Mach) : Mach :=
  let e := preparesLapse ((m.putN Key.groveLeaderPosition p.1).inc Key.groveHandOverCount)
  let e := raiseM 0x5D p.1 ((e.putN Key.groveMemberMap map.toNat).putN Key.groveTokenMode mode.toNat)
  e.modGrove (fun g => { g with
    heardN := n, listed := tN, claimAt := none, flights := [], nextSeq := next, members := vmap g.members (fun _ x => { x with claim := none }) })

theorem takeoverTake_member {e : Mach} (hs : m.n Key.groveState = 2) (he : followed p n tN map mode next m = e) :
    takeoverTake p n tN map mode next m = if bit map.toNat e.me.1 then renewLease tN e else rejoin p e := by
  subst he
  simp only [takeoverTake, hs, followed]
  rfl

end

/-- Settles O46: each message and timer by the part of R329 to R331 that its guards leave. -/
theorem lossesAndHandOver : Obligations.LossesAndHandOver := by
  unfold Obligations.LossesAndHandOver
  refine ⟨?memberLost, ?leaderLost, ?claims, ?window, ?takeover⟩
  case memberLost =>
    intro s t p m hl hlead hp hj
    have hstep := memberLostEff_joined hl hlead hp hj
    refine ⟨fun h => exec_to (exec_memberLost ..) (m := m) (hstep.trans (if_neg ?_)),
      fun hr ht => exec_to (exec_memberLost ..) (m := m) (hstep.trans (if_pos ⟨hr, ht⟩))⟩
    rintro ⟨hr, ht⟩
    exact h.elim (fun h => absurd (h.symm.trans hr) (by decide)) (fun h => absurd ht (Nat.not_lt.mpr h))
  case leaderLost =>
    intro s t l m hl hf hc hp
    have hstep := leaderLostEff_unclaimed hl hf hc hp
    refine ⟨fun h => exec_to (exec_leaderLost ..) (m := m) (hstep.trans (if_pos h.symm)),
      fun hr hn => exec_to (exec_leaderLost ..) (m := m) (hstep.trans (if_neg ?_))⟩
    rintro (⟨hlt, -⟩ | h)
    exacts [absurd hlt (Nat.not_lt.mpr hn), absurd (h.symm.trans hr) (by decide)]
  case claims =>
    intro s t p ok reach holding sq amt m h hl hg hp
    have hstep := claimEff_heard (ok := ok) (reach := reach) (holding := holding) (sq := sq) (amt := amt) hl hg hp (h := h) rfl
    exact ⟨fun hf => exec_to (exec_claim ..) (hstep.trans (if_pos (congrArg (!·) hf))),
      fun hf => exec_to (exec_claim ..) (hstep.trans (if_neg (by rw [hf]; decide)))⟩
  case window =>
    intro s t end_ m e hl hf hc
    have hstep (ht : end_ ≤ m.ns) := claimWindowEndEff_due hl hf (due_of_le hc ht) (m' := e) rfl
    refine ⟨fun ht => exec_to (exec_claimWindowEnd ..) (claimWindowEndEff_early hl (not_due_of_lt hc ht)),
      fun ht hm hall => exec_to (exec_claimWindowEnd ..) ((hstep ht).trans (if_pos ⟨hm, ?_⟩)),
      fun ht hn => exec_to (exec_claimWindowEnd ..) ((hstep ht).trans (if_neg ?_))⟩
    case refine_2 =>
      refine List.all_eq_true.mpr fun p hp => ?_
      simpa [-Fin.getElem_fin] using hall p hp
    case refine_1 =>
      rintro ⟨hm, hall⟩
      rcases hn with hn | ⟨p, hp, hclaim⟩
      · exact absurd (hn.symm.trans hm) (by decide)
      · have hpos := List.all_eq_true.mp hall p (List.mem_finRange p)
        simp only [hclaim, bne_self_eq_false, Bool.or_false, decide_eq_true_eq] at hpos
        exact absurd hp (not_lt.mpr hpos)
  case takeover =>
    intro s t p n tN next map mode m h hl hg hp
    have hstep {e : Mach} (he : takeoverTake p n tN map mode next h = e) : exec (.takeover t p n tN map mode next) s = .next (s.after t e) :=
      exec_to (exec_takeover ..) ((takeoverEff_heard hl hg hp rfl).trans he)
    exact ⟨fun hs => hstep (takeoverTake_forming hs), fun hs => hstep (takeoverTake_leading hs),
      fun hs => ⟨fun hb => hstep ((takeoverTake_member hs rfl).trans (if_pos hb)),
        fun hb => hstep ((takeoverTake_member hs rfl).trans (if_neg (Bool.eq_false_iff.mp hb)))⟩⟩

end Sys2Proof.Proofs.Losses
end

section
/-! SUPPORT. Token transfers, the audit and the leases (R332 to R338, R344, R366). -/

namespace Sys2Proof.Proofs.Tokens

open Sys2Proof.Machine Sys2Proof.Laws Sys2Proof.Proofs.Block Sys2Proof.Proofs.Writes Sys2Proof.Proofs.Commit

/-! ### Transfers (R333) -/

section
variable {m h : Mach} {p : Fin 8} {q k : Nat} (hl : m.lanesAct = true)
include hl

section
variable (hp : m.fromLeader p = true) (hh : hear p m = h)
include hp hh

theorem grantEff_new (hq : h.grove.lastSeq < q) : grantEff p q k m = canopySend (some p) 2 2 (beBytes 4 q)
    ((h.modGrove (fun g => { g with holding := g.holding + k, lastSeq := q })).putN Key.tokensLastTransferSeq q) := by
  subst hh
  rw [grantEff, whenLanes_act hl]
  dsimp only
  rw [if_neg (by simp [hp]), if_pos hq]

theorem grantEff_known (hq : q ≤ h.grove.lastSeq) : grantEff p q k m = canopySend (some p) 2 2 (beBytes 4 q) h := by
  subst hh
  rw [grantEff, whenLanes_act hl]
  dsimp only
  rw [if_neg (by simp [hp]), if_neg (Nat.not_lt.mpr hq)]

theorem releaseReqEff_free (hr : h.grove.release = none) : releaseReqEff p q k m =
    if q = h.grove.relDone.1 then canopySend (some p) 2 4 (transferBody q h.grove.relDone.2) h
    else if q < h.grove.relDone.1 then h else ownRelease q k h := by
  subst hh
  rw [releaseReqEff, whenLanes_act hl]
  dsimp only
  rw [if_neg (by simp [hp])]
  simp only [hr]

theorem releaseReqEff_busy {r : Transfer} (hr : h.grove.release = some r) : releaseReqEff p q k m =
    if r.sq = q ∧ !r.asked then canopySend (some p) 2 4 (transferBody r.sq r.amount) h else h := by
  subst hh
  rw [releaseReqEff, whenLanes_act hl]
  dsimp only
  rw [if_neg (by simp [hp])]
  simp only [hr]

theorem releaseAckEff_busy {r : Transfer} (hr : h.grove.release = some r) : releaseAckEff p q m =
    if r.sq = q ∧ !r.asked then h.modGrove (fun g => { g with release := none, relDone := (q, r.amount) }) else h := by
  subst hh
  rw [releaseAckEff, whenLanes_act hl]
  dsimp only
  rw [if_neg (by simp [hp])]
  simp only [hr]

end

section
variable (hlead : m.leads = true)
include hlead

theorem grantAckEff_known {f : Transfer} (hh : hear p m = h)
    (hf : h.grove.flights.find? (fun f => f.grant && f.pos == p && f.sq == q) = some f) :
    grantAckEff p q m = allocate ((h.modGrove (fun g => { g with flights := g.flights.filter (fun x => x != f) })).modMember p
      (fun x => { x with booked := x.booked + f.amount })) := by
  subst hh
  rw [grantAckEff, whenLanes_act hl]
  dsimp only
  rw [if_neg (by simp [hlead])]
  simp only [hf]

theorem grantAckEff_unknown (hh : hear p m = h) (hf : h.grove.flights.find? (fun f => f.grant && f.pos == p && f.sq == q) = none) :
    grantAckEff p q m = h := by
  subst hh
  rw [grantAckEff, whenLanes_act hl]
  dsimp only
  rw [if_neg (by simp [hlead])]
  simp only [hf]

theorem releaseEff_leader (hh : hear p m = h) :
    releaseEff p q k m = allocate (canopySend (some p) 2 5 (beBytes 4 q) (creditRelease p q k h)) := by
  subst hh
  rw [releaseEff, whenLanes_act hl]
  exact if_neg (by simp [hlead])

theorem transferResendEff_leader {f : Transfer}
    (hf : m.grove.flights.find? (fun f => (f.sq == q && decide (f.sentAt + 100000 ≤ m.ns)) && f.pos != m.me) = some f) :
    transferResendEff q m = canopySend (some f.pos) 2 (if f.grant then 1 else 3) (transferBody f.sq f.amount)
      ((m.inc Key.tokensRetransmitCount).modGrove (fun g => { g with
        flights := g.flights.map (fun x => if x.sq = q then { x with sentAt := m.ns } else x) })) := by
  rw [transferResendEff, whenLanes_act hl]
  dsimp only
  rw [if_pos hlead]
  simp only [hf]

end

theorem transferResendEff_member {r : Transfer} (hlead : m.leads = false) (hr : m.grove.release = some r) :
    transferResendEff q m = if !r.asked && (r.sq == q && decide (r.sentAt + 100000 ≤ m.ns)) then
      toLeader 2 4 (transferBody r.sq r.amount)
        ((m.inc Key.tokensRetransmitCount).modGrove (fun g => { g with release := some { r with sentAt := m.ns } })) else m := by
  rw [transferResendEff, whenLanes_act hl]
  dsimp only
  rw [if_neg (Bool.eq_false_iff.mp hlead)]
  simp only [hr]

end

theorem creditRelease_known {m : Mach} {p : Fin 8} {q k : Nat} (h : q ≤ m.grove.members[p].lastRel) : creditRelease p q k m = m :=
  if_pos h

theorem creditRelease_new {m : Mach} {p : Fin 8} {q k : Nat} (h : m.grove.members[p].lastRel < q) :
    (creditRelease p q k m).grove.pool = m.grove.pool + (k - min m.grove.recalled k) ∧
    (creditRelease p q k m).grove.recalled = m.grove.recalled - min m.grove.recalled k ∧
    (creditRelease p q k m).grove.members[p].booked = m.grove.members[p].booked - k := by
  rw [creditRelease]
  dsimp only
  rw [if_neg (Nat.not_le.mpr h)]
  refine ⟨rfl, rfl, ?_⟩
  exact congrArg Member.booked (vmod_self ..)

/-! ### The audit and the leases (R335, R337, R338, R344) -/

section
variable {m : Mach} (hl : m.lanesAct = true)
include hl

theorem auditReportEff_leader {p : Fin 8} {n holding last : Nat} {h : Mach} (hlead : m.leads = true) (hh : hear p m = h) :
    auditReportEff p n holding last m = if h.grove.auditing ∧ n = h.n Key.groveBoundaryNumber ∧ h.grove.members[p].joined then
      h.modMember p (fun x => { x with report := some (holding, last) }) else h := by
  subst hh
  rw [auditReportEff, whenLanes_act hl]
  exact if_neg (by simp [hlead])

theorem auditDeadlineEff_early (ht : m.ns < m.grove.tN + m.bp / 2) : auditDeadlineEff m = m := by
  rw [auditDeadlineEff, whenLanes_act hl]
  exact if_pos (.inr (.inr ht))

end

/-- The audit record of a round, R338. -/
def auditRecord (pool total expiring recalled result : Nat) (m : Mach) : List Byte :=
  beBytes 8 (m.n Key.groveBoundaryNumber) ++ beBytes 2 total ++ beBytes 2 pool ++
    beBytes 2 (positions.map (fun p => (m.auditOf p).2)).sum ++ beBytes 2 expiring ++
    beBytes 1 (m.n Key.groveTokenMode) ++ beBytes 1 result ++ beBytes 2 recalled ++
    positions.flatMap (fun p => beBytes 2 (if p == m.me || m.grove.members[p].joined then (m.auditOf p).1 else 0xFFFF) ++
      beBytes 2 ((m.grove.members[p].report).getD (0, 0)).1 ++ beBytes 4 ((m.grove.members[p].report).getD (0, 0)).2)

theorem auditDeadlineEff_agrees {m : Mach} (hl : m.lanesAct = true) {pool total expiring recalled : Nat}
    (hlead : m.leads = true) (ha : m.grove.auditing = true)
    (ht : m.grove.tN + m.bp / 2 ≤ m.ns) (hs : m.grove.snap = (pool, total, expiring, recalled))
    (heq : total + recalled = pool + (positions.map (fun p => (m.auditOf p).1)).sum + (positions.map (fun p => (m.auditOf p).2)).sum + expiring)
    (hrep : ∀ p ∈ positions, (p == m.me || m.grove.members[p].joined) = true →
      ((m.grove.members[p].report).getD (0, 0)).1 = (m.auditOf p).1) :
    auditDeadlineEff m = (m.put Key.tokensAuditRecord (.bytes (auditRecord pool total expiring recalled 0 m))).modGrove
      (fun g => { g with auditing := false, auditOk := true }) := by
  have hbad : positions.filter (fun p => (p == m.me || m.grove.members[p].joined) &&
      (decide ((m.auditOf p).1 < ((m.grove.members[p].report).getD (0, 0)).1) ||
        ((m.n Key.groveTokenMode == 0) && !(((m.grove.members[p].report).getD (0, 0)).1 == (m.auditOf p).1)))) = [] := by
    refine List.filter_eq_nil_iff.mpr fun p hp h => ?_
    obtain ⟨hj, hne⟩ := Bool.and_eq_true_iff.mp h
    rw [hrep p hp hj] at hne
    simp at hne
  have hsame : (positions.filter (fun p => p == m.me || m.grove.members[p].joined)).all
      (fun p => ((m.grove.members[p].report).getD (0, 0)).1 == (m.auditOf p).1) = true := by
    refine List.all_eq_true.mpr fun p hp => ?_
    obtain ⟨hp, hj⟩ := List.mem_filter.mp hp
    exact beq_iff_eq.mpr (hrep p hp hj)
  rw [auditDeadlineEff, whenLanes_act hl]
  dsimp only
  rw [if_neg (by simp [hlead, ha, ht])]
  simp only [hs, hbad, hsame, beq_iff_eq.mpr heq]
  rfl

section
variable {m : Mach} (hl : m.lanesAct = true)
include hl

theorem leaseExpiryEff_over (hg : m.inGrove = true) (hla : m.grove.lapsed = false) (ht : m.grove.lease ≤ m.ns) :
    leaseExpiryEff m = raiseM 0x5E 0xFF (setMode 1 (m.modGrove (fun g => { g with lapsed := true }))) := by
  rw [leaseExpiryEff, whenLanes_act hl]
  exact if_neg (by simp [hg, hla, ht])

theorem expiringTokensReturnEff_over {p : Fin 8} (hlead : m.leads = true) (he : m.grove.members[p].expiring ≠ 0)
    (ht : m.grove.members[p].expireAt ≤ m.ns) : expiringTokensReturnEff p m =
      allocate ((m.modMember p (fun x => { x with expiring := 0 })).modGrove (fun g => { g with pool := g.pool + m.grove.members[p].expiring })) := by
  rw [expiringTokensReturnEff, whenLanes_act hl]
  exact if_neg (by simpa [-Fin.getElem_fin, hlead] using ⟨he, ht⟩)

theorem standSilentGroveReassignEff_role {g : BitVec 8} {heard : Nat} (hr : 2 ≤ m.standRole) (hg : g.toNat ≠ m.n Key.unitGroveNumber) :
    standSilentGroveReassignEff g heard m = if m.ns < heard + ms (m.n Key.unitStandLeaseTime + 10) then m
      else apportion (m.modGrove (fun x => { x with
        seen := x.seen.filter (fun y => !(y.stand == m.n Key.unitStandNumber && y.grove == g.toNat)), given := erase g.toNat x.given })) := by
  rw [standSilentGroveReassignEff, whenLanes_act hl]
  by_cases h : m.ns < heard + ms (m.n Key.unitStandLeaseTime + 10)
  · exact (if_pos (.inr (.inr h))).trans (if_pos h).symm
  · exact (if_neg (not_or.mpr ⟨Nat.not_lt.mpr hr, not_or.mpr ⟨hg, h⟩⟩)).trans (if_neg h).symm

end

section
variable {n : Mach} {rq : Req} {role total : Nat} (hg : n.inGrove = true) (hlead : n.leads = false)
include hg hlead

theorem writeTotal_unreachable (hp : n.leaderPos = none) : writeTotal rq role total n = (n, some 0x0009) := by
  rw [writeTotal, if_neg (by simp [hg, hlead])]
  simp only [hp]

theorem writeTotal_member {p : Fin 8} (hp : n.leaderPos = some p) : writeTotal rq role total n =
    (forward rq role p (n.requestPdu 3 rq p (writeBody Key.tokensTotal (beBytes 2 total))) n, none) := by
  rw [writeTotal, if_neg (by simp [hg, hlead])]
  simp only [hp]

end

/-- Settles O47: a transfer by its sequence number, the audit by its agreement, each lease by its time. -/
theorem tokensAndLeases : Obligations.TokensAndLeases := by
  unfold Obligations.TokensAndLeases
  refine ⟨⟨?member, ?leader, ?resend, ?credit⟩, ?reports, ?audit, ?leases, ?silent, ?total⟩
  case member =>
    intro s t p q k m h hl hp
    have hreq (hr : h.grove.release = none) := releaseReqEff_free (q := q) (k := k) hl hp (h := h) rfl hr
    refine ⟨fun hq => exec_to (exec_grant ..) (grantEff_new hl hp rfl hq), fun hq => exec_to (exec_grant ..) (grantEff_known hl hp rfl hq),
      fun hr hq => exec_to (exec_releaseReq ..) ((hreq hr).trans ((if_neg hq.ne').trans (if_neg (Nat.not_lt.mpr hq.le)))),
      fun hr hq => exec_to (exec_releaseReq ..) ((hreq hr).trans (if_pos hq)),
      fun hr hq => exec_to (exec_releaseReq ..) ((hreq hr).trans ((if_neg hq.ne).trans (if_pos hq))), fun r hr hq ha => ⟨?_, ?_⟩⟩
    · exact exec_to (exec_releaseReq ..) ((releaseReqEff_busy hl hp rfl hr).trans (if_pos ⟨hq, congrArg (!·) ha⟩))
    · exact exec_to (exec_releaseAck ..) ((releaseAckEff_busy hl hp rfl hr).trans (if_pos ⟨hq, congrArg (!·) ha⟩))
  case leader =>
    intro s t p q k m h hl hlead
    exact ⟨fun f hf => exec_to (exec_grantAck ..) (grantAckEff_known hl hlead rfl hf),
      fun hf => exec_to (exec_grantAck ..) (grantAckEff_unknown hl hlead rfl hf),
      exec_to (exec_release ..) (releaseEff_leader hl hlead rfl),
      fun f hf => exec_to (exec_transferResend ..) (transferResendEff_leader hl hlead hf)⟩
  case resend =>
    intro s t q r m hl hlead hr
    have hstep := transferResendEff_member (q := q) hl hlead hr
    refine ⟨fun ha hq ht => exec_to (exec_transferResend ..) (m := m) (hstep.trans (if_pos ?_)),
      fun h => exec_to (exec_transferResend ..) (m := m) (hstep.trans (if_neg ?_))⟩
    · rw [ha, beq_iff_eq.mpr hq, decide_eq_true ht]
      rfl
    · rcases h with ha | hq | ht
      · simp [ha]
      · simp [hq]
      · simp [ht]
  case credit => exact fun m p q k => ⟨creditRelease_known, creditRelease_new⟩
  case reports =>
    intro s t p n holding last m h hl hlead
    have hstep := auditReportEff_leader (p := p) (n := n) (holding := holding) (last := last) hl hlead (h := h) rfl
    refine ⟨fun ha hn hj => exec_to (exec_auditReport ..) (hstep.trans (if_pos ⟨ha, hn, hj⟩)),
      fun hne => exec_to (exec_auditReport ..) (hstep.trans (if_neg ?_))⟩
    rintro ⟨ha, hn, -⟩
    exact hne.elim (fun h => absurd (h.symm.trans ha) (by decide)) (fun h => h hn)
  case audit =>
    intro s t pool total expiring recalled m book joined rep flight record hl hlead ha hs
    exact ⟨fun ht => exec_to (exec_auditDeadline ..) (auditDeadlineEff_early hl ht),
      fun ht heq hrep => exec_to (exec_auditDeadline ..) (auditDeadlineEff_agrees hl hlead ha ht hs heq hrep)⟩
  case leases =>
    intro s t p m hl
    refine ⟨fun hg hla ht => exec_to (exec_leaseExpiry ..) (leaseExpiryEff_over hl hg hla ht),
      fun ht => exec_to (exec_leaseExpiry ..) (m := m) ((whenLanes_act hl _).trans (if_pos (.inr (.inr ht)))),
      fun hlead he ht => exec_to (exec_expiringTokensReturn ..) (expiringTokensReturnEff_over hl hlead he ht),
      fun ht => exec_to (exec_expiringTokensReturn ..) (m := m) ((whenLanes_act hl _).trans (if_pos (.inr (.inr ht)))),
      fun hr ht => exec_to (exec_standLeaseExpiry ..) (m := m) ((whenLanes_act hl _).trans (if_neg ?_)),
      fun h => exec_to (exec_standLeaseExpiry ..) (m := m) ((whenLanes_act hl _).trans (if_pos h))⟩
    exact not_or.mpr ⟨not_not.mpr hr, Nat.not_lt.mpr ht⟩
  case silent =>
    intro s t g heard m hl hr hg
    have hstep := standSilentGroveReassignEff_role (heard := heard) hl hr hg
    exact ⟨fun ht => exec_to (exec_standSilentGroveReassign ..) (hstep.trans (if_pos ht)),
      fun ht => exec_to (exec_standSilentGroveReassign ..) (hstep.trans (if_neg (Nat.not_lt.mpr ht)))⟩
  case total =>
    intro s t rq c total m n h
    have hhere {e : Mach} {st : Nat} (hw : writeTotal rq c.role total n = (e, some st)) :
        exec (.tokensTotalWrite t rq total) s = .next (s.after t (reply 3 rq st [] e)) := by
      rw [exec_tokensTotalWrite, writeHere_accepted h (by decide) (by decide) ((perform_tokensTotal ..).trans hw)]
    refine ⟨fun hg => hhere (if_pos ?_), fun hg hlead hp => hhere (writeTotal_unreachable hg hlead hp), fun p hg hlead hp => ?_⟩
    · rcases hg with hg | hg <;> simp [hg]
    · rw [exec_tokensTotalWrite, writeHere_accepted_later h (by decide) ((perform_tokensTotal ..).trans (writeTotal_member (total := total) hg hlead hp))]

end Sys2Proof.Proofs.Tokens
end

section
/-! SUPPORT. Reads, writes and their checks (R361, R365, R366, R395). -/

namespace Sys2Proof.Proofs.Requests

open Sys2Proof.Machine Sys2Proof.Laws Sys2Proof.Proofs.Block Sys2Proof.Proofs.Commit

/-! ### The session of a request (R361, R365) -/

section
variable {m : Mach} {kind : Nat} {rq : Req} {f : Conn → Mach → Mach} (hl : m.lanesAct = true) (ht : m.takes rq.src = true)
include hl ht

theorem serve_unbound (hc : m.connOf rq = none) : serve kind rq f m = m.emit (.reply (128 + kind) rq 0x000C []) := by
  rw [serve, whenLanes_act hl, toConn, if_neg (by simp [ht])]
  simp only [hc]

theorem serve_bound {c : Conn} (hc : m.connOf rq = some c) : serve kind rq f m = f c (touch rq m) := by
  rw [serve, whenLanes_act hl, toConn, if_neg (by simp [ht])]
  simp only [hc]

theorem serveOnce_repeated {c : Conn} {st : Nat} {body : List Byte} (hc : m.connOf rq = some c) (ha : c.answered = some (rq.rid, st, body)) :
    serveOnce kind rq f m = (touch rq m).emit (.reply (128 + kind) rq st body) := by
  rw [serveOnce, serve_bound hl ht hc]
  simp only [ha, if_true]

theorem serveOnce_tooMany {c : Conn} (hc : m.connOf rq = some c) (ha : c.answered.map (fun a => a.1) ≠ some rq.rid)
    (ho : 4 ≤ m.outstanding rq.handle) : serveOnce kind rq f m = reply kind rq 0x000A [] (touch rq m) := by
  have ho' : 4 ≤ (touch rq m).outstanding rq.handle := ho
  rw [serveOnce, serve_bound hl ht hc]
  cases h : c.answered with
  | none => exact if_pos ho'
  | some a =>
    have hne : a.1 ≠ rq.rid := fun he => ha (by rw [h, ← he]; rfl)
    exact (if_neg hne).trans (if_pos ho')

end

/-! ### Where a request goes (R366) -/

section
variable {m : Mach} {rq : Req} {unit : BitVec 48} {k : Nat} {c : Conn} (hs : m.serves rq c)
include hs

section
variable {sh : Bool}

theorem readEff_here {u : UnitId} (hp : (touch rq m).place unit = .here u) : readEff rq unit k sh m =
    reply 2 rq ((touch rq m).readUnit u k sh c.role).1 ((touch rq m).readUnit u k sh c.role).2 (touch rq m) := by
  rw [readEff, serveOnce_serves _ hs]
  simp only [hp]

theorem readEff_nowhere (hp : (touch rq m).place unit = .nowhere) : readEff rq unit k sh m = reply 2 rq 0x0009 [] (touch rq m) := by
  rw [readEff, serveOnce_serves _ hs]
  simp only [hp]

theorem readEff_member {p : Fin 8} (hp : (touch rq m).place unit = .member p) : readEff rq unit k sh m =
    forward rq c.role p (unitPdu 2 rq unit (beBytes 2 (k / 256) ++ beBytes 1 (k % 256) ++ beBytes 1 (b2n sh))) (touch rq m) := by
  rw [readEff, serveOnce_serves _ hs]
  simp only [hp]

end

section
variable {b : List Byte}

theorem writeEff_here {u : UnitId} (hp : (touch rq m).place unit = .here u) :
    writeEff rq unit k b m = writeUnit rq c.role u k b (fun st => reply 3 rq st []) (touch rq m) := by
  rw [writeEff, serveOnce_serves _ hs]
  simp only [hp]

theorem writeEff_nowhere (hp : (touch rq m).place unit = .nowhere) : writeEff rq unit k b m = reply 3 rq 0x0009 [] (touch rq m) := by
  rw [writeEff, serveOnce_serves _ hs]
  simp only [hp]

theorem writeEff_member {p : Fin 8} (hp : (touch rq m).place unit = .member p) :
    writeEff rq unit k b m = forward rq c.role p (unitPdu 3 rq unit (writeBody k b)) (touch rq m) := by
  rw [writeEff, serveOnce_serves _ hs]
  simp only [hp]

end
end

/-! ### A write at its unit (R363, R395) -/

section
variable {n : Mach} {rq : Req} {role k st : Nat} {b : List Byte} {answer : Nat → Mach → Mach}

theorem writeEntry_refused (hw : n.writeOf k b role = .error st) : writeEntry rq role k b answer n = answer st n := by
  simp only [writeEntry, hw]

theorem writeEntry_done {v : Val} {e : Mach} (hk : k ≠ Key.fwActivate) (hw : n.writeOf k b role = .ok v)
    (hp : perform rq role k v n = (e, some 0)) : writeEntry rq role k b answer n = answer 0 e := by
  simp only [writeEntry, hw, hp, if_true]
  exact if_neg hk

section
variable {u : UnitId} {i : Nat}

theorem writeUnit_noTarget (ht : n.unitTarget u i = .error st) : writeUnit rq role u i b answer n = answer st n := by
  simp only [writeUnit, ht]

theorem writeUnit_shaftBudget (ht : n.unitTarget .shaft i = .ok Key.unitBudget) : writeUnit rq role .shaft i b answer n =
    if role < writeRole Key.unitBudget then answer 0x0004 n
    else answer (shaftBudgetWrite Key.unitBudget b n).2 (shaftBudgetWrite Key.unitBudget b n).1 := by
  simp only [writeUnit, ht, and_self, if_true]

theorem writeUnit_entry (ht : n.unitTarget u i = .ok k) (hu : u ≠ .shaft ∨ k ≠ Key.unitBudget) :
    writeUnit rq role u i b answer n = writeEntry rq role k b answer n := by
  simp only [writeUnit, ht]
  exact if_neg (fun h => hu.elim (fun hu => hu h.1) (fun hk => hk h.2))

end
end

/-- Settles O48: a request by its connection, then by the place of its unit, a write by the entry behind it. -/
theorem readsAndWrites : Obligations.ReadsAndWrites := by
  unfold Obligations.ReadsAndWrites
  refine ⟨?reads, ?sessions, ?writes, ?entries⟩
  case reads =>
    intro s t rq unit ix sub sh c m n k hs
    exact ⟨fun u hp => exec_to (exec_read ..) (readEff_here hs hp), fun hp => exec_to (exec_read ..) (readEff_nowhere hs hp),
      fun p hp => exec_to (exec_read ..) (readEff_member hs hp)⟩
  case sessions =>
    intro s t rq unit ix sub b m hl ht
    exact ⟨fun hc => exec_to (exec_write ..) (serve_unbound hl ht hc),
      fun c st body hc ha => exec_to (exec_write ..) (serveOnce_repeated hl ht hc ha),
      fun c hc ha ho => exec_to (exec_write ..) (serveOnce_tooMany hl ht hc ha ho)⟩
  case writes =>
    intro s t rq unit ix sub b c u k m n hs
    have hhere {u : UnitId} (hp : n.place unit = .here u) {e : Mach}
        (h : writeUnit rq c.role u (ix.toNat * 256 + sub.toNat) b (fun st => reply 3 rq st []) n = e) :
        exec (.write t rq unit ix sub b) s = .next (s.after t e) := exec_to (exec_write ..) ((writeEff_here hs hp).trans h)
    exact ⟨fun hp => exec_to (exec_write ..) (writeEff_nowhere hs hp), fun p hp => exec_to (exec_write ..) (writeEff_member hs hp),
      fun st hp ht => hhere hp (writeUnit_noTarget ht), fun hp ht => hhere hp (writeUnit_shaftBudget ht),
      fun hp ht hu => ⟨fun st hw => hhere hp ((writeUnit_entry ht hu).trans (writeEntry_refused hw)),
        fun v e hw hk hf => hhere hp ((writeUnit_entry ht hu).trans (writeEntry_done hk hw hf))⟩⟩
  case entries =>
    intro s t rq ix sub b c v e k h hu hk hf
    exact exec_to (exec_entryWrite ..) (writeHere_accepted h hu hk hf)

/-! ### An entry that permits one class only (R453) -/

theorem writeOf_eventClass_fixed : Machine.State.reset.core.writeOf (Key.eventClass 0x21) [0] 4 = .ok (.num 0) := rfl

theorem inRange_eventClass_fixed (m : Mach) :
    m.inRange (Key.eventClass 0x21) ⟨0x01, 0x80, .u8, .rw, .device, .bank, false, none, .eventClass⟩ (.num 0) = false := rfl

/-- Refutes O49: EV 0x21 permits class F5 alone, and a write of class F0 to its entry is ignored (R453), not refused with 0x0005. -/
theorem not_writeChecksInOrder : ¬ Obligations.WriteChecksInOrder := by
  unfold Obligations.WriteChecksInOrder
  intro h
  obtain ⟨-, -, h⟩ := h Machine.State.reset.core (Key.eventClass 0x21) [0] 4
  obtain ⟨-, h⟩ := h ⟨0x01, 0x80, .u8, .rw, .device, .bank, false, none, .eventClass⟩ (by decide) (by decide) rfl (fun n => nofun)
  obtain ⟨-, h⟩ := h rfl (by decide)
  obtain ⟨-, h⟩ := h (by decide)
  obtain ⟨h, -⟩ := h (.num 0) rfl
  exact nomatch writeOf_eventClass_fixed.symm.trans (h (inRange_eventClass_fixed _))

end Sys2Proof.Proofs.Requests
end

section
/-! SUPPORT. Connections, logins, forwarded requests, malformed PDUs and IP (R357, R358, R361 to R366). -/

namespace Sys2Proof.Proofs.Connections

open Sys2Proof.Machine Sys2Proof.Laws Sys2Proof.Proofs.Block Sys2Proof.Proofs.Pwm Sys2Proof.Proofs.Commit

/-! ### Connections (R361, R364) -/

section
variable {m : Mach} {rq : Req} {sub : BitVec 8} {name : List Byte}

/-- The PDU of a partner that the device serves, R361. -/
theorem connectEff_served (hl : m.lanesAct = true) (ht : m.takes rq.src = true) (hn : ∀ c ∈ m.net.conns, sameSource c.src rq.src = false) :
    connectEff rq sub name m =
      if 6 < sub.toNat ∨ name.length ≠ 16 then m.emit (.reply 132 rq 0x000E [])
      else if 8 ≤ m.net.conns.length then m.emit (.reply 132 rq 0x000A []) else
      let h := freeHandle m.net.conns 9 m.net.nextHandle
      reply 4 { rq with handle := BitVec.ofNat 16 h } 0 []
        (m.modNet (fun n => { n with nextHandle := h % 0xFFFE + 1, conns := n.conns ++ [{
          handle := BitVec.ofNat 16 h, src := rq.src, role := m.baseRole, sub := sub.toNat, name := name, last := m.ns,
          limit := m.n Key.netConnectionTimeout }] })) := by
  have hnone : m.net.conns.filter (fun c => sameSource c.src rq.src) = [] :=
    List.filter_eq_nil_iff.mpr fun c hc => Bool.eq_false_iff.mp (hn c hc)
  rw [connectEff, hnone, if_neg (by simp [hl, ht])]
  rfl

theorem loginBlockEndEff_up {src : Source} (hu : m.up ≠ none) : loginBlockEndEff src m =
    m.modNet (fun n => { n with blocks := n.blocks.filter (fun b => !(sameSource b.1 src && decide (b.2 ≤ m.ns))) }) :=
  if_neg fun h => hu (Option.isNone_iff_eq_none.mp h)

section
variable {h : BitVec 16} {c : Conn} (hu : m.up ≠ none) (hc : m.conn? h = some c)
include hu hc

theorem connectionTimeoutEff_over (ht : c.last + c.limit * 1000000000 ≤ m.ns) : connectionTimeoutEff h m = closeConn h m := by
  have hup : ¬ m.up.isNone = true := fun h => hu (Option.isNone_iff_eq_none.mp h)
  simp only [connectionTimeoutEff, hc, decide_eq_true ht, Bool.true_or, if_true, if_neg hup]

theorem connectionTimeoutEff_usb (hs : c.src = .usb) (ht : ¬ c.last + c.limit * 1000000000 ≤ m.ns) : connectionTimeoutEff h m = m := by
  have hup : ¬ m.up.isNone = true := fun h => hu (Option.isNone_iff_eq_none.mp h)
  simp only [connectionTimeoutEff, hc, hs, decide_eq_false ht, Bool.or_self, Bool.false_eq_true, if_false, if_neg hup]

theorem connectionTimeoutEff_port {p : Fin 2} (hs : (∃ mac, c.src = .eth p mac) ∨ (∃ ip q, c.src = .udp ip q p))
    (ht : ¬ c.last + c.limit * 1000000000 ≤ m.ns) : connectionTimeoutEff h m =
      if !m.net.ports[p].up && decide (m.net.ports[p].downAt + c.limit * 1000000000 ≤ m.ns) then closeConn h m else m := by
  have hup : ¬ m.up.isNone = true := fun h => hu (Option.isNone_iff_eq_none.mp h)
  rcases hs with ⟨mac, hs⟩ | ⟨ip, q, hs⟩ <;>
    simp only [connectionTimeoutEff, hc, hs, decide_eq_false ht, Bool.false_or, if_neg hup]

end
end

/-! ### Logins (R362, R363) -/

section
variable {m : Mach} {rq : Req} {c : Conn} (hs : m.servesPdu rq c)
include hs

theorem servePdu_serves {kind : Nat} (f : Conn → Mach → Mach) : servePdu kind rq f m = f c (touch rq m) := by
  obtain ⟨hl, ht, hc⟩ := hs
  rw [servePdu, if_pos hl, toConn, if_neg (by simp [ht])]
  simp only [hc]

theorem loginStep1Eff_served (role : BitVec 8) : loginStep1Eff rq role m =
    if role.toNat < 1 ∨ 4 < role.toNat then reply 5 rq 0x000E [] (touch rq m)
    else if (touch rq m).loginBlocked rq.src then reply 5 rq 0x000D [] (touch rq m)
    else reply 5 rq 0 (beBytes 1 1 ++ beBytes 1 role.toNat ++ (freeBytes 16 (touch rq m)).2)
      ((freeBytes 16 (touch rq m)).1.modConn rq.handle (fun c => { c with nonce := some ((freeBytes 16 (touch rq m)).2, (touch rq m).ns, role.toNat) })) := by
  rw [loginStep1Eff, servePdu_serves hs]

section
variable {proof : List Byte}

theorem loginStep2Eff_blocked (hb : (touch rq m).loginBlocked rq.src = true) :
    loginStep2Eff rq proof m = reply 5 rq 0x000D [] (touch rq m) := by
  rw [loginStep2Eff, servePdu_serves hs]
  exact if_pos hb

variable (hb : (touch rq m).loginBlocked rq.src = false) {e : Mach} (he : (touch rq m).modConn rq.handle (fun c => { c with nonce := none }) = e)
include hb he

theorem loginStep2Eff_noNonce (hn : c.nonce = none) : loginStep2Eff rq proof m = loginFailed rq 0 e := by
  subst he
  rw [loginStep2Eff, servePdu_serves hs]
  simp only [hb, hn, Bool.false_eq_true, if_false]

theorem loginStep2Eff_nonce {nonce : List Byte} {at_ role : Nat} (hn : c.nonce = some (nonce, at_, role)) : loginStep2Eff rq proof m =
    if proof = hmacSha256 (valBytes (e.val (Key.credential (role - 1)))) nonce ∧ e.ns ≤ at_ + 10000000000 then
      reply 5 rq 0 [] ((if role < 3 then echoOrphan rq.handle e else e).modConn rq.handle
        (fun c => { c with role := role, credId := (sha256 (valBytes (e.val (Key.credential (role - 1))))).take 8 }))
    else loginFailed rq role e := by
  subst he
  rw [loginStep2Eff, servePdu_serves hs]
  simp only [hb, hn, Bool.false_eq_true, if_false]

end

theorem logoutEff_served : logoutEff rq m = reply 6 rq 0 [] (echoOrphan rq.handle
    ((touch rq m).modConn rq.handle (fun c => { c with role := (touch rq m).baseRole, credId := [] }))) := by
  rw [logoutEff, servePdu_serves hs]

end

/-! ### Requests between members, IP (R357, R366) -/

section
variable {m : Mach} (hl : m.lanesAct = true)
include hl

section
variable {rq : Req} {end_ kind : Nat} (hf : m.net.forwarded = [(rq, end_, kind)])
include hf

theorem forwardTimeoutEff_over (ht : end_ ≤ m.ns) :
    forwardTimeoutEff rq m = reply kind rq 0x0010 [] (m.modNet (fun n => { n with forwarded := [] })) := by
  rw [forwardTimeoutEff, whenLanes_act hl]
  simp [hf, ht, Mach.modNet]

theorem forwardTimeoutEff_early (ht : m.ns < end_) : forwardTimeoutEff rq m = m := by
  rw [forwardTimeoutEff, whenLanes_act hl]
  simp [hf, ht]

end

theorem forwardedRequestEff_member {p : Fin 8} {answer : Bool} {role : Fin 5} {pdu : List Byte} (hg : m.inGrove = true) :
    forwardedRequestEff p answer role pdu m = if answer then memberAnswer pdu (hear p m) else serveMember p role.1 pdu (hear p m) := by
  rw [forwardedRequestEff, whenLanes_act hl]
  exact if_neg (by simp [hg])

theorem arpRequestEff_other {ip asker : BitVec 32} {mac : BitVec 48} (h : ip.toNat = 0 ∨ ip.toNat ≠ m.n Key.netIpAddress) :
    arpRequestEff ip mac asker m = m := by
  rw [arpRequestEff, whenLanes_act hl]
  exact if_pos h

end

/-- Settles O50: a connection by its source and time, a login by its proof, a forwarded request by its direction. -/
theorem connectionsAndForwarding : Obligations.ConnectionsAndForwarding := by
  unfold Obligations.ConnectionsAndForwarding
  refine ⟨⟨?connect, ?login, ?proof, ?ends⟩, ?forward, ?malformed, ?ip⟩
  case connect =>
    intro s t rq sub name m hl ht hn
    have hstep := connectEff_served (sub := sub) (name := name) hl ht hn
    have hform (hsub : sub.toNat ≤ 6) (hname : name.length = 16) : ¬ (6 < sub.toNat ∨ name.length ≠ 16) :=
      not_or.mpr ⟨Nat.not_lt.mpr hsub, not_not.mpr hname⟩
    exact ⟨fun h => exec_to (exec_connect ..) (hstep.trans (if_pos h)),
      fun hsub hname h8 => exec_to (exec_connect ..) (hstep.trans ((if_neg (hform hsub hname)).trans (if_pos h8))),
      fun hsub hname h8 => exec_to (exec_connect ..) (hstep.trans ((if_neg (hform hsub hname)).trans (if_neg (Nat.not_le.mpr h8))))⟩
  case login =>
    intro s t rq c role m n hs
    have hstep := loginStep1Eff_served hs role
    have hrole (h1 : 1 ≤ role.toNat) (h4 : role.toNat ≤ 4) : ¬ (role.toNat < 1 ∨ 4 < role.toNat) :=
      not_or.mpr ⟨Nat.not_lt.mpr h1, Nat.not_lt.mpr h4⟩
    exact ⟨fun h => exec_to (exec_loginStep1 ..) (hstep.trans (if_pos h)),
      fun h1 h4 hb => exec_to (exec_loginStep1 ..) (hstep.trans ((if_neg (hrole h1 h4)).trans (if_pos hb))),
      fun h1 h4 hb => exec_to (exec_loginStep1 ..) (hstep.trans ((if_neg (hrole h1 h4)).trans (if_neg (Bool.eq_false_iff.mp hb)))),
      exec_to (exec_logout ..) (logoutEff_served hs)⟩
  case proof =>
    intro s t rq c proof nonce at_ role m n e cred hs
    refine ⟨fun hb => exec_to (exec_loginStep2 ..) (loginStep2Eff_blocked hs hb),
      fun hb hn => exec_to (exec_loginStep2 ..) (loginStep2Eff_noNonce hs hb rfl hn), fun hb hn => ?_⟩
    have hstep := loginStep2Eff_nonce (proof := proof) hs hb (e := e) rfl hn
    refine ⟨fun h => exec_to (exec_loginStep2 ..) (hstep.trans (if_neg ?_)),
      fun hp ht => exec_to (exec_loginStep2 ..) (hstep.trans (if_pos ⟨hp, ht⟩))⟩
    rintro ⟨hp, ht⟩
    exact h.elim (fun h => h hp) (fun h => absurd ht (Nat.not_le.mpr h))
  case ends =>
    intro s t h src m hu
    refine ⟨exec_to (exec_loginBlockEnd ..) (loginBlockEndEff_up hu), fun c hc => ?_⟩
    intro over_ down
    refine ⟨fun ht => exec_to (exec_connectionTimeout ..) (connectionTimeoutEff_over hu hc ht),
      fun ht hs => exec_to (exec_connectionTimeout ..) (m := m) (connectionTimeoutEff_usb hu hc hs ht), fun p hs ht => ?_⟩
    have hstep := connectionTimeoutEff_port hu hc hs ht
    refine ⟨fun hd => exec_to (exec_connectionTimeout ..) (hstep.trans (if_pos ?_)),
      fun hd => exec_to (exec_connectionTimeout ..) (m := m) (hstep.trans (if_neg ?_))⟩
    · obtain ⟨hdown, hsince⟩ := hd
      rw [hdown, decide_eq_true hsince]
      rfl
    · intro hb
      obtain ⟨hdown, hsince⟩ := Bool.and_eq_true_iff.mp hb
      exact hd ⟨(Bool.not_eq_true' _).mp hdown, of_decide_eq_true hsince⟩
  case forward =>
    intro s t rq end_ kind m hl
    exact ⟨fun hf ht => exec_to (exec_forwardTimeout ..) (forwardTimeoutEff_over hl hf ht),
      fun hf ht => exec_to (exec_forwardTimeout ..) (m := m) (forwardTimeoutEff_early hl hf ht),
      fun p role pdu hg => ⟨exec_to (exec_forwardedRequest ..) (forwardedRequestEff_member hl hg),
        exec_to (exec_forwardedRequest ..) (forwardedRequestEff_member hl hg)⟩⟩
  case malformed =>
    intro s t pdu m hr
    exact ⟨fun h => exec_to (exec_malformedPdu ..) (m := m) ((whenUp_running hr _).trans (if_pos h)),
      fun h => exec_to (exec_malformedPdu ..) (m := m) ((whenUp_running hr _).trans (if_neg (Bool.eq_false_iff.mp h)))⟩
  case ip =>
    intro s t ip asker mac data m own hl
    refine ⟨fun h0 => ⟨exec_to (exec_arpRequest ..) (m := m) (arpRequestEff_other hl ?_),
        exec_to (exec_icmpEcho ..) (m := m) ((whenLanes_act hl _).trans (if_pos h0))⟩,
      fun hne => exec_to (exec_arpRequest ..) (m := m) (arpRequestEff_other hl (.inr hne)),
      fun h0 => exec_to (exec_icmpEcho ..) (m := m) ((whenLanes_act hl _).trans (if_neg h0)),
      fun h0 he => exec_to (exec_arpRequest ..) (m := m) ((whenLanes_act hl _).trans (if_neg ?_))⟩
    · rw [h0]
      exact eq_or_ne _ _
    · exact not_or.mpr ⟨fun h => h0 (he.symm.trans h), not_not.mpr he⟩

end Sys2Proof.Proofs.Connections
end

section
/-! SUPPORT. Ethernet and USB ports, the ring, gPTP and the transmit schedule (R350 to R356, R386, R387). -/

namespace Sys2Proof.Proofs.Ports

open Sys2Proof.Machine Sys2Proof.Laws Sys2Proof.Proofs.Block Sys2Proof.Proofs.Pwm Sys2Proof.Proofs.Commit

/-! ### Links and frames (R350 to R352) -/

section
variable {m : Mach} (hr : m.running = true)
include hr

section
variable {p : Fin 2} {speed : Fin 3}

theorem ethernetPortUpEff_refused {full : Bool} (h : m.net.ports[p].up = true ∨ full = false ∨ m.speedAllowed p speed = false) :
    ethernetPortUpEff p speed full m = m := by
  rw [ethernetPortUpEff, whenUp_running hr]
  refine if_pos ?_
  rcases h with h | h | h
  · exact .inl h
  · exact .inr (.inl (congrArg (!·) h))
  · exact .inr (.inr (.inl (congrArg (!·) h)))

theorem ethernetPortUpEff_up {e : Mach} (hu : m.net.ports[p].up = false) (hs : m.speedAllowed p speed = true)
    (hp : m.n Key.supplyStatus / 64 % 4 = 0)
    (he : linkTell p true (raiseM 0x64 (p.1 + 1) ((m.modEth p (fun x => { x with up := true, speed := speed })).causeGone 0x63 none none (p.1 + 1))) = e) :
    ethernetPortUpEff p speed true m = if e.n Key.ringRole = 1 ∧ e.net.ports[0].up ∧ e.net.ports[1].up then ringClose e else e := by
  subst he
  rw [ethernetPortUpEff, whenUp_running hr]
  refine if_neg ?_
  rintro (h | h | h | h)
  · exact absurd (hu.symm.trans h) (by decide)
  · exact absurd h (by decide)
  · exact absurd (hs.symm.trans ((Bool.not_eq_true' _).mp h)) (by decide)
  · exact h hp

end

/-- Whether a frame stays in the device: it is the device's own, or link-local (R350). -/
def staysHere (f : List Byte) (m : Mach) : Bool :=
  beNat (f.take 6) == beNat (valBytes (m.val Key.netMacAddress)) || beNat (f.take 6) / 16 == 0x0180C200000

omit hr in
theorem staysHere_iff (f : List Byte) (m : Mach) : staysHere f m = true ↔
    beNat (f.take 6) = beNat (valBytes (m.val Key.netMacAddress)) ∨ beNat (f.take 6) / 16 = 0x0180C200000 := by
  simp [staysHere]

omit hr in
theorem staysHere_of_passes {f : List Byte} {m : Mach} (ho : beNat (f.take 6) ≠ beNat (valBytes (m.val Key.netMacAddress)))
    (hlocal : beNat (f.take 6) / 16 ≠ 0x0180C200000) : staysHere f m = false :=
  Bool.eq_false_iff.mpr fun h => ((staysHere_iff f m).mp h).elim ho hlocal

section
variable {p : Fin 2} {f : List Byte} (hp : m.net.ports[p].up = true) (hq : m.net.ports[other p].up = true)
  (hpb : m.net.ports[p].blocked = false) (hqb : m.net.ports[other p].blocked = false)
include hp hq hpb hqb

theorem frameForwardEff_good (hf : fcsOk f = true) : frameForwardEff p f m =
    if staysHere f m then m else frameOut (other p) (m.scheduled (framePrio f)) f m := by
  rw [frameForwardEff, whenUp_running hr]
  simp [-Fin.getElem_fin, staysHere, hf, hp, hq, hpb, hqb]

theorem frameForwardEff_bad {e : Mach} (hf : fcsOk f = false) (he : m.inc (Key.portFcsErrorCount p.1) = e) : frameForwardEff p f m =
    if staysHere f m || !(m.net.ports[p].speed == 2 && m.net.ports[other p].speed == 2 && m.b Key.cutThroughEnable) then e
    else frameOut (other p) (e.scheduled (framePrio f)) f e := by
  subst he
  rw [frameForwardEff, whenUp_running hr]
  simp only [staysHere, hf, hp, hq, hpb, hqb, Bool.not_true, Bool.not_false, Bool.false_or, Bool.true_and, Bool.false_eq_true, if_false]
  rfl

end

/-! ### The ring and the USB port (R352, R386, R387) -/

section
variable {p : Fin 2}

theorem mrpFrameEff_test (own : Bool) : mrpFrameEff p (.test own) m =
    if m.n Key.ringRole = 2 ∧ own then ringClose (m.modNet (fun n => { n with mrpSeen := m.ns })) else m := whenUp_running hr _

theorem mrpFrameEff_linkDown : mrpFrameEff p .linkDown m = if m.n Key.ringRole = 2 then ringBreak m else m := whenUp_running hr _

theorem mrpFrameEff_linkUp : mrpFrameEff p .linkUp m = m := whenUp_running hr _

theorem mrpFrameEff_topologyChange : mrpFrameEff p .topologyChange m =
    if m.n Key.ringRole = 1 ∧ !(m.net.ports[0].up && m.net.ports[1].up) then ringOpen m else m := whenUp_running hr _

end

theorem usbAttachEff_enumerated (hu : m.n Key.usbState = 0) (he : m.b Key.usbEnable = true) (hp : m.n Key.supplyStatus / 64 % 4 = 0) :
    usbAttachEff m = whenUp (raiseM 0x6D 1) ((m.putN Key.usbState 2).inc Key.usbAttachCount) :=
  if_neg (by simp [hr, hu, he, hp])

/-! ### gPTP (R353, R354) -/

/-- The clock after a sync: the grandmaster's offset and rate, R354. -/
def syncKept (gm : BitVec 64) (time : Nat) (n : Mach) : Mach :=
  let g := n.net.gptp
  let run := decide (g.syncs ≠ 0 ∧ n.ns < g.lastSync + 3 * n.syncInterval ∧ g.lastSync < n.ns)
  let e := n.modNet (fun x => { x with gptp := { x.gptp with
    gm := gm, rateNum := if run then time - g.lastTime else 1, rateDen := if run then n.ns - g.lastSync else 1, lastSync := n.ns,
    lastTime := time, syncs := if run then g.syncs + 1 else 1 } })
  (e.putI 64 Key.gptpOffsetToTimebase ((time : Int) - n.ns)).put Key.gptpGrandmasterId (.bytes (beBytes 8 gm.toNat))

/-- The sync goes on through a port that no command tells (log entry 42). -/
def syncRelay (gm : BitVec 64) (time : Nat) (m : Mach) : Mach := gptpSend gm time (fin2 (m.freeNow.toNat % 2)) m.drew

theorem gptpSyncEff_heard {gm : BitVec 64} {time : Nat} {n e : Mach} (hg : m.b Key.gptpEnable = true)
    (hn : (if m.net.gptp.gm = gm then m else syncLost m) = n) (he : syncKept gm time n = e) :
    gptpSyncEff gm time m = syncRelay gm time (if 2 ≤ e.net.gptp.syncs ∧ e.n Key.gptpState ≠ 2 then syncGained 2 e else e) := by
  have hn' : (if m.net.gptp.gm ≠ gm then syncLost m else m) = n := (ite_not ..).trans hn
  subst he hn'
  rw [gptpSyncEff, whenUp_running hr]
  exact if_neg (by simp [hg])

section
variable {gm : BitVec 64} (hg : m.b Key.gptpEnable = true)
include hg

theorem gptpAnnounceEff_better : gptpAnnounceEff gm true m =
    if gm = m.net.gptp.gm then m else (syncLost m).modNet (fun n => { n with gptp := { n.gptp with gm := gm, syncs := 0 } }) := by
  rw [gptpAnnounceEff, whenUp_running hr]
  exact (if_neg (by simp [hg])).trans (if_pos rfl)

theorem gptpAnnounceEff_worse : gptpAnnounceEff gm false m =
    if m.net.gptp.gm = 0 ∧ m.n Key.gptpPriority1 < 255 then syncGained 3 m else m := by
  rw [gptpAnnounceEff, whenUp_running hr]
  exact (if_neg (by simp [hg])).trans (if_neg (by decide))

end
end

theorem sameSource_usb_of_ne {src : Source} (h : src ≠ .usb) : sameSource src .usb = false := by
  cases src with
  | usb => exact absurd rfl h
  | eth | udp | canopy => rfl

section
variable {m : Mach} (hu : m.up ≠ none)
include hu

theorem usbDetachEff_none (h : m.n Key.usbState = 0) : usbDetachEff m = m :=
  (if_neg fun h => hu (Option.isNone_iff_eq_none.mp h)).trans (if_pos h)

theorem usbDetachEff_noConns (h : m.n Key.usbState ≠ 0) (hc : ∀ c ∈ m.net.conns, c.src ≠ .usb) :
    usbDetachEff m = whenUp (raiseM 0x6D 0) (m.putN Key.usbState 0) := by
  have hnone : m.net.conns.filter (fun c => sameSource c.src .usb) = [] :=
    List.filter_eq_nil_iff.mpr fun c hmem => Bool.eq_false_iff.mp (sameSource_usb_of_ne (hc c hmem))
  rw [usbDetachEff, if_neg (fun h => hu (Option.isNone_iff_eq_none.mp h)), usbGone, hnone]
  exact if_neg h

end

/-- Settles O51: a link by the port's state, a frame by its address and FCS, the clock by its grandmaster and state. -/
theorem portsAndNetworkTime : Obligations.PortsAndNetworkTime := by
  unfold Obligations.PortsAndNetworkTime
  refine ⟨⟨?links, ?frames, ?ring⟩, ?sync, ?announce, ?gates⟩
  case links =>
    intro s t p speed m hr
    refine ⟨fun hu => exec_to (exec_ethernetPortDown ..) (m := m) ((whenUp_running hr _).trans ((if_pos hu).trans ?_)),
      fun hu => exec_to (exec_ethernetPortDown ..) (m := m) ((whenUp_running hr _).trans (if_neg (Bool.eq_false_iff.mp hu))),
      ⟨fun full h => exec_to (exec_ethernetPortUp ..) (m := m) (ethernetPortUpEff_refused hr (h.imp_right .inr)),
        exec_to (exec_ethernetPortUp ..) (m := m) (ethernetPortUpEff_refused hr (.inr (.inl rfl)))⟩, fun hu hs hp => ?_⟩
    · exact congrArg (linkTell p false) (if_neg (by rw [hu]; decide))
    · intro e
      have hstep := ethernetPortUpEff_up hr hu hs hp (e := e) rfl
      refine ⟨fun h => exec_to (exec_ethernetPortUp ..) (hstep.trans (if_neg ?_)),
        fun hrole h0 h1 => exec_to (exec_ethernetPortUp ..) (hstep.trans (if_pos ⟨hrole, h0, h1⟩))⟩
      rintro ⟨hrole, h0, h1⟩
      rcases h with h | h | h
      exacts [h hrole, absurd (h.symm.trans h0) (by decide), absurd (h.symm.trans h1) (by decide)]
  case frames =>
    intro s t p f m own dst hr hp hq hpb hqb
    refine ⟨fun hf => ?_, fun hf => ?_⟩
    · have hstep := frameForwardEff_good hr hp hq hpb hqb hf
      exact ⟨fun ho hlocal => exec_to (exec_frameForward ..) (hstep.trans (if_neg (Bool.eq_false_iff.mp (staysHere_of_passes ho hlocal)))),
        fun h => exec_to (exec_frameForward ..) (m := m) (hstep.trans (if_pos ((staysHere_iff f m).mpr h)))⟩
    · intro e
      have hstep := frameForwardEff_bad hr hp hq hpb hqb (e := e) hf rfl
      refine ⟨fun h => exec_to (exec_frameForward ..) (hstep.trans (if_pos ?_)),
        fun h1 h2 h3 ho hlocal => exec_to (exec_frameForward ..) (hstep.trans (if_neg ?_))⟩
      · rcases h with h | h | h <;> simp [-Fin.getElem_fin, h]
      · simp [-Fin.getElem_fin, h1, h2, h3, staysHere_of_passes ho hlocal]
  case ring =>
    intro s t p m hr
    have hu : m.up ≠ none := fun h => by simp [Mach.running, h] at hr
    refine ⟨fun h => ⟨?_, ?_⟩, fun h => ⟨?_, ?_⟩, ?_, exec_to (exec_mrpFrame ..) (m := m) (mrpFrameEff_linkUp hr), fun h1 h => ?_, fun h => ?_,
      fun h0 he hp => exec_to (exec_usbAttach ..) (usbAttachEff_enumerated hr h0 he hp),
      fun h0 => exec_to (exec_usbDetach ..) (m := m) (usbDetachEff_none hu h0),
      fun h0 hc => exec_to (exec_usbDetach ..) (usbDetachEff_noConns hu h0 hc)⟩
    · exact exec_to (exec_mrpFrame ..) (m := m) ((mrpFrameEff_test hr true).trans (if_pos ⟨h, rfl⟩))
    · exact exec_to (exec_mrpFrame ..) (m := m) ((mrpFrameEff_linkDown hr).trans (if_pos h))
    · exact exec_to (exec_mrpFrame ..) (m := m) ((mrpFrameEff_test hr true).trans (if_neg fun h2 => h h2.1))
    · exact exec_to (exec_mrpFrame ..) (m := m) ((mrpFrameEff_linkDown hr).trans (if_neg h))
    · exact exec_to (exec_mrpFrame ..) (m := m) ((mrpFrameEff_test hr false).trans (if_neg fun h2 => absurd h2.2 (by decide)))
    · refine exec_to (exec_mrpFrame ..) (m := m) ((mrpFrameEff_topologyChange hr).trans (if_pos ⟨h1, ?_⟩))
      rcases h with h | h <;> simp [-Fin.getElem_fin, h]
    · refine exec_to (exec_mrpFrame ..) (m := m) ((mrpFrameEff_topologyChange hr).trans (if_neg ?_))
      rintro ⟨h1, h2⟩
      rcases h with h | ⟨ha, hb⟩
      · exact h h1
      · rw [ha, hb] at h2
        exact absurd h2 (by decide)
  case sync =>
    intro s t gm time m n g run e₀ e relay hr hg
    have hstep := gptpSyncEff_heard (time := time) hr hg (n := n) (e := e) rfl rfl
    refine ⟨fun h2 hst => exec_to (exec_gptpSync ..) (hstep.trans (congrArg (syncRelay gm time) (if_pos ⟨h2, hst⟩))),
      fun h => exec_to (exec_gptpSync ..) (hstep.trans (congrArg (syncRelay gm time) (if_neg ?_)))⟩
    rintro ⟨h2, hst⟩
    exact h.elim (fun h => absurd h2 (Nat.not_le.mpr h)) hst
  case announce =>
    intro s t gm m hr
    have hoff (h : m.b Key.gptpEnable = false) : (!m.b Key.gptpEnable) = true := congrArg (!·) h
    refine ⟨fun h => ⟨fun b => exec_to (exec_gptpAnnounce ..) (m := m) ((whenUp_running hr _).trans (if_pos (hoff h))),
        fun time => exec_to (exec_gptpSync ..) (m := m) ((whenUp_running hr _).trans (if_pos (hoff h)))⟩,
      fun hg hne => exec_to (exec_gptpAnnounce ..) ((gptpAnnounceEff_better hr hg).trans (if_neg hne)),
      fun hg he => exec_to (exec_gptpAnnounce ..) (m := m) ((gptpAnnounceEff_better hr hg).trans (if_pos he)),
      fun hg h0 hp => exec_to (exec_gptpAnnounce ..) ((gptpAnnounceEff_worse hr hg).trans (if_pos ⟨h0, hp⟩)),
      fun hg h => exec_to (exec_gptpAnnounce ..) (m := m) ((gptpAnnounceEff_worse hr hg).trans (if_neg ?_)),
      fun hst ht => exec_to (exec_gptpSyncTimeout ..) (m := m) ((whenUp_running hr _).trans (if_pos ⟨hst, ht⟩)),
      fun ht => exec_to (exec_gptpSyncTimeout ..) (m := m) ((whenUp_running hr _).trans (if_neg fun h => absurd ht (Nat.not_lt.mpr h.2)))⟩
    rintro ⟨h0, hp⟩
    exact h.elim (fun h => h h0) (fun h => absurd hp (Nat.not_lt.mpr h))
  case gates =>
    intro s t p m g goes hr
    exact exec_to (exec_gateControlChange ..) (m := m) (whenUp_running hr _)

end Sys2Proof.Proofs.Ports
end

section
/-! SUPPORT. Process data (R367 to R371). -/

namespace Sys2Proof.Proofs.ProcessData

open Sys2Proof.Machine Sys2Proof.Laws Sys2Proof.Proofs.Block Sys2Proof.Proofs.Writes Sys2Proof.Proofs.Commit Sys2Proof.Proofs.Start

/-- Bytes of a received frame that the map takes, R367. -/
def rxLength (m : Mach) : Nat := ((m.pdMap Key.pdRxMapCount Key.pdRxMapEntry).map (fun e => tyWidth e.2)).sum

/-- The owner's frame waits for the boundary, R368. -/
def frameKept (c : Conn) (src : Source) (n : BitVec 16) (b : List Byte) (m : Mach) : Mach :=
  let e := touch { handle := c.handle, rid := 0, src := src } m
  let e := (if e.net.pd.frame.isSome then e.inc Key.pdRxOverwriteCount else e).modNet (fun x => { x with
    pd := { x.pd with lastRx := some n, frame := some b, missed := 0 } })
  (e.putN Key.pdState 2).causeGone 0x69 none none 0xFF

section
variable {m : Mach} (hl : m.lanesAct = true)
include hl

theorem processDataEff_owner {src : Source} {n last : BitVec 16} {b : List Byte} {c : Conn}
    (hc : m.net.conns.find? (fun c => c.handle.toNat == m.n Key.pdOwner && sameSource c.src src) = some c) (hlast : m.net.pd.lastRx = some last) :
    processDataEff src n b m =
      if ¬ (1 ≤ (n - last).toNat ∧ (n - last).toNat ≤ 32767) ∨ b.length ≠ rxLength m then m else frameKept c src n b m := by
  rw [processDataEff, whenLanes_act hl]
  simp only [hc, hlast, Bool.not_eq_true', decide_eq_false_iff_not]
  rfl

section
variable {at_ : Nat} {e : Mach} (hd : m.net.pd.txAt = some at_) (ht : at_ ≤ m.ns)
  (he : m.modNet (fun n => { n with pd := { n.pd with txAt := none } }) = e)
include hd ht he

theorem pdTransmitEff_broadcast (hb : e.b Key.pdTxBroadcast = true) : pdTransmitEff m = sendCyclic two (List.replicate 6 0xFF)
    (pduHeader 1 (16 + m.net.pd.txData.length) 0 m.net.pd.txCount.toNat 0 anyUnit ++ m.net.pd.txData) e := by
  subst he
  rw [pdTransmitEff, whenLanes_act hl]
  exact (if_neg (by simp [due_of_le hd ht])).trans (if_pos hb)

variable (hb : e.b Key.pdTxBroadcast = false)
include hb

theorem pdTransmitEff_noOwner (hc : e.conn? (BitVec.ofNat 16 (e.n Key.pdOwner)) = none) : pdTransmitEff m = e := by
  subst he
  rw [pdTransmitEff, whenLanes_act hl]
  dsimp only
  rw [if_neg (by simp [due_of_le hd ht]), if_neg (Bool.eq_false_iff.mp hb)]
  simp only [hc]

section
variable {c : Conn} (hc : e.conn? (BitVec.ofNat 16 (e.n Key.pdOwner)) = some c)
include hc

theorem pdTransmitEff_ethernet {p : Fin 2} {mac : BitVec 48} (hs : c.src = .eth p mac) : pdTransmitEff m = sendCyclic [p] (beBytes 6 mac.toNat)
    (pduHeader 1 (16 + m.net.pd.txData.length) 0 m.net.pd.txCount.toNat 0 anyUnit ++ m.net.pd.txData) e := by
  subst he
  rw [pdTransmitEff, whenLanes_act hl]
  dsimp only
  rw [if_neg (by simp [due_of_le hd ht]), if_neg (Bool.eq_false_iff.mp hb)]
  simp only [hc, hs]

theorem pdTransmitEff_reply (hs : ∀ p mac, c.src ≠ .eth p mac) :
    pdTransmitEff m = e.emit (.reply 1 { handle := 0, rid := m.net.pd.txCount, src := c.src } 0 m.net.pd.txData) := by
  subst he
  rw [pdTransmitEff, whenLanes_act hl]
  dsimp only
  rw [if_neg (by simp [due_of_le hd ht]), if_neg (Bool.eq_false_iff.mp hb)]
  simp only [hc]

end
end

theorem processDataTimeoutEff_owned (hs : m.n Key.pdState = 1 ∨ m.n Key.pdState = 2) : processDataTimeoutEff m =
    if m.n Key.pdTimeout ≤ m.net.pd.missed then raiseM 0x69 0xFF (m.putN Key.pdState 3) else m := by
  rw [processDataTimeoutEff, whenLanes_act hl]
  simp only [hs, true_and]

end

/-- The transmitted values of a cycle, latched at its boundary (R367, R370). -/
def txLatched (fresh : Bool) (e : Mach) : Mach :=
  let data := (e.pdMap Key.pdTxMapCount Key.pdTxMapEntry).flatMap
    (fun x => carryVal x.2 (if x.1 / 256 = 0x2840 then e.unitView .device (x.1 % 256) else e.view x.1))
  e.modNet (fun x => { x with pd := { x.pd with
    missed := if fresh then 0 else x.pd.missed + 1, txCount := x.pd.txCount + 1, txData := data, txAt := some (e.ns + us (e.n Key.pdTxOffset)) } })

section
variable {m : Mach} (hr : m.running = true)
include hr

theorem networkBoundaryEff_early (h : m.networkDue = none) : networkBoundaryEff m = m := by
  rw [networkBoundaryEff, whenUp_running hr]
  simp only [h]

theorem networkBoundaryEff_due {at_ : Nat} {d : Mach} (h : m.networkDue = some at_)
    (hd : m.modNet (fun n => { n with pd := { n.pd with cycleAt := at_ } }) = d) : networkBoundaryEff m =
      if !d.lanesAct then boundaryOf .network d
      else txLatched d.net.pd.frame.isSome (standCycle (standProgress (boundaryOf .network (pdApply d)))) := by
  subst hd
  rw [networkBoundaryEff, whenUp_running hr]
  simp only [h]
  rfl

end

/-! ### Pd.Control (R369) -/

section
variable {h : BitVec 16} {n : Mach}

theorem pdControl_taken (h0 : n.n Key.pdOwner = 0) (hne : h.toNat ≠ 0) (hm : h ≠ 0xFFFF) : pdControl h true n =
    ((((n.putN Key.pdOwner h.toNat).putN Key.pdControl 1).putN Key.pdState 1).modNet (fun x => { x with
      pd := { cycleAt := x.pd.cycleAt, txCount := x.pd.txCount } }), 0) := by
  simp only [pdControl, if_true, h0, hne.symm, hm, ne_eq, not_true_eq_false, or_self, if_false]

theorem pdControl_refused (h0 : n.n Key.pdOwner ≠ 0 ∨ h = 0xFFFF) (hne : n.n Key.pdOwner ≠ h.toNat) : pdControl h true n = (n, 8) := by
  simp only [pdControl, if_true, hne, h0, if_false]

theorem pdControl_owned (he : n.n Key.pdOwner = h.toNat) : pdControl h true n = (n, 0) := by simp only [pdControl, if_true, he]

theorem pdControl_released (he : n.n Key.pdOwner = h.toNat) : pdControl h false n = (pdRelease n, 0) := by
  simp only [pdControl, Bool.false_eq_true, if_false, he, if_true]

theorem pdControl_notOwned (he : n.n Key.pdOwner ≠ h.toNat) : pdControl h false n = (n, 0) := by
  simp only [pdControl, Bool.false_eq_true, if_false, he]

end

/-- A write of Pd.Control that is accepted is answered with what it makes of the ownership, R369. -/
theorem exec_pdControl_accepted {s : Machine.State} {t : Time} {rq : Req} {c : Conn} {run : Bool} {e : Mach} {st : Nat}
    (h : (s.core.at_ t).accepts rq c Key.pdControl [if run then 1 else 0] (.num (if run then 1 else 0)))
    (hp : pdControl (ownerOf rq) run (touch rq (s.core.at_ t)) = (e, st)) :
    exec (.pdControl t rq run) s = .next (s.after t (reply 3 rq st [] e)) := by
  have hrun : (valNat (.num (if run then 1 else 0)) == 1) = run := by cases run <;> rfl
  have hperf : perform rq c.role Key.pdControl (.num (if run then 1 else 0)) (touch rq (s.core.at_ t)) = (e, some st) := by
    rw [perform_pdControl, hrun, hp]
  rw [exec_pdControl, writeHere_accepted h (by decide) (by decide) hperf]

/-- Settles O52: a frame by its owner and counter, the boundary by its time, the transmission by the owner's source. -/
theorem processData : Obligations.ProcessData := by
  unfold Obligations.ProcessData
  refine ⟨?received, ?boundary, ?transmit, ?timeout, ?control⟩
  case received =>
    intro s t src n last b c m len hl hc hlast
    have hstep := processDataEff_owner (n := n) (b := b) hl hc hlast
    refine ⟨fun h => exec_to (exec_processData ..) (m := m) (hstep.trans (if_pos ?_)),
      fun h1 h2 hb => exec_to (exec_processData ..) (hstep.trans (if_neg ?_))⟩
    · rcases h with h | h | h
      · exact .inl fun hd => absurd hd.1 (by rw [h]; decide)
      · exact .inl fun hd => absurd h (Nat.not_lt.mpr hd.2)
      · exact .inr h
    · rintro (h | h)
      · exact h ⟨h1, h2⟩
      · exact h hb
  case boundary =>
    intro s t at_ m d e
    refine ⟨fun hr h => exec_to (exec_networkBoundary ..) (m := m) (networkBoundaryEff_early hr h),
      fun hr h hl => exec_to (exec_networkBoundary ..) ((networkBoundaryEff_due hr h (d := d) rfl).trans (if_pos (congrArg (!·) hl))),
      fun hr h hl => exec_to (exec_networkBoundary ..) ((networkBoundaryEff_due hr h (d := d) rfl).trans (if_neg ?_))⟩
    rw [hl]
    decide
  case transmit =>
    intro s t at_ m e pdu hl hd
    exact ⟨fun ht => exec_to (exec_pdTransmit ..) (m := m) ((whenLanes_act hl _).trans (if_pos (by simpa using not_due_of_lt hd ht))),
      fun ht hb => exec_to (exec_pdTransmit ..) (pdTransmitEff_broadcast hl hd ht rfl hb),
      fun ht hb hc => exec_to (exec_pdTransmit ..) (pdTransmitEff_noOwner hl hd ht rfl hb hc),
      fun c p mac ht hb hc hs => exec_to (exec_pdTransmit ..) (pdTransmitEff_ethernet hl hd ht rfl hb hc hs),
      fun c ht hb hc hs => exec_to (exec_pdTransmit ..) (pdTransmitEff_reply hl hd ht rfl hb hc hs)⟩
  case timeout =>
    intro s t m hl hs
    have hstep := processDataTimeoutEff_owned hl hs
    exact ⟨fun h => exec_to (exec_processDataTimeout ..) (hstep.trans (if_pos h)),
      fun h => exec_to (exec_processDataTimeout ..) (m := m) (hstep.trans (if_neg (Nat.not_le.mpr h)))⟩
  case control =>
    intro s t rq c m n h
    exact ⟨fun ha h0 hne hm => exec_pdControl_accepted (run := true) ha (pdControl_taken h0 hne hm),
      fun ha h0 hne => exec_pdControl_accepted (run := true) ha (pdControl_refused h0 hne),
      fun ha he => exec_pdControl_accepted (run := true) ha (pdControl_owned he),
      fun ha he => exec_pdControl_accepted (run := false) ha (pdControl_released he),
      fun ha he => exec_pdControl_accepted (run := false) ha (pdControl_notOwned he)⟩

end Sys2Proof.Proofs.ProcessData
end

section
/-! SUPPORT. How sessions end (R379 to R383). -/

namespace Sys2Proof.Proofs.SessionsEnd

open Sys2Proof.Machine Sys2Proof.Laws Sys2Proof.Proofs.Block Sys2Proof.Proofs.Commit Sys2Proof.Proofs.Connections

section
variable {m : Mach} {rq : Req} {sid : BitVec 32} {c : Conn} {z : Session}

section
variable (h : m.inSession rq sid c z)
include h

theorem sessionAbortEff_open : sessionAbortEff rq sid m = say rq sid 9 0 [1, 1, 0, 0] (abortSession 0x01 0 z (touch rq m)) := by
  obtain ⟨hs, hz⟩ := h
  rw [sessionAbortEff, servePdu_serves hs]
  simp only [hz]

variable (hd : z.down = true)
include hd

theorem sessionFinishEff_incomplete (he : z.e < z.segments) : sessionFinishEff rq sid m =
    nak rq { z with last := (touch rq m).ns } (modSession sid (fun x => { x with last := (touch rq m).ns }) (touch rq m)) := by
  obtain ⟨hs, hz⟩ := h
  rw [sessionFinishEff, servePdu_serves hs]
  simp only [hz, hd, Bool.not_true, Bool.false_eq_true, if_false, if_pos he]

theorem sessionFinishEff_complete {y : Session} (he : z.segments ≤ z.e) (hc : z.committing = false)
    (hy : { z with last := (touch rq m).ns, finish := some rq } = y) : sessionFinishEff rq sid m =
      if crc32c z.content ≠ z.crc then abortSession 0x03 0 y (modSession sid (fun _ => y) (touch rq m))
      else finishEff c.role y (modSession sid (fun _ => y) (touch rq m)) := by
  obtain ⟨hs, hz⟩ := h
  subst hy
  rw [sessionFinishEff, servePdu_serves hs]
  simp only [hz, hd, hc, Bool.not_true, Bool.false_eq_true, if_false, if_neg (Nat.not_lt.mpr he)]

end

section
variable (hs : m.servesPdu rq c) (hn : (touch rq m).sess.opened.find? (fun s => s.sid == sid && s.conn == rq.handle) = none)
include hs hn

theorem sessionFinishEff_unknown : sessionFinishEff rq sid m =
    if (touch rq m).sess.done.contains (sid, rq.handle, true) then say rq sid 7 0 [0, 0, 0, 0] (touch rq m)
    else reply 9 rq 0x000B [] (touch rq m) := by
  rw [sessionFinishEff, servePdu_serves hs]
  simp only [hn]

theorem sessionAbortEff_unknown : sessionAbortEff rq sid m =
    if (touch rq m).sess.done.any (fun d => d.1 == sid && d.2.1 == rq.handle) then say rq sid 9 0 [0, 0, 0, 0] (touch rq m)
    else reply 9 rq 0x000B [] (touch rq m) := by
  rw [sessionAbortEff, servePdu_serves hs]
  simp only [hn]

theorem sessionAckEff_unknown (q : BitVec 16) : sessionAckEff rq sid q m = reply 9 rq 0x000B [] (touch rq m) := by
  rw [sessionAckEff, serveSess, servePdu_serves hs]
  simp only [hn]

end

section
variable (hl : m.lanesAct = true) (hz : m.sessOf sid = some z)
include hl hz

theorem sessionRetryTimeoutEff_open :
    sessionRetryTimeoutEff sid m = if (!z.down) = true ∧ z.retryAt ≤ m.ns then resend z m else m := by
  rw [sessionRetryTimeoutEff, whenServes, if_pos (by rw [hl]; rfl)]
  simp only [hz]

theorem sessionIdleTimeoutEff_open : sessionIdleTimeoutEff sid m =
    if z.last + ms (m.n Key.sessionIdleTimeout) ≤ m.ns then abortTell 0x02 z m else m := by
  rw [sessionIdleTimeoutEff, whenServes, if_pos (by rw [hl]; rfl)]
  simp only [hz]

end
end

/-- Settles O54: a FINISH by what has come and its CRC, an unknown session by what is remembered of it, the timeouts by their time. -/
theorem sessionsEnd : Obligations.SessionsEnd := by
  unfold Obligations.SessionsEnd
  refine ⟨?known, ?unknown, ?timeouts⟩
  case known =>
    intro s t rq sid c z m n y h hd
    refine ⟨fun he hc => ?_, fun he => exec_to (exec_sessionFinish ..) (sessionFinishEff_incomplete h hd he),
      exec_to (exec_sessionAbort ..) (sessionAbortEff_open h)⟩
    have hstep := sessionFinishEff_complete h hd (y := y) he hc rfl
    exact ⟨fun hcrc => exec_to (exec_sessionFinish ..) (hstep.trans (if_pos hcrc)),
      fun hcrc => exec_to (exec_sessionFinish ..) (hstep.trans (if_neg (not_not.mpr hcrc)))⟩
  case unknown =>
    intro s t rq sid c m n hs hne
    have hn : n.sess.opened.find? (fun s => s.sid == sid && s.conn == rq.handle) = none :=
      List.find?_eq_none.mpr fun x hx hxs => hne x hx (beq_iff_eq.mp (Bool.and_eq_true_iff.mp hxs).1)
    exact ⟨fun h => exec_to (exec_sessionFinish ..) ((sessionFinishEff_unknown hs hn).trans (if_pos h)),
      fun h code => exec_to (exec_sessionAbort ..) ((sessionAbortEff_unknown hs hn).trans (if_pos h)),
      fun h => exec_to (exec_sessionFinish ..) ((sessionFinishEff_unknown hs hn).trans (if_neg (Bool.eq_false_iff.mp h))),
      fun h code => exec_to (exec_sessionAbort ..) ((sessionAbortEff_unknown hs hn).trans (if_neg (Bool.eq_false_iff.mp h))),
      fun q => exec_to (exec_sessionAck ..) (sessionAckEff_unknown hs hn q)⟩
  case timeouts =>
    intro s t sid z m hl hz
    have hretry := sessionRetryTimeoutEff_open hl hz
    have hidle := sessionIdleTimeoutEff_open hl hz
    refine ⟨fun hd ht => exec_to (exec_sessionRetryTimeout ..) (hretry.trans (if_pos ⟨congrArg (!·) hd, ht⟩)),
      fun h => exec_to (exec_sessionRetryTimeout ..) (m := m) (hretry.trans (if_neg ?_)),
      fun ht => exec_to (exec_sessionIdleTimeout ..) (hidle.trans (if_pos ht)),
      fun ht => exec_to (exec_sessionIdleTimeout ..) (m := m) (hidle.trans (if_neg (Nat.not_le.mpr ht)))⟩
    rintro ⟨hd, ht⟩
    rcases h with h | h
    · exact absurd (h.symm.trans ((Bool.not_eq_true' _).mp hd)) (by decide)
    · exact absurd ht (Nat.not_le.mpr h)

end Sys2Proof.Proofs.SessionsEnd
end

section
/-! SUPPORT. Firmware activation and the commands of the configuration banks (R385, R407 to R409). -/

namespace Sys2Proof.Proofs.Banks

open Sys2Proof.Machine Sys2Proof.Laws Sys2Proof.Proofs.Block Sys2Proof.Proofs.Writes Sys2Proof.Proofs.Commit Sys2Proof.Proofs.Engine
open Sys2Proof.Proofs.Requests Sys2Proof.Proofs.BrakeTest

theorem bank4_val (b : Fin 4) : bank4 b.1 = b := Fin.ext (Nat.mod_eq_of_lt b.isLt)

/-! ### Firmware (R385) -/

section
variable {m : Mach} {rq : Req} {c : Conn} {slot : Fin 2}
  (h : m.accepts rq c Key.fwActivate [BitVec.ofNat 8 slot.1] (.num slot.1))
include h

theorem writeHere_fwActivate_refused (ha : (touch rq m).activateOk slot = false) :
    writeHere rq Key.fwActivate [BitVec.ofNat 8 slot.1] m = reply 3 rq 8 [] (touch rq m) := by
  obtain ⟨hs, hw⟩ := h
  have hp : perform rq c.role Key.fwActivate (.num slot.1) (touch rq m) = (touch rq m, some 8) := by
    rw [perform_fwActivate, valNat, fin2_val, ha]
    rfl
  rw [writeHere, writeEff_here hs (place_all_ones _), writeUnit_entry (k := Key.fwActivate) rfl (.inl (by decide))]
  simp only [writeEntry, hw, hp]
  exact if_neg (by decide)

theorem writeHere_fwActivate_done (ha : (touch rq m).activateOk slot = true) :
    writeHere rq Key.fwActivate [BitVec.ofNat 8 slot.1] m = fwActivate slot (reply 3 rq 0 [] (touch rq m)) := by
  obtain ⟨hs, hw⟩ := h
  have hp : perform rq c.role Key.fwActivate (.num slot.1) (touch rq m) = (touch rq m, some 0) := by
    rw [perform_fwActivate, valNat, fin2_val, ha]
    rfl
  rw [writeHere, writeEff_here hs (place_all_ones _), writeUnit_entry (k := Key.fwActivate) rfl (.inl (by decide))]
  simp only [writeEntry, hw, hp, if_true, afterAnswer, valNat, fin2_val]

end

theorem fwConfirm_noTrial {m : Mach} (h : m.fw.trial = false) : fwConfirm m = m := if_pos (congrArg (!·) h)

theorem fwConfirm_trial {m : Mach} (h : m.fw.trial = true) : fwConfirm m =
    (let e := { m with fw := { m.fw with trial := false, rolled := false, confirmed := m.fw.active } }
     e.putDevice Key.fwSecurityVersionMin (.num (e.slotNumber e.fw.active 12))) := if_neg (by rw [h]; decide)

theorem groveFirmwareSlotValidEff_leader {m e : Mach} {p : Fin 8} (hl : m.lanesAct = true) (hlead : m.leads = true)
    (he : (hear p m).modGrove (fun g => { g with fwValid := setBit g.fwValid p.1 true }) = e) :
    groveFirmwareSlotValidEff p m = if !e.groveFwDone then e else
      e.each (e.sess.opened.filter (fun s => s.ty == 3 && s.target == 1 && s.committing && e.nv.slot[e.spareSlot].isSome))
        (fun s m => completeSession s m) := by
  subst he
  rw [groveFirmwareSlotValidEff, whenLanes_act hl]
  exact if_neg (by simp [hlead])

/-! ### The bank commands (R407 to R409) -/

section
variable {s : Machine.State} {t : Time} {rq : Req} {c : Conn} {b : Fin 4}

theorem exec_bankStore_accepted (h : (s.core.at_ t).accepts rq c Key.bankStore [BitVec.ofNat 8 b.1] (.num b.1)) :
    exec (.bankStore t rq b) s = .next (s.after t (reply 3 rq 0 [] (bankStoreEff c.role b (touch rq (s.core.at_ t))))) := by
  rw [exec_bankStore, writeHere_accepted h (by decide) (by decide) (perform_bankStore ..), valNat, bank4_val]

theorem exec_bankErase_accepted (h : (s.core.at_ t).accepts rq c Key.bankErase [BitVec.ofNat 8 b.1] (.num b.1)) :
    exec (.bankErase t rq b) s = .next (s.after t (reply 3 rq 0 [] (bankEraseEff b (touch rq (s.core.at_ t))))) := by
  rw [exec_bankErase, writeHere_accepted h (by decide) (by decide) (perform_bankErase ..), valNat, bank4_val]

theorem exec_bankActivate_accepted (h : (s.core.at_ t).accepts rq c Key.bankActivate [BitVec.ofNat 8 b.1] (.num b.1)) :
    exec (.bankActivate t rq b) s = .next (s.after t (reply 3 rq 0 [] (bankActivateEff b (touch rq (s.core.at_ t))))) := by
  rw [exec_bankActivate, writeHere_accepted h (by decide) (by decide) (perform_bankActivate ..), valNat, bank4_val]

theorem exec_bankRestoreDefaults_accepted (h : (s.core.at_ t).accepts rq c Key.bankRestoreDefaults [1] (.num 1)) :
    exec (.bankRestoreDefaults t rq) s = .next (s.after t (reply 3 rq 0 [] (bankRestoreDefaultsEff c.role (touch rq (s.core.at_ t))))) := by
  rw [exec_bankRestoreDefaults, writeHere_accepted h (by decide) (by decide) (perform_bankRestoreDefaults ..)]

theorem exec_fwConfirm_accepted (h : (s.core.at_ t).accepts rq c Key.fwConfirm [1] (.num 1)) :
    exec (.fwConfirm t rq) s = .next (s.after t (reply 3 rq 0 [] (fwConfirm (touch rq (s.core.at_ t))))) := by
  rw [exec_fwConfirm, writeHere_accepted h (by decide) (by decide) (perform_fwConfirm ..)]

end

section
variable {n : Mach} {b : Fin 4} {role : Nat}

theorem bankStoreEff_stores (hd : n.bankSafetyDiffers b = false) (hs : n.n Key.safetyState ≠ 1) (ht : n.bankTarget b = false)
    (hn : n.nv.stopped = false) : bankStoreEff role b n = storeBank b n := by
  rw [bankStoreEff, if_neg (by simp [hd]), if_neg hs, if_neg (Bool.eq_false_iff.mp ht), if_neg (Bool.eq_false_iff.mp hn)]

theorem bankEraseEff_erases (ha : n.n Key.bankActive ≠ b.1) (ht : n.bankTarget b = false) (hn : n.nv.stopped = false) :
    bankEraseEff b n = (bankStatus 1 n).nvJob (.area (.bank b) none .bankErase) := by
  rw [bankEraseEff, if_neg ha, if_neg (Bool.eq_false_iff.mp ht), if_neg (Bool.eq_false_iff.mp hn)]

section
variable (hoff : n.drivesOff = true)
include hoff

theorem bankRestoreDefaultsEff_off : bankRestoreDefaultsEff role n = if n.anyCommit then bankStatus 0x11 n else
    bankStatus 2 ((bankKeys.filter (fun k => role == 4 || !safetyFlag k)).foldl
      (fun x k => if (x.domOf k).isSome then x.putShadow k (dfltOf k) else x.putBoth k (dfltOf k)) n) :=
  if_neg (by rw [hoff]; decide)

variable (hc : n.anyCommit = false)
include hc

theorem bankActivateEff_empty (hb : n.bankBytes b = none) : bankActivateEff b n = bankStatus 0x12 n := by
  rw [bankActivateEff, if_neg (by simp [hoff]), if_neg (Bool.eq_false_iff.mp hc)]
  simp only [hb]

/-- The values of a bank image that an activation loads, R408. -/
def loaded (img : List Byte) (n : Mach) : List (Nat × Val) :=
  (n.bankLoad img).filter (fun p => match n.domOf p.1 with | some d => n.activated.contains d | none => true)

/-- The shadow banks with the image's values of the swap domains. -/
def shadowed (vs : List (Nat × Val)) (n : Mach) : Mach :=
  vs.foldl (fun m p => if (m.domOf p.1).isSome then m.putShadow p.1 p.2 else m) n

/-- The values of no domain are in force at once, and the commits of the others pending. -/
def activated (b : Fin 4) (vs : List (Nat × Val)) (doms : List Dom) (x : Mach) : Mach :=
  let y := vs.foldl (fun x p => if (x.domOf p.1).isSome then x else x.putBoth p.1 p.2) x
  let z : Mach := { bankStatus 1 y with nv := { y.nv with activating := some (b, 0) } }
  z.each doms (fun d x =>
    if d = .grove ∧ x.leads then groveCommitStart d none x
    else x.modDom (domIx d) (fun y => { y with pending := some { target := none, at_ := x.ns }, status := 1 }))

theorem bankActivateEff_activates {img : List Byte} {vs : List (Nat × Val)} (hb : n.bankBytes b = some img) (hi : imageFrameOk img = true)
    (hvs : loaded img n = vs) (hf : (shadowed vs n).failingDomain = none) (hs : (n.safetyWith img).2 = false) :
    bankActivateEff b n = activated b vs n.activated (shadowed vs n) := by
  rw [bankActivateEff, if_neg (by simp [hoff]), if_neg (Bool.eq_false_iff.mp hc)]
  simp only [hb, hi, Bool.not_true, Bool.false_eq_true, if_false]
  generalize hvs' : List.filter _ (n.bankLoad img) = vs'
  obtain rfl : vs = vs' := hvs.symm.trans hvs'
  rw [shadowed] at hf
  simp only [hf, hs, Bool.false_eq_true, if_false]
  rfl

end
end

/-- Settles O55: an activation by the drives and its slot, a bank command by the check that decides. -/
theorem firmwareAndBanks : Obligations.FirmwareAndBanks := by
  unfold Obligations.FirmwareAndBanks
  refine ⟨⟨?activate, ?confirm, ?grove⟩, ?bank⟩
  case activate =>
    intro s t rq c slot m n h
    exact ⟨fun ha => exec_to (exec_fwActivate ..) (writeHere_fwActivate_refused h ha),
      fun ha => exec_to (exec_fwActivate ..) (writeHere_fwActivate_done h ha)⟩
  case confirm =>
    intro s t rq c m n h
    exact ⟨fun ht => (exec_fwConfirm_accepted h).trans (next_reply (fwConfirm_noTrial ht)),
      fun ht => (exec_fwConfirm_accepted h).trans (next_reply (fwConfirm_trial ht))⟩
  case grove =>
    intro s t p m e hl hlead
    have hstep := groveFirmwareSlotValidEff_leader hl hlead (e := e) rfl
    exact ⟨fun h => exec_to (exec_groveFirmwareSlotValid ..) (hstep.trans (if_pos (congrArg (!·) h))),
      fun h => exec_to (exec_groveFirmwareSlotValid ..) (hstep.trans (if_neg (by rw [h]; decide)))⟩
  case bank =>
    intro s t rq c b m n
    refine ⟨fun h => ?_, fun h => ?_, fun h => ?_, fun h => ?_⟩
    · have hstep := exec_bankStore_accepted h
      exact ⟨fun hd hr => hstep.trans (next_reply (if_pos ⟨hd, hr⟩)), fun hd hs ht hn => hstep.trans (next_reply (bankStoreEff_stores hd hs ht hn))⟩
    · have hstep := exec_bankErase_accepted h
      exact ⟨fun ha => hstep.trans (next_reply (if_pos ha)), fun ha ht hn => hstep.trans (next_reply (bankEraseEff_erases ha ht hn))⟩
    · have hstep := exec_bankRestoreDefaults_accepted h
      exact ⟨fun hoff => hstep.trans (next_reply (if_pos (congrArg (!·) hoff))),
        fun hoff hc => hstep.trans (next_reply ((bankRestoreDefaultsEff_off hoff).trans (if_pos hc))),
        fun hoff hc => hstep.trans (next_reply ((bankRestoreDefaultsEff_off hoff).trans (if_neg (Bool.eq_false_iff.mp hc))))⟩
    · have hstep := exec_bankActivate_accepted h
      refine ⟨fun hoff => hstep.trans (next_reply (if_pos (congrArg (!·) hoff))),
        fun hoff hc hb => hstep.trans (next_reply (bankActivateEff_empty hoff hc hb)), fun img hoff hc hb hi => ?_⟩
      intro vs
      have hvs : loaded img n = vs := rfl
      clear_value vs
      intro x hf hs y z
      exact hstep.trans (next_reply (bankActivateEff_activates hoff hc hb hi hvs hf hs))

end Sys2Proof.Proofs.Banks
end

section
/-! SUPPORT. Lane rails, main rails, VANA, the PHY rails and the power failure (R413 to R417). -/

namespace Sys2Proof.Proofs.Supplies

open Sys2Proof.Machine Sys2Proof.Laws Sys2Proof.Proofs.Block Sys2Proof.Proofs.Commit

theorem railFor_iff {m : Mach} {since : Time} : m.railFor since = true ↔ since + 10000000 ≤ m.now := decide_eq_true_iff

theorem isNone_false {m : Mach} (hu : m.up ≠ none) : ¬ m.up.isNone = true := fun h => hu (Option.isNone_iff_eq_none.mp h)

/-! ### Lane rails (R415) -/

section
variable {m : Mach} (hr : m.running = true)
include hr

section
variable {l : Lane} {v : F32} {since : Time} {e : Mach} (he : spreadMax (railVolts (laneIx l).1 v m) = e)
include he

theorem laneSupplyFaultEff_read : laneSupplyFaultEff l v since m =
    if m.clr.lanes[laneIx l].railOk = false ∨ railOut 58 93 v = false ∨ ¬ since + 10000000 ≤ e.now then e
    else railDissent l (raiseV 0x03 none none (laneIx l).1 v (railLimit 58 93 v)
      (supplyBit (laneIx l).1 true (e.modLane (laneIx l) (fun x => { x with railOk := false })))) := by
  rw [laneSupplyFaultEff, whenUp_running hr]
  simp only [he, Bool.not_eq_true', ← railFor_iff, Bool.not_eq_true]

theorem laneRailRestoredEff_read : laneRailRestoredEff l v since m =
    if railOut 58 93 v = true ∨ e.now < since + 1000000000 then e
    else (supplyBit (laneIx l).1 false (e.modLane (laneIx l) (fun x => { x with railOk := true }))).causeGone 0x03 none none (laneIx l).1 := by
  rw [laneRailRestoredEff, whenUp_running hr]
  simp only [he]

end

theorem laneRailMismatchEff_read {a b c : F32} {since : Time} {e : Mach} (he : spreadMax (railVolts 2 c (railVolts 1 b (railVolts 0 a m))) = e) :
    laneRailMismatchEff a b c since m =
      if fgt e.laneSpread (fRat 50 1000) = true ∧ e.now < since + 100000000000 then e
      else if fgt e.laneSpread (fRat 50 1000) = true then
        raiseV 0x04 none none 0xFF e.laneSpread (fRat 50 1000) (supplyBit 11 true e)
      else (supplyBit 11 false e).causeGone 0x04 none none 0xFF := by
  rw [laneRailMismatchEff, whenUp_running hr]
  simp only [he]

/-! ### VANA and the PHY rails (R416) -/

section
variable {v : F32} {since : Time}

theorem analogSupplyFaultEff_read : analogSupplyFaultEff v since m =
    if railOut 300 360 v = false ∨ ¬ since + 10000000 ≤ m.now then railVolts 5 v m
    else sensingLost (raiseV 0x72 none none 0xFF v (railLimit 300 360 v)
      ((supplyBit 5 true (railVolts 5 v m)).each two (fun i m => m.modPos i (fun p => { p with valid := false })))) := by
  rw [analogSupplyFaultEff, whenUp_running hr]
  simp only [Bool.not_eq_true', ← railFor_iff, Bool.not_eq_true]

theorem analogSupplyRestoredEff_read {e : Mach}
    (he : ((supplyBit 5 false (railVolts 5 v m)).each two (fun i m => m.modPos i (fun p => { p with valid := true }))).causeGone 0x72 none none 0xFF = e) :
    analogSupplyRestoredEff v since m = if railOut 300 360 v = true ∨ m.now < since + 10000000000 then railVolts 5 v m
      else if e.dieSensorsLost then e else e.causeGone 0x79 none none 0xFF := by
  rw [analogSupplyRestoredEff, whenUp_running hr]
  simp only [he]

theorem phySupplyFaultEff_read {k : Fin 2} {e : Mach} (he : raiseV 0x73 none none k.1 v (railLimit (phyRange k).1 (phyRange k).2 v)
      (supplyBit (6 + k.1) true (railVolts (6 + k.1) v m)) = e) : phySupplyFaultEff k v since m =
    if railOut (phyRange k).1 (phyRange k).2 v = false ∨ ¬ since + 10000000 ≤ m.now then railVolts (6 + k.1) v m
    else usbGone ((e.each two ethDown).each two unlocked) := by
  rw [phySupplyFaultEff, whenUp_running hr]
  simp only [he, Bool.not_eq_true', ← railFor_iff, Bool.not_eq_true]

theorem phySupplyRestoredEff_read {k : Fin 2} : phySupplyRestoredEff k v m =
    if railOut (phyRange k).1 (phyRange k).2 v then railVolts (6 + k.1) v m
    else (supplyBit (6 + k.1) false (railVolts (6 + k.1) v m)).causeGone 0x73 none none k.1 := whenUp_running hr _

end
end

/-! ### Main rails and the power failure (R414, R416, R417) -/

/-- A reading of a main rail outside its range, R413. -/
def mainRailOut : MainRail → F32 → Bool
  | .vddCl, v => railOut 78 93 v
  | .vio, v => railOut 290 360 v

/-- What is below its threshold in a power failure, R417. -/
def powerBelow : PowerFailCause → Bool
  | .pin => true
  | .vioWarning v => flt v (fRat 3 1)

/-- The bit of Supply.Status of a power failure's cause, R440. -/
def powerBit : PowerFailCause → Nat
  | .pin => 10
  | .vioWarning _ => 9

section
variable {m : Mach}

theorem mainRailFaultEff_out {r : MainRail} {v : F32} {since : Time} : mainRailFaultEff r v since m =
    if m.up ≠ none ∧ mainRailOut r v = true ∧ since + 10000000 ≤ m.now then mainReset 0x03 m else m := by
  cases r with
  | vddCl | vio => exact if_congr (by simp only [mainRailOut, railFor_iff, Option.isSome_iff_ne_none]) rfl rfl

theorem mainRailsFailedToStartEff_waited (hu : m.up = none) (hm : m.lantern.mainEn = true) (ht : m.lantern.enAt + 100000000000 ≤ m.now) :
    mainRailsFailedToStartEff m = (m.modLan (fun l => { l with mainEn := false, retry := true, enAt := m.now })).putN Key.lanternStatus
      (setBit (m.n Key.lanternStatus) 2 true) :=
  if_neg (by simp [hu, hm, ht])

theorem powerFailEff_up {cause : PowerFailCause} {since : Time} (hu : m.up ≠ none) : powerFailEff cause since m =
    if powerBelow cause = false ∨ m.now < since + 2000000 then m
    else { nvStop (supplyBit (powerBit cause) true m) with
      nv := { (nvStop (supplyBit (powerBit cause) true m)).nv with powerFailed := true } } := by
  cases cause with
  | pin | vioWarning => exact if_congr (by simp only [powerBelow, Option.isNone_iff_eq_none, hu, false_or, Bool.not_eq_true']) rfl rfl

end

/-- Settles O56: a rail by its reading and the time it has stood. -/
theorem supplies : Obligations.Supplies := by
  unfold Obligations.Supplies
  refine ⟨⟨?lane, ?mismatch, ?main⟩, ?others, ?power⟩
  case lane =>
    intro s t l v since m i e hr
    have hnow : e.now = m.now := rfl
    have hfault := laneSupplyFaultEff_read (since := since) hr (e := e) rfl
    have hback := laneRailRestoredEff_read (since := since) hr (e := e) rfl
    rw [hnow] at hfault hback
    refine ⟨fun h => exec_to (exec_laneSupplyFault ..) (hfault.trans (if_pos (h.imp_right (.imp_right Nat.not_le.mpr)))),
      fun hok ho ht => exec_to (exec_laneSupplyFault ..) (hfault.trans (if_neg ?_)),
      fun h => exec_to (exec_laneRailRestored ..) (hback.trans (if_pos h)),
      fun ho ht => exec_to (exec_laneRailRestored ..) (hback.trans (if_neg ?_))⟩
    · rintro (h | h | h)
      exacts [absurd (h.symm.trans hok) (by decide), absurd (h.symm.trans ho) (by decide), h ht]
    · rintro (h | h)
      exacts [absurd (h.symm.trans ho) (by decide), absurd ht (Nat.not_le.mpr h)]
  case mismatch =>
    intro s t a b c since m e hr
    have hnow : e.now = m.now := rfl
    have hstep := laneRailMismatchEff_read (since := since) hr (e := e) rfl
    rw [hnow] at hstep
    exact ⟨fun hw ht => exec_to (exec_laneRailMismatch ..) (hstep.trans ((if_neg fun h => absurd ht (Nat.not_le.mpr h.2)).trans (if_pos hw))),
      fun hw ht => exec_to (exec_laneRailMismatch ..) (hstep.trans (if_pos ⟨hw, ht⟩)),
      fun hw => exec_to (exec_laneRailMismatch ..) (hstep.trans ((if_neg fun h => Bool.eq_false_iff.mp hw h.1).trans (if_neg (Bool.eq_false_iff.mp hw))))⟩
  case main =>
    intro s t r v since m out
    have hout : mainRailOut r v = out := by cases r <;> rfl
    have hstep := mainRailFaultEff_out (m := m) (r := r) (v := v) (since := since)
    rw [hout] at hstep
    refine ⟨fun hu ho ht => exec_to (exec_mainRailFault ..) (hstep.trans (if_pos ⟨hu, ho, ht⟩)),
      fun h => exec_to (exec_mainRailFault ..) (m := m) (hstep.trans (if_neg ?_)),
      fun hu hm ht => exec_to (exec_mainRailsFailedToStart ..) (mainRailsFailedToStartEff_waited hu hm ht),
      fun hre ht => exec_to (exec_mainRailsRetry ..) (m := m) (if_pos ⟨hre, ht⟩),
      fun h => exec_to (exec_mainRailsRetry ..) (m := m) (if_neg ?_)⟩
    · rintro ⟨hu, ho, ht⟩
      rcases h with h | h | h
      exacts [hu h, absurd (h.symm.trans ho) (by decide), absurd ht (Nat.not_le.mpr h)]
    · rintro ⟨hre, ht⟩
      exact h.elim (fun h => absurd (h.symm.trans hre) (by decide)) (fun h => absurd ht (Nat.not_le.mpr h))
  case others =>
    intro s t v since k m hr
    have hfault := analogSupplyFaultEff_read (v := v) (since := since) hr
    have hpast {x : Bool} {a b : Nat} (hx : x = true) (h : a ≤ b) : ¬ (x = false ∨ ¬ a ≤ b) := by
      rintro (h' | h')
      exacts [absurd (h'.symm.trans hx) (by decide), h' h]
    refine ⟨fun ho ht => exec_to (exec_analogSupplyFault ..) (hfault.trans (if_neg (hpast ho ht))),
      fun h => exec_to (exec_analogSupplyFault ..) (hfault.trans (if_pos (h.imp_right Nat.not_le.mpr))), fun ho ht => ?_,
      fun h => exec_to (exec_analogSupplyRestored ..) ((analogSupplyRestoredEff_read hr rfl).trans (if_pos h)), ?_⟩
    · intro e
      have hstep := analogSupplyRestoredEff_read (since := since) hr (e := e) rfl
      have hback : ¬ (railOut 300 360 v = true ∨ m.now < since + 10000000000) :=
        not_or.mpr ⟨Bool.eq_false_iff.mp ho, Nat.not_lt.mpr ht⟩
      exact ⟨fun hd => exec_to (exec_analogSupplyRestored ..) (hstep.trans ((if_neg hback).trans (if_pos hd))),
        fun hd => exec_to (exec_analogSupplyRestored ..) (hstep.trans ((if_neg hback).trans (if_neg (Bool.eq_false_iff.mp hd))))⟩
    · intro r e
      have hstep := phySupplyFaultEff_read (since := since) hr (e := e) rfl
      exact ⟨fun ho ht => exec_to (exec_phySupplyFault ..) (hstep.trans (if_neg (hpast ho ht))),
        fun ho => ⟨exec_to (exec_phySupplyFault ..) (hstep.trans (if_pos (.inl ho))),
          exec_to (exec_phySupplyRestored ..) ((phySupplyRestoredEff_read hr).trans (if_neg (Bool.eq_false_iff.mp ho)))⟩⟩
  case power =>
    intro s t cause since m below hu
    have hbelow : powerBelow cause = below := by cases cause <;> rfl
    have hstep := powerFailEff_up (cause := cause) (since := since) hu
    rw [hbelow] at hstep
    refine ⟨fun hb ht => ?_, fun h => exec_to (exec_powerFail ..) (m := m) (hstep.trans (if_pos h)), ?_⟩
    · have hlow : ¬ (below = false ∨ m.now < since + 2000000) := by
        rintro (h | h)
        exacts [absurd (h.symm.trans hb) (by decide), absurd ht (Nat.not_le.mpr h)]
      refine (exec_to (exec_powerFail ..) (hstep.trans (if_neg hlow))).trans ?_
      cases cause <;> rfl
    · intro e
      exact ⟨fun hd => exec_to (exec_powerFailReleased ..) ((if_neg (isNone_false hu)).trans (if_pos hd)),
        fun hd => exec_to (exec_powerFailReleased ..) ((if_neg (isNone_false hu)).trans (if_neg (Bool.eq_false_iff.mp hd)))⟩

end Sys2Proof.Proofs.Supplies
end

section
/-! SUPPORT. Readings of the temperature sensors and the NTCs (R246, R429 to R433). -/

namespace Sys2Proof.Proofs.Thermal

open Sys2Proof.Machine Sys2Proof.Laws Sys2Proof.Proofs.Block Sys2Proof.Proofs.Commit

/-- A reading of the main die, checked against its neighbours, and how often in a row it has been at 150 °C or more (R433). -/
def mainRead (k : Fin 16) (v : F32) (m : Mach) : Mach :=
  let e := takeReading k.1 (gridNeighbours k.1) false v (ageTick m)
  let n := if fge (e.r (Key.tempMainDie k.1)) (celsius 150) then (look k.1 e.thermal.hot).getD 0 + 1 else 0
  mainDie (e.modThermal (fun x => { x with hot := putAt (fun _ => 0) k.1 n x.hot }))

/-- An NTC's conversion within its range, checked against its set's others where that is configured (R246, R430). -/
def ntcRead (c : Fin 12) (volts : F32) (m : Mach) : Mach :=
  let k := m.setOfCh c
  let nbs := if m.b Key.thermalNtcCrossCheck then ((m.setChs k).filter (fun x => x != c)).map (fun x => 28 + x.1) else []
  takeReading (28 + c.1) nbs false (m.ntcTemp k volts) m

/-- The events of a set's level of switch temperature, R246. -/
def ntcJudged (k : Fin 2) (who : Nat) (temp warn trip : F32) (lv : Mach × Nat × Nat) : Mach :=
  let gone := fun (e : Nat) => causesGone (fun a => a.ev == e && a.set == some k)
  let m := if lv.2.1 < 1 ∧ 1 ≤ lv.2.2 then raiseV 0x3F (some k) none who temp warn lv.1
    else if 1 ≤ lv.2.1 ∧ lv.2.2 < 1 then gone 0x3F lv.1 else lv.1
  if lv.2.1 < 2 ∧ 2 ≤ lv.2.2 then raiseV 0x40 (some k) none who temp trip m
  else if 2 ≤ lv.2.1 ∧ lv.2.2 < 2 then gone 0x40 m else m

section
variable {m : Mach} (hr : m.running = true)
include hr

theorem temperatureReadingEff_main {k : Fin 16} {v : F32} : temperatureReadingEff (.main k) v m =
    if bit (m.n Key.supplyStatus) 5 ∨ !m.readDue k.1 then m else mainRead k v m := whenUp_running hr _

theorem temperatureReadingEff_channel {c : Fin 12} {v : F32} : temperatureReadingEff (.channel c) v m =
    if !m.readDue (16 + c.1) then m else channelDie c (takeReading (16 + c.1) (dieNeighbours c.1) false v m) := whenUp_running hr _

theorem ntcConversionEff_valid {c : Fin 12} {volts : F32} {e : Mach} {k : Fin 2} {who : Nat} {temp : F32} (hd : m.readDue (28 + c.1) = true)
    (hv : (flt volts (fRat 20 1000) || fgt volts (fRat 24 10)) = false) (he : ntcRead c volts m = e) (hk : m.setOfCh c = k)
    (hh : e.hottestSwitch k = (who, temp)) :
    ntcConversionEff c volts m = ntcJudged k who temp (e.r (Key.gateSwitchTempWarn k.1)) (e.r (Key.gateSwitchTempTrip k.1))
      (level (16 + k.1) [e.r (Key.gateSwitchTempWarn k.1), e.r (Key.gateSwitchTempTrip k.1)] temp e) := by
  subst hk he
  rw [ntcRead] at hh
  rw [ntcConversionEff, whenUp_running hr]
  simp only [hd, hv, Bool.not_true, Bool.false_eq_true, if_false, hh]
  rfl

end

section
variable {k : Fin 2} {who : Nat} {temp warn trip : F32} {lv : Mach × Nat × Nat}

theorem ntcJudged_same (h : lv.2.1 = lv.2.2) : ntcJudged k who temp warn trip lv = lv.1 := by
  rw [ntcJudged]
  repeat rw [if_neg (by omega)]

theorem ntcJudged_warned (h0 : lv.2.1 = 0) (h1 : lv.2.2 = 1) :
    ntcJudged k who temp warn trip lv = raiseV 0x3F (some k) none who temp warn lv.1 := by
  simp [ntcJudged, h0, h1]

theorem ntcJudged_tripped (h0 : lv.2.1 = 1) (h1 : lv.2.2 = 2) :
    ntcJudged k who temp warn trip lv = raiseV 0x40 (some k) none who temp trip lv.1 := by
  simp [ntcJudged, h0, h1]

end

/-- Settles O58: a reading by its sensor and its due time, an NTC by the change of its set's level. -/
theorem temperatures : Obligations.Temperatures := by
  unfold Obligations.Temperatures
  refine ⟨?dies, ?ntc⟩
  case dies =>
    intro s t k c v m hr
    have hstep := temperatureReadingEff_main (k := k) (v := v) hr
    refine ⟨fun h => exec_to (exec_temperatureReading ..) (m := m) (hstep.trans (if_pos (h.imp_right (congrArg (!·))))),
      fun hb hd => exec_to (exec_temperatureReading ..) (hstep.trans (if_neg ?_)),
      fun hd => exec_to (exec_temperatureReading ..) ((temperatureReadingEff_channel hr).trans (if_neg (by rw [hd]; decide)))⟩
    rintro (h | h)
    exacts [absurd (hb.symm.trans h) (by decide), absurd (hd.symm.trans ((Bool.not_eq_true' _).mp h)) (by decide)]
  case ntc =>
    intro s t c volts who temp m k fault nbs e lv hr hd hv hh
    have hstep := ntcConversionEff_valid hr hd hv (e := e) rfl (k := k) rfl hh
    exact ⟨fun h => exec_to (exec_ntcConversion ..) (hstep.trans (ntcJudged_same h)),
      fun h0 h1 => exec_to (exec_ntcConversion ..) (hstep.trans (ntcJudged_warned h0 h1)),
      fun h0 h1 => exec_to (exec_ntcConversion ..) (hstep.trans (ntcJudged_tripped h0 h1))⟩

end Sys2Proof.Proofs.Thermal
end

section
/-! SUPPORT. Records of the NV memory and its scrub (R393, R435, R436, R456). -/

namespace Sys2Proof.Proofs.Records

open Sys2Proof.Machine Sys2Proof.Laws Sys2Proof.Proofs.Block Sys2Proof.Proofs.Commit Sys2Proof.Proofs.Supplies

/-- What the record of a job does once it stands in the memory, R436. -/
def jobDone : NvJob → Mach → Mach
  | .log r, m => putLog r m
  | .entry k v w, m => nvDone w k v (journalPut 3 0 (entryPayload k v) true (.entry k v) m)
  | .content a b, m => journalPut 1 a b false .content (m.nvPut a b)
  | .area a c w, m => nvDone w 0 (.num 0) (putArea a c (journalPut 2 0 (areaPayload a c) true (.area a c) m))

theorem jobDone_log (r : List Byte) (m : Mach) : jobDone (.log r) m = putLog r m := rfl

theorem jobDone_entry_nobody (k : Nat) (v : Val) (m : Mach) :
    jobDone (.entry k v .nobody) m = journalPut 3 0 (entryPayload k v) true (.entry k v) m := rfl

theorem jobDone_entry_answer (k : Nat) (v : Val) (rq : Req) (m : Mach) :
    jobDone (.entry k v (.answer rq)) m = reply 3 rq 0 [] ((journalPut 3 0 (entryPayload k v) true (.entry k v) m).putBoth k v) := rfl

theorem jobDone_content (a : Nat) (b : List Byte) (m : Mach) : jobDone (.content a b) m = journalPut 1 a b false .content (m.nvPut a b) := rfl

theorem jobDone_area_nobody (a : NvArea) (c : Option NvCopy) (m : Mach) :
    jobDone (.area a c .nobody) m = putArea a c (journalPut 2 0 (areaPayload a c) true (.area a c) m) := rfl

section
variable {m : Mach} (hu : m.up ≠ none)
include hu

theorem nvRecordCompleteEff_idle (hj : m.nv.jobs = []) : nvRecordCompleteEff m = m := by
  rw [nvRecordCompleteEff, if_neg (isNone_false hu)]
  simp only [hj]

theorem nvRecordCompleteEff_head {j : NvJob} {rest : List NvJob} (hj : m.nv.jobs = j :: rest) :
    nvRecordCompleteEff m = compact (jobDone j { m with nv := { m.nv with jobs := rest } }) := by
  rw [nvRecordCompleteEff, if_neg (isNone_false hu)]
  simp only [hj]
  cases j <;> rfl

theorem nvScrubEff_corrected {bad : List Nat} {n : Nat} {x e f : Mach} (hx : m.add Key.nvCorrectedCount (n + 1) = x)
    (he : ageTick ((x.nvJob (.entry Key.nvCorrectedCount (x.val Key.nvCorrectedCount) .nobody)).each bad badWord) = e)
    (hf : e.putDevice Key.nvRetentionUsed (.num e.nv.retention.toNat) = f) : nvScrubEff (n + 1) bad m =
      if fge e.nv.retention (fRat 90 1) then whenUp (raiseV 0x7F none none 0xFF e.nv.retention (fRat 90 1)) f
      else f.causeGone 0x7F none none 0xFF := by
  subst hx he hf
  rw [nvScrubEff, if_neg (isNone_false hu)]
  simp only [if_neg (Nat.succ_ne_zero n)]

end

theorem nvPut_nv (m : Mach) (a : Nat) (b : List Byte) : (m.nvPut a b).nv = m.nv := by
  rw [Mach.nvPut]
  split <;> rfl

/-- Settles O59: a record by its kind, the scrub by the retention used, a log record's slot by the ring. -/
theorem nvRecords : Obligations.NvRecords := by
  unfold Obligations.NvRecords
  refine ⟨?records, ?scrub, ?ring⟩
  case records =>
    intro s t rest m n hu
    have hstep {j : NvJob} (hj : m.nv.jobs = j :: rest) {e : Mach} (he : jobDone j n = e) :
        exec (.nvRecordComplete t) s = .next (s.after t (compact e)) :=
      exec_to (exec_nvRecordComplete ..) ((nvRecordCompleteEff_head hu hj).trans (congrArg compact he))
    exact ⟨fun hj => exec_to (exec_nvRecordComplete ..) (m := m) (nvRecordCompleteEff_idle hu hj), fun r hj => hstep hj (jobDone_log r n),
      fun k v hj => hstep hj (jobDone_entry_nobody k v n), fun k v rq hj => hstep hj (jobDone_entry_answer k v rq n),
      fun a b hj => hstep hj (jobDone_content a b n), fun a c hj => hstep hj (jobDone_area_nobody a c n)⟩
  case scrub =>
    intro s t bad n m x e f hr
    have hu : m.up ≠ none := fun h => by simp [Mach.running, h] at hr
    have hstep := nvScrubEff_corrected (bad := bad) (n := n) hu (x := x) (e := e) (f := f) rfl rfl rfl
    exact ⟨fun hage hf => exec_to (exec_nvScrub ..) (hstep.trans ((if_pos hage).trans (whenUp_running hf _))),
      fun hage => exec_to (exec_nvScrub ..) (hstep.trans (if_neg (Bool.eq_false_iff.mp hage)))⟩
  case ring =>
    intro m r
    exact ⟨congrArg (fun nv => (nv.logSlot + 1) % 16384) (nvPut_nv ..), congrArg (fun nv => min 16384 (nv.logCount + 1)) (nvPut_nv ..), rfl⟩

end Sys2Proof.Proofs.Records
end

section
/-! SUPPORT. The end of the power-up reset and the fault reset (R385, R442, R443, R449). -/

namespace Sys2Proof.Proofs.Boot

open Sys2Proof.Machine Sys2Proof.Laws Sys2Proof.Proofs.Block Sys2Proof.Proofs.Writes Sys2Proof.Proofs.Commit

/-- The device at the end of the power-up reset, before it looks for a slot to start from. -/
def booting (b : BootInputs) (m : Mach) : Mach :=
  bootJournal (((bootSwitches b { m with lantern := m.lantern.rebase m.now, now := 0 }).putN Key.canopyPosition b.gpos.1).putN Key.timebaseStatus 3)

/-- The Clearing's last record is kept over the reset, R50. -/
def clearingKept (e : Mach) : Mach :=
  match e.lastClearing with
  | some r => (e.putN Key.clearingSafeStateCause (imgNat r 0 1)).put Key.clearingRecord (.bytes r)
  | none => e

/-- The start of a device whose lanes run, R442. -/
def bootRun (source : Nat) (lost : Bool) (b : BootInputs) (f : Fw) (n : Mach) : Mach :=
  let e := clearingKept (bootLanes b { n with up := some true, fw := f })
  let e := bootLantern ((e.incDevice Key.identityBootCount).putN Key.startResetSource source)
  let e := bootInForce (bootBank (e.putN Key.identityFirmwareVersion (e.slotNumber f.active 8)))
  let e := e.each (List.finRange 12) resetAdapted
  let e := ((bootPosition e).each two bootWraps).modSafety (fun x => { x with
    button := { closed := b.buttonClosed, blocked := b.buttonClosed, since := 0 } })
  let e := bootEvents source f.rolled lost b (bootCarriers e)
  (e.putN Key.startState 2).putN Key.startReadyTime b.readyUs

/-- The lanes that run are two at least, and so are the voters, R443. -/
def startable (b : BootInputs) : Bool := b.votersOk && 2 ≤ (([0, 1, 2] : List (Fin 3)).filter (fun i => b.lanes[i])).length

section
variable {m : Mach} {b : BootInputs}

theorem powerUpResetEndEff_held (h : m.up ≠ none ∨ m.lantern.mainEn = false ∨ b.railsFor < 2000000000) : powerUpResetEndEff b m = m := by
  refine if_pos ?_
  rcases h with h | h | h
  · exact .inl (Option.isSome_iff_ne_none.mpr h)
  · exact .inr (.inl (congrArg (!·) h))
  · exact .inr (.inr h)

variable (hu : m.up = none) (hm : m.lantern.mainEn = true) (ht : 2000000000 ≤ b.railsFor)
include hu hm ht

theorem not_powerUpReset_held : ¬ (m.up.isSome = true ∨ (!m.lantern.mainEn) = true ∨ b.railsFor < 2000000000) := by
  rintro (h | h | h)
  exacts [absurd hu (Option.isSome_iff_ne_none.mp h), absurd (hm.symm.trans ((Bool.not_eq_true' _).mp h)) (by decide),
    absurd h (Nat.not_lt.mpr ht)]

theorem powerUpResetEndEff_noSlot {n : Mach} (hn : booting b m = n) (hs : bootSlot n = none) :
    powerUpResetEndEff b m = bootState m.lantern.source b n := by
  subst hn
  unfold booting at hs
  rw [powerUpResetEndEff, if_neg (not_powerUpReset_held hu hm ht)]
  simp only [hs]
  rfl

theorem powerUpResetEndEff_slot {n : Mach} {f : Fw} (hn : booting b m = n) (hs : bootSlot n = some f) : powerUpResetEndEff b m =
    if !startable b then bootState m.lantern.source b { n with fw := f }
    else bootRun m.lantern.source (bit (m.n Key.lanternStatus) 1) b f n := by
  subst hn
  unfold booting at hs
  rw [powerUpResetEndEff, if_neg (not_powerUpReset_held hu hm ht)]
  simp only [hs]
  rfl

end

/-- Settles O60: the end of the reset by its conditions, the slot found and the lanes, the fault reset by its request. -/
theorem startsAndFaultReset : Obligations.StartsAndFaultReset := by
  unfold Obligations.StartsAndFaultReset
  refine ⟨?boot, ?reset⟩
  case boot =>
    intro s t b m n
    refine ⟨fun h => exec_to (exec_powerUpResetEnd ..) (m := m) (powerUpResetEndEff_held h),
      fun hu hm ht hs => exec_to (exec_powerUpResetEnd ..) (powerUpResetEndEff_noSlot hu hm ht rfl hs),
      fun f hu hm ht hs h => exec_to (exec_powerUpResetEnd ..) ((powerUpResetEndEff_slot hu hm ht rfl hs).trans (if_pos ?_)),
      fun f hu hm ht hs hv hl => ?_⟩
    · rcases h with h | h
      · rw [startable, h]
        rfl
      · rw [startable, decide_eq_false (Nat.not_le.mpr h), Bool.and_false]
        rfl
    · have hok : startable b = true := by rw [startable, hv, decide_eq_true hl]; rfl
      exact exec_to (exec_powerUpResetEnd ..) ((powerUpResetEndEff_slot hu hm ht rfl hs).trans (if_neg (by rw [hok]; decide)))
  case reset =>
    intro s t rq c m n h
    exact exec_faultReset_accepted h

end Sys2Proof.Proofs.Boot
end
